-- ==== Sys2Proof/Word.lean ====
section
/-! DEFINITION. The words of the HL1024: bytes, 32-bit register words, 64-bit counters, and the
little-endian order of registers, ring entries and records (R14). -/

namespace Sys2Proof

/-- One byte of a frame, a mailbox or host memory. -/
abbrev Byte := BitVec 8
/-- One register, argument or ring-entry word (R465, R378). -/
abbrev W32 := BitVec 32
/-- One free-running counter (R469) or Harp instruction (R109). -/
abbrev W64 := BitVec 64

/-- The word of a number, modulo 2^32. -/
abbrev w32 (n : Nat) : W32 := BitVec.ofNat 32 n
/-- The byte of a number, modulo 256. -/
abbrev byte (n : Nat) : Byte := BitVec.ofNat 8 n

/-- The `k` little-endian bytes of `n` (R14: byte offset 0 holds bits [7:0]). -/
def leBytes : Nat → Nat → List Byte
  | 0, _ => []
  | k + 1, n => byte n :: leBytes k (n / 256)

/-- The number that little-endian bytes spell. -/
def leNat : List Byte → Nat
  | [] => 0
  | b :: bs => b.toNat + 256 * leNat bs

/-- The number that bytes in network order spell (R14: most significant byte first). -/
def beNat (bs : List Byte) : Nat := bs.foldl (fun a b => a * 256 + b.toNat) 0

/-- The `k` bytes of `n` in network order. -/
def beBytes (k n : Nat) : List Byte := (leBytes k n).reverse

/-- Bits [hi:lo] of a number (R13: both ends included). -/
def bits (v hi lo : Nat) : Nat := v / 2 ^ lo % 2 ^ (hi + 1 - lo)

/-- Bits [hi:lo] of a word, as a number. -/
def fld (w : W32) (hi lo : Nat) : Nat := bits w.toNat hi lo

/-- Bit `i` of a number. -/
def bit (v i : Nat) : Bool := v / 2 ^ i % 2 == 1

/-- 1 for true, 0 for false. -/
def b2n (b : Bool) : Nat := if b then 1 else 0

/-- A word made of fields: each pair is (low bit, value). -/
def packW (fs : List (Nat × Nat)) : W32 := w32 (fs.foldl (fun a f => a + f.2 * 2 ^ f.1) 0)

/-- `w` with bits [hi:lo] replaced by `v`. -/
def setFld (w : W32) (hi lo v : Nat) : W32 :=
  let m := w32 ((2 ^ (hi + 1 - lo) - 1) * 2 ^ lo)
  (w &&& ~~~m) ||| (w32 (v * 2 ^ lo) &&& m)

/-- The little-endian words of bytes; a last partial word is completed with zeros. -/
def wordsOf (bs : List Byte) : List W32 :=
  match bs with
  | [] => []
  | [a] => [w32 (leNat [a])]
  | [a, b] => [w32 (leNat [a, b])]
  | [a, b, c] => [w32 (leNat [a, b, c])]
  | a :: b :: c :: d :: rest => w32 (leNat [a, b, c, d]) :: wordsOf rest

/-- The bytes of words, least significant byte first. -/
def bytesOf (ws : List W32) : List Byte := (ws.map fun w => leBytes 4 w.toNat).flatten

/-- Signed value of the low `n` bits of `v`. -/
def sgn (n v : Nat) : Int :=
  let v := v % 2 ^ n
  if v < 2 ^ (n - 1) then (v : Int) else (v : Int) - (2 ^ n : Nat)

/-- The low `n` bits of a signed value. -/
def unsgn (n : Nat) (v : Int) : Nat := (v % (2 ^ n : Nat)).toNat

end Sys2Proof
end

