-- ==== Sys2Proof/Syntax.lean ====
section
/-! DEFINITION. The commands of the HL1024, one constructor per row of the table of operations and events, with the operands
each takes: the channel and argument words of a TCS command, the word of a register write, the fields of a Harp instruction and
the thread that issues it, and what an event of the hardware or the outside world brings. -/
namespace Sys2Proof

/-- The PCIe function through which an access comes (Table 15-1): F0 privileged, F1 unprivileged. -/
inductive Fn where
  | f0 | f1
  deriving DecidableEq, Repr

/-- A channel to Titimus: F0 mailbox `m` (0-15), F1 mailbox `m` (0-1), or the downstream ring. -/
inductive Via where
  | f0 (m : Nat)
  | f1 (m : Nat)
  | ring
  deriving DecidableEq, Repr

/-- The space a register write addresses: F0 BAR0, F0 BAR2, the F1 view, or a register of a function's configuration space. -/
inductive Space where
  | bar0 | bar2 | f1 | cfg (fn : Fn)
  deriving DecidableEq, Repr

/-- A Harp thread: slice 0-15, engine 0-63 (the mapped number), thread 0-7. -/
structure Thr where
  slice  : Nat
  engine : Nat
  thread : Nat
  deriving DecidableEq, Repr

/-- A received pMAC fragment (R63): whether it starts a frame, its fragment count, whether it is the last,
whether its check sequence was good, and its bytes. -/
structure Frag where
  start    : Bool
  fragCnt  : Nat
  last     : Bool
  good     : Bool
  bytes    : List Byte
  deriving DecidableEq, Repr

/-- What the RS decoder of a port reports at the end of a frame (R40, R75): codewords found uncorrectable and corrected since its last report,
whether a byte of this frame lies in an uncorrectable one, and the symbols corrected on each lane of the port, from its first. -/
structure PcsRx where
  hit    : Bool := false
  uncorr : Nat := 0
  corr   : Nat := 0
  syms   : List Nat := []
  deriving DecidableEq, Repr

/-- One of the two MACs of a port (R59). -/
structure MacRef where
  port : Nat
  pmac : Bool := false
  deriving DecidableEq, Repr

/-- How the reception of a frame ended: whether the receive bridge had room for its words (R43), and what the RS decoder reports. -/
structure RxEnd where
  room : Bool := true
  pcs  : PcsRx := {}
  deriving DecidableEq, Repr

/-- One direction of a port's low-power idle (R71): its own transmitter, or with `rx` what its receiver sees of the partner's. -/
structure LpiSide where
  port : Nat
  rx   : Bool := false
  deriving DecidableEq, Repr

/-- A copy of a critical word (Table 20-3) and the bits in which it differs. -/
structure Upset where
  word : Nat
  copy : Nat
  bits : W32
  deriving DecidableEq, Repr

/-- What a heartbeat or mirror message carries (R408); `good` tells whether its CRC-32 matches. -/
structure PairMsg where
  good    : Bool
  pairId  : Bool
  epoch   : Nat
  owner   : Bool
  console : Bool
  levels  : Nat
  duties  : List Nat
  tripped : Nat
  deriving DecidableEq, Repr

/-- The kinds of a group message (R412). -/
inductive GroupKind where
  | request | vote | renew | announce
  deriving DecidableEq, Repr

/-- A group message (R412): the sender's GROUP_ID, the role, that role's epoch and the kind. -/
structure GroupMsg where
  sender : Nat
  role   : Nat
  epoch  : Nat
  kind   : GroupKind
  deriving DecidableEq, Repr

/-- The commands: one constructor per row of the opcode table. -/
inductive Instr where
  /-- TCS command that completes DONE and asserts a warm reset 1 ms after acknowledge. (R390) -/
  | sysReset (via : Via) (args : List W32)
  /-- TCS command that changes the memory split while the data plane is quiesced. (R340) -/
  | sysSplitSet (via : Via) (args : List W32)
  /-- TCS command that writes the named items into the stored configuration in QSPI flash. (R391) -/
  | sysConfigStore (via : Via) (args : List W32)
  /-- TCS command that checks a Titimus image, writes it to the non-preferred slot and starts it on the standby cluster. (R396) -/
  | sysFwLoad (via : Via) (args : List W32)
  /-- TCS command that hands ownership to the standby running the new image and starts the trial. (R397) -/
  | sysFwActivate (via : Via) (args : List W32)
  /-- TCS command that ends the trial, makes the new slot preferred and loads the standby with it. (R397) -/
  | sysFwCommit (via : Via) (args : List W32)
  /-- TCS command that swaps the roles of the two control clusters, or returns ownership during a trial. (R403) -/
  | sysSwap (via : Via) (args : List W32)
  /-- TCS command that raises the fused MIN_SVN to the owner image's SVN. (R395) -/
  | sysSvnLock (via : Via) (args : List W32)
  /-- TCS query that returns levels, persona, ownership, firmware versions and feature bits. (R382) -/
  | sysInfo (via : Via) (args : List W32)
  /-- TCS query that returns the versions, SVN and validity of both flash image slots. (R393) -/
  | sysFwStatus (via : Via) (args : List W32)
  /-- TCS command that sets a port's mode, lane rate, reach, MAX_LEN and link training. (R72) -/
  | portConfig (via : Via) (args : List W32)
  /-- TCS command that powers, calibrates and enables a port through the bring-up sequence. (R72) -/
  | portEnable (via : Via) (args : List W32)
  /-- TCS command that takes a port down, discards its queued frames and idles its transmitters. (R73) -/
  | portDisable (via : Via) (args : List W32)
  /-- TCS command that sets the logical-to-physical lane map and polarity of a lane octet. (R41) -/
  | portLaneMap (via : Via) (args : List W32)
  /-- TCS command that writes one of a port's eight station address entries. (R47) -/
  | portStationSet (via : Via) (args : List W32)
  /-- TCS command that sets a port's flow-control mode, pause quanta, queue map and pause watchdog. (R49) -/
  | portFlowctlSet (via : Via) (args : List W32)
  /-- TCS command that enables preemption and marks each queue eMAC or pMAC. (R59) -/
  | portPreemptSet (via : Via) (args : List W32)
  /-- TCS command that enables damping on a port and sets its window and wake threshold. (R64) -/
  | portDampSet (via : Via) (args : List W32)
  /-- TCS command that turns low-power idle on or off for a port. (R70) -/
  | portLpiSet (via : Via) (args : List W32)
  /-- TCS command that sets a port's EXP_CLASS and EXP_MIN_LEN. (R174) -/
  | portExpressSet (via : Via) (args : List W32)
  /-- TCS query that returns the five configuration and status words of a port's MAC block. (R510) -/
  | portStatus (via : Via) (args : List W32)
  /-- TCS command that checks a program image and writes it into the staged bank of each named slice. (R126) -/
  | harpLoad (via : Via) (args : List W32)
  /-- TCS command that makes the staged program bank active in each named slice. (R99) -/
  | harpCommit (via : Via) (args : List W32)
  /-- TCS command that sets a port's run-ahead configuration. (R102) -/
  | harpRaSet (via : Via) (args : List W32)
  /-- TCS command that sets a slice's third outer TPID for the pre-decoder. (R80) -/
  | harpRaTpid (via : Via) (args : List W32)
  /-- TCS command that takes an engine out of dispatch, checks it and maps it back or repairs it. (R107) -/
  | harpEngineCheck (via : Via) (args : List W32)
  /-- TCS command that writes the HSH seed to every slice. (R122) -/
  | harpHashSeed (via : Via) (args : List W32)
  /-- TCS query that returns four words of a slice's Harp block. (R511) -/
  | harpStatus (via : Via) (args : List W32)
  /-- TCS command that writes up to 64 range comparators in the named slices. (R142) -/
  | classRangeSet (via : Via) (args : List W32)
  /-- TCS command that writes up to 64 consecutive classification rules in the named slices. (R142) -/
  | classRulesSet (via : Via) (args : List W32)
  /-- TCS command that sets TMAP_EN and TMAP_TABLE of the named slices. (R143) -/
  | classTmapSet (via : Via) (args : List W32)
  /-- TCS query that returns up to 64 rule entries of a slice. (R133) -/
  | classRulesGet (via : Via) (args : List W32)
  /-- TCS query that returns CLS_STATUS and CLS_TMAP of a slice. (R512) -/
  | classStatus (via : Via) (args : List W32)
  /-- TCS command that sets a logical table's kind, key width and quota. (R146) -/
  | tableConfig (via : Via) (args : List W32)
  /-- TCS command that writes the two bucket hash seeds. (R150) -/
  | tableSeedSet (via : Via) (args : List W32)
  /-- TCS command that inserts or replaces an entry, relocating entries or using the stash as needed. (R153) -/
  | tableInsert (via : Via) (args : List W32)
  /-- TCS command that removes an entry and tries to move one stash entry back into a bucket. (R156) -/
  | tableDelete (via : Via) (args : List W32)
  /-- TCS query that returns an entry with HIT as the OR of the four replicas. (R161) -/
  | tableSearch (via : Via) (args : List W32)
  /-- TCS command that opens or continues a walk and returns the next entries in location order. (R159) -/
  | tableNext (via : Via) (args : List W32)
  /-- TCS command that walks one table returning entries by HIT and optionally clearing HIT. (R163) -/
  | tableHits (via : Via) (args : List W32)
  /-- TCS command that closes an open walk. (R158) -/
  | tableWalkClose (via : Via) (args : List W32)
  /-- TCS command that removes every entry with a given destination from the named tables. (R169) -/
  | tableFlushPort (via : Via) (args : List W32)
  /-- TCS command that removes every entry of a table. (R169) -/
  | tableFlushTable (via : Via) (args : List W32)
  /-- TCS command that executes INSERT for each record in a host buffer and writes back results. (R168) -/
  | tableInsertBulk (via : Via) (args : List W32)
  /-- TCS command that executes DELETE for each record in a host buffer. (R168) -/
  | tableDeleteBulk (via : Via) (args : List W32)
  /-- TCS command that executes SEARCH for each record in a host buffer and writes the results. (R168) -/
  | tableSearchBulk (via : Via) (args : List W32)
  /-- TCS query that returns TBL_STATUS and each table's configuration, use and quota. (R513) -/
  | tableStatus (via : Via) (args : List W32)
  /-- TCS command that writes meter entries, applied at each meter's next metering or refresh. (R201) -/
  | meterSet (via : Via) (args : List W32)
  /-- TCS command that writes the three rows of a remark profile. (R196) -/
  | meterProfileSet (via : Via) (args : List W32)
  /-- TCS command that sets a tenant policer's TP_EN, RATE and BURST. (R202) -/
  | meterTenantSet (via : Via) (args : List W32)
  /-- TCS query that returns a meter's newest entry, buckets and LAST. (R201) -/
  | meterGet (via : Via) (args : List W32)
  /-- TCS query that returns a tenant policer's settings, Treasury balance and purses. (R197) -/
  | meterTenantGet (via : Via) (args : List W32)
  /-- TCS command that sets queue group, strictness, quantum and shaper of queues. (R250) -/
  | tellerQueueSet (via : Via) (args : List W32)
  /-- TCS command that sets a group's strictness, quantum and shaper. (R250) -/
  | tellerGroupSet (via : Via) (args : List W32)
  /-- TCS command that sets a port shaper. (R250) -/
  | tellerPortSet (via : Via) (args : List W32)
  /-- TCS command that sets a port's class-to-queue map. (R230) -/
  | tellerClassMap (via : Via) (args : List W32)
  /-- TCS command that loads or disables a port's gate control list from the next cycle start. (R239) -/
  | tellerGateSet (via : Via) (args : List W32)
  /-- TCS command that replaces a LAG group's member list and bucket assignment. (R247) -/
  | tellerLagSet (via : Via) (args : List W32)
  /-- TCS command that replaces an ECMP group's member list and bucket assignment. (R247) -/
  | tellerEcmpSet (via : Via) (args : List W32)
  /-- TCS command that adds a member to a group, moving only buckets to it. (R247) -/
  | tellerMemberAdd (via : Via) (args : List W32)
  /-- TCS command that removes a member and reassigns only its buckets. (R247) -/
  | tellerMemberRemove (via : Via) (args : List W32)
  /-- TCS command that sets a mirror session's destination and sampling rate. (R249) -/
  | tellerMirrorSet (via : Via) (args : List W32)
  /-- TCS command that names a slice's telemetry trigger and queue mask. (R245) -/
  | tellerTelemetrySet (via : Via) (args : List W32)
  /-- TCS query that returns TLR_GATE and TLR_GATE_OPEN of a port. (R515) -/
  | tellerGateStatus (via : Via) (args : List W32)
  /-- TCS query that returns a LAG or ECMP group's members. (R247) -/
  | tellerGroupGet (via : Via) (args : List W32)
  /-- TCS command that sets a pool's kind, size and thresholds. (R227) -/
  | mintPoolSet (via : Via) (args : List W32)
  /-- TCS command that sets a port's class-to-pool map. (R227) -/
  | mintPortMap (via : Via) (args : List W32)
  /-- TCS command that sets the yellow and red pool-0 floors. (R227) -/
  | mintColorSet (via : Via) (args : List W32)
  /-- TCS command that sets MARK_CELLS of queues. (R227) -/
  | mintEcnSet (via : Via) (args : List W32)
  /-- TCS command that starts a reclaim sweep of the buffer. (R224) -/
  | mintReclaim (via : Via) (args : List W32)
  /-- TCS query that returns MNT_STATUS and a pool's registers and drop counter. (R514) -/
  | mintStatus (via : Via) (args : List W32)
  /-- TCS command that names the ledger trigger and sets ARCH_SIZE. (R276) -/
  | ledgerConfig (via : Via) (args : List W32)
  /-- TCS command that installs a ledger key, KEY_ID and SOURCE_ID. (R271) -/
  | ledgerKeySet (via : Via) (args : List W32)
  /-- TCS command that releases archived epochs up to a given epoch. (R273) -/
  | ledgerAck (via : Via) (args : List W32)
  /-- TCS command that sends archived epochs again from a given epoch. (R273) -/
  | ledgerReplay (via : Via) (args : List W32)
  /-- TCS query that returns a tenant's row in the OPEN bank including unflushed deltas. (R257) -/
  | ledgerRowGet (via : Via) (args : List W32)
  /-- TCS query that returns bank states, archive state and the latest key identity. (R516) -/
  | ledgerStatus (via : Via) (args : List W32)
  /-- TCS command that reconfigures a time trigger across ticks. (R392) -/
  | timeTriggerSet (via : Via) (args : List W32)
  /-- TCS query that returns TIM_CTRL and every trigger's configuration and consumers. (R517) -/
  | timeStatus (via : Via) (args : List W32)
  /-- TCS command that sets a modulator clock group's enable, DIV and OSR. (R301) -/
  | consoleClockSet (via : Via) (args : List W32)
  /-- TCS command that names the console frame trigger. (R305) -/
  | consoleFrameSet (via : Via) (args : List W32)
  /-- TCS command that configures a delta-sigma input. (R302) -/
  | consoleInputSet (via : Via) (args : List W32)
  /-- TCS command that configures an outlet's inputs and calibration. (R306) -/
  | consoleOutletSet (via : Via) (args : List W32)
  /-- TCS query that returns an outlet's configuration and measurements. (R308) -/
  | consoleOutletGet (via : Via) (args : List W32)
  /-- TCS command that names and enables the console control trigger. (R311) -/
  | consoleCycleSet (via : Via) (args : List W32)
  /-- TCS command that sets actuator levels, drive modes, fan duties and polarity. (R313) -/
  | consoleOutputSet (via : Via) (args : List W32)
  /-- TCS command that sets a fan's mode, curve and pulses per revolution. (R313) -/
  | consoleFanSet (via : Via) (args : List W32)
  /-- TCS command that configures an outlet's overcurrent trip and SAFE levels. (R314) -/
  | consoleTripSet (via : Via) (args : List W32)
  /-- TCS command that releases tripped outputs from the next cycle start. (R315) -/
  | consoleTripClear (via : Via) (args : List W32)
  /-- TCS command that starts the console output stage driving the commanded values. (R318) -/
  | consoleEnable (via : Via) (args : List W32)
  /-- TCS command that stops the control task and puts console outputs at high impedance at the next cycle start. (R321) -/
  | consoleDisable (via : Via) (args : List W32)
  /-- TCS query that returns console status, cycle, clock words and counters. (R322) -/
  | consoleStatus (via : Via) (args : List W32)
  /-- TCS command that sets MODE, CLAIM_WAIT and SWAP_HOURS. (R415) -/
  | pairConfig (via : Via) (args : List W32)
  /-- TCS command that sets a group member's identity, member count, ports and address. (R412) -/
  | pairGroupSet (via : Via) (args : List W32)
  /-- TCS command that hands pair ownership to the peer at the next cycle start. (R411) -/
  | pairRelease (via : Via) (args : List W32)
  /-- TCS query that returns pair status, epoch, group state and peer heartbeat fields. (R415) -/
  | pairStatus (via : Via) (args : List W32)
  /-- TCS command that drains and powers off, or powers on, the named domains. (R442) -/
  | powerDomainSet (via : Via) (args : List W32)
  /-- TCS command that sets wake source enables, trigger, signal-detect mask and wake domains. (R447) -/
  | powerWakeSet (via : Via) (args : List W32)
  /-- TCS query that returns power, pad and wake registers. (R447) -/
  | powerStatus (via : Via) (args : List W32)
  /-- TCS command that runs a Tuning pass and returns age, headroom, target and horizon. (R332) -/
  | tuneRun (via : Via) (args : List W32)
  /-- TCS command that requests a capo setting and runs a pass for it. (R337) -/
  | tuneCapoSet (via : Via) (args : List W32)
  /-- TCS command that sets the Tuning interval and ALERT_EN. (R332) -/
  | tuneIntervalSet (via : Via) (args : List W32)
  /-- TCS query that returns capo settings, ageing indexes, stress and horizon. (R335) -/
  | tuneStatus (via : Via) (args : List W32)
  /-- TCS query that returns stored Tuning pass records. (R335) -/
  | tuneHistory (via : Via) (args : List W32)
  /-- TCS command that installs or removes a remap entry. (R458) -/
  | memRemapSet (via : Via) (args : List W32)
  /-- TCS command that enables scrubbers and sets LAP_WARN and REMAP_THRESHOLD. (R457) -/
  | memScrubSet (via : Via) (args : List W32)
  /-- TCS command that runs the fill engine on the named memory classes. (R461) -/
  | memFill (via : Via) (args : List W32)
  /-- TCS query that returns the memory integrity and LPDDR5X state. (R462) -/
  | memStatus (via : Via) (args : List W32)
  /-- TCS query that returns entries of the error history. (R454) -/
  | memLog (via : Via) (args : List W32)
  /-- TCS command that selects the event of a configurable counter and zeroes it. (R482) -/
  | tallySelect (via : Via) (args : List W32)
  /-- TCS command that sets the sweep period and the page stream's store and export ring. (R484) -/
  | tallySweepSet (via : Via) (args : List W32)
  /-- TCS command that sets which instances' pages F1 may read. (R487) -/
  | tallyUnprivSet (via : Via) (args : List W32)
  /-- TCS command that enables a capture or telemetry stream with its store and export ring. (R491) -/
  | tallyCaptureSet (via : Via) (args : List W32)
  /-- TCS query that returns the Tally engine's state. (R491) -/
  | tallyStatus (via : Via) (args : List W32)
  /-- TCS command that sets a port's loopback mode. (R76) -/
  | diagLoopback (via : Via) (args : List W32)
  /-- TCS command that starts or ends PRBS generation or checking on lanes of a port. (R77) -/
  | diagPrbs (via : Via) (args : List W32)
  /-- TCS query that returns each lane's PRBS lock and error counts. (R78) -/
  | diagPrbsGet (via : Via) (args : List W32)
  /-- TCS query that returns its argument bytes. (R375) -/
  | diagEcho (via : Via) (bytes : List Byte)
  /-- A command answered PENDING completes and its final DONE or ERROR is written. (R366) -/
  | commandComplete (via : Via)
  /-- Host write of a mailbox DOORBELL locks the mailbox and hands the request on. (R366) -/
  | mailboxDoorbell (via : Via) (val : W32) (be : BitVec 4)
  /-- Host write of HIF_DS_DB advances the downstream producer if in range. (R354) -/
  | dsDoorbell (val : W32) (be : BitVec 4)
  /-- Host write of HIF_US_CONS releases upstream entries if in range. (R353) -/
  | usConsWrite (val : W32) (be : BitVec 4)
  /-- Host write of HIF_RXA_REL releases receive arena space if valid. (R361) -/
  | arenaRelease (val : W32) (be : BitVec 4)
  /-- Setting a ring's EN zeroes its indices and starts it. (R352) -/
  | ringEnable (up : Bool) (val : W32)
  /-- Clearing a ring's EN stops fetching after the current job and clears DS_HALT. (R352) -/
  | ringDisable (up : Bool) (val : W32)
  /-- Setting the arena's EN zeroes W and RL and lets punted frames be written. (R352) -/
  | arenaEnable (val : W32)
  /-- Clearing the arena's EN makes punted frames drop as arena full. (R352) -/
  | arenaDisable (val : W32)
  /-- Host write of TAL_EXP_CONS releases export ring units if in range. (R488) -/
  | exportConsWrite (stream : Nat) (val : W32)
  /-- Read of TIM_NOW_NS latches SEC, FRAC and NS32 of the same instant. (R286) -/
  | timeNowRead (fn : Fn)
  /-- Read of TIM_TSQ_META removes the head TX timestamp entry and latches its timestamp. (R293) -/
  | tsqMetaRead (slice : Nat)
  /-- Read of TIM_EV_META removes the head event capture and latches its timestamp. (R299) -/
  | evMetaRead (input : Nat)
  /-- Read of TIM_PPS_IN_NS latches TIM_PPS_IN_SEC. (R298) -/
  | ppsInRead
  /-- Read of a counter's low word copies its high word into the reading function's latch. (R469) -/
  | counterLowRead (fn : Fn) (addr : Nat)
  /-- Write of TIM_INCR_HI commits the INCR pair for the next tick. (R282) -/
  | incrCommit (val : W32)
  /-- Writing 1 to STEP_ARM arms a step of device time for the next tick. (R283) -/
  | stepArm (val : W32)
  /-- Writing 1 to HWM_CLR sets PROV_HWM to PROV_NOW. (R15) -/
  | hwmClr (slice : Nat) (val : W32)
  /-- Writing 1 to PEER_RST_REQ sends a reset request to the peer over Rurraso. (R419) -/
  | peerRstReq (val : W32)
  /-- Writing 1 to PEER_WAKE_REQ sends a wake request to the peer. (R447) -/
  | peerWakeReq (val : W32)
  /-- Writing 1 to a domain's PAD_RELEASE bit releases its held pads if it is on. (R445) -/
  | padRelease (high : Bool) (val : W32)
  /-- Setting a DEV_BLOCK_RST bit holds a slice, the Tally engine or the console input filters in reset. (R420) -/
  | blockResetHold (val : W32)
  /-- Clearing a DEV_BLOCK_RST bit releases the block and brings it back into service. (R420) -/
  | blockResetRelease (val : W32)
  /-- Write to a register with no row of its own, applied per field access code, logged if refused. (R472) -/
  | registerWrite (sp : Space) (addr : Nat) (val : W32) (be : BitVec 4)
  /-- Harp instruction that does nothing. (R109) -/
  | nop (th : Thr)
  /-- Harp instruction RD = RA + RB modulo 2^32. (R109) -/
  | add (th : Thr) (rd ra rb : BitVec 4)
  /-- Harp instruction RD = RA - RB modulo 2^32. (R109) -/
  | sub (th : Thr) (rd ra rb : BitVec 4)
  /-- Harp instruction RD = RA AND RB. (R109) -/
  | andR (th : Thr) (rd ra rb : BitVec 4)
  /-- Harp instruction RD = RA OR RB. (R109) -/
  | orR (th : Thr) (rd ra rb : BitVec 4)
  /-- Harp instruction RD = RA XOR RB. (R109) -/
  | xorR (th : Thr) (rd ra rb : BitVec 4)
  /-- Harp instruction shifting RA left by RB[4:0]. (R109) -/
  | shl (th : Thr) (rd ra rb : BitVec 4)
  /-- Harp instruction shifting RA right by RB[4:0]. (R109) -/
  | shr (th : Thr) (rd ra rb : BitVec 4)
  /-- Harp instruction RD = RA + IMM32. (R109) -/
  | addi (th : Thr) (rd ra : BitVec 4) (imm : W32)
  /-- Harp instruction RD = RA AND IMM32. (R109) -/
  | andi (th : Thr) (rd ra : BitVec 4) (imm : W32)
  /-- Harp instruction RD = RA OR IMM32. (R109) -/
  | ori (th : Thr) (rd ra : BitVec 4) (imm : W32)
  /-- Harp instruction RD = RA XOR IMM32. (R109) -/
  | xori (th : Thr) (rd ra : BitVec 4) (imm : W32)
  /-- Harp instruction shifting RA left by an immediate. (R109) -/
  | shli (th : Thr) (rd ra : BitVec 4) (imm : W32)
  /-- Harp instruction shifting RA right by an immediate. (R109) -/
  | shri (th : Thr) (rd ra : BitVec 4) (imm : W32)
  /-- Harp instruction RD = IMM32. (R109) -/
  | movi (th : Thr) (rd : BitVec 4) (imm : W32)
  /-- Harp instruction that extracts a window field into RD. (R113) -/
  | xtr (th : Thr) (rd ra : BitVec 4) (bitoff : BitVec 11) (lenm1 dpos : BitVec 5) (merge idx : BitVec 1)
  /-- Harp instruction that deposits a register field into RD. (R114) -/
  | dep (th : Thr) (rd ra : BitVec 4) (spos lenm1 dpos : BitVec 5) (merge : BitVec 1)
  /-- Harp instruction that branches always. (R112) -/
  | jmp (th : Thr) (target : BitVec 13)
  /-- Harp instruction that branches when RA equals the operand. (R115) -/
  | beq (th : Thr) (ra rb : BitVec 4) (target : BitVec 13) (immf : BitVec 1) (imm : BitVec 24)
  /-- Harp instruction that branches when RA differs from the operand. (R115) -/
  | bne (th : Thr) (ra rb : BitVec 4) (target : BitVec 13) (immf : BitVec 1) (imm : BitVec 24)
  /-- Harp instruction that branches when RA is below the operand, unsigned. (R115) -/
  | bltu (th : Thr) (ra rb : BitVec 4) (target : BitVec 13) (immf : BitVec 1) (imm : BitVec 24)
  /-- Harp instruction that branches when RA is at or above the operand, unsigned. (R115) -/
  | bgeu (th : Thr) (ra rb : BitVec 4) (target : BitVec 13) (immf : BitVec 1) (imm : BitVec 24)
  /-- Harp instruction that branches when a bit of RA is 1. (R115) -/
  | bbs (th : Thr) (ra : BitVec 4) (target : BitVec 13) (bit : BitVec 5)
  /-- Harp instruction that branches when a bit of RA is 0. (R115) -/
  | bbc (th : Thr) (ra : BitVec 4) (target : BitVec 13) (bit : BitVec 5)
  /-- Harp instruction that waits for a lookup slot and branches when it holds no hit. (R121) -/
  | bmiss (th : Thr) (target : BitVec 13) (sel : BitVec 3)
  /-- Harp instruction that issues an exact-match lookup into a result slot. (R117) -/
  | lkp (th : Thr) (ra rb : BitVec 4) (table nm1 : BitVec 3) (src topw : BitVec 1)
  /-- Harp instruction that presents eight fields to the range comparators. (R119) -/
  | rng (th : Thr) (ra rb : BitVec 4)
  /-- Harp instruction that reads a slot value or the frame length into RD. (R120) -/
  | rds (th : Thr) (rd ra : BitVec 4) (sel : BitVec 3)
  /-- Harp instruction that computes the CRC-32C path-pinning hash. (R122) -/
  | hsh (th : Thr) (rd ra : BitVec 4) (nm1 : BitVec 3)
  /-- Harp instruction that builds the result record. (R123) -/
  | emit (th : Thr) (ra : BitVec 4) (wmask : BitVec 6) (dsrc : BitVec 2) (w0or : BitVec 16)
  /-- Harp instruction that ends the thread and hands on the emitted record. (R124) -/
  | done (th : Thr)
  /-- Harp instruction that ends the thread and voids the frame. (R124) -/
  | drop (th : Thr)
  /-- Harp instruction that ends the thread and traps the frame with a reason. (R124) -/
  | trap (th : Thr) (reason : BitVec 8)
  /-- An exact-match lookup result lands in its thread's slot and a waiting thread resumes. (R89) -/
  | lookupResult (chit slot : Nat)
  /-- The comparator results land in the thread's range slot. (R119) -/
  | rangeResult (chit : Nat)
  /-- The first byte of DA reaches the ingress MAC and the slice allocates a provisional chit. (R24) -/
  | frameStart (port chit : Nat) (pmac : Bool) (bytes : List Byte)
  /-- At byte 64 the pre-decoder forms the run-ahead key and launches the lookup. (R82) -/
  | preDecode (chit : Nat)
  /-- The run-ahead lookup returns and yields a run-ahead decision or none. (R81) -/
  | runAheadResult (chit : Nat)
  /-- At the later of the run-ahead decision and byte EXP_MIN_LEN the slice decides and starts an express copy. (R172) -/
  | expressDecision (chit : Nat)
  /-- The Mint allocates a frame's next cell from its pool. (R207) -/
  | cellAllocate (chit : Nat) (room : Bool)
  /-- The frame's last byte arrives; FCS and length are checked and the length input arrives. (R40) -/
  | frameEnd (mac : MacRef) (rx : RxEnd)
  /-- A pMAC fragment arrives and is assembled, or an assembly error voids the frame. (R63) -/
  | fragmentReceive (port : Nat) (frag : Frag)
  /-- A frame whose first cell is complete is given to a free thread. (R84) -/
  | harpDispatch (chit engine thread : Nat)
  /-- A slice takes its frame boundary and makes the staged bank active. (R100) -/
  | harpSwap (slice : Nat)
  /-- A slice takes its frame boundary and applies new comparators or rules. (R142) -/
  | classUpdateBoundary (slice : Nat)
  /-- An engine's parity error maps it out and a spare is checked in its place. (R105) -/
  | engineFault (slice engine : Nat)
  /-- An engine's built-in check ends and it is mapped in or repaired. (R104) -/
  | engineCheckDone (slice engine : Nat) (good : Bool)
  /-- A result record leaving the Harp in order is classified by the rule table and tenant map. (R134) -/
  | classify (chit : Nat)
  /-- A classified record is policed by its meters and tenant policer. (R187) -/
  | police (chit : Nat)
  /-- Once FCS is good and both levels admit, the ingress slice requests the buffer-route enqueue. (R176) -/
  | enqueueRequest (chit : Nat)
  /-- The egress Teller accepts the enqueue and the chit settles. (R176) -/
  | tellerEnqueue (chit : Nat)
  /-- A trapped frame's chain is charged to pool 31 and the host interface accepts it. (R213) -/
  | trapAccept (chit : Nat)
  /-- A port can start a frame and the Teller selects a group and queue and starts the copy. (R232) -/
  | tellerSelect (port : Nat) (express : Bool) (cut : Nat)
  /-- The egress MAC reaches the FCS, samples the chit and sends a good or inverted FCS. (R29) -/
  | egressFcs (port : Nat)
  /-- A copy ends and REFS falls; the chain is freed when HOLD and REFS are 0. (R219) -/
  | copyEnd (port : Nat)
  /-- A transmit bridge runs empty and the copy ends stomped. (R45) -/
  | txUnderrun (port : Nat)
  /-- An inject chain is executed and its frame enters S0 on port 512. (R358) -/
  | injectFrame (chit : Nat)
  /-- A received pause or PFC frame pauses the mapped queues. (R51) -/
  | pauseReceive (port : Nat)
  /-- A pause time runs out and the queues resume. (R51) -/
  | pauseExpire (port prio : Nat)
  /-- While stop persists the MAC resends XOFF at half the pause time or each 1 µs. (R52) -/
  | xoffRefresh (port prio : Nat)
  /-- The pause watchdog fires after PWD_TIME of uninterrupted pause. (R57) -/
  | pwdFire (port prio : Nat)
  /-- The watchdog releases a priority after PWD_RESTORE with no pause. (R58) -/
  | pwdRestore (port prio : Nat)
  /-- VERIFY_TIME passes without respond and the MAC retries or fails verify. (R60) -/
  | verifyTimeout (port : Nat)
  /-- A received verify mPacket is answered with respond. (R60) -/
  | verifyReceive (port : Nat)
  /-- A received respond mPacket makes verify succeed and preemption active. (R60) -/
  | respondReceive (port : Nat)
  /-- Every 1 ms for 10 ms after link up a port sends its damping capability set. (R65) -/
  | dampCapabilitySend (port : Nat)
  /-- The partner's capability set arrives and damping is agreed. (R65) -/
  | dampCapabilityReceive (port : Nat) (caps : BitVec 4) (dampEn : Bool)
  /-- A damping window ends and the transmitter may propose a shed. (R66) -/
  | dampWindowEnd (port : Nat)
  /-- A receiver gets a shed request and answers with a shed grant. (R67) -/
  | shedRequestReceive (port lanes : Nat)
  /-- The transmitter gets a shed grant and sends the switch marker. (R67) -/
  | shedGrantReceive (port lanes : Nat)
  /-- No shed grant arrives within 10 µs and the lane count is kept. (R68) -/
  | shedGrantTimeout (port : Nat)
  /-- A receiver gets a switch marker and realigns on the target lanes. (R67) -/
  | switchMarkerReceive (port lanes : Nat)
  /-- A receiver fails to realign within 1 µs; the link restarts and DAMP_EN clears. (R68) -/
  | realignTimeout (port : Nat)
  /-- The receiver reports lock on all lanes and the transmitter resumes full width. (R67) -/
  | lockReportReceive (port : Nat)
  /-- All queues empty for LPI_IDLE and the transmitter enters LPI. (R71) -/
  | lpiEntry (side : LpiSide)
  /-- The LPI wake time ends and the queued frame may start. (R71) -/
  | lpiWakeDone (side : LpiSide)
  /-- Block, alignment and FEC lock complete and LINK_UP sets. (R72) -/
  | linkUp (port : Nat)
  /-- A link goes down; frames in progress void or stomp and queued frames drop. (R73) -/
  | linkDown (port : Nat)
  /-- A checking lane locks after 1,024 matching symbols. (R77) -/
  | prbsLock (port lane : Nat)
  /-- A checking lane loses lock and keeps its counts. (R78) -/
  | prbsLockLoss (port lane : Nat)
  /-- A gate cycle starts at the delivered trigger instant and a pending list becomes operational. (R239) -/
  | gateCycleStart (port : Nat)
  /-- A gate list entry's interval ends and the next entry's gates apply. (R238) -/
  | gateEntryEnd (port : Nat)
  /-- At a telemetry period start the Teller samples depth, peak and sojourn of queues. (R245) -/
  | telemetrySample (slice : Nat)
  /-- Every 500 ns the Treasury redistributes tokens among each tenant's purses. (R198) -/
  | treasurySweep
  /-- The meter unit refills an enabled meter with no frame at least every 100 ms. (R190) -/
  | meterRefresh (slice meter : Nat)
  /-- A learn filter entry's hold of 1 s ends. (R165) -/
  | learnFilterExpire (slice : Nat)
  /-- A walk with no command for 10 s closes. (R158) -/
  | walkTimeout (walk : Nat)
  /-- The table engine repairs a poisoned entry from a clean replica or records it lost. (R152) -/
  | tablePoisonRepair (loc : Nat)
  /-- A reclaim sweep ends after freeing stale cells. (R224) -/
  | mintReclaimDone
  /-- At a ledger trigger instant the OPEN bank closes and the next opens, or the epoch merges. (R259) -/
  | ledgerEpochBoundary
  /-- 100 µs after the boundary the grace window of the CLOSED bank ends. (R260) -/
  | graceWindowEnd
  /-- After every slice has flushed, the CLOSED bank becomes SEALED. (R258) -/
  | bankSeal
  /-- The drain engine takes the oldest SEALED bank and forms its records. (R261) -/
  | drainStart
  /-- A paused drain resumes once the archive has room. (R261) -/
  | drainResume
  /-- The drain writes its last record and the bank becomes READY. (R261) -/
  | drainDone
  /-- At each 1 ms tick the time block applies INCR, a step and buffered trigger words in order. (R284) -/
  | tick
  /-- Device time reaches a trigger's next instant and the trigger fires. (R295) -/
  | triggerFire (trigger : Nat)
  /-- PPS_WIDTH after the rise the 1PPS output goes low. (R298) -/
  | ppsWidthEnd
  /-- A rising edge at the 1PPS input is timestamped. (R298) -/
  | ppsInEdge
  /-- A qualifying event input edge is captured into its queue. (R299) -/
  | eventInputEdge (input : Nat) (rising : Bool)
  /-- The timing-clock PLL relocks after a reference change. (R297) -/
  | pllLock
  /-- A clock group's decimators start at the first clock edge after the frame trigger. (R304) -/
  | decimatorStart (group : Nat)
  /-- A decimator completes an output period and the console computes power and energy. (R303) -/
  | decimatorOutput (group : Nat) (streams : List (Nat × List Bool))
  /-- At a frame trigger instant the console realigns groups and marks runts. (R304) -/
  | consoleFrameCheck
  /-- A control cycle starts; the committed set is applied and a snapshot released to the task. (R311) -/
  | consoleCycleStart
  /-- The control task commits an output set, discarded if the claim has dropped. (R407) -/
  | controlTaskCommit
  /-- An input shows no transition for 1,024 clocks and becomes faulted. (R310) -/
  | inputFaultOnset (input : Nat)
  /-- A faulted input shows transitions for 3 × OSR clocks and recovers. (R310) -/
  | inputFaultEnd (input : Nat)
  /-- A falling tachometer edge updates the revolution time. (R317) -/
  | tachEdge (fan : Nat)
  /-- No tachometer edge for 1 s sets STALL. (R317) -/
  | tachStall (fan : Nat)
  /-- A tempo monitor's window ends and it writes TEMPO, and the guard is checked. (R323) -/
  | tempoWindowEnd (monitor count : Nat)
  /-- The device writes one 2.5 mV step of the core voltage target over AVSBus. (R326) -/
  | avsWrite (answered : Bool)
  /-- Every 1 ms the device reads back rail voltage and current and checks for fault. (R328) -/
  | avsReadback (mv current : Nat) (answered : Bool) (tj : List Int)
  /-- A Tuning pass measures ageing and plans the voltage for the capo setting. (R333) -/
  | tuningPass
  /-- Once a second the stress count E is advanced. (R335) -/
  | stressUpdate
  /-- Tunnel loss, PCIe reset or USB4 disconnect resets F0, the host interface and mailboxes. (R347) -/
  | hostLinkReset
  /-- A function-level reset of F1 resets F1's view, MSI-X table and mailboxes. (R347) -/
  | f1Flr
  /-- The device fetches a downstream chain once its LAST entry is before the doorbell. (R356) -/
  | dsChainFetch
  /-- A no-op with FENCE posts a fence event once earlier entries are consumed. (R359) -/
  | fence
  /-- A failed device read halts downstream fetch, or a failed write abandons its job. (R357) -/
  | dmaError (write : Bool)
  /-- When room allows, the device writes ready upstream jobs in priority order and advances the producer. (R364) -/
  | upstreamPost
  /-- US_IRQ_TIME passes after a post and vector 0 is raised. (R351) -/
  | usIrqTimer
  /-- The owner cluster's watchdog expires 5 ms after its last feed, a cluster fault. (R400) -/
  | clusterWatchdogExpire
  /-- On a cluster fault with a ready standby, ownership passes to the standby. (R400) -/
  | switchOver
  /-- The new owner restores its checkpoint, completes the journal and becomes available. (R387) -/
  | switchOverDone
  /-- A reloaded cluster holds Titimus, journal and checkpoint and becomes standby ready. (R399) -/
  | standbyReadySet
  /-- Every 10 ms the owner mirrors a firmware checkpoint to the standby. (R399) -/
  | checkpoint
  /-- Every SWAP_HOURS Titimus swaps the roles of the two clusters. (R403) -/
  | roleSwap
  /-- The new owner runs from the final checkpoint and becomes available. (R403) -/
  | roleSwapDone
  /-- The new owner does not take over within 2 ms and the cell returns. (R403) -/
  | roleSwapFail
  /-- After CLAIM_WAIT with the peer unclaimed, Titimus requests and asserts a claim. (R404) -/
  | claimRequest
  /-- 2 µs after CLAIM_OUT with no peer claim, the claim is confirmed and the epoch advanced. (R405) -/
  | claimConfirm
  /-- PEER_CLAIM_IN changes level; a tie makes device B withdraw. (R405) -/
  | peerClaimEdge (level : Bool)
  /-- 20 ms without a feed drops CLAIM_OUT and sets LAPSED. (R406) -/
  | ownerWatchdogLapse
  /-- Every 50 µs the device sends a heartbeat over Rurraso. (R408) -/
  | heartbeatSend
  /-- A heartbeat arrives and is checked, adopted or discarded. (R408) -/
  | heartbeatReceive (msg : PairMsg)
  /-- A standby receives a mirrored output set and drives it. (R408) -/
  | mirrorReceive (msg : PairMsg)
  /-- No valid heartbeat for 1 ms clears HB_OK. (R409) -/
  | heartbeatLoss
  /-- HOLDOFF clears 100 ms after a release. (R411) -/
  | holdoffExpire
  /-- A reset request from the peer arrives and is accepted as a warm source or ignored. (R419) -/
  | peerResetRequest
  /-- A group role message arrives and is processed or dropped as stale. (R413) -/
  | groupMessage (msg : GroupMsg)
  /-- Every 25 ms a holder seeks renewal of its role lease. (R413) -/
  | leaseRenew (role : Nat)
  /-- A role lease expires on device time and the holder stops acting. (R413) -/
  | leaseExpire (role : Nat)
  /-- A supply below threshold asserts power-on reset. (R418) -/
  | powerOn
  /-- RST_COLD_N low asserts a cold reset. (R418) -/
  | rstColdN
  /-- RST_WARM_N low asserts a warm reset. (R418) -/
  | rstWarmN
  /-- A release step completes when its blocks acknowledge and the next step begins. (R423) -/
  | resetReleaseStep
  /-- LPDDR5X training ends at a rate or sets DDR_FAIL. (R462) -/
  | ddrTrainingDone (rate : Option Nat) (density : Nat)
  /-- The fill engine finishes writing its classes. (R461) -/
  | fillDone
  /-- Titimus moves a slice from Plain service to full service. (R435) -/
  | sliceTransition (slice : Nat)
  /-- On demotion to Hush a slice moves back to Plain service. (R436) -/
  | sliceToPlain (slice : Nat)
  /-- A domain meets its drain condition and is switched off. (R442) -/
  | domainDrainDone (domain : Nat)
  /-- A domain fails to drain within 1 ms and the request ends DRAIN_TIMEOUT. (R442) -/
  | domainDrainTimeout (domain : Nat)
  /-- A powered-on domain completes its exit and accepts work. (R438) -/
  | domainWakeDone (domain : Nat)
  /-- An enabled wake source fires and wakes its domains, or is latched. (R447) -/
  | wake (source : Nat)
  /-- 1 ms after acknowledge the owner cluster goes off and the device is in Doze. (R444) -/
  | dozeEntry
  /-- A scrubber reads a word in an idle cycle and fixes or marks it. (R456) -/
  | scrubRead (cls addr : Nat) (syndrome : Nat) (uncorrectable : Bool)
  /-- A disagreeing critical word is rewritten with its majority within 1 ms. (R455) -/
  | voteRepair (upset : Upset)
  /-- Titimus installs a remap entry after repeated detections at one address. (R459) -/
  | remapInstall (cls addr : Nat)
  /-- At a sweep period the Tally engine copies counters into pages. (R484) -/
  | tallySweep
  /-- The Tally engine copies stored records into a stream's export ring as room allows. (R488) -/
  | tallyExport (stream : Nat)
  /-- A PCIe function-level reset of F0 asserts a warm reset of the device for 10 µs. (R347) -/
  | f0FunctionLevelReset
  /-- The host's connection manager establishes the PCIe tunnel over USB4, TUNNEL_UP sets and the functions can be enumerated. (R344) -/
  | pcieTunnelEstablished (fast : Bool)
  /-- An asserted reset source releases (pin going high, power-on 10 ms after supplies return, or the end of the 10 µs or 1 ms assertion of a command, FLR or peer source) and, if it was the last covering source, the release sequence starts. (R422) -/
  | resetSourceRelease (source : Nat)
  /-- 1 ms after SYS.RESET is acknowledged the warm reset asserts. (R390) -/
  | sysResetAssert
  /-- A cluster finishes loading Titimus from flash after a reset or a cluster-only reload, Titimus runs and CTRL_AVAIL reads 1. (R401) -/
  | titimusBootComplete
  /-- The owner's Titimus feeds the cluster watchdog at least every 1 ms. (R400) -/
  | clusterWatchdogFeed
  /-- While CYCLE_EN is 0 the owner's Titimus feeds the pair owner watchdog every 5 ms. (R406) -/
  | ownerWatchdogFeed
  /-- A blocked shaper's count S refills back to 0 or more and its queue becomes eligible again. (R236) -/
  | shaperRefill (port : Nat) (shaper : Nat)
  /-- The standby's last received output set becomes older than one control period plus 30 µs and STALE sets. (R409) -/
  | mirroredSetStale
  deriving DecidableEq, Repr

end Sys2Proof
end

