-- ==== Sys2Proof/Decode.lean ====
section
/-! DEFINITION. The command that a word of the opcode table spells. The table gives no row any bits: the block takes its commands as such, and
the only words it decodes itself are those of the Harp program memories, which `Machine/HarpIsa` encodes and decodes. -/
namespace Sys2Proof

/-- No row of the table has bits, so that no word spells a command. DESIGN CHOICE, log 24. -/
def decodeTableWord (_nbits _w : Nat) : Option Instr := none

end Sys2Proof
end

