-- ==== Sys2Proof/Machine/HarpIsa.lean ====
section
/-! DEFINITION. The Harp instruction word (Tables 04-1 to 04-3): encoder, legality (R109, R110) and decoder. -/
namespace Sys2Proof.Machine

/-- A word from its opcode and common register fields and the value of bits [45:0] (Table 04-1). -/
def harpPack (op rd ra rb low : Nat) : Nat := op * 2 ^ 58 + rd * 2 ^ 54 + ra * 2 ^ 50 + rb * 2 ^ 46 + low

/-- Bits [45:0] of format X (Table 04-2). -/
def lowX (bitoff lenm1 dpos merge idx : Nat) : Nat :=
  bitoff * 2 ^ 35 + lenm1 * 2 ^ 30 + dpos * 2 ^ 25 + merge * 2 ^ 24 + idx * 2 ^ 23

/-- Bits [45:0] of format D. -/
def lowD (spos lenm1 dpos merge : Nat) : Nat := spos * 2 ^ 35 + lenm1 * 2 ^ 30 + dpos * 2 ^ 25 + merge * 2 ^ 24

/-- Bits [45:0] of format B. -/
def lowB (target immf imm sel bit : Nat) : Nat := target * 2 ^ 33 + immf * 2 ^ 32 + imm * 2 ^ 8 + sel * 2 ^ 5 + bit

/-- Bits [45:0] of format L. -/
def lowL (table nm1 src topw : Nat) : Nat := table * 2 ^ 43 + nm1 * 2 ^ 40 + src * 2 ^ 39 + topw * 2 ^ 38

/-- Bits [45:0] of format E. -/
def lowE (wmask dsrc w0or : Nat) : Nat := wmask * 2 ^ 40 + dsrc * 2 ^ 38 + w0or

/-- The 64-bit word of a Harp instruction; other commands have none. -/
def harpEncode : Instr → Option Nat
  | .nop _ => some (harpPack 0x01 0 0 0 0)
  | .add _ d a b => some (harpPack 0x04 d.toNat a.toNat b.toNat 0)
  | .sub _ d a b => some (harpPack 0x05 d.toNat a.toNat b.toNat 0)
  | .andR _ d a b => some (harpPack 0x06 d.toNat a.toNat b.toNat 0)
  | .orR _ d a b => some (harpPack 0x07 d.toNat a.toNat b.toNat 0)
  | .xorR _ d a b => some (harpPack 0x08 d.toNat a.toNat b.toNat 0)
  | .shl _ d a b => some (harpPack 0x09 d.toNat a.toNat b.toNat 0)
  | .shr _ d a b => some (harpPack 0x0A d.toNat a.toNat b.toNat 0)
  | .addi _ d a i => some (harpPack 0x0C d.toNat a.toNat 0 i.toNat)
  | .andi _ d a i => some (harpPack 0x0D d.toNat a.toNat 0 i.toNat)
  | .ori _ d a i => some (harpPack 0x0E d.toNat a.toNat 0 i.toNat)
  | .xori _ d a i => some (harpPack 0x0F d.toNat a.toNat 0 i.toNat)
  | .shli _ d a i => some (harpPack 0x10 d.toNat a.toNat 0 i.toNat)
  | .shri _ d a i => some (harpPack 0x11 d.toNat a.toNat 0 i.toNat)
  | .movi _ d i => some (harpPack 0x12 d.toNat 0 0 i.toNat)
  | .xtr _ d a o l p m x => some (harpPack 0x18 d.toNat a.toNat 0 (lowX o.toNat l.toNat p.toNat m.toNat x.toNat))
  | .dep _ d a q l p m => some (harpPack 0x19 d.toNat a.toNat 0 (lowD q.toNat l.toNat p.toNat m.toNat))
  | .jmp _ t => some (harpPack 0x20 0 0 0 (lowB t.toNat 0 0 0 0))
  | .beq _ a b t f i => some (harpPack 0x21 0 a.toNat b.toNat (lowB t.toNat f.toNat i.toNat 0 0))
  | .bne _ a b t f i => some (harpPack 0x22 0 a.toNat b.toNat (lowB t.toNat f.toNat i.toNat 0 0))
  | .bltu _ a b t f i => some (harpPack 0x23 0 a.toNat b.toNat (lowB t.toNat f.toNat i.toNat 0 0))
  | .bgeu _ a b t f i => some (harpPack 0x24 0 a.toNat b.toNat (lowB t.toNat f.toNat i.toNat 0 0))
  | .bbs _ a t k => some (harpPack 0x25 0 a.toNat 0 (lowB t.toNat 0 0 0 k.toNat))
  | .bbc _ a t k => some (harpPack 0x26 0 a.toNat 0 (lowB t.toNat 0 0 0 k.toNat))
  | .bmiss _ t e => some (harpPack 0x27 0 0 0 (lowB t.toNat 0 0 e.toNat 0))
  | .lkp _ a b t n c w => some (harpPack 0x28 0 a.toNat b.toNat (lowL t.toNat n.toNat c.toNat w.toNat))
  | .rng _ a b => some (harpPack 0x29 0 a.toNat b.toNat 0)
  | .rds _ d a e => some (harpPack 0x2A d.toNat a.toNat 0 e.toNat)
  | .hsh _ d a n => some (harpPack 0x2C d.toNat a.toNat 0 n.toNat)
  | .emit _ a m c o => some (harpPack 0x30 0 a.toNat 0 (lowE m.toNat c.toNat o.toNat))
  | .done _ => some (harpPack 0x31 0 0 0 0)
  | .drop _ => some (harpPack 0x32 0 0 0 0)
  | .trap _ r => some (harpPack 0x33 0 0 0 r.toNat)
  | _ => none

/-- The operands of the two compare forms: RB unused with IMMF 1, IMM24 unused with IMMF 0 (Table 04-3). -/
def cmpLegal (b : BitVec 4) (f : BitVec 1) (i : BitVec 24) : Bool := if f = 1#1 then b == 0#4 else i == 0#24

/-- A Harp instruction whose word is legal (R109, R110): no field it does not use is set, and its register groups and fields lie in
range. Other commands are not instructions. -/
def harpLegal : Instr → Bool
  | .nop _ | .add _ _ _ _ | .sub _ _ _ _ | .andR _ _ _ _ | .orR _ _ _ _ | .xorR _ _ _ _ | .shl _ _ _ _ | .shr _ _ _ _ => true
  | .addi _ _ _ _ | .andi _ _ _ _ | .ori _ _ _ _ | .xori _ _ _ _ | .movi _ _ _ => true
  | .shli _ _ _ i | .shri _ _ _ i => decide (i.toNat < 32)
  | .xtr _ _ a _ l p _ x => decide (p.toNat + l.toNat + 1 ≤ 32) && (x == 1#1 || a == 0#4)
  | .dep _ _ _ q l p _ => decide (p.toNat + l.toNat + 1 ≤ 32) && decide (q.toNat + l.toNat + 1 ≤ 32)
  | .jmp _ _ => true
  | .beq _ _ b _ f i | .bne _ _ b _ f i | .bltu _ _ b _ f i | .bgeu _ _ b _ f i => cmpLegal b f i
  | .bbs _ _ _ _ | .bbc _ _ _ _ => true
  | .bmiss _ _ e => decide (e.toNat ≤ 1)
  | .lkp _ a b _ n _ w =>
    decide (n.toNat ≠ 7) && (if w = 1#1 then decide (a.toNat + n.toNat ≤ 16) else b == 0#4 && decide (a.toNat + n.toNat ≤ 15))
  | .rng _ a _ => decide (a.toNat ≤ 12)
  | .rds _ _ a e => decide (e.toNat ≤ 5) && (e == 4#3 || a == 0#4)
  | .hsh _ _ a n => decide (n.toNat ≤ 4) && decide (a.toNat + n.toNat ≤ 15)
  | .emit _ a m c _ =>
    decide (c.toNat ≠ 3) && (m != 0#6 || a == 0#4)
      && (List.range 6).all (fun k => !m.getLsbD k || decide (a.toNat + k ≤ 15))
  | .done _ | .drop _ | .trap _ _ => true
  | _ => false

/-- The instruction whose fields stand in a word, before any check: Table 04-3's opcode and the fields it uses. -/
def harpFields (th : Thr) (w : Nat) : Option Instr :=
  let d : BitVec 4 := BitVec.ofNat 4 (w / 2 ^ 54)
  let a : BitVec 4 := BitVec.ofNat 4 (w / 2 ^ 50)
  let b : BitVec 4 := BitVec.ofNat 4 (w / 2 ^ 46)
  let i : W32 := BitVec.ofNat 32 w
  let l : BitVec 5 := BitVec.ofNat 5 (w / 2 ^ 30)
  let p : BitVec 5 := BitVec.ofNat 5 (w / 2 ^ 25)
  let m : BitVec 1 := BitVec.ofNat 1 (w / 2 ^ 24)
  let t : BitVec 13 := BitVec.ofNat 13 (w / 2 ^ 33)
  let f : BitVec 1 := BitVec.ofNat 1 (w / 2 ^ 32)
  let c : BitVec 24 := BitVec.ofNat 24 (w / 2 ^ 8)
  let k : BitVec 5 := BitVec.ofNat 5 w
  match w / 2 ^ 58 with
  | 0x01 => some (.nop th)
  | 0x04 => some (.add th d a b)
  | 0x05 => some (.sub th d a b)
  | 0x06 => some (.andR th d a b)
  | 0x07 => some (.orR th d a b)
  | 0x08 => some (.xorR th d a b)
  | 0x09 => some (.shl th d a b)
  | 0x0A => some (.shr th d a b)
  | 0x0C => some (.addi th d a i)
  | 0x0D => some (.andi th d a i)
  | 0x0E => some (.ori th d a i)
  | 0x0F => some (.xori th d a i)
  | 0x10 => some (.shli th d a i)
  | 0x11 => some (.shri th d a i)
  | 0x12 => some (.movi th d i)
  | 0x18 => some (.xtr th d a (BitVec.ofNat 11 (w / 2 ^ 35)) l p m (BitVec.ofNat 1 (w / 2 ^ 23)))
  | 0x19 => some (.dep th d a (BitVec.ofNat 5 (w / 2 ^ 35)) l p m)
  | 0x20 => some (.jmp th t)
  | 0x21 => some (.beq th a b t f c)
  | 0x22 => some (.bne th a b t f c)
  | 0x23 => some (.bltu th a b t f c)
  | 0x24 => some (.bgeu th a b t f c)
  | 0x25 => some (.bbs th a t k)
  | 0x26 => some (.bbc th a t k)
  | 0x27 => some (.bmiss th t (BitVec.ofNat 3 (w / 2 ^ 5)))
  | 0x28 => some (.lkp th a b (BitVec.ofNat 3 (w / 2 ^ 43)) (BitVec.ofNat 3 (w / 2 ^ 40)) (BitVec.ofNat 1 (w / 2 ^ 39))
      (BitVec.ofNat 1 (w / 2 ^ 38)))
  | 0x29 => some (.rng th a b)
  | 0x2A => some (.rds th d a (BitVec.ofNat 3 w))
  | 0x2C => some (.hsh th d a (BitVec.ofNat 3 w))
  | 0x30 => some (.emit th a (BitVec.ofNat 6 (w / 2 ^ 40)) (BitVec.ofNat 2 (w / 2 ^ 38)) (BitVec.ofNat 16 w))
  | 0x31 => some (.done th)
  | 0x32 => some (.drop th)
  | 0x33 => some (.trap th (BitVec.ofNat 8 w))
  | _ => none

/-- The instruction that thread `th` fetches as the word `w`; none where the word is illegal under R110. A word is legal when its
fields spell a legal instruction and every bit the instruction does not use is 0, that is, when it is that instruction's word. -/
def harpDecode (th : Thr) (w : W64) : Option Instr :=
  match harpFields th w.toNat with
  | some i => if harpLegal i && harpEncode i == some w.toNat then some i else none
  | none => none

/-- The branch target of an instruction that has one (R126 check 7). -/
def harpTarget : Instr → Option Nat
  | .jmp _ t | .beq _ _ _ t _ _ | .bne _ _ _ t _ _ | .bltu _ _ _ t _ _ | .bgeu _ _ _ t _ _ => some t.toNat
  | .bbs _ _ t _ | .bbc _ _ t _ | .bmiss _ t _ => some t.toNat
  | _ => none

end Sys2Proof.Machine
end

