-- ==== Sys2Proof/Machine/Bytes.lean ====
section
/-! DEFINITION. Checks over bytes: CRC-32 of IEEE 802.3 and CRC-32C. -/
namespace Sys2Proof.Machine

/-- One bit of a reflected 32-bit CRC. -/
def crcBit (poly r : Nat) : Nat := if r % 2 = 1 then (r / 2) ^^^ poly else r / 2

/-- One byte of a reflected 32-bit CRC. -/
def crcByte (poly r : Nat) (b : Byte) : Nat :=
  [0, 1, 2, 3, 4, 5, 6, 7].foldl (fun r _ => crcBit poly r) (r ^^^ b.toNat)

/-- CRC-32 as IEEE 802.3 defines it. -/
def crc32 (bs : List Byte) : Nat := bs.foldl (crcByte 0xEDB88320) 0xFFFFFFFF ^^^ 0xFFFFFFFF

/-- The CRC-32C of R122 from a seed. -/
def crc32c (seed : Nat) (bs : List Byte) : Nat := bs.foldl (crcByte 0x82F63B78) seed ^^^ 0xFFFFFFFF

/-- The FCS bytes of a frame's other bytes, as they lie on the wire. -/
def fcsOf (bs : List Byte) : List Byte := leBytes 4 (crc32 bs)

/-- A frame's last four bytes are its FCS. -/
def goodFcs (bs : List Byte) : Bool := bs.drop (bs.length - 4) == fcsOf (bs.take (bs.length - 4))

end Sys2Proof.Machine
end

