-- ==== Sys2Proof/Machine/Ctr.lean ====
section
/-! DEFINITION. Where the register regions lie in F0 BAR0 (Tables 21-1 and 21-2) and where each 64-bit counter's low word lies. -/
namespace Sys2Proof.Machine

namespace Region
/-- Region of slice `s` (Table 21-1). -/
def slice (s : Nat) : Nat := 0x01000000 + s * 0x100000
/-- MAC block of front port `p` (R74). -/
def mac (p : Nat) : Nat := slice (p / 32) + 0x8000 + 0x200 * (p % 32)
/-- PCS block of lane `l` (R74). -/
def pcs (l : Nat) : Nat := slice (l / 32) + 0xC000 + 0x40 * (l % 32)
/-- Host interface region. -/
def hif : Nat := 0x00100000
/-- Mint region. -/
def mint : Nat := 0x02000000
/-- Table engine region. -/
def tableEngine : Nat := 0x02100000
/-- Treasury region. -/
def treasury : Nat := 0x02200000
/-- Ledger region. -/
def ledger : Nat := 0x03000000
/-- Time region. -/
def time : Nat := 0x04000000
/-- Rack console region. -/
def console : Nat := 0x05000000
/-- Control clusters and pair region. -/
def clusters : Nat := 0x06000000
/-- Memory integrity and LPDDR5X region. -/
def memory : Nat := 0x07000000
/-- Tally and capture region. -/
def tally : Nat := 0x08000000
/-- Tempo and Tuning region. -/
def tempo : Nat := 0x09000000
end Region

namespace Ctr
open Region
/-- MAC_RX_FRAMES (Table 02-6.: Frames received with good FCS and length in range). -/
def macRxFrames (p : Nat) : Nat := mac p + 0x100
/-- MAC_RX_OCTETS (Table 02-6.: Octets of those frames). -/
def macRxOctets (p : Nat) : Nat := mac p + 0x108
/-- MAC_RX_FCS_ERR (Table 02-6.: Frames with bad FCS, including R40). -/
def macRxFcsErr (p : Nat) : Nat := mac p + 0x110
/-- MAC_RX_UNDERSIZE (Table 02-6.: R46, short). -/
def macRxUndersize (p : Nat) : Nat := mac p + 0x118
/-- MAC_RX_OVERSIZE (Table 02-6.: R46, long). -/
def macRxOversize (p : Nat) : Nat := mac p + 0x120
/-- MAC_RX_BRIDGE_OVR (Table 02-6.: R43). -/
def macRxBridgeOvr (p : Nat) : Nat := mac p + 0x128
/-- MAC_RX_STATION (Table 02-6.: R48). -/
def macRxStation (p : Nat) : Nat := mac p + 0x130
/-- MAC_RX_PAUSE (Table 02-6.: Pause and PFC frames received). -/
def macRxPause (p : Nat) : Nat := mac p + 0x138
/-- MAC_RX_ASSY_ERR (Table 02-6.: R63). -/
def macRxAssyErr (p : Nat) : Nat := mac p + 0x140
/-- MAC_RX_FRAG (Table 02-6.: pMAC fragments received). -/
def macRxFrag (p : Nat) : Nat := mac p + 0x148
/-- MAC_TX_FRAMES (Table 02-6.: Frames sent with good FCS). -/
def macTxFrames (p : Nat) : Nat := mac p + 0x150
/-- MAC_TX_OCTETS (Table 02-6.: Octets of those frames). -/
def macTxOctets (p : Nat) : Nat := mac p + 0x158
/-- MAC_TX_STOMPED (Table 02-6.: Copies ended with inverted FCS (R32)). -/
def macTxStomped (p : Nat) : Nat := mac p + 0x160
/-- MAC_TX_UNDERRUN (Table 02-6.: R45). -/
def macTxUnderrun (p : Nat) : Nat := mac p + 0x168
/-- MAC_TX_PAUSE (Table 02-6.: Pause and PFC frames sent). -/
def macTxPause (p : Nat) : Nat := mac p + 0x170
/-- MAC_TX_FRAG (Table 02-6.: pMAC fragments sent). -/
def macTxFrag (p : Nat) : Nat := mac p + 0x178
/-- MAC_PWD_FIRE (Table 02-6.: Watchdog firings, all priorities). -/
def macPwdFire (p : Nat) : Nat := mac p + 0x180
/-- MAC_PWD_DROP (Table 02-6.: Frames discarded under PWD_ACTION DROP). -/
def macPwdDrop (p : Nat) : Nat := mac p + 0x188
/-- MAC_LPI_ENTRY (Table 02-6.: Transmit LPI entries). -/
def macLpiEntry (p : Nat) : Nat := mac p + 0x190
/-- MAC_DAMP_SHIFT (Table 02-6.: Completed shed and restore shifts, transmit direction). -/
def macDampShift (p : Nat) : Nat := mac p + 0x198
/-- MAC_DAMP_FAIL (Table 02-6.: R68 failures). -/
def macDampFail (p : Nat) : Nat := mac p + 0x1A0
/-- HRP_FRAMES (Table 03-7.: Frames dispatched to threads). -/
def hrpFrames (s : Nat) : Nat := slice s + 0x1000 + 0x100
/-- HRP_ISSUES (Table 03-7.: Instructions issued, all engines). -/
def hrpIssues (s : Nat) : Nat := slice s + 0x1000 + 0x108
/-- HRP_OVERRUN (Table 03-7.: R95). -/
def hrpOverrun (s : Nat) : Nat := slice s + 0x1000 + 0x110
/-- HRP_POISON_ABORT (Table 03-7.: R96). -/
def hrpPoisonAbort (s : Nat) : Nat := slice s + 0x1000 + 0x118
/-- HRP_FAULT_VOID (Table 03-7.: R105, frames voided). -/
def hrpFaultVoid (s : Nat) : Nat := slice s + 0x1000 + 0x120
/-- HRP_NO_EMIT (Table 03-7.: R94). -/
def hrpNoEmit (s : Nat) : Nat := slice s + 0x1000 + 0x128
/-- HRP_DISPATCH_WAIT (Table 03-7.: R85). -/
def hrpDispatchWait (s : Nat) : Nat := slice s + 0x1000 + 0x130
/-- HRP_REPAIR (Table 03-7.: R105, engines mapped out). -/
def hrpRepair (s : Nat) : Nat := slice s + 0x1000 + 0x138
/-- HRP_RA_LAUNCH (Table 03-7.: Run-ahead lookups launched). -/
def hrpRaLaunch (s : Nat) : Nat := slice s + 0x1000 + 0x140
/-- HRP_RA_HIT (Table 03-7.: Run-ahead decisions made). -/
def hrpRaHit (s : Nat) : Nat := slice s + 0x1000 + 0x148
/-- HRP_RA_MISS (Table 03-7.: R81, misses and poisoned entries). -/
def hrpRaMiss (s : Nat) : Nat := slice s + 0x1000 + 0x150
/-- HRP_RA_DEFER (Table 03-7.: R81, non-port destinations). -/
def hrpRaDefer (s : Nat) : Nat := slice s + 0x1000 + 0x158
/-- CLS_EVAL (Table 05-8.: Records classified). -/
def clsEval (s : Nat) : Nat := slice s + 0x3000 + 0x100
/-- CLS_HIT (Table 05-8.: Records with RULE_HIT set). -/
def clsHit (s : Nat) : Nat := slice s + 0x3000 + 0x108
/-- CLS_DROP (Table 05-8.: Drops set by a rule). -/
def clsDrop (s : Nat) : Nat := slice s + 0x3000 + 0x110
/-- CLS_TRAP (Table 05-8.: Traps set by a rule). -/
def clsTrap (s : Nat) : Nat := slice s + 0x3000 + 0x118
/-- CLS_REDIRECT (Table 05-8.: Redirects set by a rule). -/
def clsRedirect (s : Nat) : Nat := slice s + 0x3000 + 0x120
/-- CLS_OUTER_ONLY (Table 05-8.: R132). -/
def clsOuterOnly (s : Nat) : Nat := slice s + 0x3000 + 0x128
/-- CLS_TMAP_HIT (Table 05-8.: Tenant-map hits). -/
def clsTmapHit (s : Nat) : Nat := slice s + 0x3000 + 0x130
/-- CLS_TMAP_MISS (Table 05-8.: R140, misses and poisoned entries). -/
def clsTmapMiss (s : Nat) : Nat := slice s + 0x3000 + 0x138
/-- CLS_TMAP_POISON (Table 05-8.: R140, poisoned entries). -/
def clsTmapPoison (s : Nat) : Nat := slice s + 0x3000 + 0x140
/-- CLS_TMAP_OVERRIDE (Table 05-8.: R140, lookups discarded for TENANT_EN). -/
def clsTmapOverride (s : Nat) : Nat := slice s + 0x3000 + 0x148
/-- TBL_INSERT (Table 06-9.: Entries inserted or replaced). -/
def tblInsert : Nat := tableEngine + 0x200
/-- TBL_DELETE (Table 06-9.: Entries removed, including flushes). -/
def tblDelete : Nat := tableEngine + 0x208
/-- TBL_MOVES (Table 06-9.: R154). -/
def tblMoves : Nat := tableEngine + 0x210
/-- TBL_STASHED (Table 06-9.: Inserts placed in the stash). -/
def tblStashed : Nat := tableEngine + 0x218
/-- TBL_FULL (Table 06-9.: R153). -/
def tblFull : Nat := tableEngine + 0x220
/-- TBL_HIT_LOST (Table 06-9.: R162). -/
def tblHitLost : Nat := tableEngine + 0x228
/-- TBL_WALK_BLOCK (Table 06-9.: R160). -/
def tblWalkBlock : Nat := tableEngine + 0x230
/-- TBL_REPAIR (Table 06-9.: R152). -/
def tblRepair : Nat := tableEngine + 0x238
/-- TBL_POISON_LOST (Table 06-9.: R152). -/
def tblPoisonLost : Nat := tableEngine + 0x240
/-- LKP_LEARN (Table 06-9.: Notices passed by the filter). -/
def lkpLearn (s : Nat) : Nat := slice s + 0x2000 + 0x100
/-- LKP_LFILT_SUPP (Table 06-9.: R165, suppressed). -/
def lkpLfiltSupp (s : Nat) : Nat := slice s + 0x2000 + 0x108
/-- LKP_LFILT_FULL (Table 06-9.: R165, passed without a filter entry). -/
def lkpLfiltFull (s : Nat) : Nat := slice s + 0x2000 + 0x110
/-- LKP_POISON (Table 06-9.: Lookups of the slice that found poison). -/
def lkpPoison (s : Nat) : Nat := slice s + 0x2000 + 0x118
/-- LKP_MISS_ACT (Table 06-9.: R167). -/
def lkpMissAct (s : Nat) : Nat := slice s + 0x2000 + 0x120
/-- LKP_SETTLED (Table 07-6.: Chits settled). -/
def lkpSettled (s : Nat) : Nat := slice s + 0x2000 + 0x400
/-- LKP_VOIDED (Table 07-6.: Chits voided, all causes). -/
def lkpVoided (s : Nat) : Nat := slice s + 0x2000 + 0x408
/-- LKP_EXP_START (Table 07-6.: Express copies started). -/
def lkpExpStart (s : Nat) : Nat := slice s + 0x2000 + 0x410
/-- LKP_EXP_STOOD (Table 07-6.: Express copies ended with good FCS). -/
def lkpExpStood (s : Nat) : Nat := slice s + 0x2000 + 0x418
/-- LKP_EXP_WRONG (Table 07-6.: R181, result or rewrite differs). -/
def lkpExpWrong (s : Nat) : Nat := slice s + 0x2000 + 0x420
/-- LKP_EXP_LATE (Table 07-6.: R181, chit provisional at FCS). -/
def lkpExpLate (s : Nat) : Nat := slice s + 0x2000 + 0x428
/-- LKP_EXP_VOID (Table 07-6.: R181, chit voided). -/
def lkpExpVoid (s : Nat) : Nat := slice s + 0x2000 + 0x430
/-- LKP_EXP_OTHER (Table 07-6.: R181, underrun or link down). -/
def lkpExpOther (s : Nat) : Nat := slice s + 0x2000 + 0x438
/-- LKP_CUT_START (Table 07-6.: Cut-through copies started). -/
def lkpCutStart (s : Nat) : Nat := slice s + 0x2000 + 0x440
/-- LKP_CUT_STOOD (Table 07-6.: Cut-through copies ended with good FCS). -/
def lkpCutStood (s : Nat) : Nat := slice s + 0x2000 + 0x448
/-- LKP_REDISPATCH (Table 07-6.: Frames re-dispatched from the buffer after a stomped copy). -/
def lkpRedispatch (s : Nat) : Nat := slice s + 0x2000 + 0x450
/-- LKP_CHIT_EXH (Table 07-6.: R25). -/
def lkpChitExh (s : Nat) : Nat := slice s + 0x2000 + 0x458
/-- LKP_REFUND (Table 07-6.: R180, voided frames refunded). -/
def lkpRefund (s : Nat) : Nat := slice s + 0x2000 + 0x460
/-- LKP_REFUND_CAPPED (Table 07-6.: R180). -/
def lkpRefundCapped (s : Nat) : Nat := slice s + 0x2000 + 0x468
/-- LKP_ESCROW_POISON (Table 07-6.: R185). -/
def lkpEscrowPoison (s : Nat) : Nat := slice s + 0x2000 + 0x470
/-- LKP_WARM_DROP (Table 07-6.: R184, copies dropped after admission). -/
def lkpWarmDrop (s : Nat) : Nat := slice s + 0x2000 + 0x478
/-- LKP_VOID_CAUSE (Table 07-6.: Voids with cause code c, 1–15). -/
def lkpVoidCause (s : Nat) (i : Nat) : Nat := slice s + 0x2000 + 0x480 + 8 * i
/-- MTR_METERED (Table 08-5.: Meter runs (R194), both meters). -/
def mtrMetered (s : Nat) : Nat := slice s + 0x4000 + 0x100
/-- MTR_GREEN (Table 08-5.: Policed frames with final colour green (R204)). -/
def mtrGreen (s : Nat) : Nat := slice s + 0x4000 + 0x108
/-- MTR_YELLOW (Table 08-5.: Policed frames with final colour yellow (R204)). -/
def mtrYellow (s : Nat) : Nat := slice s + 0x4000 + 0x110
/-- MTR_RED (Table 08-5.: Policed frames with final colour red (R204)). -/
def mtrRed (s : Nat) : Nat := slice s + 0x4000 + 0x118
/-- MTR_DROP (Table 08-5.: R195). -/
def mtrDrop (s : Nat) : Nat := slice s + 0x4000 + 0x120
/-- MTR_REMARK (Table 08-5.: R196). -/
def mtrRemark (s : Nat) : Nat := slice s + 0x4000 + 0x128
/-- MTR_TP_ADMIT (Table 08-5.: Frames admitted by a purse). -/
def mtrTpAdmit (s : Nat) : Nat := slice s + 0x4000 + 0x130
/-- MTR_TP_DROP (Table 08-5.: R197 drops). -/
def mtrTpDrop (s : Nat) : Nat := slice s + 0x4000 + 0x138
/-- TRS_SWEEPS (Table 08-5.: Completed Treasury sweeps). -/
def trsSweeps : Nat := treasury + 0x100
/-- TRS_CAPPED (Table 08-5.: Passes in which R198's last line turned tokens away). -/
def trsCapped : Nat := treasury + 0x108
/-- MNT_ALLOC (Table 09-7.: Cells allocated). -/
def mntAlloc : Nat := mint + 0x100
/-- MNT_FREED (Table 09-7.: Cells freed, including reclaims). -/
def mntFreed : Nat := mint + 0x108
/-- MNT_FIRST_REFUSE (Table 09-7.: R212, first cells refused). -/
def mntFirstRefuse : Nat := mint + 0x110
/-- MNT_LATER_REFUSE (Table 09-7.: R212, code 13 voids). -/
def mntLaterRefuse : Nat := mint + 0x118
/-- MNT_COLOR_REFUSE (Table 09-7.: R214). -/
def mntColorRefuse : Nat := mint + 0x120
/-- MNT_P31_DROP (Table 09-7.: R213). -/
def mntP31Drop : Nat := mint + 0x128
/-- MNT_LOSSLESS_OVF (Table 09-7.: R218). -/
def mntLosslessOvf : Nat := mint + 0x130
/-- MNT_BORROW (Table 09-7.: Cells granted with BORROW 1). -/
def mntBorrow : Nat := mint + 0x138
/-- MNT_REF_LIMIT (Table 09-7.: R220). -/
def mntRefLimit : Nat := mint + 0x140
/-- MNT_ECN_MARK (Table 09-7.: R221, copies marked). -/
def mntEcnMark : Nat := mint + 0x148
/-- MNT_ECN_CE_IN (Table 09-7.: R221, copies already CE). -/
def mntEcnCeIn : Nat := mint + 0x150
/-- MNT_POISON_COPY (Table 09-7.: R223). -/
def mntPoisonCopy : Nat := mint + 0x158
/-- MNT_LINK_POISON (Table 09-7.: R224). -/
def mntLinkPoison : Nat := mint + 0x160
/-- MNT_RECLAIMED (Table 09-7.: R224). -/
def mntReclaimed : Nat := mint + 0x168
/-- MNT_POOL_DROP (Table 09-7.: Frames refused in pool p under R212). -/
def mntPoolDrop (i : Nat) : Nat := mint + 0x1018 + 0x20 * i
/-- TLR_ENQ (Table 10-2.: Copies enqueued on the slice's queues). -/
def tlrEnq (s : Nat) : Nat := slice s + 0x5000 + 0x100
/-- TLR_DEQ (Table 10-2.: Copies started from the slice's queues). -/
def tlrDeq (s : Nat) : Nat := slice s + 0x5000 + 0x108
/-- TLR_NEVER_FITS (Table 10-2.: R241). -/
def tlrNeverFits (s : Nat) : Nat := slice s + 0x5000 + 0x110
/-- TLR_GATE_HOLD (Table 10-2.: R242). -/
def tlrGateHold (s : Nat) : Nat := slice s + 0x5000 + 0x118
/-- TLR_FAILOVER (Table 10-2.: R248, member links lost). -/
def tlrFailover (s : Nat) : Nat := slice s + 0x5000 + 0x120
/-- TLR_GROUP_DEAD (Table 10-2.: R248, copies discarded). -/
def tlrGroupDead (s : Nat) : Nat := slice s + 0x5000 + 0x128
/-- TLR_TEL_LOST (Table 10-2.: R245). -/
def tlrTelLost (s : Nat) : Nat := slice s + 0x5000 + 0x130
/-- TLR_MIR_COPY (Table 10-2.: R249, session m, copies made in this slice). -/
def tlrMirCopy (s : Nat) (i : Nat) : Nat := slice s + 0x5000 + 0x200 + 16 * i
/-- TLR_MIR_DROP (Table 10-2.: R249, session m, copies ended without delivery). -/
def tlrMirDrop (s : Nat) (i : Nat) : Nat := slice s + 0x5000 + 0x208 + 16 * i
/-- LDG_LATE_SETTLE (Table 11-8.: R260, late settlements). -/
def ldgLateSettle : Nat := ledger + 0x200
/-- LDG_MERGED (Table 11-8.: R262, boundaries merged, including those of R263). -/
def ldgMerged : Nat := ledger + 0x208
/-- LDG_INTERRUPTED (Table 11-8.: R263, warm resets). -/
def ldgInterrupted : Nat := ledger + 0x210
/-- LDG_SATURATE (Table 11-8.: R256, rows saturated). -/
def ldgSaturate : Nat := ledger + 0x218
/-- LDG_UNRELIABLE (Table 11-8.: R264, poisoned row words read). -/
def ldgUnreliable : Nat := ledger + 0x220
/-- LDG_ARCH_POISON (Table 11-8.: R274). -/
def ldgArchPoison : Nat := ledger + 0x228
/-- LDG_RECORDS (Table 11-8.: Records sent up the ring, including replays). -/
def ldgRecords : Nat := ledger + 0x230
/-- LDG_CACHE_EVICT (Table 11-8.: R257). -/
def ldgCacheEvict : Nat := ledger + 0x238
/-- LDG_ARCH_WAIT (Table 11-8.: R261, drains paused). -/
def ldgArchWait : Nat := ledger + 0x240
/-- TIM_STEP_REJECT (Table 12-4.: R283). -/
def timStepReject : Nat := time + 0x2000
/-- PPS_IN_COUNT (Table 12-4.: R298). -/
def ppsInCount : Nat := time + 0x2008
/-- EV_LOST (Table 12-4.: R299, input i, bits 15:0 only). -/
def evLost (i : Nat) : Nat := time + 0x2010 + 8 * i
/-- TIM_TRIG_SKIP (Table 12-4.: R285, trigger t). -/
def timTrigSkip (i : Nat) : Nat := time + 0x2100 + 8 * i
/-- TIM_TRIG_FIRE (Table 12-4.: Firings of trigger t). -/
def timTrigFire (i : Nat) : Nat := time + 0x2200 + 8 * i
/-- CON_CYCLES (Table 13-4.: Cycle starts). -/
def conCycles : Nat := console + 0xA00
/-- CON_CYCLE_LATE (Table 13-4.: R312, late tasks). -/
def conCycleLate : Nat := console + 0xA08
/-- CON_CYCLE_IDLE (Table 13-4.: R312, cycles with no task running). -/
def conCycleIdle : Nat := console + 0xA10
/-- CON_TRIP (Table 13-4.: R314). -/
def conTrip : Nat := console + 0xA18
/-- CON_IN_FAULT (Table 13-4.: R310, fault onsets). -/
def conInFault : Nat := console + 0xA20
/-- CON_CLIP (Table 13-4.: R310). -/
def conClip : Nat := console + 0xA28
/-- CON_FRAME_RUNT (Table 13-4.: R304). -/
def conFrameRunt : Nat := console + 0xA30
/-- CON_FAN_OVERRIDE (Table 13-4.: R313). -/
def conFanOverride : Nat := console + 0xA38
/-- TMP_PASSES (Table 14-6.: Completed Tuning passes). -/
def tmpPasses : Nat := tempo + 0x800
/-- TMP_GUARD_STEP (Table 14-6.: R325). -/
def tmpGuardStep : Nat := tempo + 0x808
/-- TMP_DEMOTE (Table 14-6.: R336). -/
def tmpDemote : Nat := tempo + 0x810
/-- TMP_AVS_ERR (Table 14-6.: R328). -/
def tmpAvsErr : Nat := tempo + 0x818
/-- HIF_DS_ENTRIES (Table 15-11: Downstream entries consumed). -/
def hifDsEntries : Nat := hif + 0x100
/-- HIF_INJ_FRAMES (Table 15-11: Frames injected into S0). -/
def hifInjFrames : Nat := hif + 0x108
/-- HIF_INJ_BAD (Table 15-11: R358). -/
def hifInjBad : Nat := hif + 0x110
/-- HIF_DS_MALFORMED (Table 15-11: R356). -/
def hifDsMalformed : Nat := hif + 0x118
/-- HIF_DB_REJECT (Table 15-11: R354, R361 and HIF_US_CONS rejections). -/
def hifDbReject : Nat := hif + 0x120
/-- HIF_DMA_ERR (Table 15-11: R346, R357). -/
def hifDmaErr : Nat := hif + 0x128
/-- HIF_US_ENTRIES (Table 15-11: Upstream entries written). -/
def hifUsEntries : Nat := hif + 0x130
/-- HIF_PUNT_FRAMES (Table 15-11: Punted frames written). -/
def hifPuntFrames : Nat := hif + 0x138
/-- HIF_PUNT_RING_DROP (Table 15-11: R363, ring full). -/
def hifPuntRingDrop : Nat := hif + 0x140
/-- HIF_PUNT_ARENA_DROP (Table 15-11: R363, arena full). -/
def hifPuntArenaDrop : Nat := hif + 0x148
/-- HIF_LEARN_HELD (Table 15-11: Notices stored in the hold table). -/
def hifLearnHeld : Nat := hif + 0x150
/-- HIF_LEARN_DROP (Table 15-11: Notices dropped, hold table full). -/
def hifLearnDrop : Nat := hif + 0x158
/-- HIF_EVT_COALESCED (Table 15-11: R362). -/
def hifEvtCoalesced : Nat := hif + 0x160
/-- HIF_CMPL_WAIT (Table 15-11: R363, fetch pauses). -/
def hifCmplWait : Nat := hif + 0x168
/-- HIF_MB_BUSY (Table 15-11: R368). -/
def hifMbBusy : Nat := hif + 0x170
/-- HIF_MB_REJECT (Table 15-11: R367). -/
def hifMbReject : Nat := hif + 0x178
/-- HIF_F1_WRITE_DROP (Table 15-11: R349, R369). -/
def hifF1WriteDrop : Nat := hif + 0x180
/-- CCL_SWITCH (Table 17-5.: Table 17-1 switch-overs). -/
def cclSwitch : Nat := clusters + 0x800
/-- CCL_SWAP (Table 17-5.: Table 17-2 swaps completed). -/
def cclSwap : Nat := clusters + 0x808
/-- CCL_SWAP_FAIL (Table 17-5.: Table 17-2, step 4). -/
def cclSwapFail : Nat := clusters + 0x810
/-- CCL_BLOCKED (Table 17-5.: R398). DESIGN CHOICE, log 58. -/
def cclBlocked : Nat := clusters + 0x818
/-- PAIR_LAPSE (Table 17-5.: R406). -/
def pairLapse : Nat := clusters + 0x900
/-- PAIR_CLAIM (Table 17-5.: R405, claims confirmed). -/
def pairClaim : Nat := clusters + 0x908
/-- PAIR_TIE (Table 17-5.: R405, claims withdrawn). -/
def pairTie : Nat := clusters + 0x910
/-- PAIR_CLAIM_BLOCK (Table 17-5.: R404). -/
def pairClaimBlock : Nat := clusters + 0x918
/-- PAIR_HB_LOST (Table 17-5.: R409). -/
def pairHbLost : Nat := clusters + 0x920
/-- PAIR_LINK_ERR (Table 17-5.: R408). -/
def pairLinkErr : Nat := clusters + 0x928
/-- PAIR_GRP_STALE (Table 17-5.: R413). -/
def pairGrpStale : Nat := clusters + 0x930
/-- PAIR_GRP_LEASE (Table 17-5.: R413, leases gained). -/
def pairGrpLease : Nat := clusters + 0x938
/-- MEM_CORRECTED (Table 20-6.: R451, class c). -/
def memCorrected (i : Nat) : Nat := memory + 0x400 + 0x20 * i
/-- MEM_UNCORR (Table 20-6.: R451, R453). -/
def memUncorr (i : Nat) : Nat := memory + 0x408 + 0x20 * i
/-- MEM_POISON_READ (Table 20-6.: Reads of marked words). -/
def memPoisonRead (i : Nat) : Nat := memory + 0x410 + 0x20 * i
/-- MEM_SCRUB_FIX (Table 20-6.: R456). -/
def memScrubFix (i : Nat) : Nat := memory + 0x418 + 0x20 * i
/-- MEM_VOTE_FIX (Table 20-6.: R455). -/
def memVoteFix : Nat := memory + 0x600
/-- MEM_LOG_LOST (Table 20-6.: R454). -/
def memLogLost : Nat := memory + 0x608
/-- MEM_REMAP_INSTALL (Table 20-6.: Remap entries installed). -/
def memRemapInstall : Nat := memory + 0x610
/-- TAL_SWEEPS (Table 22-8.: Completed sweeps). -/
def talSweeps : Nat := tally + 0x800
/-- TAL_SWEEP_SKIP (Table 22-8.: R484). DESIGN CHOICE, log 58. -/
def talSweepSkip : Nat := tally + 0x808
/-- TAL_CONS_REJECT (Table 22-8.: R488). -/
def talConsReject : Nat := tally + 0x810
/-- TAL_LOST (Table 22-8.: R489, R491, stream k). -/
def talLost (i : Nat) : Nat := tally + 0x900 + 8 * i
/-- MAC_PTP_TC (R300: R291). -/
def macPtpTc (p : Nat) : Nat := mac p + 0x1A8
/-- MAC_PTP_SKIP (R300: R291). -/
def macPtpSkip (p : Nat) : Nat := mac p + 0x1B0
/-- DEV_WARM_COUNT (R437: warm release sequences). -/
def devWarmCount : Nat := 0 + 0x100
/-- DEV_PEER_RST_IGNORED (R437: R419 refusals). -/
def devPeerRstIgnored : Nat := 0 + 0x108
/-- DEV_PWR_DOWN (R449: R449). -/
def devPwrDown : Nat := 0 + 0x110
/-- DEV_WAKE_COUNT (R449: R449). -/
def devWakeCount : Nat := 0 + 0x118
/-- DEV_DRAIN_TIMEOUT (R449: R449). -/
def devDrainTimeout : Nat := 0 + 0x120
/-- PCS_SYM_ERR of lane `l` (R75). DESIGN CHOICE, log 58. -/
def pcsSymErr (l : Nat) : Nat := pcs l + 0x10
/-- PCS_FEC_CORR of a port's first lane (R75). DESIGN CHOICE, log 58. -/
def pcsFecCorr (l : Nat) : Nat := pcs l + 0x18
/-- PCS_FEC_UNCORR of a port's first lane (R75). -/
def pcsFecUncorr (l : Nat) : Nat := pcs l + 0x20
end Ctr

end Sys2Proof.Machine
end

