-- ==== Sys2Proof/Config.lean ====
section
/-! DEFINITION. What one implementation fixes, and the free values: constants without a body, so that nothing can be proved of a value
the manual leaves open. -/
namespace Sys2Proof.Config

/-- A free number for the `k`-th undefined choice of a run (R8). The state counts the choices (`State.freeCtr`).
DESIGN CHOICE, log 6. -/
opaque freeNat : Nat → Nat

/-- A free byte: what undefined memory holds, by the index of the undefined content and the offset (R8, R367, R427).
DESIGN CHOICE, log 6. -/
opaque freeByte : Nat → Nat → Byte

/-- A free number below `n` (or 0 when `n` is 0). DESIGN CHOICE, log 6. -/
def freeBelow (k n : Nat) : Nat := if n = 0 then 0 else freeNat k % n

/-- Bit errors that a checking lane has counted between two cycles of one lock (R77): the channel's, not the device's, to give.
DESIGN CHOICE, log 6. -/
opaque prbsErrors : (lane since now : Nat) → Nat

/-- LPI_CAP of a port's mode (R70): whether IEEE 802.3 defines low-power idle for this SPEED and LANE_RATE.
DESIGN CHOICE, log 6. -/
opaque lpiCap : (speed laneRate : Nat) → Bool

/-- SOURCE of an event whose chapter does not define it, by class and unit (R362). DESIGN CHOICE, log 6. -/
opaque eventSource : (cls unit : Nat) → Nat

/-- DATA words of an event whose chapter does not define them, by class, unit and word (R362).
DESIGN CHOICE, log 6. -/
opaque eventData : (cls unit word : Nat) → W32

/-- What a protected word holds (Table 20-1): the manual names the memories of a class and not where each object lies in it.
DESIGN CHOICE, log 45. -/
inductive Held where
  | tableSlot (replica loc : Nat)
  | ledgerRow (bank tenant word : Nat)
  | meter (slice index : Nat)
  | purse (slice tenant : Nat)
  | treasury (tenant : Nat)
  | comparator (slice index : Nat)
  | rule (slice index : Nat)
  | harpWord (slice bank addr : Nat)
  | escrow (chit word : Nat)
  | link (cell : Nat)
  | bitmapLeaf (bank word : Nat)
  | bitmapSummary (bank word : Nat)
  | archived (epoch record word : Nat)
  | notice (index : Nat)
  | stored (stream record word : Nat)
  | outletMap (outlet : Nat)
  | pinning (group word : Nat)
  deriving DecidableEq, Repr

/-- The word address, within its class, at which an object lies. DESIGN CHOICE, log 45. -/
opaque wordOf : Held → Nat

/-- The critical word of a slice's Harp repair map (Table 20-3), whose layout the manual leaves open. DESIGN CHOICE, log 67. -/
opaque repairWord : (slice : Nat) → (map : List (Nat × Nat)) → W32

end Sys2Proof.Config
end

