-- ==== Sys2Proof/Machine/Tab.lean ====
section
/-! DEFINITION. Sparse tables: a list of (key, value) pairs with keys strictly rising and no value equal to the default,
so that equal tables are equal data. Every memory, register file and counter file of the model is one. -/
namespace Sys2Proof.Machine

/-- A sparse table over keys `Nat`; an unlisted key holds the table's default. -/
abbrev Tab (β : Type) := List (Nat × β)

/-- The value at key `i`; `d` is what an unlisted key holds. -/
def tabGet {β : Type} (d : β) : Tab β → Nat → β
  | [], _ => d
  | (k, v) :: m, i => if i = k then v else tabGet d m i

/-- The table with `v` at key `i`, in canonical form again. -/
def tabSet {β : Type} [DecidableEq β] (d : β) : Tab β → Nat → β → Tab β
  | [], i, v => if v = d then [] else [(i, v)]
  | (k, w) :: m, i, v =>
    if i < k then (if v = d then (k, w) :: m else (i, v) :: (k, w) :: m)
    else if i = k then (if v = d then m else (k, v) :: m)
    else (k, w) :: tabSet d m i v

/-- The canonical form: keys strictly rising from `lo`, no value the default. -/
def tabWfFrom {β : Type} [DecidableEq β] (d : β) : Nat → Tab β → Bool
  | _, [] => true
  | lo, (k, v) :: m => decide (lo ≤ k) && decide (v ≠ d) && tabWfFrom d (k + 1) m

/-- A table is in canonical form. -/
def tabWf {β : Type} [DecidableEq β] (d : β) (m : Tab β) : Bool := tabWfFrom d 0 m

/-- `n` values from key `a` on. -/
def tabRead {β : Type} (d : β) (m : Tab β) : Nat → Nat → List β
  | _, 0 => []
  | a, n + 1 => tabGet d m a :: tabRead d m (a + 1) n

/-- Values written from key `a` on. -/
def tabWrite {β : Type} [DecidableEq β] (d : β) : Tab β → Nat → List β → Tab β
  | m, _, [] => m
  | m, a, v :: vs => tabWrite d (tabSet d m a v) (a + 1) vs

end Sys2Proof.Machine
end

