-- ==== Sys2Proof/Machine/ConsoleState.lean ====
section
/-! DEFINITION. The state of the rack console (chapter 13). -/
namespace Sys2Proof.Machine

/-- A modulator clock group (R301, R304). -/
structure ConGroup where
  div      : Nat := 0
  osr      : Nat := 0
  en       : Bool := false
  armed    : Option Nat := none   -- its decimators wait to start; firings of the frame trigger when they began to wait
  run      : Bool := false        -- its decimators run
  priming  : Nat := 0             -- priming outputs still to be discarded
  runts    : Nat := 0             -- outputs still to be treated as runts
  fresh    : Bool := false        -- its third output since it started has not come (R316)
  periodAt : Nat := 0             -- device time at which the present output period began
  deriving DecidableEq, Repr

/-- A metering input (R302, R303, R310). `act` fields are in force, the others as set. -/
structure ConInput where
  clk     : Nat := 0
  invert  : Bool := false
  en      : Bool := false
  actClk  : Nat := 0
  actInv  : Bool := false
  actEn   : Bool := false
  hist    : List Bool := []       -- bits received, newest first, as far as the decimator looks back
  fault   : Bool := false
  priming : Nat := 0              -- outputs treated as priming after a fault
  deriving DecidableEq, Repr

/-- An outlet's setting (R306); KV and KI in units of 0.001, OFFV and OFFI in units of 2^-15 of full scale. -/
structure OutletCfg where
  en   : Bool := false
  vsel : Nat := 0
  isel : Nat := 0
  kv   : Nat := 0
  ki   : Nat := 0
  offv : Int := 0
  offi : Int := 0
  deriving DecidableEq, Repr

/-- An outlet's trip setting (R314); TRIP_I in mA. -/
structure TripCfg where
  en   : Bool := false
  i    : Nat := 0
  n    : Nat := 1
  mask : Nat := 0
  deriving DecidableEq, Repr

/-- The sums over a control window (R308). -/
structure Window where
  n      : Nat := 0
  vSq    : Nat := 0               -- (2^-8 mV)²
  iSq    : Nat := 0               -- (2^-8 mA)²
  pSum   : Int := 0               -- power × time, 2^-16 mW × ns
  dSum   : Nat := 0               -- ns
  deriving DecidableEq, Repr

/-- An outlet: settings, energy accumulator in 2^-16 µJ and the fraction of one unit beyond it (R307), power of the last full output in
mW as a fraction, the sums of the present control window and of the last one, and its trip. -/
structure Outlet where
  cfg    : OutletCfg := {}
  act    : OutletCfg := {}
  acc    : Nat := 0
  part   : Nat × Nat := (0, 1)
  lastP  : Int × Nat := (0, 1)
  win    : Window := {}
  last   : Window := {}
  trip   : TripCfg := {}
  tripAct : TripCfg := {}
  overs  : Nat := 0               -- consecutive full samples above TRIP_I
  deriving DecidableEq, Repr

/-- An actuator output (R314, R315, R317). -/
structure Actuator where
  level    : Bool := false        -- now driven, or commanded while the output stage is off
  drive    : Bool := false
  driveAct : Bool := false
  safe     : Bool := false
  tripped  : Bool := false
  clearing : Bool := false        -- CONSOLE.TRIP_CLEAR waits for the next cycle start
  given    : Bool := false        -- a level has been commanded since cold reset
  deriving DecidableEq, Repr

/-- A fan's control setting (R313, R317). -/
structure FanCfg where
  curve   : Bool := false
  dutyMin : Nat := 0
  tLo     : Int := 0
  tHi     : Int := 0
  ppr     : Nat := 1
  deriving DecidableEq, Repr

/-- A fan output and tachometer. -/
structure Fan where
  duty     : Nat := 0             -- as last set
  was      : Nat := 0             -- in force until the PWM period in which it was set ends (R317)
  dutyAt   : Nat := 0             -- cycle at which it was set
  pol      : Bool := false
  polAct   : Bool := false
  cfg      : FanCfg := {}
  act      : FanCfg := {}
  given    : Bool := false
  stall    : Bool := false
  tachUs   : Nat := 0
  edges    : List Nat := []       -- cycles of the last falling edges, newest first, as many as PPR can need
  stalls   : Nat := 0             -- successive snapshots with STALL, up to 3
  turns    : Nat := 0             -- successive snapshots without STALL, up to 3
  forced   : Bool := false        -- the task overrides it to 100.0%
  deriving DecidableEq, Repr

/-- What a cycle start latches beside CON_MEAS (Table 13-1): tachometer periods in µs, input fault and trip flags (bit masks), Tj readings. -/
structure Snapshot where
  tach   : List Nat := []
  faults : Nat := 0
  trips  : Nat := 0
  tj     : List Int := []
  deriving DecidableEq, Repr

/-- The rack console. Output sets are pairs (actuator levels, fan duties). -/
structure ConsoleState where
  groups    : Tab ConGroup := []
  inputs    : Tab ConInput := []
  outlets   : Tab Outlet := []
  acts      : Tab Actuator := []
  fans      : Tab Fan := []
  cycleTrig : Nat := 0
  cycleEn   : Bool := false
  frameTrig : Nat := 0
  frameEn   : Bool := false
  outEn     : Bool := false
  everEn    : Bool := false       -- CONSOLE.ENABLE has been given since cold reset (R444)
  disabling : Bool := false       -- CONSOLE.DISABLE waits for the next cycle start
  taskRun   : Bool := false
  levels    : Nat := 0            -- the latest CONSOLE.OUTPUT_SET
  duties    : List Nat := [0, 0, 0, 0, 0, 0, 0, 0]
  task      : Option (Nat × List Nat) := none   -- the set the task of this cycle was released with
  committed : Option (Nat × List Nat) := none
  cycleAt   : Nat := 0            -- device time of the last cycle start
  snap      : Snapshot := {}      -- the last snapshot
  barred    : Bool := false       -- no trip fires until the decimators have primed after a warm reset (R316)
  trips     : Nat := 0            -- trips that have fired: console events (R314)
  cycleSeen : Nat := 0            -- firings of the control trigger acted on
  frameSeen : Nat := 0            -- firings of the frame trigger acted on
  applied   : Nat × List Nat := (0, [0, 0, 0, 0, 0, 0, 0, 0])   -- the last applied set (R408)
  sends     : Nat := 0            -- mirror messages sent
  deriving DecidableEq, Repr

end Sys2Proof.Machine
end

