-- ==== Sys2Proof/Machine/DevState.lean ====
section
/-! DEFINITION. The state of the reset controller, the straps and fuses, and the device-global registers (chapters 18 and 21). -/
namespace Sys2Proof.Machine

/-- Fuses (R2, R6, R331, R394, R395). The values of one part are the board's; the model takes an HL1024 of first silicon.
DESIGN CHOICE, log 3. -/
structure Fuses where
  partId   : Nat := 0x1024
  sliceEn  : Nat := 0xFFFF
  rev      : Nat := 1
  persona  : Nat := 1              -- the part's own persona: 1 for first silicon (R3)
  keyHash  : Nat := 0
  minSvn   : Nat := 0
  base     : Tab Nat := (List.range 17).map fun s => (s, 1668)   -- B_s of R331, s = 0-16, 0.25 ps units
  vt       : Nat := 450            -- mV
  alpha    : Nat := 384            -- 1/256
  kt       : Nat := 800            -- ppm per °C, 12 bits, two's complement
  extended : Bool := false         -- temperature grade E (R508)
  deriving DecidableEq, Repr

/-- Strap pins and their values sampled at cold release (R4, R429). DESIGN CHOICE, log 3. -/
structure Straps where
  lockPin  : Bool := false
  bootPin  : Bool := false
  pairPin  : Bool := false
  lock     : Bool := false
  bootSel  : Bool := false
  pairId   : Bool := false
  deriving DecidableEq, Repr

/-- An instruction of the test access port (R506). -/
inductive TapInstr where
  | bypass | sample | preload | extest | clamp | highz | extestPulse | extestTrain
  deriving DecidableEq, Repr

/-- The states of the TAP controller (IEEE 1149.1). -/
inductive TapState where
  | testLogicReset | runTestIdle
  | selectDr | captureDr | shiftDr | exit1Dr | pauseDr | exit2Dr | updateDr
  | selectIr | captureIr | shiftIr | exit1Ir | pauseIr | exit2Ir | updateIr
  deriving DecidableEq, Repr

/-- The test access port (R506). `cells` is the update stage of the boundary register, by cell number. -/
structure Tap where
  trstLow   : Bool := false        -- TRST_N is low
  state     : TapState := .testLogicReset
  instr     : TapInstr := .bypass
  bypassBit : Bool := false
  cells     : Tab Bool := []
  deriving DecidableEq, Repr

/-- The reset controller and the device-global registers. Reset sources are numbered as the bits of DEV_RST_CAUSE. -/
structure DevState where
  fuses     : Fuses := {}
  straps    : Straps := {}
  asserted  : Nat := 0             -- sources asserted now
  since     : Nat := 0             -- sources asserted since the previous release
  cold      : Bool := true         -- the reset in progress, or last released, reached the keep domain
  step      : Nat := 0             -- last completed step of Table 18-2; 12 when the sequence has ended
  cause     : Nat := 1             -- DEV_RST_CAUSE
  blockRst  : W32 := 0#32          -- DEV_BLOCK_RST
  slot      : Nat := 0
  fallback  : Bool := false
  noImage   : Bool := false
  hdrOk     : Bool := false
  plain     : Nat := 0xFFFF        -- bit s: slice s in Plain service
  moving    : Option Nat := none   -- the slice whose move between Plain and full service has begun (Table 18-5 steps 1 and 2, R436)
  mapPorts  : Nat := 0
  skipped   : Bool := false
  fillDone  : Bool := false        -- the Plain service region is filled
  booted    : Bool := false        -- Titimus has run since cold reset
  fillsOk   : Bool := false        -- Titimus's fills of R427 are complete
  firstPass : Bool := false        -- the first Tuning pass after the cold reset has ended
  alertMask : W32 := 0#32
  scratch   : W32 := 0#32
  alertN    : Bool := false        -- ALERT_N asserted
  stat      : Nat := 0             -- bits 0-3: the level that STAT0-STAT3 hold while Titimus is not available (R402)
  peerRstEn : Bool := false        -- PAIR_RST PEER_RST_EN
  peerRsts  : Nat := 0             -- reset requests sent to the peer (R419)
  deriving DecidableEq, Repr

end Sys2Proof.Machine
end

