-- ==== Sys2Proof/Machine/TempoState.lean ====
section
/-! DEFINITION. The state of tempo monitors, core supply, capo settings and Tuning (chapter 14). Voltages are counted in steps of 2.5 mV above
0.650 V, 0 to 80. -/
namespace Sys2Proof.Machine

/-- A tempo monitor (R323): TEMPO and VALID. -/
structure Monitor where
  tempo : Nat := 0
  valid : Bool := false
  deriving DecidableEq, Repr

/-- Why a Tuning pass is due (R332). -/
inductive PassCause where
  | bringUp
  | interval
  | slow
  | run
  | capo (setting : Nat)
  | demotion
  deriving DecidableEq, Repr

/-- A stored pass record (R335): AGE and HEADROOM in 0.01%, the planned target and E in 1/64 h. -/
structure PassRecord where
  age      : Int
  headroom : Int
  target   : Nat
  stress   : Nat
  deriving DecidableEq, Repr

/-- The Tuning record in the flash (R335): E in 2^-26 h, a[s] for s = 0-16 as 16-bit words, the history of passes. -/
structure TuneRecord where
  stress  : Nat
  a       : List Nat
  history : List PassRecord := []
  deriving DecidableEq, Repr

/-- Tempo and Tuning. -/
structure TempoState where
  mons      : Tab Monitor := []
  tj        : Tab Int := []
  target    : Nat := 80
  rail      : Nat := 80            -- the voltage of the last write that the regulator answered
  avsAt     : Option Nat := none   -- cycle of the last AVSBus write (R326)
  goal      : Nat := 80            -- the voltage that the steps lead to
  nextCapo  : Option Nat := none   -- a higher CAPO, written once the target has reached its goal (R338)
  measured  : Nat := 0             -- mV
  current   : Nat := 0             -- 0.5 A
  avsFault  : Bool := false
  badMs     : Nat := 0             -- successive read-backs more than 10 mV off
  goodMs    : Nat := 0             -- successive good read-backs
  slow      : Bool := false        -- TEMPO_SLOW
  guardWin  : Option Nat := none   -- window in which the guard last raised the target
  capo      : Nat := 3
  reqCapo   : Nat := 3
  passes    : List PassCause := [] -- passes due, the one in progress first
  stepping  : Bool := false        -- the first of them has made its plan and steps the target
  plan      : Nat := 80            -- that plan
  a         : Tab Int := []        -- a[s] in 0.01%
  age       : Int := 0
  headroom  : Int := 0
  headLow   : Bool := false
  horizon   : Nat := 4095
  stress    : Nat := 0             -- E in 2^-26 h: the register's 1/64 h with 20 fraction bits
  growth    : List Nat := []       -- growth of E in each second of the last 30 days, newest first
  recordOk  : Bool := false
  interval  : Nat := 6
  alertEn   : Bool := false
  lastPass  : Nat := 0             -- device time in seconds of the previous pass
  lastSec   : Nat := 0             -- device second of the last stress update
  history   : List PassRecord := []
  deriving DecidableEq, Repr

end Sys2Proof.Machine
end

