-- ==== Sys2Proof/Machine/HostState.lean ====
section
/-! DEFINITION. The state of the host interface, of Titimus's command channels and of the firmware store (chapters 15, 16 and the
flash of chapter 18). -/
namespace Sys2Proof.Machine

/-- A request handed to Titimus (R366 step 2, R373): the channel's SEQ or TOKEN, the command word, LENGTH and the argument
bytes the channel carries. -/
structure Request where
  token : Nat
  cmd   : W32
  len   : Nat
  bytes : List Byte
  deriving DecidableEq, Repr

/-- What a command answered PENDING waits for. -/
inductive JobKind where
  | trigger (t : Nat) (en : Bool) (startNs startSecLo startSecHi perLo perHi : Nat) (phase : Nat)
  | fwLoad (version build svn jfmt : Nat)
  | fwActivate
  | fwCommit
  | swap
  | tuneRun
  | tuneCapo
  | split (dest : Nat)
  | reclaim
  | engineCheck (slice engine : Nat)
  | load (mask : Nat)            -- HARP.LOAD: the slices whose staged banks are being written
  | members (group : Nat)        -- MEMBER_ADD or MEMBER_REMOVE: the group whose buckets are being written
  | table                        -- a TABLE command whose slot writes are being made
  | commit (mask : Nat)          -- HARP.COMMIT: slices still to swap
  | classUpdate (mask : Nat)     -- CLASS.RANGE_SET or RULES_SET: slices still to apply it
  | portEnable (port : Nat)
  | domains (mask : Nat) (on : Bool)
  | fill (mask : Nat)
  deriving DecidableEq, Repr

/-- A command answered PENDING: its request, what it waits for, and its outcome (code and result bytes) once it has one.
`orphan`: its mailbox was reset meanwhile, so that the answer reaches nobody (R347). -/
structure Job where
  req     : Request
  kind    : JobKind
  outcome : Option (Nat × List Byte)
  orphan  : Bool
  byPrevious : Bool    -- answered PENDING by a previous owner (R389)
  deriving DecidableEq, Repr

/-- One channel to Titimus. -/
inductive Channel where
  | idle
  | handed (r : Request)      -- the request waits for Titimus
  | running (j : Job)         -- answered PENDING, or a ring command in progress
  deriving DecidableEq, Repr

/-- An entry of the command journal (R383): channel number and command word of an accepted command that is not a query. -/
structure JournalEntry where
  via : Nat
  cmd : W32
  deriving DecidableEq, Repr

/-- A mailbox: the header of Table 15-9 and the payload. A payload byte no one has written since the last answer is undefined
(R367), `none` here; `gen` names that undefined content. -/
structure Mailbox where
  seq     : Nat := 0
  command : W32 := 0#32
  length  : Nat := 0
  rseq    : Nat := 0
  status  : Nat := 0
  error   : Nat := 0
  rlength : Nat := 0
  payload : Tab (Option Byte) := []
  gen     : Nat := 0
  locked  : Bool := false
  deriving DecidableEq, Repr

/-- An entry of an MSI-X table: message address, data and the vector's mask; whether its pending bit is set.
PRESUMED, log 13 (its reset value). -/
structure MsixEntry where
  addrLo  : W32 := 0#32
  addrHi  : W32 := 0#32
  data    : W32 := 0#32
  masked  : Bool := true
  pending : Bool := false
  deriving DecidableEq, Repr

/-- The writable part of one function's configuration space, as far as the manual names it (R345, R346, R350): the type 0 header, Power
Management, MSI-X, the PCI Express capability and Advanced Error Reporting. PRESUMED, log 13. -/
structure CfgSpace where
  mse          : Bool := false     -- Memory Space Enable
  bme          : Bool := false
  bar0         : Nat := 0          -- base address of BAR0
  bar2         : Nat := 0          -- base address of BAR2 (F0)
  d3hot        : Bool := false
  msixEnable   : Bool := false
  functionMask : Bool := false
  mps          : Nat := 0          -- Max_Payload_Size: 128 × 2^mps bytes
  mrrs         : Nat := 2          -- Max_Read_Request_Size: 128 × 2^mrrs bytes
  aerMask      : W32 := 0#32       -- AER: mask and severity of uncorrectable errors, mask of correctable errors
  aerSev       : W32 := 0x00462030#32
  aerCorrMask  : W32 := 0x00002000#32
  deriving DecidableEq, Repr

/-- An event entry (R362). -/
structure Event where
  cls    : Nat
  source : Nat
  count  : Nat
  first  : Nat
  last   : Nat
  data   : List W32
  deriving DecidableEq, Repr

/-- A learn notice (Table 06-6). -/
structure Notice where
  port    : Nat
  table   : Nat
  move    : Bool
  held    : Bool
  slice   : Nat
  time    : Nat
  oldData : Nat
  key     : Nat
  tenant  : Nat
  deriving DecidableEq, Repr

/-- A punted frame (Table 15-7) with the bytes from DA to the FCS, and the chit whose chain holds them. -/
structure Punt where
  chit    : Nat
  port    : Nat
  tsPin   : Bool
  staIdx  : Nat
  reason  : Nat
  cls     : Nat
  len     : Nat
  tenant  : Nat
  rxTs    : Nat
  segment : Nat
  rule    : Nat
  ruleHit : Bool
  start   : Nat        -- arena offset of the first byte
  fin     : Nat        -- release value after the frame
  bytes   : List Byte
  deriving DecidableEq, Repr

/-- An upstream job that has found room (R363) and waits to be written (R364). -/
inductive UpJob where
  | completion (envelope : List Byte)
  | event (e : Event)
  | notice (n : Notice)
  | punt (p : Punt)
  deriving DecidableEq, Repr

/-- An inject chain fetched and not yet executed (R358): the first entry's words and every entry's (address, length) buffer. -/
structure Inject where
  words   : List W32
  buffers : List (Nat × Nat)
  entries : Nat
  deriving DecidableEq, Repr

/-- The host interface region and the rings' progress (chapter 15). -/
structure HifState where
  tunnelUp    : Bool := false
  link80      : Bool := false
  dsEn        : Bool := false
  dsLog2      : Nat := 0
  dsNotify    : Nat := 0
  dsBaseLo    : W32 := 0#32
  dsBaseHi    : W32 := 0#32
  dsDb        : Nat := 0
  dsCons      : Nat := 0
  dsHalt      : Bool := false
  dsSkip      : Bool := false      -- discarding up to the next FIRST (R356)
  inject      : Option Inject := none
  chainHeld   : Nat := 0           -- entries of the ring command in execution whose host buffers are still needed (R355)
  fences      : List Nat := []     -- TAGs of consumed no-ops with FENCE, oldest first
  usEn        : Bool := false
  usLog2      : Nat := 0
  usWbEn      : Bool := false
  usBaseLo    : W32 := 0#32
  usBaseHi    : W32 := 0#32
  usProd      : Nat := 0
  usCons      : Nat := 0
  usWbLo      : W32 := 0#32
  usWbHi      : W32 := 0#32
  irqCount    : Nat := 1
  irqTime     : Nat := 0
  sinceIrq    : Nat := 0           -- entries posted since the last vector-0 message (R351)
  irqAt       : Nat := 0           -- cycle at which the first of them was posted
  deriving DecidableEq, Repr

/-- The receive arena, upstream work, access log and interrupts (chapter 15, R480). -/
structure UpState where
  rxaEn       : Bool := false
  rxaLog2     : Nat := 0
  rxaBaseLo   : W32 := 0#32
  rxaBaseHi   : W32 := 0#32
  rxaW        : Nat := 0
  rxaRel      : Nat := 0
  arenaFull   : Bool := false
  arenaOld    : Nat := 0           -- punted frames still to be written that came before the frame that found no room
  ready       : List UpJob := []   -- jobs with room, in the order they finished
  waiting     : List (List Byte) := []  -- TCS completions that wait for room (R363)
  fetchPaused : Bool := false
  evPend      : Tab (Option Event) := []  -- coalesced events by class (R362)
  evHeld      : List (Nat × Nat × Nat) := []  -- events that Titimus posts when it runs again: class, unit, NS32
  hold        : List Notice := []  -- the hold table
  seqs        : Tab Nat := []      -- jobs posted, by KIND (Table 15-6 SEQ)
  accErr      : W32 := 0#32        -- HIF_ACCESS_ERR
  accAddr     : W32 := 0#32
  accData     : W32 := 0#32
  msix        : Tab MsixEntry := []    -- F0 vectors 0-63, F1 vector v at 64 + v
  msgs        : Tab Nat := []      -- MSI-X messages sent, by the same numbers
  cfg0        : CfgSpace := {}
  cfg1        : CfgSpace := {}
  deriving DecidableEq, Repr

/-- A Titimus image in a flash slot or running on a cluster: header fields of Table 16-9 and whether it is valid under R394
but for its SVN, which is compared with MIN_SVN when it is used. DESIGN CHOICE, log 3 and 46. -/
structure Image where
  version : Nat := 0
  build   : Nat := 0
  svn     : Nat := 0
  jfmt    : Nat := 0
  level   : Nat := 1
  valid   : Bool := false
  deriving DecidableEq, Repr

/-- An entry of the plain map (Table 18-4). -/
structure PlainEntry where
  port  : Nat
  lanes : Nat
  group : Nat
  reach : Nat
  deriving DecidableEq, Repr

/-- The QSPI flash as the device uses it (R428, R391, R335): header, both image slots, stored configuration, Tuning record.
DESIGN CHOICE, log 3. -/
structure Flash where
  hdrOk     : Bool := true
  ssvid     : Nat := 0
  ssid      : Nat := 0
  preferred : Nat := 0
  plainMap  : List PlainEntry := []
  slot0     : Image := {}
  slot1     : Image := {}
  reqCapo   : Option Nat := none
  split     : Option Nat := none
  tune      : Option (Nat × Bool) := none      -- INTERVAL and ALERT_EN
  record    : Option TuneRecord := none  -- the Tuning record (R335)
  remaps    : List (Nat × Nat) := []           -- remap entries kept in the stored configuration (R459)
  deriving DecidableEq, Repr

/-- Titimus's command state and the firmware (chapter 16). -/
structure TcsState where
  running   : Bool := false        -- the owner cluster runs Titimus
  channels  : Tab Channel := []    -- by channel number: F0 m at m, F1 m at 16 + m, ring at 18
  journal   : List JournalEntry := []
  trial     : Bool := false
  fwBusy    : Bool := false        -- a flash write of SYS.FW_LOAD is in progress
  swapBlock : Bool := false        -- periodic role swaps suspended (R396, R397)
  image     : Image := {}          -- the owner's image
  standby   : Option Image := none -- the standby's image when one runs
  reached   : Tab Nat := []        -- cycle at which a mailbox's latest request reached Titimus, by channel number
  tableLine : List Nat := []       -- channels whose TABLE commands have been accepted, in the order of acceptance (R161, R383)
  resetAt   : Option Nat := none   -- SYS.RESET acknowledged: cycle at which the warm reset asserts (R390)
  deriving DecidableEq, Repr

end Sys2Proof.Machine
end

