-- ==== Sys2Proof/Machine/PortState.lean ====
section
/-! DEFINITION. The state of the port clusters, the MACs and the Harp parse arrays (chapters 02 to 04). -/
namespace Sys2Proof.Machine

/-- Configuration of a front port (MAC_CFG, MAC_EXPRESS, MAC_PTP_DLY, PORT.CONFIG) and its place in bring-up (Table 02-5). -/
structure PortCfg where
  speed     : Nat := 0
  laneRate  : Nat := 0
  reach     : Nat := 0
  maxLen    : Nat := 0x5EE
  training  : Bool := false
  enabled   : Bool := false        -- PORT.ENABLE accepted, or a plain port
  lit       : Bool := false        -- calibrated: transmitters out of electrical idle (step 3)
  expClass  : Nat := 0
  expMinLen : Nat := 0x40
  dRx       : Nat := 0
  dTx       : Nat := 0
  ptp       : W32 := 0#32          -- MAC_PTP as last written
  ptpAct    : W32 := 0#32          -- MAC_PTP in force
  loopback  : Nat := 0
  stations  : Tab (Option Nat) := []
  deriving DecidableEq, Repr

/-- Run-ahead configuration of a port (HRP_RA_PORT, HRP_PCP_MAP), also of a recirculation port (R103). -/
structure RaCfg where
  defSeg   : Nat := 0
  defClass : Nat := 0
  raEn     : Bool := false
  raTable  : Nat := 0
  pcpMap   : W32 := 0#32
  deriving DecidableEq, Repr

/-- A received pause in force: cycle at which it was set without interruption since, and at which its time expires (R51, R56). -/
structure Pause where
  since : Nat
  till  : Nat
  deriving DecidableEq, Repr

/-- Flow control of a port (R49 to R58). `prioOf` holds 8 for a queue mapped to no priority.
DESIGN CHOICE, log 26. -/
structure PortFc where
  mode       : Nat := 0
  quanta     : Nat := 0xFFFF
  prioOf     : List Nat := [0, 0, 1, 1, 2, 2, 3, 3, 4, 4, 5, 5, 6, 6, 7, 7]
  pwdTime    : Nat := 200
  pwdIgnore  : Bool := false       -- PWD_ACTION: false DROP, true IGNORE
  pwdRestore : Nat := 200
  paused     : Tab (Option Pause) := []
  pwdActive  : Tab Bool := []
  lastPause  : Tab Nat := []       -- cycle of the last received pause with a nonzero time, by priority
  xoff       : Tab Bool := []      -- XOFF sent and not yet released, by priority (R52)
  sent       : Option (Nat × Nat) := none  -- the latest pause or PFC frame sent: priority (0 for link pause) and time
  heldAt     : Tab Nat := []       -- cycle since which the queues of a priority have held a frame without interruption (R56)
  deriving DecidableEq, Repr

/-- Preemption of a port (R59 to R63). VERIFY_STATE: 0 disabled, 1 initial, 2 verifying, 3 succeeded, 4 failed. -/
structure PortPre where
  en         : Bool := false
  pmacMask   : Nat := 0
  addFrag    : Nat := 0
  verifyDis  : Bool := false
  verifyTime : Nat := 10
  verify     : Nat := 0
  attempts   : Nat := 0
  active     : Bool := false
  responds   : Nat := 0            -- respond mPackets sent
  deriving DecidableEq, Repr

/-- Damping and LPI of a port (R64 to R71). Lane counts are log2. DESIGN CHOICE, log 26. -/
structure PortDamp where
  en        : Bool := false
  window    : Nat := 100
  wake      : Nat := 32
  agreed    : Bool := false
  capsSent  : Nat := 0             -- capability sets sent since link up, at most 10
  txLanes   : Nat := 0
  rxLanes   : Nat := 0
  shed      : Option Nat := none   -- a shed is proposed, to this lane count
  restoring : Bool := false        -- a restore has begun and the partner has not reported lock
  rxMarker  : Option Nat := none   -- the receiver granted a shed to this lane count
  winBits   : Nat := 0             -- bits sent in the present window
  winDeep   : Bool := false        -- some queue has held more than 16 cells in the present window
  recent    : List (Nat × Nat) := []  -- (cycle, bits) sent over the last 2 µs
  upAt      : Nat := 0             -- cycle of the last link up
  lpiEn     : Bool := false
  lpiIdle   : Nat := 20
  idleAt    : Nat := 0             -- cycle at which the port last queued a copy or ended one (R71)
  txLpi     : Bool := false
  rxLpi     : Bool := false
  waking    : Bool := false
  deriving DecidableEq, Repr

/-- Settings of a plain port that its data path acts on from its transition (R434, R435).
DESIGN CHOICE, log 25. -/
structure PortKept where
  cfg  : PortCfg := {}
  fc   : PortFc := {}
  pre  : PortPre := {}
  damp : PortDamp := {}
  deriving DecidableEq, Repr

/-- A front port. -/
structure PortState where
  cfg     : PortCfg := {}
  fc      : PortFc := {}
  pre     : PortPre := {}
  damp    : PortDamp := {}
  linkUp  : Bool := false
  pcsLock : Bool := false
  rxFault : Bool := false
  plainGroup : Option Nat := none  -- GROUP of a brought-up plain port (R430)
  kept    : Option PortKept := none  -- its full-service settings while it is a plain port
  deriving DecidableEq, Repr

/-- PRBS test of a lane (R77, R78). -/
structure Prbs where
  pattern : Nat := 0
  dir     : Nat := 0
  lock    : Bool := false
  errors  : Nat := 0
  bits    : Nat := 0
  lockAt  : Nat := 0               -- cycle of the present lock
  newErrs : Nat := 0               -- bit errors since then, brought up to date at cycle `errAt`
  errAt   : Nat := 0
  deriving DecidableEq, Repr

/-- Lane map and polarity of an octet (R41). -/
structure LaneMap where
  phys     : List Nat := [0, 1, 2, 3, 4, 5, 6, 7]
  polarity : Nat := 0
  deriving DecidableEq, Repr

/-- A lookup result as a slot holds it (R117): hit, poison, data word, and which entry it was. -/
structure LkpResult where
  hit    : Bool := false
  poison : Bool := false
  data   : Nat := 0
  loc    : Nat := 0
  wide   : Bool := false           -- the entry found is 256 bits wide
  deriving DecidableEq, Repr

/-- A lookup slot: never used, its request in flight (table, key, source lookup), or its result. -/
inductive Slot where
  | empty
  | asked (table key : Nat) (src : Bool)
  | got (table key : Nat) (src : Bool) (r : LkpResult)
  deriving DecidableEq, Repr

/-- The range slot (R119): never used, its eight fields in flight, or what the 512 comparators reported, none where field absent. -/
inductive RangeSlot where
  | empty
  | asked (fields : List Nat) (present : Nat)
  | got (reports : List (Option Bool))
  deriving DecidableEq, Repr

/-- A Harp thread that parses a frame (R84, R87 to R90). -/
structure Thread where
  th      : Nat                    -- engine × 8 + thread
  bank    : Nat
  pc      : Nat
  regs    : List W32
  issues  : Nat := 0
  lkps    : Nat := 0
  rngs    : Nat := 0
  slot0   : Slot := .empty
  slot1   : Slot := .empty
  range   : RangeSlot := .empty
  record  : Option (List W32) := none
  done    : Bool := false          -- it has ended; requests still in flight land here (R124)
  deriving DecidableEq, Repr

/-- A physical engine's condition (R104, R105, R107): not yet checked, checked good, in its check, waiting for its threads to end before a
check, or found bad. -/
inductive EngineCond where
  | untested | good | checking | draining | bad
  deriving DecidableEq, Repr

/-- One program bank: the words written into it and the image's fields. DESIGN CHOICE, log 2. -/
structure Bank where
  words   : Tab W64 := []
  count   : Nat := 0
  entry   : Nat := 0
  tables  : Nat := 0
  buildId : W32 := 0#32
  undefinedImage : Bool := false   -- a HARP.LOAD ended in HOST_FAULT (R381)
  alarm    : Bool := false         -- a poisoned word of it has been consumed (R96)
  deriving DecidableEq, Repr

/-- The Harp of one slice. Engines 0-63 are mapped numbers; physical engine numbers stand in `map`.
DESIGN CHOICE, log 2. -/
structure HarpState where
  bank0    : Bank := {}
  bank1    : Bank := {}
  active   : Nat := 0
  swap     : Bool := false         -- SWAP_PENDING
  raTpid   : Nat := 0x9100
  seed     : W32 := 0xFFFFFFFF#32
  threads  : Tab (Option Nat) := []      -- chit in parse, by engine * 8 + thread
  map      : Tab Nat := []         -- repair map: engine number to 1 + physical engine (0: the engine of that number), 69 where none is left
  conds    : Tab EngineCond := []  -- by physical engine, 0-67
  issued   : Tab Nat := []         -- by engine: 1 + the thread that issued last (R86)
  waiting  : List Nat := []        -- chits held by the dispatcher, in order (R85)
  deriving DecidableEq, Repr

end Sys2Proof.Machine
end

