-- ==== Sys2Proof/Machine/FrameState.lean ====
section
/-! DEFINITION. The state of frames in the core: result records, chits with their escrow and chains, copies, and the state of
classification, the exact-match space, the meters and tenant policers, the Mint, the Teller and the Ledger (chapters 05 to 11). -/
namespace Sys2Proof.Machine

/-- The result record of Table 03-4, in fields. -/
structure Rec where
  cls        : Nat := 0
  bcls       : Nat := 0
  colorIn    : Nat := 0
  action     : Nat := 0          -- 0 forward, 1 drop, 2 trap, 3 redirect
  mirror     : Nat := 0
  mirrorEn   : Bool := false
  learnEn    : Bool := false
  tenant     : Nat := 0
  segment    : Nat := 0
  trapReason : Nat := 0
  meter0     : Nat := 0
  meter0En   : Bool := false
  meter1     : Nat := 0
  meter1En   : Bool := false
  dest       : Nat := 0
  destKind   : Nat := 0          -- 0 port, 1 LAG, 2 ECMP, 3 segment miss action
  hash       : Nat := 0
  l3Off      : Nat := 0
  l4Off      : Nat := 0
  ipv4       : Bool := false
  ipv6       : Bool := false
  ect        : Bool := false
  frag       : Bool := false
  innerBad   : Bool := false
  ptp        : Bool := false
  tagged     : Bool := false
  rule       : Nat := 0
  ruleHit    : Bool := false
  raConfirm  : Bool := false
  deriving DecidableEq, Repr

/-- What a copy is (R172, R173, R176, R249). -/
inductive CopyKind where
  | express
  | cut
  | forward
  | mirror (session : Nat)
  deriving DecidableEq, Repr

/-- A copy of a frame, queued or in progress. `enq` is the device time of its enqueue, `again` that an earlier sending underran (R45). -/
structure Copy where
  kind  : CopyKind
  chit  : Nat
  queue : Nat
  cells : Nat
  len   : Nat
  enq   : Nat
  again : Bool := false
  deriving DecidableEq, Repr

/-- A copy in progress on a port. `sent` counts frame bytes of earlier fragments; `fcs` tells that the FCS went out, and good or inverted;
`bytes` is the frame as the port sends it. -/
structure Tx where
  copy    : Copy
  txAt    : Nat                  -- device time at the end of the first SFD (R287)
  fragAt  : Nat                  -- device time at which the present fragment began
  sent    : Nat := 0
  fcs     : Option Bool := none
  frags   : Nat := 0
  bytes   : List Byte := []
  closeAt : Option Nat := none   -- a pMAC frame: the instant at which its gate closes under the list it started under (R239, R242)
  began   : Bool := true         -- the egress MAC has started it; before that its bytes gather in the transmit bridge
  bridge  : Nat := 0             -- bytes that the transmit bridge held at the latest look (R44)
  deriving DecidableEq, Repr

/-- A frame that a MAC is receiving: the chit it took, with its allocation order, or none where R25 dropped it; its bytes; and whether the
MAC has already counted it and discards the rest (R43, R46). DESIGN CHOICE, log 22. -/
structure RxFrame where
  chit  : Option (Nat × Nat)
  bytes : List Byte
  cut   : Bool := false
  deriving DecidableEq, Repr

/-- The receive side of a port: the eMAC's frame, the pMAC frame being assembled and its last fragment count (R63), MAC control frames
received and not yet acted on (R53), and what near-end loopback returns (R76): each frame with whether it was a pMAC frame.
DESIGN CHOICE, log 22 and 60. -/
structure RxPort where
  emac : Option RxFrame := none
  pmac : Option RxFrame := none
  frag : Nat := 0
  ctls : List RxFrame := []
  loop : List (Bool × List Byte) := []
  deriving DecidableEq, Repr

/-- Where a chit stands (R24, R178). -/
inductive ChitStatus where
  | provisional | settled | voided
  deriving DecidableEq, Repr

/-- What an inject descriptor adds to its frame (Table 15-5). -/
structure InjectInfo where
  tsReq   : Bool
  oneStep : Bool
  tsId    : Nat
  direct  : Bool
  defSeg  : Nat
  defCls  : Nat
  tagged  : Bool
  deriving DecidableEq, Repr

/-- A learn notice held in escrow (R118). -/
structure LearnEscrow where
  table   : Nat
  key     : Nat
  move    : Bool
  oldData : Nat
  deriving DecidableEq, Repr

/-- A hit held in escrow (R162): replica, location, table and key. -/
structure HitEscrow where
  quad  : Nat
  loc   : Nat
  table : Nat
  key   : Nat
  deriving DecidableEq, Repr

/-- A meter debit held in escrow: meter of the slice and the amounts taken from T1 and T2. -/
structure DebitEscrow where
  meter : Nat
  t1    : Nat
  t2    : Nat
  deriving DecidableEq, Repr

/-- A frame's chit (R24) with its frame, its chain and head-cell counts (R206, R219), its parse, its record and its escrow (R179). -/
structure Chit where
  status    : ChitStatus := .provisional
  port      : Nat
  pmac      : Bool := false
  station   : Option Nat := none
  bytes     : List Byte
  rxAt      : Nat                -- device time latched at the end of the SFD (R287)
  order     : Nat                -- allocation order, over the whole device
  depth     : Nat := 0
  ra        : RaCfg := {}
  epoch     : Nat := 0
  plain     : Bool := false
  inject    : Option InjectInfo := none
  preDone   : Bool := false
  tagged    : Bool := false
  provCls   : Nat := 0
  raLaunched : Bool := false
  raAsked   : Option (Nat × Nat) := none      -- run-ahead lookup in flight: table and key
  raDec     : Option (Nat × Nat) := none      -- run-ahead decision: port and queue
  decided   : Bool := false                   -- its decision instant (R172) has passed
  chain     : List (Nat × Bool) := []         -- cells in chain order, with BORROW
  pool      : Nat := 0
  pri       : Nat := 0
  hold      : Bool := false
  refs      : Nat := 0
  ended     : Bool := false
  fcsGood   : Bool := false
  waited    : Bool := false                   -- counted once in HRP_DISPATCH_WAIT
  disp      : Option Nat := none              -- dispatch order within the slice
  setVer    : Nat := 0                        -- comparator and rule set it uses (R142)
  seed      : W32 := 0xFFFFFFFF#32            -- HSH seed of its dispatch (R122)
  parse     : Option Thread := none
  record    : Option (List W32) := none       -- the record its thread ended with
  cls       : Option Rec := none              -- the classified record
  admitted  : Bool := false
  color     : Nat := 0
  pcpDei    : Option Nat := none              -- rewrite of PCP and DEI: PCP in [2:0], DEI in [3]
  dscp      : Option Nat := none
  debits    : List DebitEscrow := []
  purse     : Option (Nat × Nat) := none      -- tenant and amount debited
  learns    : List LearnEscrow := []
  hits      : List HitEscrow := []
  mirrorSel : Option Nat := none              -- session that chose the frame (R249)
  tally     : List (Nat × Nat) := []          -- settled Tally events: counter and amount
  requested : Bool := false                   -- the enqueue is requested (R176)
  specPort  : Option Nat := none              -- port of the express or cut-through copy it received
  specOn    : Bool := false                   -- that copy is still under way
  enqueued  : Bool := false
  deriving DecidableEq, Repr

/-! ### Classification (chapter 05) -/

/-- Comparators and rules as Tables 05-1 and 05-2 store them: two words a comparator, eight a rule. -/
structure ClassSet where
  ranges : Tab (W32 × W32) := []
  rules  : Tab (List W32) := []
  deriving DecidableEq, Repr

/-- Classification of one slice. -/
structure ClassState where
  now     : ClassSet := {}
  ver     : Nat := 0
  olds    : List (Nat × ClassSet) := []       -- earlier sets that frames in parse still use
  next    : Option ClassSet := none           -- accepted and not yet applied (UPDATE_PENDING)
  tmapEn  : Bool := false
  tmapTab : Nat := 0
  deriving DecidableEq, Repr

/-! ### Lookup unit (chapters 06 and 07) -/

/-- The lookup unit of one slice. RWB fields hold the word as written and the word in force. -/
structure LkpState where
  cfg      : W32 := 0#32                      -- LKP_CFG as written
  cfgAct   : W32 := 0#32
  spec     : W32 := 0#32                      -- LKP_SPEC_CFG as written
  specAct  : W32 := 0#32
  hwm      : Nat := 0
  scanned  : Bool := true                     -- the examination of R184 has finished
  filter   : List (Nat × Nat × Nat) := []     -- learn filter: table, key, instant of entry
  mirCount : Tab Nat := []                    -- mirror counts by session (R249)
  dispSeq  : Nat := 0
  deriving DecidableEq, Repr

/-- An entry of the exact-match space (Table 06-3); `hit` is a mask over the four replicas, `hb` tells that it lies in its bucket B. -/
structure Entry where
  tid  : Nat
  wide : Bool
  data : Nat
  key  : Nat
  hit  : Nat := 0
  hb   : Bool := false
  deriving DecidableEq, Repr

/-- Configuration of a logical table (R146). -/
structure TabCfg where
  kind  : Nat := 0
  width : Nat := 0
  quota : Nat := 0
  deriving DecidableEq, Repr

/-- An open walk (R158 to R160): its cursor value, tables, whether HITS, the next location, the instant of its last command, and its list
of moved keys with AGAIN true and CARRY false. -/
structure Walk where
  cursor : Nat
  mask   : Nat
  pos    : Nat
  last   : Nat
  moved  : List (Nat × Nat × Bool) := []
  deriving DecidableEq, Repr

/-- A write of the table engine, made in all four replicas before the next one starts (R154): the copy and the delete of a move from `a` to `b`; a
new entry with the outcome of its insertion; a removal; the return of a stash entry that a deletion tries (R156); the record that a bulk command
writes back to host memory. -/
inductive TblWrite where
  | copy (a b : Nat)
  | del (a b : Nat)
  | place (e : Entry) (loc code : Nat)
  | remove (loc : Nat)
  | ret
  | result (at_ : Nat) (bytes : List Byte)
  deriving DecidableEq, Repr

/-- The rest of a bulk command: 0 INSERT, 1 DELETE, 2 SEARCH; where its next record lies, how many are left, and the outcomes so far. -/
structure Bulk where
  op    : Nat
  at_   : Nat
  left  : Nat
  codes : List Nat := []
  deriving DecidableEq, Repr

/-- A TABLE command in execution (R161): the writes planned, the rest of a bulk command, and its outcome. -/
structure TblWork where
  writes : List TblWrite
  bulk   : Option Bulk := none
  code   : Nat := 0
  res    : List Byte := []
  deriving DecidableEq, Repr

/-- The table engine and the space. Stash slot k lies at location 2^31 + k. DESIGN CHOICE, log 2. -/
structure TblState where
  slots   : Tab (Option Entry) := []
  cfgs    : Tab (Option TabCfg) := []
  seedA   : Nat := 0xFFFFFFFFFFFFFFFF
  seedB   : Nat := 0x5555555555555555
  seedSet : Bool := false
  walks   : List Walk := []
  cursors : Nat := 0                          -- walks opened so far: a cursor's value is its number
  work    : Option TblWork := none            -- the command in execution
  fixup   : List TblWrite := []               -- the writes that R157 completes after a warm reset
  reported : List Nat := []                   -- locations that lookups have reported poisoned (R152)
  deriving DecidableEq, Repr

/-! ### Policing (chapter 08) -/

/-- A meter entry (Table 08-1). -/
structure MeterCfg where
  mode   : Nat := 0
  aware  : Bool := false
  yDrop  : Bool := false
  rDrop  : Bool := false
  remark : Nat := 0
  prof   : Nat := 0
  lenAdj : Nat := 0                           -- 8 bits, two's complement
  cir    : Nat := 0
  rate2  : Nat := 0
  bs1    : Nat := 0
  bs2    : Nat := 0
  deriving DecidableEq, Repr

/-- A meter: entry in force, the acknowledged entry not yet applied with its RESET, buckets and LAST. -/
structure Meter where
  cfg  : MeterCfg := {}
  next : Option (MeterCfg × Bool) := none
  t1   : Nat := 0
  t2   : Nat := 0
  last : Nat := 0
  deriving DecidableEq, Repr

/-- A tenant policer: settings as set and as in force, Treasury balance, purses, demands and first slice (R197, R198). -/
structure Tenant where
  en       : Bool := false
  rate     : Nat := 0
  burst    : Nat := 0
  actEn    : Bool := false
  actRate  : Nat := 0
  actBurst : Nat := 0
  treasury : Int := 0
  purses   : Tab Int := []
  demand   : Tab Nat := []
  first    : Nat := 0
  passTreasury : Int := 0                     -- Treasury balance and purses at the latest pass boundary
  passPurses : Tab Int := []
  deriving DecidableEq, Repr

/-! ### The Mint (chapter 09) -/

/-- An allocated cell (R208): OWNER, GEN, POOL, BORROW, and the ingress port × 8 + priority it is counted for (R216). -/
structure Cell where
  pair   : Nat
  owner  : Nat
  gen    : Nat
  pool   : Nat
  borrow : Bool
  deriving DecidableEq, Repr

/-- A pool (R209 to R216). Thresholds in units of 16 cells; `contrib` counts cells by port × 8 + priority, `stopped` the pairs it stops. -/
structure Pool where
  kind    : Nat := 0
  size    : Nat := 0
  warn    : Nat := 0
  stop    : Nat := 0
  resume  : Nat := 0
  fair    : Nat := 0
  used    : Nat := 0
  borrowed : Nat := 0
  state   : Nat := 0
  contrib : Tab Nat := []
  stopped : List Nat := []
  deriving DecidableEq, Repr

/-- The Mint. Pool 0's SIZE field is unused: its capacity is computed (R209). Pools 0 and 31 stand as Table 09-3 and R227 give.
DESIGN CHOICE, log 2. -/
structure MintState where
  split    : Nat := 0
  cells    : Tab (Option Cell) := []
  pools    : Tab Pool := [(0, { kind := 1 }), (31, { kind := 3, size := 8192 })]
  portMap  : Tab (List Nat) := []             -- 16 bytes of Table 09-4 by port
  yelFloor : Nat := 0
  redFloor : Nat := 0
  marks    : Tab Nat := []                    -- MARK_CELLS by 16 × port + queue
  reclaim  : Bool := false
  deriving DecidableEq, Repr

/-! ### The Teller (chapter 10) -/

/-- A shaper (R235): S is brought up to date when it is used; `at_` is the cycle it stands at. -/
structure Shaper where
  rate  : Nat := 0
  burst : Nat := 0
  s     : Int := 0
  at_   : Nat := 0
  deriving DecidableEq, Repr

/-- A queue's or a group's settings and DWRR state (R232). -/
structure Node where
  group   : Nat := 0                          -- QGROUP of a queue
  strict  : Bool := true
  quantum : Nat := 2048
  shaper  : Shaper := {}
  deficit : Nat := 0
  fresh   : Bool := true
  deriving DecidableEq, Repr

/-- A gate control list in force or waiting (R238): trigger, entries (GATES, INTERVAL). -/
structure GateList where
  trigger : Nat
  entries : List (Nat × Nat)
  deriving DecidableEq, Repr

/-- The gates of a port: the operational list, the entry in force and when it began, the change that waits, and the firing counts of the
triggers already acted on. -/
structure Gate where
  oper    : Option GateList := none
  entry   : Nat := 0
  entryAt : Nat := 0
  cycleAt : Nat := 0
  pending : Option (Option GateList) := none
  seen    : Nat := 0                          -- firings of the operational list's trigger acted on
  pendSeen : Nat := 0                         -- firings of the pending list's trigger when it was accepted
  deriving DecidableEq, Repr

/-- The Teller's and the transmit side's state of one port. Queues default to the values of R251. -/
structure TxPort where
  queues  : Tab (List Copy) := []
  nodes   : Tab (Option Node) := []           -- queues 0-15, groups at 16-19
  shaper  : Shaper := {}
  ptrs    : Tab Nat := []                     -- DWRR pointer of each group, and of the port at 4
  classMap : List Nat := [0, 1, 2, 3, 4, 5, 6, 7, 8, 9, 10, 11, 12, 13, 14, 15]
  gate    : Gate := {}
  tx      : Option Tx := none
  susp    : Option Tx := none                 -- suspended remainder of a pMAC frame (R233, R242)
  peak    : Tab Nat := []
  wire    : List Byte := []                   -- the latest frame sent with a good FCS, as sent
  deriving DecidableEq, Repr

/-- A LAG or ECMP group (R247): members as words, and the member index of each bucket; the bucket writes of a change still to be made, each a
bucket and its new member index, and the index of the member that leaves when they are. -/
structure Group where
  members : List Nat := []
  buckets : List Nat := []
  moves   : List (Nat × Nat) := []
  leaving : Option Nat := none
  deriving DecidableEq, Repr

/-- A mirror session (R249): kind 0 none, 1 port, 2 ring. -/
structure Mirror where
  kind   : Nat := 0
  port   : Nat := 0
  sel    : Nat := 0                           -- queue or ring
  sample : Nat := 1
  deriving DecidableEq, Repr

/-- Telemetry of a slice (R245): trigger and queue mask in force and as set, the mask by 16 × local port + queue. -/
structure Telemetry where
  on      : Bool := false
  trigger : Nat := 0
  mask    : List W32 := []
  next    : Option (Nat × List W32 × Nat) := none   -- trigger, mask, and the trigger's firings when it was set
  seen    : Nat := 0
  deriving DecidableEq, Repr

/-! ### The Ledger (chapter 11) -/

/-- A tenant row, or its deltas in a slice cache: twelve (frames, octets) pairs and its marks (R255, R256, R260, R264). -/
structure Row where
  pairs      : Tab (Nat × Nat) := []
  saturated  : Bool := false
  unreliable : Bool := false
  lateIn     : Bool := false
  deriving DecidableEq, Repr

/-- A bank (R258): state code of Table 11-3, first epoch and span, the boundaries' device times, rows, energy, marks. -/
structure Bank3 where
  state    : Nat := 0
  epoch    : Nat := 0
  span     : Nat := 1
  startAt  : Nat := 0
  endAt    : Nat := 0
  closedAt : Nat := 0                         -- cycle of the boundary that closed it
  grace    : Bool := false                    -- its grace window is open
  rows     : Tab Row := []
  energy   : Tab Nat := []                    -- µJ by outlet
  gaps     : List Nat := []                   -- outlets not sampled for some interval (R267)
  interrupted : Bool := false
  plain    : Tab Row := []                    -- plain records by port (R275)
  map      : Tab W32 := []                    -- the outlet map in force until it closed (R266)
  deriving DecidableEq, Repr

/-- A drained epoch in the archive: its record bodies, those poisoned, and how many records have been sent since it was last due. -/
structure ArchEpoch where
  epoch   : Nat
  records : List (List Byte)
  sent    : Nat := 0
  once    : Bool := false                     -- sent in full at least once
  deriving DecidableEq, Repr

/-- A drain in progress (R261): its bank, the records still to write, and those written. -/
structure Drain where
  bank    : Nat
  todo    : List (List Byte)
  done    : List (List Byte) := []
  paused  : Bool := false
  deriving DecidableEq, Repr

/-- A firing that the Ledger has not acted on yet: its trigger, the instants that passed with it, the device time of the last and the
cycle of the firing. -/
structure Instant where
  trig : Nat
  n    : Nat
  at_  : Nat
  cycle : Nat
  deriving DecidableEq, Repr

/-- The Ledger. DESIGN CHOICE, log 2. -/
structure LedgerState where
  banks    : Tab Bank3 := [(0, { state := 1 })]
  open_    : Nat := 0
  epoch    : Nat := 0
  caches   : Tab (List (Nat × Nat × Row)) := []  -- by slice: (bank, tenant, deltas), latest used first
  sealed   : List Nat := []                   -- SEALED banks in order of sealing
  drain    : Option Drain := none
  arch     : List ArchEpoch := []
  trigger  : Nat := 0
  trigSet  : Bool := false
  trigNext : Option Nat := none               -- a newly named trigger, in force from the next boundary of the old one
  archSize : Nat := 0                         -- units of 64 MiB
  keyId    : Nat := 0
  key      : List Byte := []
  source   : Nat := 0
  mapHeld  : Tab W32 := []                    -- LDG_OUTLET_MAP as written
  mapAct   : Tab W32 := []
  due      : List Instant := []               -- instants of the ledger trigger, or of the newly named one, still to be acted on
  plain    : Tab Row := []                    -- plain counters by port: pairs 0, 4 and 8
  plainPending : Bool := false
  zero     : Bool := true                     -- epoch 0 has not ended (R275, R276)
  merging  : Bool := false                    -- boundaries merge until the last slice is in full service (R263, R276)
  deriving DecidableEq, Repr

end Sys2Proof.Machine
end

