-- ==== Sys2Proof/Machine/MemState.lean ====
section
/-! DEFINITION. The state of memory integrity and the LPDDR5X controller (chapter 20). -/
namespace Sys2Proof.Machine

/-- An entry of the error log and history (R454): class, UNCORR, syndrome, word address, NS32. -/
structure MemLog where
  cls    : Nat
  uncorr : Bool
  synd   : Nat
  addr   : Nat
  ts     : Nat
  deriving DecidableEq, Repr

/-- A class's scrubber (R456, R457). -/
structure Scrub where
  en   : Bool := true
  warn : Nat := 0
  lap  : Nat := 0
  slow : Bool := false
  pos  : Nat := 0                  -- next word address
  lapAt : Nat := 0                 -- cycle at which the lap began
  deriving DecidableEq, Repr

/-- Memory integrity. -/
structure MemState where
  poison  : Tab Bool := []         -- words marked poison, by class × 2^36 + address (R452)
  scrubs  : Tab Scrub := []
  thr     : Nat := 3               -- REMAP_THRESHOLD
  remaps  : List (Nat × Nat) := [] -- active remap entries: class and address (R458)
  full    : Nat := 0               -- REMAP_FULL
  log     : List MemLog := []      -- the 64-entry error log
  history : List MemLog := []      -- the latest 1,024 entries, newest first
  detect  : List (Nat × Nat × Nat) := []  -- detections of the last 24 h: class, address, device time
  lastErr : W32 := 0#32
  lastLo  : W32 := 0#32
  lastHi  : W32 := 0#32
  filling : Option Nat := none     -- classes the fill engine writes
  ddrReady : Bool := false
  ddrFail : Bool := false
  rate    : Nat := 0
  density : Nat := 0
  deriving DecidableEq, Repr

end Sys2Proof.Machine
end

