-- ==== Sys2Proof/Machine/PairState.lean ====
section
/-! DEFINITION. The state of the control clusters, the device pair and group mode (chapter 17). -/
namespace Sys2Proof.Machine

/-- One group role as a member sees it (R413): whether this member holds it, the holder it knows, the highest epoch seen, when its own
lease ends and when the lease it last voted for ends (device time), whom it last voted for and in which epoch, and the votes it has gathered
in its present request or renewal. -/
structure RoleState where
  hold     : Bool := false
  holder   : Option Nat := none
  epoch    : Nat := 0
  leaseEnd : Nat := 0
  votedFor : Option (Nat × Nat) := none    -- epoch and member
  votedEnd : Nat := 0
  votes    : List Nat := []
  deriving DecidableEq, Repr

/-- Clusters, pair and group. -/
structure PairState where
  owner     : Nat := 0             -- 0 CC-A, 1 CC-B
  cclEpoch  : Nat := 0
  ready     : Bool := false        -- STANDBY_READY
  switching : Bool := false
  swapping  : Option Nat := none   -- a role swap is under way: the cycle of its step 1, from its step 2 on of that step
  handed    : Bool := false        -- step 2 of the swap has handed the cell over
  swapHours : Nat := 24
  swapAt    : Nat := 0             -- device second at which the present SWAP_HOURS interval began
  fedAt     : Nat := 0             -- cycle of the last feed of the cluster watchdog
  copy      : List JournalEntry := []   -- the standby's copy of the journal
  copyEpoch : Nat := 0
  checkAt   : Nat := 0             -- cycle of the last checkpoint
  mode      : Nat := 0             -- 0 standalone, 1 pair, 2 group
  claimWait : Nat := 1000
  claim     : Bool := false        -- CLAIM_OUT
  peerClaim : Bool := false        -- PEER_CLAIM_IN
  quietAt   : Nat := 0             -- cycle since which PEER_CLAIM_IN has been deasserted
  claimAt   : Nat := 0             -- cycle at which CLAIM_OUT asserted, or a tie resolved
  claimed   : Bool := false        -- a claim has been made since cold reset
  confirmed : Bool := false
  lapsed    : Bool := false
  hbOk      : Bool := false
  hbFirst   : Option Nat := none   -- cycle of the first of the unbroken valid heartbeats
  hbLast    : Option Nat := none   -- cycle of the last valid heartbeat
  stale     : Bool := false
  holdoff   : Bool := false
  holdAt    : Nat := 0
  releasing : Bool := false        -- PAIR.RELEASE waits for the next cycle start
  epoch     : Nat := 0
  peer      : Option PairMsg := none    -- the peer's last heartbeat
  setAt     : Nat := 0             -- cycle at which the standby last received a set
  ownerFed  : Nat := 0             -- cycle of the last feed of the owner watchdog
  linkTx    : Bool := false        -- the Rurraso transmitter works: Titimus has run since the reset (Table 18-3)
  hbSent    : Nat := 0             -- heartbeats sent
  lastSent  : Option PairMsg := none    -- the latest heartbeat or mirror message sent
  sentAt    : Nat := 0             -- cycle at which a set was last sent
  groupId   : Nat := 0
  members   : Nat := 0
  ports     : List W32 := []       -- group port mask, sixteen words
  station   : Nat := 0
  role0     : RoleState := {}
  role1     : RoleState := {}
  sent      : List GroupMsg := []  -- group messages that Titimus has sent and nobody has taken
  deriving DecidableEq, Repr

end Sys2Proof.Machine
end

