-- ==== Sys2Proof/Machine/PowerState.lean ====
section
/-! DEFINITION. The state of the power domains and wake sources (chapter 19). -/
namespace Sys2Proof.Machine

/-- A power-state request in progress (R441): ON or OFF, the domains still to go in the order of R442 (the first is in progress), the domains
it named, those whose pads Titimus releases at its completion (R445), the port clusters refused under R448, ascending, the wake sources that
issued it (0 for a command), whether a command is among its issuers, the cycle it began in and the one the domain in progress began in. -/
structure PwrReq where
  on       : Bool
  todo     : List Nat
  mask     : Nat
  rel      : Nat := 0
  conflict : List Nat := []
  sources  : Nat := 0
  command  : Bool := false
  began    : Nat := 0
  since    : Nat := 0
  deriving DecidableEq, Repr

/-- Power. Masks hold bit d for domain d. -/
structure PowerState where
  off         : Nat := 0
  held        : Nat := 0               -- pads held
  req         : Option PwrReq := none
  latched     : Nat := 0               -- domains of the latched wake
  latchedSrc  : Nat := 0
  latchedCmd  : Bool := false          -- a POWER.DOMAIN_SET ON is among the latched requests
  latchedRel  : Nat := 0               -- domains whose pads the latched commands release
  srcEn       : Nat := 0
  wakeTrig    : Nat := 0
  lsd         : Nat := 0
  wakeDomains : Nat := 0x3FFFFFFFFF
  wakeLast    : Nat := 0
  wakeTime    : Nat := 0
  doze        : Option Nat := none     -- the request's last domain, the owner cluster, is to go off 1 ms after this cycle (R444)
  seen        : Nat := 0               -- firings of WAKE_TRIG acted on
  tripSeen    : Nat := 0               -- console events acted on
  peerWakes   : Nat := 0               -- wake requests sent to the peer over Rurraso
  bell        : Bool := false          -- the host has rung a doorbell in Doze (Table 19-2)
  wokenAt     : Option Nat := none     -- the cycle the latest wake by a source began in
  retained    : Tab W32 := []          -- the register words of switched-off domains, by F0 address, as they went off (R439); unlisted: 0
  deriving DecidableEq, Repr

end Sys2Proof.Machine
end

