-- ==== Sys2Proof/Machine/TallyState.lean ====
section
/-! DEFINITION. The state of the Tally engine (chapter 22). -/
namespace Sys2Proof.Machine

/-- A stream (R488): its settings, export indices, the records in its store (oldest first) and how many records it has made. -/
structure Stream where
  en     : Bool := false
  mib    : Nat := 0
  base   : Nat := 0
  ulog2  : Nat := 0
  wb     : Nat := 0
  prod   : Nat := 0
  cons   : Nat := 0
  store  : List (List Byte) := []
  seq    : Nat := 0
  deriving DecidableEq, Repr

/-- What a sweep photographed (R484, R486): fixed counters, configurable counters, instances in switched-off domains, and device time. -/
structure Photo where
  ctr : Tab W64 := []
  cnt : Tab (Nat × Bool) := []
  off : List Nat := []
  at_ : Nat := 0
  deriving DecidableEq, Repr

/-- The Tally engine. Counters and selections are keyed by 8 × instance + counter. -/
structure TalState where
  sel    : Tab W32 := []
  cnt    : Tab (Nat × Bool) := []
  period : Nat := 0                -- SWEEP_PERIOD in µs
  sweep  : Nat := 0                -- TAL_SWEEP_NO
  due    : Nat := 0                -- the whole multiple of the period at which the last sweep stood
  mirror : Option Photo := none    -- the latest completed sweep, if any
  unpriv : Nat := 0
  streams : Tab Stream := []
  deriving DecidableEq, Repr

end Sys2Proof.Machine
end

