-- ==== Sys2Proof/Machine/TimeState.lean ====
section
/-! DEFINITION. The state of the time block (chapter 12). -/
namespace Sys2Proof.Machine

/-- A trigger's configuration words (R295): EN, START and PERIOD. -/
structure TrigCfg where
  en      : Bool := false
  startNs : Nat := 0
  startSec : Nat := 0
  period  : Nat := 0
  deriving DecidableEq, Repr

/-- A trigger: the words as last written, whether they differ from those in force since a tick, the words in force, the next
instant in nanoseconds of the total of device time, and the latest firing: how many firings, its instant and its N (R285). -/
structure Trigger where
  held   : TrigCfg := {}
  dirty  : Bool := false
  act    : TrigCfg := {}
  next   : Option Nat := none
  fires  : Nat := 0
  lastAt : Nat := 0
  lastN  : Nat := 0
  deriving DecidableEq, Repr

/-- An entry of a TX timestamp queue (R293). -/
structure TsqEntry where
  tsId : Nat
  port : Nat
  ts   : Nat
  deriving DecidableEq, Repr

/-- A TX timestamp queue, its latched timestamp and TSQ_LOST. -/
structure Tsq where
  entries : List TsqEntry := []
  latch   : Nat := 0
  lost    : Nat := 0
  deriving DecidableEq, Repr

/-- An event input (R299): MODE, EDGE and ARM_TRIG as written and in force, whether it is armed, its queue and TIM_EV_TS. -/
structure EvInput where
  held  : W32 := 0#32
  act   : W32 := 0#32
  armed : Bool := false
  queue : List Nat := []
  latch : Nat := 0
  deriving DecidableEq, Repr

/-- The latched words of a read of TIM_NOW_NS (R286). -/
structure NowLatch where
  secLo : W32 := 0#32
  secHi : W32 := 0#32
  frac  : W32 := 0#32
  ns32  : W32 := 0#32
  deriving DecidableEq, Repr

/-- The time block. -/
structure TimeState where
  sec       : Nat := 0
  ns        : Nat := 0
  frac      : Nat := 0
  incr      : Nat := 0x100000000
  incrLo    : W32 := 0#32          -- TIM_INCR_LO as last written
  incrHi    : W32 := 1#32          -- TIM_INCR_HI as last written
  incrOld   : W32 × W32 := (0#32, 1#32)   -- the pair in force: (LO, HI)
  incrCommit : Option (W32 × W32) := none  -- the committed pair (LO, HI) that awaits the tick (R282)
  stepLo    : W32 := 0#32
  stepHi    : W32 := 0#32
  stepPending : Bool := false
  clkSrc    : Nat := 0             -- CLK_SRC as last written
  clkAct    : Nat := 0             -- CLK_SRC in force
  lock      : Bool := false
  now0      : NowLatch := {}       -- F0's latches
  now1      : NowLatch := {}       -- F1's latches
  ppsHeld   : W32 := 0#32          -- TIM_PPS_CFG as last written
  ppsAct    : W32 := 0#32
  ppsOut    : Bool := false        -- level of the 1PPS output
  ppsAt     : Nat := 0             -- cycle of its last rise
  ppsInNs   : Nat := 0             -- the latest 1PPS input timestamp
  ppsInSec  : Nat := 0
  ppsLatch  : W32 := 0#32          -- TIM_PPS_IN_SEC
  triggers  : Tab Trigger := []
  evs       : Tab EvInput := []
  tsqs      : Tab Tsq := []
  nextTick  : Nat := 1000000       -- the total of device time at which the next tick stands
  deriving DecidableEq, Repr

end Sys2Proof.Machine
end

