-- ==== Sys2Proof/Machine/State.lean ====
section
/-! DEFINITION. The state of the HL1024: everything the manual names, as plain data, and the machine right after reset. -/
namespace Sys2Proof.Machine

/-- The whole machine. -/
structure State where
  /-- Commands that wait, first in, first out. The model's own field. -/
  pending : List Instr := []
  /-- Cycles of the timing clock run so far. The model's own field: it dates instants that device time does not count. -/
  cycles  : Nat := 0
  /-- How many undefined choices have been taken. The model's own field (`Config.freeNat`). -/
  freeCtr : Nat := 0
  /-- What the last read command returned to its reader. -/
  rsp     : W32 := 0#32
  dev     : DevState := {}
  hif     : HifState := {}
  up      : UpState := {}
  tcs     : TcsState := {}
  flash   : Flash := {}
  /-- Mailboxes by channel number: F0 m at m, F1 m at 16 + m. -/
  boxes   : Tab Mailbox := []
  time    : TimeState := {}
  /-- Front ports. -/
  ports   : Tab PortState := []
  /-- Receive side by port. -/
  rxs     : Tab RxPort := []
  /-- Words written to the blocks of lanes that a wider port occupies (R74), by F0 BAR0 offset. -/
  laneWords : Tab W32 := []
  /-- Run-ahead configurations by port (R102, R103). -/
  ras     : Tab RaCfg := []
  /-- Lane maps by octet (R41). -/
  lanes   : Tab LaneMap := []
  /-- PRBS tests by lane (R77). -/
  prbs    : Tab Prbs := []
  /-- Harps by slice. -/
  harps   : Tab HarpState := []
  /-- Chits held, by chit number. -/
  chits   : Tab (Option Chit) := []
  /-- Chit generations (R206). -/
  gens    : Tab Nat := []
  /-- Chits allocated so far. The model's own field: it orders frames. -/
  chitSeq : Nat := 0
  classes : Tab ClassState := []
  lkps    : Tab LkpState := []
  tbl     : TblState := {}
  /-- Meters by slice × 16,384 + meter. -/
  meters  : Tab Meter := []
  /-- Remark profile rows by slice × 64 + profile × 4 + colour. -/
  profiles : Tab Nat := []
  tenants : Tab Tenant := []
  mint    : MintState := {}
  /-- Teller and transmit side by port. -/
  txs     : Tab TxPort := []
  /-- LAG group g at g, ECMP group g at 256 + g. -/
  groups  : Tab Group := []
  mirrors : Tab Mirror := []
  tele    : Tab Telemetry := []
  led     : LedgerState := {}
  /-- Frames sent on a recirculation port and not yet re-entered, by port. -/
  recirc  : Tab (List (List Byte)) := []
  mem     : MemState := {}
  tal     : TalState := {}
  pwr     : PowerState := {}
  con     : ConsoleState := {}
  tmp     : TempoState := {}
  pair    : PairState := {}
  tap     : Tap := {}
  /-- The 64-bit counters, by the F0 BAR0 offset of the low word. -/
  ctr     : Tab W64 := []
  /-- High-word latches of the counters: F0 at the counter's offset, F1 at 2^32 + offset (R469). -/
  latch   : Tab W32 := []
  /-- Host memory, outside the device. A byte nothing has written reads 0. -/
  hostMem : Tab Byte := []
  deriving DecidableEq, Repr

/-- Why the machine stops. DESIGN CHOICE, log 7. -/
inductive Fault where
  /-- Raised by a command whose operand names a unit the HL1024 does not have (a port above 528, a slice above 15, a thread above 7):
  no such event exists. Safe: the model stops where the hardware has nothing to do. -/
  | noSuchUnit
  deriving DecidableEq, Repr

/-- Why a command has no meaning. -/
inductive Refusal where
  /-- Raised by a dispatch arm whose command has no meaning yet. Safe: nothing is claimed of it. -/
  | notModelled (mnemonic : String)
  deriving DecidableEq, Repr

/-- The machine at the release of power-on reset: every field at the value the manual gives for reset, or the value the assumption
log names. DESIGN CHOICE, log 2 and 56. -/
def State.reset : State := {}

/-- The three outcomes of a command. -/
abbrev Out := Host.Outcome State Fault Refusal

end Sys2Proof.Machine
end

