-- ==== Sys2Proof/Machine/Ops.lean ====
section
/-! DEFINITION. The named operations shared by all commands: counters, free choices, device time, host memory, interrupts, the access
error log, events, and the upstream ring's room. -/
namespace Sys2Proof.Machine

/-! ### Units and counters -/

/-- The outcome of a command that names a unit: its effect when the unit exists, otherwise the stop `noSuchUnit`.
DESIGN CHOICE, log 7. -/
def onUnit (there : Bool) (s : State) : Out :=
  if there then .next s else .fault .noSuchUnit

/-- The counter whose low word lies at `a`. -/
def ctrAt (s : State) (a : Nat) : W64 := tabGet 0#64 s.ctr a

/-- Add `n` to the counter at `a`; a counter wraps modulo 2^64 (R469). -/
def bumpBy (a n : Nat) (s : State) : State :=
  { s with ctr := tabSet 0#64 s.ctr a (ctrAt s a + BitVec.ofNat 64 n) }

/-- Add 1 to the counter at `a`. -/
def bump (a : Nat) (s : State) : State := bumpBy a 1 s

/-- Add `n` when `c` holds. -/
def bumpIf (c : Bool) (a : Nat) (s : State) : State := if c then bump a s else s

/-- An undefined choice below `n` (R8), and the state that has counted it. DESIGN CHOICE, log 6 and 32. -/
def freeChoice (n : Nat) (s : State) : Nat × State :=
  (Config.freeBelow s.freeCtr n, { s with freeCtr := s.freeCtr + 1 })

/-- A front port (R1). -/
def isFront (p : Nat) : Bool := decide (p < 512)
/-- A recirculation port 513-528 (R1). -/
def isRecirc (p : Nat) : Bool := decide (513 ≤ p) && decide (p ≤ 528)
/-- A port of the device (R1). -/
def isPort (p : Nat) : Bool := decide (p ≤ 528)
/-- The slice that owns a port (R18, R19). -/
def portSlice (p : Nat) : Nat := if p < 512 then p / 32 else if p = 512 then 0 else p - 513
/-- A slice that no fuse disables (R2). -/
def sliceEnabled (s : State) (k : Nat) : Bool := decide (k < 16) && bit s.dev.fuses.sliceEn k
/-- A port that no fuse disables (R2). -/
def portEnabledByFuse (s : State) (p : Nat) : Bool := isPort p && sliceEnabled s (portSlice p)

/-- Count in a MAC counter of port `p`; only front ports have a MAC block (R74). -/
def bumpMac (f : Nat → Nat) (p : Nat) (n : Nat) (s : State) : State :=
  if isFront p then bumpBy (f p) n s else s

/-! ### Device time (R278-R280) -/

/-- The total of device time in nanoseconds. -/
def timeTotal (s : State) : Nat := s.time.sec * 1000000000 + s.time.ns

/-- NS32: the total of device time modulo 2^32 (R280). -/
def ns32 (s : State) : Nat := timeTotal s % 2 ^ 32

/-- Device time set to a total, FRAC unchanged. -/
def setTimeTotal (n : Nat) (s : State) : State :=
  { s with time := { s.time with sec := n / 1000000000 % 2 ^ 48, ns := n % 1000000000 } }

/-- One cycle of the 1 GHz timing clock: INCR is added to NS:FRAC (R278). DESIGN CHOICE, log 5. -/
def clockCycle (s : State) : State :=
  let v := s.time.ns * 2 ^ 32 + s.time.frac + s.time.incr
  let ns := v / 2 ^ 32
  { s with
    cycles := s.cycles + 1
    time := { s.time with
      frac := v % 2 ^ 32
      ns := if ns ≥ 1000000000 then ns - 1000000000 else ns
      sec := if ns ≥ 1000000000 then (s.time.sec + 1) % 2 ^ 48 else s.time.sec } }

/-! ### Host memory (R346) -/

/-- The device may read and write host memory: only for F0, with Bus Master Enable 1, F0 not in D3hot, and the tunnel up.
DESIGN CHOICE, log 14. -/
def canDma (s : State) : Bool := s.hif.tunnelUp && s.up.cfg0.bme && !s.up.cfg0.d3hot

/-- `n` bytes of host memory from address `a`. DESIGN CHOICE, log 4. -/
def hostRead (s : State) (a n : Nat) : List Byte := tabRead 0#8 s.hostMem a n

/-- Host memory with bytes written from address `a`. DESIGN CHOICE, log 4. -/
def hostWrite (a : Nat) (bs : List Byte) (s : State) : State :=
  { s with hostMem := tabWrite 0#8 s.hostMem a bs }

/-- A 64-bit address from its two register words. -/
def addr64 (lo hi : W32) : Nat := lo.toNat + hi.toNat * 2 ^ 32

/-! ### Interrupts (R350) -/

/-- The MSI-X entry of a vector: F0 vector v at v, F1 vector v at 64 + v. -/
def msixAt (s : State) (v : Nat) : MsixEntry := tabGet {} s.up.msix v

/-- Raise a vector: the message is sent, or its pending bit is set while the vector or its function is masked, MSI-X is disabled or
the function is in D3hot (R346). -/
def raise (v : Nat) (s : State) : State :=
  let e := msixAt s v
  let c := if v < 64 then s.up.cfg0 else s.up.cfg1
  if c.msixEnable && !c.functionMask && !e.masked && !c.d3hot then
    { s with up := { s.up with msgs := tabSet 0 s.up.msgs v (tabGet 0 s.up.msgs v + 1) } }
  else
    { s with up := { s.up with msix := tabSet {} s.up.msix v { e with pending := true } } }

/-- Send the pending messages that nothing masks any more (R350). -/
def unpend (v : Nat) (s : State) : State :=
  let e := msixAt s v
  if e.pending then
    let s := { s with up := { s.up with msix := tabSet {} s.up.msix v { e with pending := false } } }
    raise v s
  else s

/-! ### The access error log (R480, Table 21-5) -/

/-- Causes of Table 21-5. -/
inductive AccCause where
  | byteEn | reserved | boundary | ringCfg | mailbox | domain | hole | refused
  deriving DecidableEq, Repr

/-- The CAUSE code of Table 21-5. -/
def AccCause.code : AccCause → Nat
  | .byteEn => 1 | .reserved => 2 | .boundary => 3 | .ringCfg => 4
  | .mailbox => 5 | .domain => 6 | .hole => 7 | .refused => 8

/-- Data of a logged write: bytes not enabled read 0. -/
def maskBytes (w : W32) (be : BitVec 4) : W32 :=
  packW [(0, if be.getLsbD 0 then fld w 7 0 else 0), (8, if be.getLsbD 1 then fld w 15 8 else 0),
         (16, if be.getLsbD 2 then fld w 23 16 else 0), (24, if be.getLsbD 3 then fld w 31 24 else 0)]

/-- Record a refused F0 access: COUNT rises and the record is replaced (R480). DESIGN CHOICE, log 51. -/
def logAccess (c : AccCause) (bar2 : Bool) (off : Nat) (val : W32) (be : BitVec 4) (s : State) : State :=
  { s with up := { s.up with
      accErr := packW [(0, c.code), (4, b2n bar2), (5, be.toNat), (16, (fld s.up.accErr 31 16 + 1) % 2 ^ 16)]
      accAddr := w32 (off % 2 ^ 28 / 4 * 4)
      accData := maskBytes val be } }

/-! ### The upstream ring's room (R353, R363) -/

/-- used(p, c) of R353 for a ring of 2^`lg` entries. -/
def ringUsed (lg p c : Nat) : Nat := (p + 2 * 2 ^ lg - c % (2 * 2 ^ lg)) % (2 * 2 ^ lg)

/-- Entries that a job takes: a TCS completion carries 28 envelope bytes an entry (R374), every other job one. -/
def jobEntries : UpJob → Nat
  | .completion e => (e.length + 27) / 28
  | _ => 1

/-- The place of a kind in the order of R364; ledger records stand between notices and punted frames. -/
def jobRank : UpJob → Nat
  | .completion _ => 0
  | .event _ => 1
  | .notice _ => 2
  | .punt _ => 4

/-- Free upstream entries not yet promised to a job that waits to be written; 0 while EN is 0 (R352).
DESIGN CHOICE, log 16. -/
def usRoom (s : State) : Nat :=
  if s.hif.usEn then
    2 ^ s.hif.usLog2 - ringUsed s.hif.usLog2 s.hif.usProd s.hif.usCons - (s.up.ready.map jobEntries).sum
  else 0

/-- Add a job that has found room. DESIGN CHOICE, log 16. -/
def pushReady (j : UpJob) (s : State) : State := { s with up := { s.up with ready := s.up.ready ++ [j] } }

/-- The coalesced event of a class. -/
def evPendAt (s : State) (c : Nat) : Option Event := tabGet none s.up.evPend c

/-- Post an event of class `c` that occurred at `at_` (NS32), or add it to the class's coalesced event when it finds no room (R362, Table 15-8).
DESIGN CHOICE, log 16 and 51. -/
def postEventAt (at_ c source : Nat) (data : List W32) (s : State) : State :=
  match evPendAt s c with
  | some e =>
    bump Ctr.hifEvtCoalesced { s with up := { s.up with
      evPend := tabSet none s.up.evPend c (some { e with count := min (e.count + 1) (2 ^ 32 - 1), last := at_ }) } }
  | none =>
    let e : Event := ⟨c, source % 2 ^ 16, 1, at_, at_, data⟩
    if usRoom s ≥ 1 then pushReady (.event e) s
    else { s with up := { s.up with evPend := tabSet none s.up.evPend c (some e) } }

/-- Post an event of class `c` that occurs now. -/
def postEvent (c source : Nat) (data : List W32) (s : State) : State := postEventAt (ns32 s) c source data s

/-- CTRL_AVAIL: the owner cluster runs Titimus and no switch-over or role swap is in progress (R368, R402). -/
def ctrlAvail (s : State) : Bool := s.tcs.running && !s.pair.switching

/-- The levels that Titimus, while available, drives on STAT0-STAT3 (R496): CTRL_AVAIL, the pair claim confirmed, DEMOTED, and any slice in Plain
service. Bit k is 1 where STATk is asserted. -/
def statDriven (s : State) : Nat :=
  b2n (ctrlAvail s) + 2 * b2n s.pair.confirmed + 4 * b2n (decide (s.tmp.capo > s.tmp.reqCapo))
    + 8 * b2n ((List.range 16).any fun k => sliceEnabled s k && bit s.dev.plain k)

/-- STATk is asserted: as Titimus drives it, or at its last driven level while Titimus is not available (R402, Table 18-3). -/
def statPin (s : State) (k : Nat) : Bool := bit (if ctrlAvail s then statDriven s else s.dev.stat) k

/-- Titimus is about to become unavailable: STAT0-STAT3 keep the level it drives now (R402, Table 18-3). -/
def holdStat (s : State) : State := if ctrlAvail s then { s with dev := { s.dev with stat := statDriven s } } else s

/-- STANDBY_READY: the standby runs Titimus and holds a journal and checkpoint current to within 10 ms (R399). -/
def standbyOk (s : State) : Bool := s.pair.ready && decide (s.cycles ≤ s.pair.checkAt + 10000000)

/-- An event of instant `at_` whose DATA its chapter leaves open, and whose SOURCE too but for class 7, where `unit` is the SOURCE that chapter 17
gives. DESIGN CHOICE, log 6. -/
def postOpenAt (at_ c unit : Nat) (s : State) : State :=
  postEventAt at_ c (if c = 7 ∨ c = 8 then unit else Config.eventSource c unit) [Config.eventData c unit 0, Config.eventData c unit 1, Config.eventData c unit 2] s

/-- Titimus posts an event whose SOURCE and DATA its chapter leaves open; while Titimus does not run, the event waits until it does.
DESIGN CHOICE, log 6 and 68. -/
def postOpen (c unit : Nat) (s : State) : State :=
  if s.tcs.running then postOpenAt (ns32 s) c unit s
  else { s with up := { s.up with evHeld := s.up.evHeld ++ [(c, unit, ns32 s)] } }

/-- Titimus runs: it posts the events that waited for it, and the Rurraso transmitter works (Table 18-3). DESIGN CHOICE, log 68. -/
def runTitimus (s : State) : State :=
  s.up.evHeld.foldl (fun s e => postOpenAt e.2.2 e.1 e.2.1 s)
    { s with tcs := { s.tcs with running := true }, pair := { s.pair with linkTx := true }, up := { s.up with evHeld := [] } }

/-- Hand a TCS completion to the upstream ring; without room it waits and the device fetches no downstream entry (R363).
DESIGN CHOICE, log 16. -/
def postCompletion (env : List Byte) (s : State) : State :=
  if s.up.waiting.isEmpty && decide (usRoom s ≥ (env.length + 27) / 28) then pushReady (.completion env) s
  else
    bumpIf s.up.waiting.isEmpty Ctr.hifCmplWait
      { s with up := { s.up with waiting := s.up.waiting ++ [env], fetchPaused := true } }

/-- Raise F0 vector 18: an HIF_STATUS fault bit sets, or ALERT_N asserts (Table 15-3).
DESIGN CHOICE, log 48. -/
def raiseFault (s : State) : State := raise 18 s

end Sys2Proof.Machine
end

