-- ==== Sys2Proof/Machine/Units.lean ====
section
/-! DEFINITION. Reading and replacing the state of one unit: a port, a slice's Harp, a chit, a pool, a bank; and poisoned words. -/
namespace Sys2Proof.Machine

/-- A port. -/
def portAt (s : State) (p : Nat) : PortState := tabGet {} s.ports p
/-- Change a port. -/
def modPort (p : Nat) (f : PortState → PortState) (s : State) : State := { s with ports := tabSet {} s.ports p (f (portAt s p)) }

/-- The transmit side of a port. -/
def txAt (s : State) (p : Nat) : TxPort := tabGet {} s.txs p
/-- Change the transmit side of a port. -/
def modTx (p : Nat) (f : TxPort → TxPort) (s : State) : State := { s with txs := tabSet {} s.txs p (f (txAt s p)) }

/-- The receive side of a port. -/
def rxAt (s : State) (p : Nat) : RxPort := tabGet {} s.rxs p
/-- Change the receive side of a port. -/
def modRx (p : Nat) (f : RxPort → RxPort) (s : State) : State := { s with rxs := tabSet {} s.rxs p (f (rxAt s p)) }
/-- The frame that a port's eMAC or pMAC is receiving. -/
def rxFrame (s : State) (p : Nat) (pmac : Bool) : Option RxFrame := if pmac then (rxAt s p).pmac else (rxAt s p).emac
/-- Replace it. -/
def setRx (p : Nat) (pmac : Bool) (f : Option RxFrame) (s : State) : State :=
  modRx p (fun x => if pmac then { x with pmac := f } else { x with emac := f }) s

/-- Near-end loopback returns a sent frame to the port's own receive side (R76). DESIGN CHOICE, log 60. -/
def loopBack (p : Nat) (pmac : Bool) (bytes : List Byte) (s : State) : State :=
  let q := portAt s p
  if q.linkUp && decide (q.cfg.loopback = 1) then modRx p (fun x => { x with loop := x.loop ++ [(pmac, bytes)] }) s else s

/-- A slice's Harp. -/
def harpAt (s : State) (k : Nat) : HarpState := tabGet {} s.harps k
/-- Change a slice's Harp. -/
def modHarp (k : Nat) (f : HarpState → HarpState) (s : State) : State := { s with harps := tabSet {} s.harps k (f (harpAt s k)) }

/-- The physical engine of an engine number; none where no spare was left (R105, R106). -/
def physEngine (h : HarpState) (e : Nat) : Option Nat :=
  match tabGet 0 h.map e with
  | 0 => some e
  | m => if m ≤ 68 then some (m - 1) else none

/-- A physical engine's condition. -/
def engineCond (h : HarpState) (e : Nat) : EngineCond :=
  match physEngine h e with
  | some x => tabGet .untested h.conds x
  | none => .bad

/-- Good engines' free threads in a slice. -/
def freeThreads (s : State) (k : Nat) : Nat :=
  let h := harpAt s k
  (((List.range 64).filter fun e => engineCond h e == .good).map fun e =>
    ((List.range 8).filter fun t => (tabGet none h.threads (8 * e + t)).isNone).length).sum

/-- A slice's classification. -/
def classAt (s : State) (k : Nat) : ClassState := tabGet {} s.classes k
/-- Change a slice's classification. -/
def modClass (k : Nat) (f : ClassState → ClassState) (s : State) : State :=
  { s with classes := tabSet {} s.classes k (f (classAt s k)) }

/-- A slice's lookup unit. -/
def lkpAt (s : State) (k : Nat) : LkpState := tabGet {} s.lkps k
/-- Change a slice's lookup unit. -/
def modLkp (k : Nat) (f : LkpState → LkpState) (s : State) : State := { s with lkps := tabSet {} s.lkps k (f (lkpAt s k)) }

/-- A held chit. -/
def chitAt (s : State) (n : Nat) : Option Chit := tabGet none s.chits n
/-- Replace a chit. -/
def setChit (n : Nat) (c : Option Chit) (s : State) : State := { s with chits := tabSet none s.chits n c }
/-- Change a held chit. -/
def modChit (n : Nat) (f : Chit → Chit) (s : State) : State :=
  match chitAt s n with
  | some c => setChit n (some (f c)) s
  | none => s

/-- The chit of a frame that a MAC receives, while that frame still holds it. -/
def rxChit (s : State) (f : RxFrame) : Option Nat :=
  match f.chit with
  | some (n, o) => if (chitAt s n).any (fun c => decide (c.order = o)) then some n else none
  | none => none

/-- The slice that owns a chit number, and the index in it (R23). -/
def chitSlice (n : Nat) : Nat := n / 16384
def chitIndex (n : Nat) : Nat := n % 16384

/-- The held chits of a slice. -/
def chitsOf (k : Nat) (s : State) : List (Nat × Chit) :=
  s.chits.filterMap fun e => if chitSlice e.1 = k then e.2.map (fun c => (e.1, c)) else none

/-- A pool. -/
def poolAt (s : State) (p : Nat) : Pool := tabGet {} s.mint.pools p
/-- Replace a pool. -/
def setPool (p : Nat) (q : Pool) (s : State) : State := { s with mint := { s.mint with pools := tabSet {} s.mint.pools p q } }

/-- A tenant policer. -/
def tenantAt (s : State) (t : Nat) : Tenant := tabGet {} s.tenants t
/-- Replace a tenant policer. -/
def setTenant (t : Nat) (v : Tenant) (s : State) : State := { s with tenants := tabSet {} s.tenants t v }

/-- A meter of a slice. -/
def meterAt (s : State) (k m : Nat) : Meter := tabGet {} s.meters (k * 16384 + m)
/-- Replace a meter. -/
def setMeter (k m : Nat) (v : Meter) (s : State) : State := { s with meters := tabSet {} s.meters (k * 16384 + m) v }

/-- A Ledger bank. -/
def bankAt (s : State) (b : Nat) : Bank3 := tabGet {} s.led.banks b
/-- Replace a Ledger bank. -/
def setBank (b : Nat) (v : Bank3) (s : State) : State := { s with led := { s.led with banks := tabSet {} s.led.banks b v } }

/-- A trigger. -/
def trigAt (s : State) (t : Nat) : Trigger := tabGet {} s.time.triggers t

/-! ### Poisoned words (R451, R452, R460) -/

/-- The class of the memory that holds an object (Table 20-1). -/
def heldClass : Config.Held → Nat
  | .tableSlot _ _ => 1
  | .ledgerRow _ _ _ | .outletMap _ => 2
  | .meter _ _ | .purse _ _ | .treasury _ => 3
  | .comparator _ _ | .rule _ _ => 4
  | .harpWord _ _ _ | .escrow _ _ | .pinning _ _ => 5
  | .link _ | .bitmapLeaf _ _ | .bitmapSummary _ _ => 0
  | .archived _ _ _ | .notice _ | .stored _ _ _ => 8

/-- The word at an address of a class carries poison. -/
def poisonedAt (s : State) (cls addr : Nat) : Bool := tabGet false s.mem.poison (cls * 2 ^ 36 + addr)
/-- The words of an object carry poison. DESIGN CHOICE, log 45. -/
def poisoned (s : State) (h : Config.Held) : Bool := tabGet false s.mem.poison (heldClass h * 2 ^ 36 + Config.wordOf h)
/-- A read that returns poison counts in MEM_POISON_READ of its class (Table 20-2). -/
def countPoison (cls : Nat) (c : Bool) (s : State) : State := bumpIf c (Ctr.memPoisonRead cls) s
/-- `n` reads of a configuration word that return poison, by a consumer that Table 20-4 does not list: its reset value is used and an event of class 4
is posted (R460). -/
def countDefaults (cls n : Nat) (s : State) : State :=
  if n = 0 then s else postEvent 4 cls [1#32, 0#32, 0#32] (bumpBy (Ctr.memPoisonRead cls) n s)
/-- A write of a whole word replaces poison with fresh data (R452). DESIGN CHOICE, log 45. -/
def cleanse (h : Config.Held) (s : State) : State :=
  { s with mem := { s.mem with poison := tabSet false s.mem.poison (heldClass h * 2 ^ 36 + Config.wordOf h) false } }

/-- Buffer data word `w` (0-31) of a cell is word 32 × cell + w of class 0 (Table 20-1: 32 words a cell). -/
def cellPoisoned (s : State) (cell w : Nat) : Bool := poisonedAt s 0 (32 * cell + w)
/-- Data words that a frame of `len` bytes uses in cell `i` of its chain. -/
def cellWords (len i : Nat) : Nat := (min 256 (len - 256 * i) + 7) / 8
/-- A data word that the frame uses in cell `i` of its chain carries poison (R223). -/
def cellPoison (s : State) (cell len i : Nat) : Bool := (List.range (cellWords len i)).any (cellPoisoned s cell)
/-- The first `n` data words of a cell are written whole: fresh data replaces poison (R452). -/
def cleanseCell (cell n : Nat) (s : State) : State :=
  { s with mem := { s.mem with poison := (List.range n).foldl (fun m w => tabSet false m (32 * cell + w) false) s.mem.poison } }

/-! ### Plain service and reset -/

/-- The slice is in Plain service. -/
def plainSlice (s : State) (k : Nat) : Bool := bit s.dev.plain k
/-- Slice `k` admits no frame and takes no copy: its move between Plain and full service has begun (Table 18-5 step 1, R436). -/
def slicesMove (s : State) (k : Nat) : Bool := decide (s.dev.moving = some k)
/-- Every enabled slice has left Plain service. -/
def allFull (s : State) : Bool := decide (s.dev.plain &&& s.dev.fuses.sliceEn = 0)
/-- Bytes that a word list spells at a word index, 0 where none. -/
def wordAt (ws : List W32) (i : Nat) : Nat := (ws.getD i 0#32).toNat

end Sys2Proof.Machine
end

