-- ==== Sys2Proof/Machine/Mint.lean ====
section
/-! DEFINITION. The Mint's operations (chapter 09): granting and freeing cells, pool states, stop signals and the XOFF that follows. -/
namespace Sys2Proof.Machine

/-! ### Stop and XOFF (R52, R215, R216) -/

/-- The priorities of a port that some pool stops: MNT_STOP. -/
def stopMask (s : State) (p : Nat) : Nat :=
  let keys := (s.mint.pools.map fun e => e.2.stopped).flatten
  ((List.range 8).map fun k => if keys.contains (p * 8 + k) then 2 ^ k else 0).sum

/-- A pause frame (`pfc` false) or PFC frame for one priority, as IEEE 802.3 Annex 31B and IEEE 802.1Q lay it out; the source address is a
free value. DESIGN CHOICE, log 60. -/
def pauseBytes (pfc : Bool) (prio time free : Nat) : List Byte :=
  let head := beBytes 6 0x0180C2000001 ++ (List.range 6).map (Config.freeByte free) ++ beBytes 2 0x8808
  let body := if pfc then
      beBytes 2 0x0101 ++ beBytes 2 (2 ^ prio) ++ ((List.range 8).map fun k => beBytes 2 (if k = prio then time else 0)).flatten
        ++ List.replicate 26 0#8
    else beBytes 2 0x0001 ++ beBytes 2 time ++ List.replicate 42 0#8
  head ++ body ++ fcsOf (head ++ body)

/-- The MAC sends a pause or PFC frame with a time for a priority (R52), on a link that is up. -/
def sendPause (p prio time : Nat) (s : State) : State :=
  let q := portAt s p
  if q.linkUp then
    let s := bumpMac Ctr.macTxPause p 1 (modPort p (fun q => { q with fc := { q.fc with
      xoff := tabSet false q.fc.xoff prio (decide (time ≠ 0)), sent := some (prio, time) } }) s)
    if q.cfg.loopback = 1 then
      loopBack p false (pauseBytes (decide (q.fc.mode = 2)) prio time s.freeCtr) { s with freeCtr := s.freeCtr + 1 }
    else s
  else s

/-- What the MAC of a front port sends when the stops of the port change: link pause answers for the port as a whole, PFC for each
priority; a port with flow control off sends nothing (R49, R52). -/
def macSignal (p before after : Nat) (s : State) : State :=
  if isFront p then
    let fc := (portAt s p).fc
    if fc.mode = 1 then
      if before = 0 ∧ after ≠ 0 then sendPause p 0 fc.quanta s
      else if before ≠ 0 ∧ after = 0 then sendPause p 0 0 s
      else s
    else if fc.mode = 2 then
      (List.range 8).foldl (fun s k =>
        if !bit before k && bit after k then sendPause p k fc.quanta s
        else if bit before k && !bit after k then sendPause p k 0 s
        else s) s
    else s
  else s

/-- A lossless pool's state and stopped pairs after a change of USED (Table 09-5, R216). -/
def evalPool (q : Pool) : Pool :=
  if q.kind = 2 then
    let st := if q.state ≠ 0 ∧ q.used ≤ q.resume * 16 then 0
      else if q.used ≥ q.stop * 16 then 2
      else if q.state = 2 then 2
      else if q.used ≥ q.warn * 16 then 1
      else q.state
    let more := q.contrib.filter fun e =>
      !q.stopped.contains e.1 && (if st = 2 then true else decide (e.2 > q.fair * 16))
    { q with state := st, stopped := if st = 0 then [] else q.stopped ++ more.map (fun e => e.1) }
  else q

/-- Change a pool, evaluate its state, and let the MACs of the ports concerned answer.
DESIGN CHOICE, log 30. -/
def changePool (p : Nat) (f : Pool → Pool) (s : State) : State :=
  let q := evalPool (f (poolAt s p))
  let s' := setPool p q s
  let ports := (((poolAt s p).stopped ++ q.stopped).map (fun k => k / 8)).eraseDups
  ports.foldl (fun t port => macSignal port (stopMask s port) (stopMask s' port) t) s'

/-! ### Capacity and grant (R205, R209, R211) -/

/-- Cells of a memory split (Table 09-1). -/
def splitCells (k : Nat) : Nat := if k = 0 then 786432 else if k = 1 then 655360 else 393216
/-- Cells of the buffer. -/
def cellsTotal (s : State) : Nat := splitCells s.mint.split
/-- An uncorrectable error in its leaf or summary word makes a cell count as allocated until a reclaim sweep has examined it (R208). -/
def heldBack (s : State) (n : Nat) : Bool :=
  !s.mem.poison.isEmpty && (poisoned s (.bitmapLeaf (n % 16) (n / 1024)) || poisoned s (.bitmapSummary (n % 16) (n / 65536)))
/-- The Mint may allocate the cell. -/
def cellFree (s : State) (n : Nat) : Bool := (tabGet none s.mint.cells n).isNone && !heldBack s n
/-- Free cells that are held back. -/
def heldCells (s : State) : List Nat :=
  if s.mem.poison.isEmpty then [] else (List.range (cellsTotal s)).filter fun n => heldBack s n && (tabGet none s.mint.cells n).isNone
/-- Free cells of the whole buffer: MNT_STATUS FREE. -/
def cellsFree (s : State) : Nat := cellsTotal s - s.mint.cells.length - (heldCells s).length

/-- Cells set aside for pools 1 to 31 (R209). -/
def pooled (s : State) : Nat :=
  ((List.range 32).map fun p => if p = 0 then 0 else max (poolAt s p).size ((poolAt s p).used - (poolAt s p).borrowed)).sum

/-- Pool 0's capacity (R209). DESIGN CHOICE, log 42. -/
def pool0Cap (s : State) : Nat := cellsTotal s - pooled s

/-- Whether a pool grants a cell, and whether with BORROW 1 (R211). DESIGN CHOICE, log 30. -/
def grant (s : State) (p : Nat) : Option Bool :=
  let q := poolAt s p
  if p = 0 then (if q.used < pool0Cap s then some false else none)
  else if q.kind = 1 then
    if q.used < q.size then some false
    else if (poolAt s 0).used < pool0Cap s then some true
    else none
  else if q.kind = 0 then none
  else if q.used < q.size then some false else none

/-- The first cell at or after `n`, in steps of 16 below `limit`, that may be allocated. -/
def nextFree (s : State) (limit : Nat) : Nat → Nat → Option Nat
  | 0, _ => none
  | fuel + 1, n => if n < limit then (if cellFree s n then some n else nextFree s limit fuel (n + 16)) else none

/-- The free cell that R207 takes for bank `b`: the bank itself or the next bank upward that holds one, lowest cell first.
DESIGN CHOICE, log 30. -/
def findCell (s : State) (limit b : Nat) : Option Nat := (List.range 16).findSome? fun i => nextFree s limit (limit / 16 + 1) ((b + i) % 16)

/-! ### Charging and freeing -/

/-- Count a cell in a pool's USED, and its contributor (R211, R216). -/
def addUse (p pair : Nat) (borrow : Bool) (s : State) : State :=
  let s := changePool p (fun q => { q with
    used := q.used + 1, borrowed := q.borrowed + b2n borrow
    contrib := if q.kind = 2 then tabSet 0 q.contrib pair (tabGet 0 q.contrib pair + 1) else q.contrib }) s
  if borrow then changePool 0 (fun q => { q with used := q.used + 1 }) s else s

/-- Take a cell out of the counts that its POOL and BORROW name (R211). -/
def dropUse (p pair : Nat) (borrow : Bool) (s : State) : State :=
  let s := changePool p (fun q => { q with
    used := q.used - 1, borrowed := q.borrowed - b2n borrow
    contrib := tabSet 0 q.contrib pair (tabGet 0 q.contrib pair - 1) }) s
  if borrow then changePool 0 (fun q => { q with used := q.used - 1 }) s else s

/-- Allocate cell `n` (R208); its link word is written afresh (R452). -/
def takeCell (n owner gen p pair : Nat) (borrow : Bool) (s : State) : State :=
  let c : Cell := { pair := pair, owner := owner, gen := gen, pool := p, borrow := borrow }
  let s := { s with mint := { s.mint with cells := tabSet none s.mint.cells n (some c) } }
  bumpIf borrow Ctr.mntBorrow (bump Ctr.mntAlloc (addUse p pair borrow (cleanse (.link n) s)))

/-- Free cell `n`. -/
def freeCell (n : Nat) (s : State) : State :=
  match tabGet none s.mint.cells n with
  | some c =>
    let s := { s with mint := { s.mint with cells := tabSet none s.mint.cells n none } }
    bump Ctr.mntFreed (dropUse c.pool c.pair c.borrow s)
  | none => s

/-- Cells of a chain up to and including the first whose link word carries poison, and whether there is one (R224). -/
def readChain (s : State) : List (Nat × Bool) → List Nat × Bool
  | [] => ([], false)
  | (n, _) :: rest =>
    if poisoned s (.link n) then ([n], true)
    else ((readChain s rest).1.cons n, (readChain s rest).2)

/-- A link word with an uncorrectable error: counted, and a reclaim sweep starts unless one runs (R224). -/
def linkPoison (s : State) : State :=
  let s := countPoison 0 true (bump Ctr.mntLinkPoison s)
  { s with mint := { s.mint with reclaim := true } }

/-- Free a chain in chain order (R219). -/
def freeChain (chain : List (Nat × Bool)) (s : State) : State :=
  let r := readChain s chain
  let s := r.1.foldl (fun s n => freeCell n s) s
  if r.2 then linkPoison s else s

/-- Release a chit whose chain nothing holds any more: the chain is freed and the number may be reused (R24, R219). -/
def releaseIf (n : Nat) (s : State) : State :=
  match chitAt s n with
  | some c => if !c.hold && c.refs == 0 && decide (c.status ≠ .provisional) then setChit n none (freeChain c.chain s) else s
  | none => s

/-- A copy of the frame is created: REFS rises, and is refused above 1,023 (R219, R220). -/
def addRef (n : Nat) (s : State) : Option State :=
  match chitAt s n with
  | some c => if c.refs < 1023 then some (modChit n (fun c => { c with refs := c.refs + 1 }) s) else none
  | none => none

/-- A copy of the frame ends: REFS falls, and the last end frees the chain (R219). -/
def dropRef (n : Nat) (s : State) : State := releaseIf n (modChit n (fun c => { c with refs := c.refs - 1 }) s)

/-- HOLD clears (R219). -/
def dropHold (n : Nat) (s : State) : State := releaseIf n (modChit n (fun c => { c with hold := false }) s)

/-- The bitmap words that the sweep writes afresh. -/
def cleanseBitmaps (s : State) : State :=
  if s.mem.poison.isEmpty then s
  else (List.range 16).foldl (fun s b =>
    let s := (List.range 768).foldl (fun s w => cleanse (.bitmapLeaf b w) s) s
    (List.range 12).foldl (fun s w => cleanse (.bitmapSummary b w) s) s) s

/-- The reclaim sweep frees every allocated cell whose OWNER and GEN match no held chit (R224), those that a bad bitmap word made count as
allocated among them (R208). DESIGN CHOICE, log 30. -/
def reclaimSweep (s : State) : State :=
  let stale := s.mint.cells.filterMap fun e =>
    match e.2 with
    | some c => if (chitAt s c.owner).isSome && tabGet 0 s.gens c.owner == c.gen then none else some e.1
    | none => none
  let held := (heldCells s).length
  let s := stale.foldl (fun s n => bump Ctr.mntReclaimed (freeCell n s)) s
  cleanseBitmaps (bumpBy Ctr.mntFreed held (bumpBy Ctr.mntReclaimed held s))

end Sys2Proof.Machine
end

