-- ==== Sys2Proof/Machine/Billing.lean ====
section
/-! DEFINITION. What frames leave behind in the Tally counters and stores (chapter 22) and in the Ledger (chapter 11). -/
namespace Sys2Proof.Machine

/-! ### Tally counters (R481 to R483) -/

/-- A domain is powered. -/
def domainOn (s : State) (d : Nat) : Bool := !bit s.pwr.off d && (decide (d ≥ 32) || bit s.dev.fuses.sliceEn (d % 16))
/-- A domain is on and its pads are not held (R445): its interface works. -/
def domainWorks (s : State) (d : Nat) : Bool := domainOn s d && !bit s.pwr.held d
/-- A slice core is powered. -/
def sliceOn (s : State) (k : Nat) : Bool := domainOn s k

/-- A slice's core runs: it is powered and in no reset. -/
def coreRuns (s : State) (k : Nat) : Bool := sliceOn s k && !bit s.dev.blockRst.toNat k && decide (s.dev.asserted = 0)
/-- An event of chit `n`: it happens only while the slice that holds the chit runs. -/
def onChit (n : Nat) (f : Nat → State → State) (s : State) : Out :=
  onUnit (decide (n < 262144)) (if coreRuns s (chitSlice n) then f n s else s)

/-- Add to a configurable counter: 48 bits, WRAPPED on a pass of the end (R483). -/
def addTally (i amt : Nat) (s : State) : State :=
  let c := tabGet (0, false) s.tal.cnt i
  let v := c.1 + amt
  { s with tal := { s.tal with cnt := tabSet (0, false) s.tal.cnt i (v % 2 ^ 48, c.2 || decide (v ≥ 2 ^ 48)) } }

/-- An event of instance `n` (Table 22-2): each counter that selects it counts it now, or, for a settled event,
once the frame has settled (R482). -/
def tallyEvent (n ev amt : Nat) (qual : Nat → Bool) (chit : Option Nat) (s : State) : State :=
  (List.range 8).foldl (fun s k =>
    let i := 8 * n + k
    let w := tabGet 0#32 s.tal.sel i
    if fld w 7 0 = ev && qual (fld w 23 8) then
      if bit w.toNat 24 then
        match chit with
        | some c =>
          match chitAt s c with
          | some q =>
            if q.status = .provisional then modChit c (fun q => { q with tally := q.tally ++ [(i, amt)] }) s
            else if q.status = .settled then addTally i amt s
            else s
          | none => s
        | none => s
      else addTally i amt s
    else s) s

/-- Frames and octets of an instance, qualified by ingress port (EVENT 0x01 and 0x02). -/
def tallyFrame (n port len chit : Nat) (s : State) : State :=
  let q (x : Nat) : Bool := decide (x = 0x3FF) || decide (x = port)
  tallyEvent n 2 len q (some chit) (tallyEvent n 1 1 q (some chit) s)

/-! ### Tally stores (R488, R489) -/

/-- Stores take records: domains 36 and 32 on and the LPDDR5X in use (R489). -/
def canStore (s : State) : Bool := domainOn s 36 && domainWorks s 32 && s.mem.ddrReady && !s.mem.ddrFail && !bit s.dev.blockRst.toNat 16

/-- A stream. -/
def streamAt (s : State) (k : Nat) : Stream := tabGet {} s.tal.streams k
/-- Replace a stream. -/
def setStream (k : Nat) (v : Stream) (s : State) : State := { s with tal := { s.tal with streams := tabSet {} s.tal.streams k v } }

/-- The common record header (Table 22-5). -/
def recordHead (kind units stream seq at_ : Nat) : List Byte :=
  leBytes 4 (kind + units * 2 ^ 8 + stream * 2 ^ 16) ++ leBytes 4 seq ++ leBytes 4 (at_ % 1000000000) ++ leBytes 4 (at_ / 1000000000)

/-- Offer records to a stream's store, all or none; whether it took them (R489). -/
def offerRecords (k : Nat) (rs : List (List Byte)) (s : State) : State × Bool :=
  let st := streamAt s k
  let used := (st.store.map List.length).sum
  if st.en && canStore s && decide (used + (rs.map List.length).sum ≤ st.mib * 2 ^ 20) then
    let words := fun i => (List.range ((rs.getD i []).length / 8)).map fun w => Config.Held.stored k ((st.seq + i) % 2 ^ 32) w
    let s := if s.mem.poison.isEmpty then s else ((List.range rs.length).flatMap words).foldl (fun s h => cleanse h s) s
    (setStream k { st with store := st.store ++ rs, seq := (st.seq + rs.length) % 2 ^ 32 } s, true)
  else (bumpIf st.en (Ctr.talLost k) s, false)

/-! ### Ledger rows (R253 to R257) -/

/-- Add one frame and its octets to pair `j`, saturating (R256). -/
def addPair (j frames octets : Nat) (r : Row) : Row :=
  let p := tabGet (0, 0) r.pairs j
  let f := p.1 + frames
  let o := p.2 + octets
  { r with
    pairs := tabSet (0, 0) r.pairs j (min f (2 ^ 40 - 1), min o (2 ^ 56 - 1))
    saturated := r.saturated || decide (f ≥ 2 ^ 40) || decide (o ≥ 2 ^ 56) }

/-- Add a row's pairs and marks into another. -/
def mergeRow (d r : Row) : Row :=
  let r := d.pairs.foldl (fun r e => addPair e.1 e.2.1 e.2.2 r) r
  { r with lateIn := r.lateIn || d.lateIn, unreliable := r.unreliable || d.unreliable, saturated := r.saturated || d.saturated }

/-- The 64-bit words of a 144-byte row that pair `j` occupies (R255). -/
def pairWords (j : Nat) : List Nat := (List.range 18).filter fun w => decide (12 * j < 8 * w + 8) && decide (8 * w < 12 * j + 12)

/-- The words of a tenant's row in a bank that deltas are added to and that carry poison (R264). DEDUCED, log 33. -/
def badPairWords (s : State) (b t : Nat) (d : Row) : List Nat :=
  (List.range 18).filter fun w =>
    (d.pairs.any fun e => decide (e.2 ≠ (0, 0)) && (pairWords e.1).contains w) && poisoned s (.ledgerRow b t w)

/-- Add deltas into a bank's row; each poisoned row word that it reads counts and marks the row UNRELIABLE
(R264), a new saturation counts (R256). -/
def addRow (b t : Nat) (d : Row) (s : State) : State :=
  let k := bankAt s b
  let old := tabGet {} k.rows t
  let bad := (badPairWords s b t d).length
  let new := mergeRow d old
  let new := { new with unreliable := new.unreliable || decide (bad > 0) }
  let s := setBank b { k with rows := tabSet {} k.rows t new } s
  bumpIf (new.saturated && !old.saturated) Ctr.ldgSaturate (bumpBy (Ctr.memPoisonRead 2) bad (bumpBy Ctr.ldgUnreliable bad s))

/-- A slice's ledger cache: (bank, tenant, deltas), latest used first. -/
def cacheAt (s : State) (k : Nat) : List (Nat × Nat × Row) := tabGet [] s.led.caches k
/-- Replace a slice's ledger cache. -/
def setCache (k : Nat) (c : List (Nat × Nat × Row)) (s : State) : State :=
  { s with led := { s.led with caches := tabSet [] s.led.caches k c } }

/-- Bill one frame in slice `k` into bank `b`, tenant `t`, pair `j`; a full cache flushes its least recently used row first, and a row
is flushed before a delta of it would overflow (R257). -/
def bill (k b t j len : Nat) (late : Bool) (s : State) : State :=
  let c := cacheAt s k
  let mine := (c.find? fun e => e.1 = b && e.2.1 = t).map fun e => e.2.2
  let rest := c.filter fun e => !(e.1 = b && e.2.1 = t)
  let now : Nat × Nat := tabGet (0, 0) (mine.getD ({} : Row)).pairs j
  let full := decide (now.1 + 1 ≥ 2 ^ 40) || decide (now.2 + len ≥ 2 ^ 56)
  let s := if full then addRow b t (mine.getD {}) s else s
  let r := addPair j 1 len (if full then {} else mine.getD {})
  let r := { r with lateIn := r.lateIn || late }
  let s := if mine.isNone && decide (rest.length ≥ 8192) then
      match rest.getLast? with
      | some v => bump Ctr.ldgCacheEvict (addRow v.1 v.2.1 v.2.2 s)
      | none => s
    else s
  let rest := if mine.isNone && decide (rest.length ≥ 8192) then rest.dropLast else rest
  setCache k ((b, t, r) :: rest) s

/-- Flush a slice's rows of the banks that `p` names. -/
def flushCache (k : Nat) (p : Nat → Bool) (s : State) : State :=
  let c := cacheAt s k
  let s := (c.filter fun e => p e.1).foldl (fun s e => addRow e.1 e.2.1 e.2.2 s) s
  setCache k (c.filter fun e => !p e.1) s

/-- Flush every slice's rows of the banks that `p` names. -/
def flushAll (p : Nat → Bool) (s : State) : State := (List.range 16).foldl (fun s k => flushCache k p s) s

/-- A bank covers an epoch (R262). -/
def covers (b : Bank3) (e : Nat) : Bool := decide ((e + 2 ^ 32 - b.epoch) % 2 ^ 32 < b.span)

/-- The bank that a settlement of a chit of epoch `e` reaches, and whether it is late: a settlement at the
end of the grace window is (R182, R260). -/
def settleBank (s : State) (e : Nat) : Nat × Bool :=
  if covers (bankAt s s.led.open_) e then (s.led.open_, false)
  else
    match (List.range 3).find? fun b => let k := bankAt s b; k.state = 2 && k.grace && decide (s.cycles < k.closedAt + 100000) && covers k e with
    | some b => (b, false)
    | none => (s.led.open_, true)

/-! ### Epoch boundaries (R258 to R263) -/

/-- The console's input filters run: their domain is on and no reset holds them (R267, R420). -/
def filterOn (s : State) : Bool := domainWorks s 37 && !bit s.dev.blockRst.toNat 17 && decide (s.dev.asserted = 0)

/-- Enabled outlets that are not sampled now: an input is faulted or the filters are off (R267, R310). -/
def gapOutlets (s : State) : List Nat :=
  (List.range 32).filter fun o =>
    let c := (tabGet {} s.con.outlets o).act
    c.en && (!filterOn s || (tabGet {} s.con.inputs c.vsel).fault || (tabGet {} s.con.inputs c.isel).fault)

/-- The outlets not sampled now are marked in the OPEN bank (R267). -/
def markGaps (s : State) : State :=
  let b := s.led.open_
  let k := bankAt s b
  setBank b { k with gaps := k.gaps ++ (gapOutlets s).filter fun o => !k.gaps.contains o } s

/-- Deliver each outlet's whole µJ into bank `b`, keeping the fraction (R265, R307). -/
def deliverEnergy (b : Nat) (s : State) : State :=
  (List.range 32).foldl (fun s o =>
    let x := tabGet {} s.con.outlets o
    let k := bankAt s b
    let s := setBank b { k with energy := tabSet 0 k.energy o ((tabGet 0 k.energy o + x.acc / 65536) % 2 ^ 64) } s
    { s with con := { s.con with outlets := tabSet {} s.con.outlets o { x with acc := x.acc % 65536 } } }) s

/-- `n` instants merge into the OPEN bank (R262). DESIGN CHOICE, log 33. -/
def mergeEpochs (n : Nat) (s : State) : State :=
  let b := s.led.open_
  let k := bankAt s b
  let s := setBank b { k with span := k.span + n } s
  bumpBy Ctr.ldgMerged n { s with led := { s.led with epoch := (s.led.epoch + n) % 2 ^ 32 } }

/-- The OPEN bank closes at device time `at_` and the next bank in order opens (R259). It keeps the outlet map that was in force over its
epoch (R266). DESIGN CHOICE, log 33. -/
def swapBanks (at_ cycle : Nat) (s : State) : State :=
  let b := s.led.open_
  let n := (b + 1) % 3
  let e := (s.led.epoch + 1) % 2 ^ 32
  let s := deliverEnergy b s
  let s := setBank b { bankAt s b with state := 2, grace := true, endAt := at_, closedAt := cycle, map := s.led.mapAct } s
  let s := setBank n { state := 1, epoch := e, startAt := at_ } s
  markGaps { s with led := { s.led with open_ := n, epoch := e, zero := false, merging := false } }

/-- Boundaries merge whatever the next bank's state: after a warm reset, while a slice is in Plain service and CAPO is above Hush (R263). -/
def mustMerge (s : State) : Bool := s.led.merging && !allFull s && decide (s.tmp.capo ≠ 3)

/-- The outlet map and a newly named trigger take effect at a boundary (R17, R276). -/
def takeBuffered (s : State) : State :=
  { s with led := { s.led with
      mapAct := s.led.mapHeld
      trigger := s.led.trigNext.getD s.led.trigger
      trigNext := none } }

/-- A firing of the ledger trigger (R259, R262, R263, R276, R285): every one merges when
`merge` holds, or the next bank is not READY. The first epoch ends at no instant before the last slice has entered full service.
DESIGN CHOICE, log 33. -/
def epochBoundary (merge : Bool) (x : Instant) (s : State) : State :=
  if s.led.zero && !s.led.merging && !allFull s then s
  else
    takeBuffered (if merge || mustMerge s || decide ((bankAt s ((s.led.open_ + 1) % 3)).state ≠ 0) then mergeEpochs x.n s
      else swapBanks x.at_ x.cycle (if x.n > 1 then mergeEpochs (x.n - 1) s else s))

/-- The Ledger acts on its instants in order; those of a trigger that it does not follow at that point are none of its own (R276). -/
def actDue (merge : Bool) (s : State) : State :=
  s.led.due.foldl (fun s x => if x.trig = s.led.trigger then epochBoundary merge x s else s)
    { s with led := { s.led with due := [] } }

/-- LEDGER_EPOCH_BOUNDARY: the Ledger acts on the instants of its trigger. Every billing event does so first, since the boundary takes
precedence (R259, R342). DESIGN CHOICE, log 8. -/
def ledgerBoundary (s : State) : State :=
  if s.dev.asserted = 0 ∧ s.dev.step ≥ 5 then actDue false s else s

/-- A trigger of the Ledger has fired (R259, R276). -/
def noteInstant (t n at_ : Nat) (s : State) : State :=
  if s.led.trigSet && (decide (t = s.led.trigger) || decide (s.led.trigNext = some t)) then
    { s with led := { s.led with due := s.led.due ++ [⟨t, n, at_, s.cycles⟩] } }
  else s

/-- Count a frame in a port's plain counters (R432, R275): pair 0 received, 4 sent, 8 dropped. -/
def plainCount (p j len : Nat) (s : State) : State :=
  let r := tabGet {} s.led.plain p
  { s with led := { s.led with plain := tabSet {} s.led.plain p (addPair j 1 len r), plainPending := true } }

/-- Bill the ingress of a settled frame (R253, R254, R182). -/
def billIngress (n : Nat) (c : Chit) (s : State) : State :=
  let s := ledgerBoundary s
  if c.plain then plainCount c.port 0 c.bytes.length s
  else if isRecirc c.port then s
  else
    match c.cls with
    | some r =>
      let b := settleBank s c.epoch
      bumpIf b.2 Ctr.ldgLateSettle (bill (chitSlice n) b.1 r.tenant r.bcls c.bytes.length b.2 s)
    | none => s

/-- Bill a forwarding copy's good FCS (direction 1) or its loss (direction 2) to the open epoch; nothing for a copy to a recirculation
port (R254). Plain copies count in the egress port's plain counters. -/
def billCopy (slice port dir : Nat) (c : Chit) (s : State) : State :=
  let s := ledgerBoundary s
  if c.plain then (if dir = 1 then plainCount port 4 c.bytes.length s else s)
  else if isRecirc port then s
  else
    match c.cls with
    | some r => bill slice s.led.open_ r.tenant (4 * dir + r.bcls) c.bytes.length false s
    | none => s

end Sys2Proof.Machine
end

