-- ==== Sys2Proof/Machine/TableCore.lean ====
section
/-! DEFINITION. Looking a key up in the exact-match space (R149, R151, R152). -/
namespace Sys2Proof.Machine

/-- The first location of the stash. -/
def stashBase : Nat := 2 ^ 31

/-- One bit of the CRC of R149. -/
def crc64Bit (poly r : Nat) (b : Bool) : Nat :=
  let f := bit r 63 != b
  let r := r * 2 % 2 ^ 64
  if f then r ^^^ poly else r

/-- One byte of the CRC, most significant bit first. -/
def crc64Byte (poly r : Nat) (b : Byte) : Nat :=
  [7, 6, 5, 4, 3, 2, 1, 0].foldl (fun r i => crc64Bit poly r (bit b.toNat i)) r

/-- h(seed, poly, m) of R149. -/
def crc64 (seed poly : Nat) (m : List Byte) : Nat := m.foldl (crc64Byte poly) seed

/-- Bucket bits NB of the split (Table 06-1). -/
def bucketBits (s : State) : Nat := 17 + min s.mint.split 2
/-- Buckets of the space. -/
def buckets (s : State) : Nat := 2 ^ bucketBits s

/-- The message that R149 hashes for a key of table `t`. -/
def hashBytes (t width key : Nat) : List Byte := byte t :: beBytes (4 * ((width + 31) / 32)) (key % 2 ^ width)

/-- The candidate buckets A and B of a key (R149). -/
def bucketsOf (s : State) (t width key : Nat) : Nat × Nat :=
  let m := hashBytes t width key
  let a := crc64 s.tbl.seedA 0x42F0E1EBA9EA3693 m % buckets s
  let b := crc64 s.tbl.seedB 0xAD93D23594C935A9 m % buckets s
  (a, if b = a then a ^^^ 1 else b)

/-- A logical table's configuration. -/
def tabCfgAt (s : State) (t : Nat) : Option TabCfg := tabGet none s.tbl.cfgs t

/-- The entry at a location. -/
def slotAt (s : State) (loc : Nat) : Option Entry := tabGet none s.tbl.slots loc

/-- The stash entries, in slot order. -/
def stashEntries (s : State) : List (Nat × Entry) :=
  s.tbl.slots.filterMap fun e => if e.1 ≥ stashBase then e.2.map (fun x => (e.1, x)) else none

/-- The location of a key of table `t` (R151): bucket A, bucket B, then the stash. -/
def findEntry (s : State) (t width key : Nat) : Option (Nat × Entry) :=
  let k := key % 2 ^ width
  let ab := bucketsOf s t width k
  let here (e : Nat × Entry) : Bool := e.2.tid == t && e.2.key == k
  let inBucket (b : Nat) : List (Nat × Entry) :=
    (List.range 4).filterMap fun i => (slotAt s (4 * b + i)).map fun e => (4 * b + i, e)
  (inBucket ab.1 ++ inBucket ab.2 ++ stashEntries s).find? here

/-- An entry carries poison in a replica. -/
def entryPoisoned (s : State) (q loc : Nat) (e : Entry) : Bool :=
  poisoned s (.tableSlot q loc) || (e.wide && poisoned s (.tableSlot q (loc + 1)))

/-- What a lookup in replica `q` returns (R151, R152). -/
def lookupIn (s : State) (q t key : Nat) : LkpResult :=
  match tabCfgAt s t with
  | none => {}
  | some c =>
    match findEntry s t c.width key with
    | none => {}
    | some (loc, e) => if entryPoisoned s q loc e then ⟨false, true, 0, loc, e.wide⟩ else ⟨true, false, e.data % 2 ^ 24, loc, e.wide⟩

/-- A slice reports a poisoned location to the table engine (R152). -/
def reportPoison (loc : Nat) (s : State) : State :=
  if s.tbl.reported.contains loc then s else { s with tbl := { s.tbl with reported := s.tbl.reported ++ [loc] } }

/-- A slice's lookup, counted: a poisoned entry counts in LKP_POISON and in MEM_POISON_READ and is reported. -/
def countLookup (k t : Nat) (chit : Option Nat) (r : LkpResult) (s : State) : State :=
  let s := tallyEvent (16 * k + 1) 0x0A 1 (fun x => decide (x = t) || decide (x = 0xF)) chit s
  let s := if r.poison then reportPoison r.loc s else s
  countPoison 1 r.poison (bumpIf r.poison (Ctr.lkpPoison k) s)

end Sys2Proof.Machine
end

