-- ==== Sys2Proof/Machine/Queues.lean ====
section
/-! DEFINITION. Queues, shapers, time gates and destinations (chapter 10), as every copy meets them. -/
namespace Sys2Proof.Machine

/-! ### Queues -/

/-- A queue's (0-15) or a group's (16-19) node. -/
def nodeAt (t : TxPort) (i : Nat) : Node := (tabGet none t.nodes i).getD { group := i / 4 % 4 }
/-- Replace a node; one with the values of R251 is not listed. -/
def setNode (i : Nat) (n : Node) (t : TxPort) : TxPort :=
  { t with nodes := tabSet none t.nodes i (if n = { group := i / 4 % 4 } then none else some n) }

/-- The copies queued. -/
def queueAt (t : TxPort) (q : Nat) : List Copy := tabGet [] t.queues q
/-- Replace a queue. -/
def setQueue (q : Nat) (cs : List Copy) (t : TxPort) : TxPort := { t with queues := tabSet [] t.queues q cs }

/-- The buffer-route copies of a port in progress or suspended. -/
def inProgress (t : TxPort) : List Copy := (t.tx.toList ++ t.susp.toList).map fun x => x.copy

/-- Cells that a copy in progress counts on its queue: speculative copies are on no queue (R244). -/
def onQueue (c : Copy) : Bool := match c.kind with | .express | .cut => false | _ => true

/-- A queue's depth in cells (R244). -/
def depthOf (t : TxPort) (q : Nat) : Nat :=
  ((queueAt t q ++ (inProgress t).filter (fun c => onQueue c && decide (c.queue = q))).map Copy.cells).sum

/-- The queue for a class on a port (R230, R229). -/
def queueFor (s : State) (p cls : Nat) : Nat := if isRecirc p then 0 else (txAt s p).classMap.getD cls 0

/-- Nominal rate of a port in Gb/s (Table 02-1, R229). -/
def portRate (s : State) (p : Nat) : Nat :=
  if isFront p then [0, 50, 100, 200, 400, 800, 1600].getD (portAt s p).cfg.speed 0 else 800

/-- Lanes of a configuration's mode (Table 02-1). -/
def cfgLanes (c : PortCfg) : Nat := [0, 50, 100, 200, 400, 800, 1600].getD c.speed 0 / [50, 100, 200].getD c.laneRate 50
/-- Lanes of a port's mode. -/
def portLanes (s : State) (p : Nat) : Nat := if isFront p then cfgLanes (portAt s p).cfg else 16

/-- Active lane rate of a port in one direction: the nominal rate scaled to the active lanes (R69). -/
def activeRate (s : State) (p : Nat) (rx : Bool) : Nat :=
  if isFront p then
    let d := (portAt s p).damp
    portRate s p * 2 ^ (if rx then d.rxLanes else d.txLanes) / max 1 (portLanes s p)
  else 800

/-! ### Shapers (R235, R236) -/

/-- A shaper refilled to the present cycle. -/
def refill (now : Nat) (h : Shaper) : Shaper :=
  if h.rate = 0 then { h with at_ := now }
  else { h with s := min (h.s + h.rate * (now - h.at_)) (8000 * h.burst), at_ := now }

/-- A level lets copies pass: unshaped, or 0 or more tokens. -/
def passes (now : Nat) (h : Shaper) : Bool := decide (h.rate = 0) || decide ((refill now h).s ≥ 0)

/-- Debit a copy of frame length `len` (R236). -/
def debit (now len : Nat) (h : Shaper) : Shaper :=
  if h.rate = 0 then h else let h := refill now h; { h with s := h.s - 8000 * (len + 20) }

/-- Change a shaper's RATE and BURST: S is kept, clipped to the new cap (R250). -/
def reshape (now rate burst : Nat) (h : Shaper) : Shaper :=
  let h := refill now h
  { h with rate := rate, burst := burst, s := min h.s (8000 * burst) }

/-- The three shapers on a queue's path let copies pass (R231). -/
def pathOpen (now : Nat) (t : TxPort) (q : Nat) : Bool :=
  passes now (nodeAt t q).shaper && passes now (nodeAt t (16 + (nodeAt t q).group)).shaper && passes now t.shaper

/-- Debit each shaper on a queue's path. -/
def debitPath (now len q : Nat) (t : TxPort) : TxPort :=
  let n := nodeAt t q
  let g := nodeAt t (16 + n.group)
  { setNode (16 + n.group) { g with shaper := debit now len g.shaper } (setNode q { n with shaper := debit now len n.shaper } t) with
    shaper := debit now len t.shaper }

/-! ### Time gates (R238 to R242) -/

/-- A segment of gate state: its length and GATES. -/
abbrev Seg := Nat × Nat

/-- The segments of one cycle of `len` ns: entries in turn, the last held to the end, the list cut by the cycle's end (R238). -/
def cycleSegs : Nat → List (Nat × Nat) → List Seg
  | _, [] => []
  | len, [(g, _)] => if len = 0 then [] else [(len, g)]
  | len, (g, i) :: rest => if len = 0 then [] else (min i len, g) :: cycleSegs (len - min i len) rest

/-- The period of a trigger in force. -/
def trigPeriod (s : State) (t : Nat) : Nat := (trigAt s t).act.period

/-- Drop the first `n` ns of a segment list. -/
def dropNs : Nat → List Seg → List Seg
  | _, [] => []
  | n, (d, g) :: rest => if n ≥ d then dropNs (n - d) rest else (d - n, g) :: rest

/-- Nanoseconds of a segment list until queue `q`'s gate is first closed; none when it is open throughout. -/
def closeIn (q : Nat) : List Seg → Nat → Option Nat
  | [], _ => none
  | (d, g) :: rest, acc => if bit g q then closeIn q rest (acc + d) else some acc

/-- The segments of one cycle of a list. -/
def listSegs (s : State) (l : GateList) : List Seg := cycleSegs (trigPeriod s l.trigger) l.entries

/-- Nanoseconds from now until queue `q`'s gate is first closed, under the operational list up to the instant at which an accepted change applies,
and under the new list from then on (R240); none when it never closes. A list that does not close a gate within one cycle never does. -/
def closeNs (s : State) (p q : Nat) : Option Nat :=
  let now := timeTotal s
  let g := (txAt s p).gate
  let oper : Option Nat := g.oper.bind fun l => let c := listSegs s l; closeIn q (dropNs (now - g.cycleAt) c ++ c) 0
  match g.pending with
  | none => oper
  | some new =>
    let trig := match new with | some l => some l.trigger | none => g.oper.map GateList.trigger
    match trig.bind fun t => (trigAt s t).next with
    | none => oper
    | some at_ =>
      if oper.any fun x => decide (x < at_ - now) then oper
      else new.bind fun l => closeIn q (listSegs s l) (at_ - now)

/-- The longest unbroken open interval of queue `q` over one cycle, the cycle's end joining its start (R241); none when unlimited. -/
def longest (s : State) (p q : Nat) : Option Nat :=
  match (txAt s p).gate.oper with
  | none => none
  | some l =>
    let c := listSegs s l
    if c.all (fun e => bit e.2 q) then none
    else
      let runs := (c ++ c).foldl (fun (st : Nat × Nat) e =>
        if bit e.2 q then (st.1 + e.1, max st.2 (st.1 + e.1)) else (0, st.2)) (0, 0)
      some runs.2

/-- `bytes` of wire time, INCR applied, fit in `ns` of device time on the port (R240). -/
def fitsIn (s : State) (p bytes ns : Nat) : Bool :=
  decide (bytes * 8 * s.time.incr ≤ ns * portRate s p * 2 ^ 32)

/-- The bytes that R240 or, for a splittable pMAC frame, R242 asks room for. -/
def needBytes (pre : PortPre) (q len : Nat) : Nat :=
  if pre.active && bit pre.pmacMask q && decide (len ≥ 64 * (1 + pre.addFrag) + 60) then 64 * (1 + pre.addFrag) + 20 else len + 20

/-- A copy of queue `q` may start now under the fit rule. -/
def gateFits (s : State) (p q len : Nat) : Bool :=
  match closeNs s p q with
  | none => true
  | some ns => fitsIn s p (needBytes (portAt s p).pre q len) ns

/-- A copy of queue `q` never fits the operational list (R241). -/
def neverFits (s : State) (p q len : Nat) : Bool :=
  match longest s p q with
  | none => false
  | some ns => !fitsIn s p (needBytes (portAt s p).pre q len) ns

/-! ### Pause (R50, R51, R57) -/

/-- The priority under which a queue is paused: 0 in link-pause mode, its mapped priority in PFC mode. -/
def queuePrio (fc : PortFc) (q : Nat) : Option Nat :=
  if fc.mode = 1 then some 0
  else if fc.mode = 2 then (let k := fc.prioOf.getD q 8; if k < 8 then some k else none)
  else none

/-- A queue is paused, unless the watchdog has fired with action IGNORE (R57). -/
def queuePaused (fc : PortFc) (q : Nat) : Bool :=
  match queuePrio fc q with
  | some k => (tabGet none fc.paused k).isSome && !(fc.pwdIgnore && tabGet false fc.pwdActive k)
  | none => false

/-- A queue of the priority holds a frame. -/
def prioHolds (s : State) (p k : Nat) : Bool :=
  (List.range 16).any fun q => decide (queuePrio (portAt s p).fc q = some k) && !(queueAt (txAt s p) q).isEmpty

/-- The watchdog has fired with action DROP for a queue's priority. -/
def queueDropped (fc : PortFc) (q : Nat) : Bool :=
  match queuePrio fc q with
  | some k => !fc.pwdIgnore && tabGet false fc.pwdActive k
  | none => false

/-! ### Destinations (R246, R248) -/

/-- A member port is up. -/
def portUp (s : State) (p : Nat) : Bool := (portAt s p).linkUp
/-- LAG group `g` at g, ECMP group `g` at 256 + g. -/
def groupAt (s : State) (i : Nat) : Group := tabGet {} s.groups i

/-- A group's change is written by one bucket; after the last the leaving member is gone (R247). -/
def writeBucket (g : Group) : Group :=
  match g.moves with
  | (b, i) :: (m :: rest) => { g with buckets := g.buckets.set b i, moves := m :: rest }
  | [(b, i)] => endChange { g with buckets := g.buckets.set b i, moves := [] }
  | [] => endChange g
where
  /-- The leaving member's place in the list closes. -/
  endChange (g : Group) : Group :=
    match g.leaving with
    | some m => { g with members := g.members.eraseIdx m, leaving := none, buckets := g.buckets.map fun i => if i > m then i - 1 else i }
    | none => g

/-- Every bucket that a group's change still has to write is written. -/
def writeBuckets (i : Nat) (s : State) : State :=
  let g := groupAt s i
  { s with groups := tabSet {} s.groups i (g.moves.foldl (fun g _ => writeBucket g) (writeBucket g)) }

/-- A member word names a LAG group. -/
def isLagMember (m : Nat) : Bool := bit m 10

/-- A member is up. -/
def memberUp (s : State) (m : Nat) : Bool :=
  if isLagMember m then (groupAt s (m % 1024)).members.any (portUp s) else portUp s (m % 1024)

/-- The words of a group's 384 in the pinning memory in which a bucket's 6-bit index lies (Table 20-1: 491,520 words for 1,280 groups). -/
def pinWords (bucket : Nat) : List Nat := [6 * bucket / 64, (6 * bucket + 5) / 64].eraseDups

/-- A bucket's index in group `i` (LAG at i, ECMP at 256 + i) reads as poison. -/
def pinPoisoned (s : State) (i bucket : Nat) : Bool :=
  !s.mem.poison.isEmpty && (pinWords bucket).any fun w => poisoned s (.pinning i w)

/-- The member that serves a bucket of group `gi`: its own, or the next in list order that is up. A poisoned index reads as its reset value 0
(R460). -/
def servingMember (s : State) (gi : Nat) (bucket : Nat) : Option Nat :=
  let g := groupAt s gi
  let i := if pinPoisoned s gi bucket then 0 else g.buckets.getD bucket 0
  let n := g.members.length
  (List.range n).findSome? fun d =>
    let m := g.members.getD ((i + d) % n) 0
    if memberUp s m then some m else none

/-- A LAG group's bucket for a hash. -/
def lagBucket (hash : Nat) : Nat := bits hash 11 0 ^^^ bits hash 27 16

/-- A LAG group's port for a hash. -/
def resolveLag (s : State) (g hash : Nat) : Option Nat := servingMember s g (lagBucket hash)

/-- The egress port of a destination; none when no member of its group is up. DESIGN CHOICE, log 31. -/
def resolve (s : State) (kind dest hash : Nat) : Option Nat :=
  if kind = 0 then some dest
  else if kind = 1 then resolveLag s dest hash
  else if kind = 2 then
    match servingMember s (256 + dest) (bits hash 11 0) with
    | none => none
    | some m => if isLagMember m then resolveLag s (m % 1024) hash else some (m % 1024)
  else none

/-- The poisoned bucket indexes that resolving a destination reads. -/
def poisonedPins (s : State) (kind dest hash : Nat) : Nat :=
  if kind = 1 then b2n (pinPoisoned s dest (lagBucket hash))
  else if kind = 2 then
    b2n (pinPoisoned s (256 + dest) (bits hash 11 0))
      + (match servingMember s (256 + dest) (bits hash 11 0) with
         | some m => if isLagMember m then b2n (pinPoisoned s (m % 1024) (lagBucket hash)) else 0
         | none => 0)
  else 0

end Sys2Proof.Machine
end

