-- ==== Sys2Proof/Machine/Gates.lean ====
section
/-! DEFINITION. Time gates at work (R238 to R242): cycle starts, entries, and the pMAC frame that a closing gate holds. -/
namespace Sys2Proof.Machine

/-- A queue is served by the pMAC. -/
def isPmac (s : State) (p q : Nat) : Bool := let x := (portAt s p).pre; x.active && bit x.pmacMask q

/-- The pMAC frame in progress may be preempted after `cut` bytes of the present fragment (R61). -/
def maySplit (s : State) (p : Nat) (t : Tx) (cut : Nat) : Bool :=
  isPmac s p t.copy.queue && t.fcs.isNone && decide (cut + 4 ≥ 64 * (1 + (portAt s p).pre.addFrag)) && decide (t.sent + cut + 64 ≤ t.copy.len)

/-- The frame in progress is suspended after `cut` bytes of its present fragment. -/
def suspend (p : Nat) (t : Tx) (cut : Nat) (s : State) : State :=
  bumpMac Ctr.macTxFrag p 1 (modTx p (fun x => { x with tx := none, susp := some { t with sent := t.sent + cut, frags := t.frags + 1 } }) s)

/-- Gates of a port's operational list now. -/
def gatesNow (t : TxPort) : Nat :=
  match t.gate.oper with
  | some l => ((l.entries.getD t.gate.entry (0xFFFF, 0)).1)
  | none => 0xFFFF

/-- The instant at which the gate of a pMAC queue closes on a frame that starts now: a change accepted later does not move it (R239). -/
def closing (s : State) (p q : Nat) : Option Nat := if isPmac s p q then (closeNs s p q).map (timeTotal s + ·) else none

/-- The gate has closed on the splittable pMAC frame in progress: its fragment ends where R242 gives and the remainder is suspended. -/
def gateHold (p : Nat) (s : State) : State :=
  match (txAt s p).tx with
  | some t =>
    match t.closeAt with
    | some at_ =>
      let left := t.copy.len - t.sent
      let wire := (at_ - t.fragAt) * portRate s p * 2 ^ 32 / (8 * max 1 s.time.incr)
      if decide (at_ ≤ timeTotal s) && t.fcs.isNone && decide (wire < left + 20) && maySplit s p t (min (wire - 24) (left - 64)) then
        bump (Ctr.tlrGateHold (portSlice p)) (suspend p t (min (wire - 24) (left - 64)) s)
      else s
    | none => s
  | none => s

/-- A gate cycle starts: a pending list becomes operational at the instant of R239, or the operational list begins again.
DESIGN CHOICE, log 31. -/
def gateCycle (p : Nat) (s : State) : State :=
  let g := (txAt s p).gate
  let trig : Option Nat := match g.pending with
    | some (some l) => some l.trigger
    | _ => g.oper.map GateList.trigger
  let newAt : Option Trigger := match g.pending, trig with
    | some _, some t => if (trigAt s t).fires ≠ g.pendSeen then some (trigAt s t) else none
    | _, _ => none
  match newAt with
  | some t =>
    modTx p (fun x => { x with gate := { x.gate with
      oper := (g.pending.getD none), entry := 0, entryAt := t.lastAt, cycleAt := t.lastAt, pending := none, seen := t.fires } }) s
  | none =>
    match g.oper with
    | some l =>
      let t := trigAt s l.trigger
      if t.fires ≠ g.seen then
        modTx p (fun x => { x with gate := { x.gate with
          entry := 0, entryAt := t.lastAt, cycleAt := t.lastAt, seen := t.fires } }) s
      else s
    | none => s

/-- An entry's interval ends and the next entry's gates apply. -/
def gateEntry (p : Nat) (s : State) : State :=
  let g := (txAt s p).gate
  match g.oper with
  | some l =>
    let iv := (l.entries.getD g.entry (0, 0)).2
    if g.entry + 1 < l.entries.length ∧ timeTotal s ≥ g.entryAt + iv then
      modTx p (fun x => { x with gate := { x.gate with entry := g.entry + 1, entryAt := g.entryAt + iv } }) s
    else s
  | none => s

/-- The entries whose intervals have ended by now give way to the next, up to `n` of them. -/
def entriesDue (p : Nat) : Nat → State → State
  | 0, s => s
  | n + 1, s => entriesDue p n (gateEntry p s)

/-- The gates of a port as they stand at this instant: a cycle start comes before a start decision of the same instant (R239). -/
def catchUp (p : Nat) (s : State) : State :=
  if (txAt s p).gate.oper.isSome || (txAt s p).gate.pending.isSome then gateHold p (entriesDue p 256 (gateCycle p s)) else s

end Sys2Proof.Machine
end

