-- ==== Sys2Proof/Machine/Frames.lean ====
section
/-! DEFINITION. What becomes of a frame (chapter 07): its copies, voiding with refunds, and settling with every escrowed effect. -/
namespace Sys2Proof.Machine

/-! ### PTP event messages (R290) -/

/-- Offset of a PTP message's header from the first byte of the frame. DEDUCED, log 28. -/
def ptpOffset (r : Rec) : Nat := if r.ipv4 || r.ipv6 then r.l4Off + 8 else if r.tagged then 18 else 14
/-- messageType of a frame taken as a PTP message. -/
def ptpType (r : Rec) (bs : List Byte) : Nat := ((bs.getD (ptpOffset r) 0#8).toNat) % 16

/-- A PTP event message: PTP_EVENT is set and messageType is 0 to 3; with any other type the frame is treated as one without PTP_EVENT. -/
def ptpEvent (r : Rec) (bs : List Byte) : Bool := r.ptp && decide (ptpType r bs ≤ 3)

/-! ### Restoring lanes and leaving LPI when traffic comes (R66, R71) -/

/-- The transmitter starts to restore full width (Table 02-3 step 5). -/
def startRestore (p : Nat) (s : State) : State :=
  let d := (portAt s p).damp
  if decide (2 ^ d.txLanes < portLanes s p) && !d.restoring then
    modPort p (fun q => { q with damp := { q.damp with restoring := true, shed := none } }) s
  else s

/-- What a newly queued copy makes a front port do: leave LPI (R71), note a queue of more than 16 cells, restore lanes above DAMP_WAKE_CELLS
(R66). -/
def wakePort (p q : Nat) (s : State) : State :=
  if isFront p then
    let d := (portAt s p).damp
    let depth := depthOf (txAt s p) q
    let s := modPort p (fun x => { x with damp := { x.damp with
      waking := x.damp.waking || x.damp.txLpi, idleAt := s.cycles, winDeep := x.damp.winDeep || decide (depth > 16) } }) s
    if depth > d.wake then startRestore p s else s
  else s

/-- A copy is about to join queue `q` of a front port: a priority none of whose queues held a frame holds one from now on (R56). -/
def noteHeld (p q : Nat) (s : State) : State :=
  match queuePrio (portAt s p).fc q with
  | some k =>
    if isFront p && !prioHolds s p k then
      modPort p (fun x => { x with fc := { x.fc with heldAt := tabSet 0 x.fc.heldAt k s.cycles } }) s
    else s
  | none => s

/-! ### Copies -/

/-- Put a copy on its queue (R229, R244). -/
def pushCopy (p : Nat) (c : Copy) (s : State) : State :=
  let s := modTx p (fun t =>
    let t := setQueue c.queue (queueAt t c.queue ++ [c]) t
    { t with peak := tabSet 0 t.peak c.queue (max (tabGet 0 t.peak c.queue) (depthOf t c.queue)) }) (noteHeld p c.queue s)
  let k := portSlice p
  let s := bump (Ctr.tlrEnq k) s
  let s := tallyEvent (16 * k + 4) 4 1 (fun x => decide (x = 16 * (p % 32) + c.queue)) (some c.chit) s
  wakePort p c.queue s

/-- A forwarding copy counts as dropped after admission (R178): its loss is billed in slice `k` for egress port `p`. -/
def dropAdmitted (k p n : Nat) (s : State) : State :=
  match chitAt s n with
  | some c => billCopy k p 2 c s
  | none => s

/-- A port takes copies: a front port up, or a recirculation port, of a slice that is powered and not held in reset (R73, R420, R438). -/
def takesCopies (s : State) (p : Nat) : Bool :=
  coreRuns s (portSlice p) && (isRecirc p || (portAt s p).linkUp)

/-- Enqueue a copy on port `p`; one that never fits, meets a port that is down or whose slice is in Plain service (R431), or exceeds REFS is
not queued and `lost` follows. DESIGN CHOICE, log 31. -/
def enqueueCopy (p : Nat) (c : Copy) (lost : State → State) (s : State) : State :=
  let s := catchUp p s
  if neverFits s p c.queue c.len then lost (bump (Ctr.tlrNeverFits (portSlice p)) s)
  else if !takesCopies s p || plainSlice s (portSlice p) || slicesMove s (portSlice p) then lost s
  else
    match addRef c.chit s with
    | some s => pushCopy p c s
    | none => lost (bump Ctr.mntRefLimit s)

/-- A buffer-route copy of a frame for a queue. -/
def copyFor (s : State) (n : Nat) (c : Chit) (kind : CopyKind) (q : Nat) : Copy :=
  { kind := kind, chit := n, queue := q, cells := c.chain.length, len := c.bytes.length, enq := timeTotal s }

/-- The forwarding copy of a frame whose enqueue the Teller accepts (R176, R246). -/
def makeForward (n : Nat) (s : State) : State :=
  match chitAt s n with
  | some c =>
    match c.cls with
    | some r =>
      let s := countDefaults 5 (poisonedPins s r.destKind r.dest r.hash) s
      match resolve s r.destKind r.dest r.hash with
      | some p => enqueueCopy p (copyFor s n c .forward (queueFor s p r.cls)) (dropAdmitted (portSlice p) p n) s
      | none => dropAdmitted (chitSlice n) 0 n (bump (Ctr.tlrGroupDead (chitSlice n)) s)
    | none => s
  | none => s

/-- The capture record of a frame (Table 22-6). -/
def captureRecord (ring seq session n : Nat) (c : Chit) (r : Rec) : List Byte :=
  let l := c.bytes.length
  recordHead 3 3 ring seq c.rxAt
    ++ leBytes 4 (c.port + session * 2 ^ 10 + c.color * 2 ^ 14 + r.cls * 2 ^ 16 + r.bcls * 2 ^ 20)
    ++ leBytes 4 (l + r.tenant * 2 ^ 14)
    ++ leBytes 4 (r.dest + r.destKind * 2 ^ 10 + r.rule * 2 ^ 12 + b2n r.ruleHit * 2 ^ 25)
    ++ leBytes 4 r.segment ++ leBytes 4 n ++ leBytes 4 (min l 128) ++ List.replicate 24 0#8
    ++ c.bytes.take 128 ++ List.replicate (128 - min l 128) 0#8

/-- A mirror session. -/
def mirrorAt (s : State) (m : Nat) : Mirror := tabGet {} s.mirrors m

/-- The mirror copy or capture record that a settled frame's escrow makes (R249, R490). -/
def makeMirror (n : Nat) (s : State) : State :=
  match chitAt s n with
  | some c =>
    match c.mirrorSel, c.cls with
    | some m, some r =>
      let v := mirrorAt s m
      let k := chitSlice n
      if v.kind = 1 then
        let before := (chitAt s n).map Chit.refs
        let s := enqueueCopy v.port (copyFor s n c (.mirror m) v.sel) (bump (Ctr.tlrMirDrop k m)) s
        bumpIf (decide ((chitAt s n).map Chit.refs ≠ before)) (Ctr.tlrMirCopy k m) s
      else if v.kind = 2 then
        if c.refs ≥ 1023 then bump (Ctr.tlrMirDrop k m) (bump Ctr.mntRefLimit s) else
        let o := offerRecords v.sel [captureRecord v.sel (streamAt s v.sel).seq m n c r] s
        bump (if o.2 then Ctr.tlrMirCopy k m else Ctr.tlrMirDrop k m) o.1
      else s
    | _, _ => s
  | none => s

/-! ### Learning and hits (R162, R164 to R166, R363) -/

/-- The hold table's slot that the next notice takes, and the slot of the oldest one. -/
def holdTail (s : State) : Nat := (ctrAt s Ctr.hifLearnHeld).toNat % 4096
def holdHead (s : State) : Nat := (holdTail s + 4096 - s.up.hold.length) % 4096

/-- Give a learn notice to the upstream ring, or to the hold table when it finds no room or notices already wait (R363). -/
def postNotice (n : Notice) (s : State) : State :=
  if s.up.hold.isEmpty && decide (usRoom s ≥ 1) then pushReady (.notice n) s
  else if domainWorks s 32 && !s.mem.ddrFail && decide (s.up.hold.length < 4096) then
    let s := cleanse (.notice (holdTail s)) s
    bump Ctr.hifLearnHeld { s with up := { s.up with hold := s.up.hold ++ [{ n with held := true }] } }
  else bump Ctr.hifLearnDrop s

/-- A committed learn notice meets the slice's learn filter (R165). -/
def learnCommit (k port tenant rxAt : Nat) (l : LearnEscrow) (s : State) : State :=
  let u := lkpAt s k
  if u.filter.any (fun e => e.1 = l.table && e.2.1 = l.key) then bump (Ctr.lkpLfiltSupp k) s
  else
    let full := decide (u.filter.length ≥ 8192)
    let s := if full then bump (Ctr.lkpLfiltFull k) s
      else modLkp k (fun u => { u with filter := u.filter ++ [(l.table, l.key, timeTotal s)] }) s
    postNotice ⟨port, l.table, l.move, false, k, rxAt % 2 ^ 32, l.oldData, l.key, tenant⟩ (bump (Ctr.lkpLearn k) s)

/-- A committed hit sets HIT in its replica if the location still holds the entry, else it is lost (R162). -/
def hitCommit (h : HitEscrow) (s : State) : State :=
  match slotAt s h.loc with
  | some e =>
    if e.tid = h.table && e.key = h.key then
      { s with tbl := { s.tbl with slots := tabSet none s.tbl.slots h.loc (some { e with hit := e.hit ||| 2 ^ h.quad }) } }
    else bump Ctr.tblHitLost s
  | none => bump Ctr.tblHitLost s

/-! ### Voiding (R177, R180, R199) -/

/-- Return a meter debit, capped; whether tokens were lost. -/
def refundMeter (k : Nat) (d : DebitEscrow) (s : State) : State × Bool :=
  let m := meterAt s k d.meter
  let a := m.t1 + d.t1
  let b := m.t2 + d.t2
  (setMeter k d.meter { m with t1 := min a (8000 * m.cfg.bs1), t2 := min b (8000 * m.cfg.bs2) } s,
   decide (a > 8000 * m.cfg.bs1 ∧ d.t1 > 0) || decide (b > 8000 * m.cfg.bs2 ∧ d.t2 > 0))

/-- Tokens in a tenant's positive purses. -/
def positivePurses (v : Tenant) : Int := (v.purses.map fun e => max e.2 0).sum

/-- Return a purse debit to the slice's own purse, capped (R180, R199); whether tokens were lost. -/
def refundPurse (k t amt : Nat) (s : State) : State × Bool :=
  let v := tenantAt s t
  if v.actEn then
    let p : Int := tabGet 0 v.purses k
    let v1 := { v with purses := tabSet 0 v.purses k (p + amt) }
    let excess : Int := v1.treasury + positivePurses v1 - 8000 * v.actBurst
    let cut : Int := max 0 (min excess amt)
    (setTenant t { v with purses := tabSet 0 v.purses k (p + amt - cut) } s, decide (cut > 0))
  else (s, true)

/-- The escrow words that a chit uses: 0 and 1 its meter debits, 2 its purse debit, 3 its ledger increment, 4 its mirror selection, 5 its Tally
events, 8 + 2i its learn notices, 9 + 2i its hits. DESIGN CHOICE, log 52. -/
def escrowWords (c : Chit) : List Nat :=
  List.range c.debits.length ++ (if c.purse.isSome then [2] else []) ++ (if c.admitted then [3] else [])
    ++ (if c.mirrorSel.isSome then [4] else []) ++ (if c.tally.isEmpty then [] else [5])
    ++ (List.range c.learns.length).map (fun i => 8 + 2 * i) ++ (List.range c.hits.length).map (fun i => 9 + 2 * i)

/-- How many of a chit's escrow words among `ws` cannot be read (R185). -/
def badWords (s : State) (n : Nat) (ws : List Nat) : Nat := (ws.filter fun w => poisoned s (.escrow n w)).length

/-- A read of poisoned escrow words is counted (R185, Table 20-2). -/
def countEscrow (k bad : Nat) (s : State) : State :=
  bumpIf (decide (bad > 0)) (Ctr.lkpEscrowPoison k) (bumpBy (Ctr.memPoisonRead 5) bad s)

/-- Return the meter debits from word `i` on; a word that cannot be read returns nothing (R185). Whether tokens were lost to a cap. -/
def refundMeters (k n : Nat) : Nat → List DebitEscrow → State × Bool → State × Bool
  | _, [], a => a
  | i, d :: ds, a =>
    refundMeters k n (i + 1) ds
      (if poisoned a.1 (.escrow n i) then a else let b := refundMeter k d a.1; (b.1, a.2 || b.2))

/-- Refund every debit of a voided frame that its escrow still tells, before its chit is released (R180, R185). DESIGN CHOICE, log 52. -/
def refundAll (k n : Nat) (c : Chit) (s : State) : State :=
  let r := refundMeters k n 0 c.debits (s, false)
  let r := match c.purse with
    | some (t, amt) =>
      if poisoned r.1 (.escrow n 2) then r else let b := refundPurse k t amt r.1; (b.1, r.2 || b.2)
    | none => r
  let held := !c.debits.isEmpty || c.purse.isSome
  bumpIf (held && r.2) (Ctr.lkpRefundCapped k) (bumpIf held (Ctr.lkpRefund k) r.1)

/-- The escrow words that a refund reads. -/
def debitWords (c : Chit) : List Nat := List.range c.debits.length ++ (if c.purse.isSome then [2] else [])

/-- How a speculative copy's stomp is counted in the ingress slice (R181). -/
inductive StompWhy where
  | wrong | late | void | other
  deriving DecidableEq, Repr

/-- Bytes of the frame that the MAC has sent of a copy in progress: those of earlier fragments, and the time since the present one began at the
port's active rate. -/
def sentBytes (s : State) (p : Nat) (t : Tx) : Nat :=
  t.sent + (timeTotal s - t.fragAt) * activeRate s p false * 2 ^ 32 / (8 * max 1 s.time.incr)

/-- The first `n` bytes of a frame with their inverted FCS (R30). -/
def cutBytes (n : Nat) (bs : List Byte) : List Byte := bs.take n ++ (fcsOf (bs.take n)).map (fun b => ~~~b)

/-- The copy in progress ends after `n` bytes of the frame with their inverted FCS (R29, R30). A copy whose first bytes still gather in the
transmit bridge sends nothing. DESIGN CHOICE, log 60. -/
def stompAt (p : Nat) (t : Tx) (n : Nat) (s : State) : State :=
  if t.began then
    bumpMac Ctr.macTxStomped p 1 (modTx p (fun x => { x with tx := some { t with fcs := some false, bytes := cutBytes n t.bytes } }) s)
  else modTx p (fun x => { x with tx := some { t with fcs := some false, bytes := [] } }) s

/-- Where a copy that ends under R30 stops: at what has been sent within 2 ns (a free choice), not before byte 60, not past the `most` bytes at
hand, and so that its FCS makes it no longer than the frame. DESIGN CHOICE, log 60. -/
def stompPoint (s : State) (p : Nat) (t : Tx) (most : Nat) : Nat × State :=
  let x := freeChoice (activeRate s p false / 4 + 1) s
  (min (min (t.copy.len - 4) most) (max 60 (sentBytes s p t + x.1)), x.2)

/-- The egress MAC ends the copy in progress under R30. -/
def stompTx (p : Nat) (t : Tx) (most : Nat) (s : State) : State :=
  let x := stompPoint s p t most
  stompAt p t x.1 x.2

/-- Bytes of a frame that have reached its slice: all once it has ended; otherwise those that the rows so far tell (byte 64 at the
pre-decode, byte 256 at the first cell, the first byte of each later one), none past byte MAX_LEN + 1 (R46).
DESIGN CHOICE, log 22. -/
def arrived (s : State) (c : Chit) : Nat :=
  let n := if c.ended then c.bytes.length
    else if c.chain.isEmpty then (if c.preDone then 64 else 1)
    else if c.chain.length = 1 then 256 else 256 * (c.chain.length - 1) + 1
  min (min n c.bytes.length) (if isFront c.port then (portAt s c.port).cfg.maxLen + 1 else c.bytes.length)

/-- The egress MAC ends a frame's express or cut-through copy with an inverted FCS: at the FCS itself when `atFcs` (R29), otherwise at once
(R30, R32). -/
def stompSpec (n : Nat) (why : StompWhy) (atFcs : Bool) (s : State) : State :=
  match chitAt s n with
  | some c =>
    match c.specPort with
    | some p =>
      match (txAt s p).tx with
      | some t =>
        if c.specOn && t.fcs.isNone && decide (t.copy.chit = n) then
          let k := chitSlice n
          let s := if atFcs then stompAt p t (t.copy.len - 4) s else stompTx p t (arrived s c) s
          let s := modChit n (fun c => { c with specOn := false }) s
          if t.copy.kind = .express then
            bump (match why with
              | .wrong => Ctr.lkpExpWrong k | .late => Ctr.lkpExpLate k
              | .void => Ctr.lkpExpVoid k | .other => Ctr.lkpExpOther k) s
          else s
        else s
      | none => s
    | none => s
  | none => s

/-! ### The transmit bridge (R44) -/

/-- Bytes that the transmit bridge must hold before the MAC starts a copy of a frame of `len` bytes on a port of `lanes` lanes. -/
def bridgeMin (spec : Bool) (lanes len : Nat) : Nat := min len (if spec then 256 else 512 * lanes)

/-- Bytes of a buffer-route copy that have gathered when its MAC starts it: the transmit bridge full (8 words of 64 bytes a lane), or the whole
frame. -/
def bridgeFull (s : State) (p len : Nat) : Nat := min len (512 * portLanes s p)

/-- A frame's speculative copy streams into its port's transmit bridge as the frame arrives; the MAC starts it when the bridge holds the minimum
of R44. DESIGN CHOICE, log 60. -/
def bridgeFeed (n : Nat) (s : State) : State :=
  match chitAt s n with
  | some c =>
    match c.specPort with
    | some p =>
      match (txAt s p).tx with
      | some t =>
        if c.specOn && !t.began && t.fcs.isNone && decide (t.copy.chit = n) then
          let held := arrived s c
          let go := decide (held ≥ bridgeMin true (portLanes s p) t.copy.len)
          let now := timeTotal s
          modTx p (fun x => { x with tx := some { t with
            bridge := held, began := go, txAt := if go then now else t.txAt, fragAt := if go then now else t.fragAt } }) s
        else s
      | none => s
    | none => s
  | none => s

/-- Free the thread that parses a frame and take the frame out of the dispatcher's line: a frame that voids for any cause ends its thread, or its
wait, at once. DESIGN CHOICE, log 64. -/
def endParse (n : Nat) (s : State) : State :=
  match chitAt s n with
  | some c =>
    let k := chitSlice n
    let s := match c.parse with
      | some t => if t.done then s else modHarp k (fun h => { h with threads := tabSet none h.threads t.th none }) s
      | none => s
    modChit n (fun c => { c with parse := none })
      (modHarp k (fun h => { h with waiting := h.waiting.filter (fun x => x != n) }) s)
  | none => s

/-- A provisional chit voids with a cause (R177): its copy is stomped, its escrow discarded, its tokens refunded, its chain freed. A chit
that is no longer provisional is untouched (R178). DESIGN CHOICE, log 52. -/
def voidChit (n cause : Nat) (s : State) : State :=
  match chitAt s n with
  | some c =>
    if c.status = .provisional then
      let k := chitSlice n
      let s := stompSpec n .void false s
      let s := refundAll k n c (if cause = 14 then s else countEscrow k (badWords s n (debitWords c)) s)
      let s := endParse n s
      let s := modChit n (fun c => { c with
        status := .voided, debits := [], purse := none, learns := [], hits := [], mirrorSel := none, tally := [] }) s
      let s := bump (Ctr.lkpVoidCause k cause) (bump (Ctr.lkpVoided k) s)
      let s := tallyEvent (16 * k + 1) 8 1 (fun x => decide (x = cause)) none s
      dropHold n s
    else s
  | none => s

/-! ### Settling (R176, R179) -/

/-- A chit settles: the forwarding copy `mk` is created, every escrowed effect commits once, HOLD clears. A poisoned escrow word voids it
instead with code 14 (R185). DESIGN CHOICE, log 52. -/
def settleWith (mk : State → State) (n : Nat) (s : State) : State :=
  match chitAt s n with
  | some c =>
    if c.status = .provisional then
      let k := chitSlice n
      let bad := badWords s n (escrowWords c)
      if bad > 0 then voidChit n 14 (countEscrow k bad s)
      else
        let s := bump (Ctr.lkpSettled k) (modChit n (fun c => { c with status := .settled }) s)
        let s := billIngress n c s
        let s := mk s
        let tenant := (c.cls.map Rec.tenant).getD 0
        let s := c.learns.foldl (fun s l => learnCommit k c.port tenant c.rxAt l s) s
        let s := c.hits.foldl (fun s h => hitCommit h s) s
        let s := makeMirror n s
        let s := c.tally.foldl (fun s e => addTally e.1 e.2 s) s
        let s := modChit n (fun c => { c with debits := [], purse := none, learns := [], hits := [], tally := [] }) s
        dropHold n s
    else s
  | none => s

/-- The whole chain of a frame has been allocated: one cell for each 256 bytes. -/
def chainWhole (c : Chit) : Bool := decide (c.chain.length = (c.bytes.length + 255) / 256)

/-- The final destination's port and queue. -/
def finalDest (s : State) (r : Rec) : Option (Nat × Nat) :=
  (resolve s r.destKind r.dest r.hash).map fun p => (p, queueFor s p r.cls)

/-- A frame whose speculative copy goes to its final destination and queue settles once its FCS is good and it is admitted (R176). -/
def settleSpec (n : Nat) (s : State) : State :=
  match chitAt s n with
  | some c =>
    match c.cls with
    | some r =>
      let match_ : Bool := match c.specPort, finalDest s r with
        | some p, some (fp, fq) => decide (p = fp) && (match (txAt s p).tx with
          | some t => decide (t.copy.chit = n) && decide (t.copy.queue = fq) && t.fcs.isNone
          | none => false)
        | _, _ => false
      if c.specOn && match_ && c.ended && c.fcsGood && c.admitted && (decide (r.action = 0) || decide (r.action = 3)) then
        settleWith id n s
      else s
    | none => s
  | none => s

/-! ### Plain service (R431, R432) -/

/-- The plain ports that a frame of port `p` floods to; a slice that leaves Plain service is not among them (Table 18-5 step 1). -/
def floodPorts (s : State) (p : Nat) : List Nat :=
  match (portAt s p).plainGroup with
  | some g => (s.ports.filter fun e => decide (e.1 ≠ p) && decide (e.2.plainGroup = some g) && e.2.linkUp
      && plainSlice s (portSlice e.1) && !slicesMove s (portSlice e.1)).map fun e => e.1
  | none => []

/-- One flooded copy: on queue 0, not made when the queue would pass 16,384 cells. -/
def floodCopy (n : Nat) (s : State) (p : Nat) : State :=
  match chitAt s n with
  | some c =>
    if depthOf (txAt s p) 0 + c.chain.length > 16384 then plainCount p 8 c.bytes.length s
    else
      match addRef n s with
      | some s => pushCopy p (copyFor s n c .forward 0) s
      | none => plainCount p 8 c.bytes.length (bump Ctr.mntRefLimit s)
  | none => s

/-- A plain frame settles once its FCS is good and its chain whole, and is flooded (R431). -/
def plainFinish (n : Nat) (s : State) : State :=
  match chitAt s n with
  | some c =>
    if c.plain && c.ended && c.fcsGood && chainWhole c && decide (c.status = .provisional) then
      settleWith (fun s => (floodPorts s c.port).foldl (floodCopy n) s) n s
    else s
  | none => s

end Sys2Proof.Machine
end

