-- ==== Sys2Proof/Machine/IngressFam.lean ====
section
/-! DEFINITION. Frames on their way in: start, pre-decode, run-ahead, express decision, cells, fragments, end, injection. -/
namespace Sys2Proof.Machine

/-! ### The bytes that fixed logic reads -/

/-- Bytes `i` and `i + 1` of a frame, numbered from 1, in network order. -/
def half (bs : List Byte) (i : Nat) : Nat := beNat ((bs.drop (i - 1)).take 2)
/-- A value of bytes 13-14 that the slice takes as an outer tag (R80). -/
def isTpid (s : State) (k v : Nat) : Bool := v == 0x8100 || v == 0x88A8 || v == (harpAt s k).raTpid
/-- The frame has an outer tag. -/
def outerTag (s : State) (k : Nat) (bs : List Byte) : Bool := isTpid s k (half bs 13)
/-- The EtherType at bytes 13-14, or at 17-18 behind an outer tag, is 0x88F7 (R210, Table 07-2). -/
def isPtpType (s : State) (k : Nat) (bs : List Byte) : Bool :=
  half bs 13 == 0x88F7 || (outerTag s k bs && half bs 17 == 0x88F7)
/-- A MAC control frame (R53). -/
def isMacControl (bs : List Byte) : Bool := half bs 13 == 0x8808

/-! ### FRAME_START (R24, R25, R47, R48, R171) -/

/-- The lowest-numbered station entry that equals the frame's DA. -/
def stationMatch (s : State) (p : Nat) (bs : List Byte) : Option Nat :=
  if isFront p then (List.range 8).find? fun i => tabGet none (portAt s p).cfg.stations i == some (beNat (bs.take 6)) else none

/-- Provisional chits of a slice: PROV_NOW. -/
def provNow (s : State) (k : Nat) : Nat := ((chitsOf k s).filter fun e => decide (e.2.status = .provisional)).length

/-- The slice has no free chit, or 8,192 provisional ones (R25). -/
def exhausted (s : State) (k : Nat) : Bool := decide ((chitsOf k s).length ≥ 16384) || decide (provNow s k ≥ 8192)

/-- MAC_PTP takes effect; a reserved TC_MODE is refused: the field keeps its previous value and the refusal is logged (R473). -/
def ptpBoundary (p : Nat) (s : State) : State :=
  let c := (portAt s p).cfg
  let bad := decide (fld c.ptp 1 0 = 3)
  let w := if bad then setFld c.ptp 1 0 (fld c.ptpAct 1 0) else c.ptp
  let s := modPort p (fun q => { q with cfg := { q.cfg with ptp := w, ptpAct := w } }) s
  if bad then logAccess .boundary false (Region.mac p + 0xC) c.ptp 15#4 s else s

/-- LKP_SPEC_CFG takes effect; the reserved SPEC_DEPTH 3 is refused: the field keeps its previous value and the refusal is logged (R473). -/
def specBoundary (k : Nat) (s : State) : State :=
  let u := lkpAt s k
  let bad := decide (fld u.spec 1 0 = 3)
  let w := if bad then setFld u.spec 1 0 (fld u.specAct 1 0) else u.spec
  let s := modLkp k (fun u => { u with spec := w, specAct := w }) s
  if bad then logAccess .boundary false (Region.slice k + 0x2010) u.spec 15#4 s else s

/-- The Frame boundary of a slice and port: words written since take effect (Table 00-4). -/
def frameBoundary (p : Nat) (s : State) : State :=
  let s := specBoundary (portSlice p) (modLkp (portSlice p) (fun u => { u with cfgAct := u.cfg }) s)
  if isFront p then ptpBoundary p s else s

/-- Allocate chit `n` for a frame of port `p`. -/
def allocate (p n : Nat) (pmac : Bool) (bytes : List Byte) (inj : Option InjectInfo) (s : State) : State :=
  let s := ledgerBoundary s
  let k := portSlice p
  let st := if inj.isSome then none else stationMatch s p bytes
  let c : Chit := {
    port := p, pmac := pmac, station := st, bytes := bytes, rxAt := timeTotal s, order := s.chitSeq
    depth := fld (lkpAt s k).specAct 1 0, ra := tabGet {} s.ras p, epoch := s.led.epoch, plain := plainSlice s k
    inject := inj, hold := true }
  let s := { s with gens := tabSet 0 s.gens n ((tabGet 0 s.gens n + 1) % 16), chitSeq := s.chitSeq + 1 }
  let s := (List.range 32).foldl (fun s w => cleanse (.escrow n w) s) (setChit n (some c) s)
  let s := modLkp k (fun u => { u with hwm := max u.hwm (provNow s k) }) s
  let s := if st.isSome then bumpMac Ctr.macRxStation p 1 s else s
  tallyFrame (16 * k + 1) p bytes.length n s

/-- A chit number that the slice may take for a frame. -/
def freeChit (s : State) (k n : Nat) : Bool := decide (chitSlice n = k) && (chitAt s n).isNone

/-- A port takes frames: its slice is powered, released and examined, and a front port's link is up (R73, R184). -/
def receives (s : State) (p : Nat) : Bool :=
  let k := portSlice p
  coreRuns s k && (lkpAt s k).scanned && (!isFront p || (portAt s p).linkUp)

/-- What a FRAME_START brings: a recirculated frame's bytes are those that the port sent (R26), a port in near-end loopback receives what it
sent (R76), any other port what the line brings. With it, whether it is a pMAC frame. DESIGN CHOICE, log 53 and 60. -/
def frameSource (s : State) (p : Nat) (pmac : Bool) (bytes : List Byte) : Option (Bool × List Byte) :=
  if isRecirc p then (tabGet [] s.recirc p).head?.map fun b => (false, b)
  else if isFront p && decide ((portAt s p).cfg.loopback = 1) then (rxAt s p).loop.head?
  else some (pmac && isFront p, bytes)

/-- The source gives its frame up. -/
def popSource (p : Nat) (s : State) : State :=
  if isRecirc p then { s with recirc := tabSet [] s.recirc p (tabGet [] s.recirc p).tail }
  else if isFront p && decide ((portAt s p).cfg.loopback = 1) then modRx p (fun x => { x with loop := x.loop.tail }) s
  else s

/-- The frame that a port's pMAC assembles is discarded with an assembly error (R63); one that R25 dropped counts nowhere. -/
def assyError (p : Nat) (s : State) : State :=
  match (rxAt s p).pmac with
  | some f =>
    let s := setRx p true none s
    if f.chit.isNone then s
    else
      let s := bumpMac Ctr.macRxAssyErr p 1 s
      match rxChit s f with
      | some n => voidChit n 5 s
      | none => s
  | none => bumpMac Ctr.macRxAssyErr p 1 s

/-- A frame, or the first fragment of a pMAC frame, starts on a port whose MAC is receiving no other; a new SMD-S discards the pMAC frame being
assembled (R63). A slice without a chit to give drops the frame whole (R25), as does one
whose move between Plain and full service has begun: it counts plain drops (Table 18-5 step 1).
DESIGN CHOICE, log 22 and 53; PRESUMED, log 59. -/
def frameStart (p n : Nat) (pmac : Bool) (bytes : List Byte) (s : State) : State :=
  let k := portSlice p
  match frameSource s p pmac bytes with
  | none => s
  | some (pm, bytes) =>
    if receives s p && !bytes.isEmpty && (pm || (rxAt s p).emac.isNone) then
      let u := frameBoundary p (popSource p s)
      let u := if pm && (rxAt u p).pmac.isSome then assyError p u else u
      if slicesMove u k then
        (if plainSlice u k then plainCount p 8 bytes.length else id) (setRx p pm (some { chit := none, bytes := bytes }) u)
      else if exhausted u k then bump (Ctr.lkpChitExh k) (setRx p pm (some { chit := none, bytes := bytes }) u)
      else if freeChit u k n then
        let u := setRx p pm (some { chit := some (n, u.chitSeq), bytes := bytes }) (allocate p n pm bytes none u)
        if pm then bumpMac Ctr.macRxFrag p 1 (modRx p (fun x => { x with frag := 3 }) u) else u
      else s
    else s

/-- Meaning of FRAME_START. The host port's frames start with INJECT_FRAME. -/
def execFrameStart (p n : Nat) (pmac : Bool) (bytes : List Byte) (s : State) : Out :=
  if isPort p && sliceEnabled s (portSlice p) && decide (n < 262144) then
    .next (if p = 512 then s else frameStart p n pmac bytes s)
  else .fault .noSuchUnit

/-! ### PRE_DECODE and RUN_AHEAD_RESULT (R79 to R82) -/

/-- The run-ahead key (Table 03-1). -/
def runAheadKey (bs : List Byte) (vid seg : Nat) : Nat := beNat (bs.take 6) + vid * 2 ^ 48 + seg * 2 ^ 60

/-- A run-ahead lookup is launched for the frame (R79). -/
def launches (c : Chit) : Bool :=
  (decide (c.depth = 1) || decide (c.depth = 2)) && c.ra.raEn && c.station.isNone && !c.pmac && c.inject.isNone
    && decide ((c.bytes.headD 0#8).toNat % 2 = 0) && !c.plain

/-- At byte 64 the pre-decoder reads the tag, forms the provisional class and launches the lookup. -/
def preDecode (n : Nat) (s : State) : State :=
  match chitAt s n with
  | some c =>
    if !c.preDone && decide (c.bytes.length ≥ 64) && decide (c.status = .provisional) then
      let k := chitSlice n
      let tag := match c.inject with | some i => i.tagged | none => outerTag s k c.bytes
      let tci := half c.bytes 15
      let cls := match c.inject with
        | some i => i.defCls
        | none => if tag then fld c.ra.pcpMap (4 * bits tci 15 13 + 3) (4 * bits tci 15 13) else c.ra.defClass
      let key := runAheadKey c.bytes (if tag then tci % 4096 else 0) c.ra.defSeg
      let go := launches c
      let s := modChit n (fun c => { c with
        preDone := true, tagged := tag, provCls := cls, raLaunched := go
        raAsked := if go then some (c.ra.raTable, key) else none }) s
      bumpIf go (Ctr.hrpRaLaunch k) s
    else s
  | none => s

/-- Meaning of PRE_DECODE. -/
def execPreDecode (n : Nat) (s : State) : Out := onChit n preDecode s

/-- The run-ahead lookup returns (R81). DESIGN CHOICE, log 27. -/
def runAheadResult (n : Nat) (s : State) : State :=
  match chitAt s n with
  | some c =>
    match c.raAsked with
    | some (t, key) =>
      let k := chitSlice n
      let r := lookupIn s (k / 4) t key
      let s := countLookup k t (some n) r s
      let s := modChit n (fun c => { c with raAsked := none }) s
      if !r.hit then bump (Ctr.hrpRaMiss k) s
      else if bits r.data 11 10 = 0 then
        let p := bits r.data 9 0
        bump (Ctr.hrpRaHit k) (modChit n (fun c => { c with raDec := some (p, queueFor s p c.provCls) }) s)
      else bump (Ctr.hrpRaDefer k) s
    | none => s
  | none => s

/-- Meaning of RUN_AHEAD_RESULT. -/
def execRunAheadResult (n : Nat) (s : State) : Out := onChit n runAheadResult s

/-! ### EXPRESS_DECISION (R172, Table 07-2) -/

/-- The conditions of Table 07-2 that a cut-through copy shares (R173), for egress port `e` and queue `q`. A port with a paused queue does not
count as idle (R54).
DESIGN CHOICE, log 27; DEDUCED, log 57. -/
def speculable (s : State) (n : Nat) (c : Chit) (e q : Nat) : Bool :=
  let t := txAt s e
  let pe := portAt s e
  isFront c.port && isFront e && takesCopies s e
    && (queueAt t q).isEmpty && !(List.range 16).any (queuePaused pe.fc) && pathOpen s.cycles t q
    && t.tx.isNone && !pe.damp.txLpi && !pe.damp.waking && !pe.damp.restoring
    && decide (activeRate s e false ≤ activeRate s c.port true)
    && !(s.chits.any fun x => match x.2 with
      | some d => decide (x.1 ≠ n) && decide (d.port = c.port) && decide (d.order < c.order) && decide (d.status = .provisional)
      | none => false)
    && c.station.isNone && !c.pmac
    && !(pe.pre.active && bit pe.pre.pmacMask q)
    && gateFits s e q (portAt s c.port).cfg.maxLen
    && !c.plain && !plainSlice s (portSlice e)

/-- All conditions of Table 07-2. -/
def expressOk (s : State) (n : Nat) (c : Chit) (e q : Nat) : Bool :=
  decide (c.depth = 2) && bit (portAt s e).cfg.expClass c.provCls && !isPtpType s (chitSlice n) c.bytes && speculable s n c e q

/-- A speculative copy to port `e`, queue `q` is granted; the MAC starts it once its bridge holds the minimum (R44, R234). -/
def startSpec (kind : CopyKind) (n e q : Nat) (s : State) : State :=
  match chitAt s n with
  | some c =>
    match addRef n s with
    | some s =>
      let now := timeTotal s
      let s := modTx e (fun t => { t with
        tx := some { copy := copyFor s n c kind q, txAt := now, fragAt := now, bytes := c.bytes, began := false } }) s
      let s := modChit n (fun c => { c with specPort := some e, specOn := true }) s
      bridgeFeed n (bump (if kind = .express then Ctr.lkpExpStart (chitSlice n) else Ctr.lkpCutStart (chitSlice n)) s)
    | none => bump Ctr.mntRefLimit s
  | none => s

/-- The express copy of a frame is wrong (R181): its classified record does not confirm the decision or makes it a PTP event message, or a meter
rewrites it. -/
def expressWrong (c : Chit) : Bool :=
  match c.cls with
  | some r => !r.raConfirm || ptpEvent r c.bytes || (c.admitted && (c.pcpDei.isSome || c.dscp.isSome))
  | none => false

/-- At the decision instant the slice decides once whether the frame goes express; a frame receives one speculative copy at most (R181).
DESIGN CHOICE, log 27. -/
def expressDecision (n : Nat) (s : State) : State :=
  match chitAt s n with
  | some c =>
    match c.raDec with
    | some (e, q) =>
      if !c.decided && decide (c.status = .provisional) && decide (c.depth = 2)
          && decide (c.bytes.length ≥ (portAt s e).cfg.expMinLen) then
        let s := catchUp e (modChit n (fun c => { c with decided := true }) s)
        if expressOk s n c e q && c.specPort.isNone then
          let s := startSpec .express n e q s
          settleSpec n (if expressWrong c then stompSpec n .wrong false s else s)
        else s
      else s
    | none => s
  | none => s

/-- Meaning of EXPRESS_DECISION. -/
def execExpressDecision (n : Nat) (s : State) : Out := onChit n expressDecision s

/-! ### CELL_ALLOCATE (R207, R210 to R212, R43, R46) -/

/-- The pool and priority of a frame (R210). -/
def framePool (s : State) (n : Nat) (c : Chit) : Nat × Nat :=
  if c.plain then (0, 0)
  else if c.inject.isSome || c.station.isSome || isPtpType s (chitSlice n) c.bytes then (31, 0)
  else let e := (tabGet [] s.mint.portMap c.port).getD c.provCls 0; (e % 32, bits e 7 5)

/-- The Mint refuses a frame's first cell: the slice withdraws the chit (R212). DESIGN CHOICE, log 30. -/
def withdraw (n : Nat) (s : State) : State :=
  let s := endParse n (stompSpec n .void false s)
  dropHold n (modChit n (fun c => { c with status := .voided }) s)

/-- The Mint refuses a cell of a frame (R212, R218). DESIGN CHOICE, log 30. -/
def refuseCell (n pool : Nat) (c : Chit) (s : State) : State :=
  let s := bump (Ctr.mntPoolDrop pool) (bumpIf (decide ((poolAt s pool).kind = 2)) Ctr.mntLosslessOvf s)
  let s := if c.plain then plainCount c.port 8 c.bytes.length s else s
  if c.chain.isEmpty then withdraw n (bump Ctr.mntFirstRefuse s)
  else voidChit n 13 (bump Ctr.mntLaterRefuse s)

/-- The record that S0 forms for a DIRECT frame (R358). -/
def directRecord (dport : Nat) (i : InjectInfo) (ptp : Bool) : List W32 :=
  [packW [(0, i.defCls), (6, 3)], packW [(0, i.defSeg)], 0#32, packW [(0, dport)], 0#32,
   packW [(21, b2n ptp), (22, b2n i.tagged)], 0#32, 0#32]

/-- Count the frames of the dispatcher's line that must wait: those for which no free thread is left once the frames ahead have taken theirs. Each
counts once (R85). -/
def countWaits (k : Nat) (s : State) : State :=
  ((harpAt s k).waiting.drop (freeThreads s k)).foldl (fun s n =>
    bumpIf ((chitAt s n).any fun c => !c.waited) (Ctr.hrpDispatchWait k) (modChit n (fun c => { c with waited := true }) s)) s

/-- The frame's first cell is complete: it joins the dispatcher's line (R84, R85). -/
def joinLine (n : Nat) (s : State) : State :=
  match chitAt s n with
  | some c =>
    if c.plain || c.record.isSome then s
    else countWaits (chitSlice n) (modHarp (chitSlice n) (fun h => { h with waiting := h.waiting ++ [n] }) s)
  | none => s

/-- The frame's next cell is due: the first when 256 bytes or the whole frame have arrived, a later one with its first byte. -/
def cellDue (c : Chit) : Bool :=
  decide (c.status = .provisional) && (c.preDone || c.plain)
    && (if c.chain.isEmpty then decide (c.bytes.length ≥ 256) || c.ended else decide (256 * c.chain.length < c.bytes.length))

/-- Cell `i` of a frame reaches byte MAX_LEN + 1 no later than the byte at which it is due. -/
def cellTooLong (maxLen i : Nat) (c : Chit) : Bool :=
  if i = 0 then decide (min 256 c.bytes.length > maxLen) else decide (256 * i ≥ maxLen)

/-- The MAC discards the rest of the frame of chit `n`: its receive side counts it no more. -/
def cutRx (n : Nat) (c : Chit) (s : State) : State :=
  let cut (f : RxFrame) : RxFrame := if f.chit = some (n, c.order) then { f with cut := true } else f
  modRx c.port (fun x => { x with emac := x.emac.map cut, pmac := x.pmac.map cut }) s

/-- The Mint allocates a frame's next cell; `room` tells whether the receive bridge had room for its words (R43). The bytes go on into the
bridge of a speculative copy. DESIGN CHOICE, log 22. -/
def cellAllocate (n : Nat) (room : Bool) (s : State) : State :=
  match chitAt s n with
  | some c =>
    if cellDue c then
      let i := c.chain.length
      if isFront c.port && cellTooLong (portAt s c.port).cfg.maxLen i c then
        voidChit n 2 (bumpMac Ctr.macRxOversize c.port 1 (cutRx n c s))
      else if isFront c.port && !room && !c.ended then voidChit n 3 (bumpMac Ctr.macRxBridgeOvr c.port 1 (cutRx n c s))
      else
        let pp := if i = 0 then framePool s n c else (c.pool, c.pri)
        let limit := if c.plain then 131072 else cellsTotal s
        let bank := match c.chain.getLast? with | some x => (x.1 + 1) % 16 | none => chitIndex n % 16
        match grant s pp.1, findCell s limit bank with
        | some borrow, some cell =>
          let s := takeCell cell n (tabGet 0 s.gens n) pp.1 (c.port * 8 + pp.2) borrow s
          let s := cleanseCell cell (if c.pmac && !c.ended then 32 else cellWords c.bytes.length i) s
          let s := modChit n (fun c => { c with chain := c.chain ++ [(cell, borrow)], pool := pp.1, pri := pp.2 }) s
          bridgeFeed n (plainFinish n (if i = 0 then joinLine n s else s))
        | _, _ => refuseCell n pp.1 c s
    else s
  | none => s

/-- Meaning of CELL_ALLOCATE. -/
def execCellAllocate (n : Nat) (room : Bool) (s : State) : Out := onChit n (fun n => cellAllocate n room) s

/-! ### FRAGMENT_RECEIVE (R63) -/

/-- A pMAC fragment arrives. A fragment that starts a frame gives its bytes to FRAME_START; here it matters when another frame is being
assembled. A frame that R25 dropped takes its fragments with it. DESIGN CHOICE, log 22; PRESUMED, log 59. -/
def fragmentReceive (p : Nat) (f : Frag) (s : State) : State :=
  let x := rxAt s p
  if !receives s p then s
  else if f.start then (if x.pmac.isSome then assyError p s else s)
  else
    match x.pmac with
    | none => assyError p (bumpMac Ctr.macRxFrag p 1 s)
    | some g =>
      if g.chit.isNone then s
      else
        let s := bumpMac Ctr.macRxFrag p 1 s
        if f.fragCnt = (x.frag + 1) % 4 ∧ (f.last ∨ f.good) then
          let s := match rxChit s g with
            | some n => modChit n (fun c => { c with bytes := c.bytes ++ f.bytes }) s
            | none => s
          modRx p (fun x => { x with frag := f.fragCnt, pmac := some { g with bytes := g.bytes ++ f.bytes } }) s
        else assyError p s

/-- Meaning of FRAGMENT_RECEIVE. -/
def execFragmentReceive (p : Nat) (f : Frag) (s : State) : Out :=
  if isFront p && portEnabledByFuse s p then .next (fragmentReceive p f s) else .fault .noSuchUnit

/-! ### FRAME_END (R40, R46, R53) -/

/-- Codewords and symbols that the RS decoder of a port reports (R75). DESIGN CHOICE, log 58. -/
def countPcs (p : Nat) (r : PcsRx) (s : State) : State :=
  if isFront p then
    let s := bumpBy (Ctr.pcsFecCorr p) r.corr (bumpBy (Ctr.pcsFecUncorr p) r.uncorr s)
    (List.range (portLanes s p)).foldl (fun s i => bumpBy (Ctr.pcsSymErr (p + i)) (r.syms.getD i 0) s) s
  else s

/-- Void the chit of a frame that a MAC received, while the frame still holds it provisional. -/
def voidRx (f : RxFrame) (cause : Nat) (s : State) : State :=
  match rxChit s f with
  | some n => voidChit n cause s
  | none => s

/-- The MAC's verdict on a frame: the counters that count it whatever becomes of its chit (Note under Table 02-6), and what follows for the
chit. An overrun (`room` false) comes before byte MAX_LEN + 1, whose words no longer enter the bridge. DESIGN CHOICE, log 22 and 25. -/
def judgeFrame (p : Nat) (room hit : Bool) (f : RxFrame) (s : State) : State :=
  let l := f.bytes.length
  if isFront p && !room then voidRx f 3 (bumpMac Ctr.macRxBridgeOvr p 1 s)
  else if isFront p && decide (l > (portAt s p).cfg.maxLen) then voidRx f 2 (bumpMac Ctr.macRxOversize p 1 s)
  else
    let good := !hit && goodFcs f.bytes
    let short := decide (l < 64)
    let s := if short then bumpMac Ctr.macRxUndersize p 1 s else s
    if !good then voidRx f 1 (bumpMac Ctr.macRxFcsErr p 1 s)
    else if short then voidRx f 2 s
    else
      let s := bumpMac Ctr.macRxOctets p l (bumpMac Ctr.macRxFrames p 1 s)
      if isFront p && isMacControl f.bytes then modRx p (fun x => { x with ctls := x.ctls ++ [f] }) s
      else
        match rxChit s f with
        | some n => plainFinish n (settleSpec n (modChit n (fun c => { c with fcsGood := true }) s))
        | none => s

/-- The last byte of the frame that a port's eMAC or pMAC receives arrives. `room`: the receive bridge had room for its words; `r` is what the
RS decoder reports (R40). DESIGN CHOICE, log 22. -/
def frameEnd (p : Nat) (pmac room : Bool) (r : PcsRx) (s : State) : State :=
  let s := countPcs p r s
  match rxFrame s p pmac with
  | none => s
  | some f =>
    let s := setRx p pmac none s
    if f.chit.isNone then s
    else
      let s := match rxChit s f with
        | some n => bridgeFeed n (modChit n (fun c => { c with ended := true }) s)
        | none => s
      if f.cut then s else judgeFrame p room r.hit f s

/-- Meaning of FRAME_END. -/
def execFrameEnd (m : MacRef) (r : RxEnd) (s : State) : Out :=
  onUnit (isPort m.port && portEnabledByFuse s m.port) (if coreRuns s (portSlice m.port) then frameEnd m.port m.pmac r.room r.pcs s else s)

/-! ### INJECT_FRAME (R358) -/

/-- The inject chain in execution ends: its entries are consumed. -/
def endInject (j : Inject) (s : State) : State :=
  let h := s.hif
  let m := 2 * 2 ^ h.dsLog2
  let d := (h.dsNotify + m - h.dsCons) % m
  let s := bumpBy Ctr.hifDsEntries j.entries { s with hif := { h with dsCons := (h.dsCons + j.entries) % m, inject := none } }
  if 0 < d ∧ d ≤ j.entries % m then raise 1 s else s

/-- The inject chain is executed: its frame is checked and enters S0 on port 512 with chit `n`, or is discarded.
DESIGN CHOICE, log 18 and 53. -/
def injectFrame (n : Nat) (s : State) : State :=
  match s.hif.inject with
  | some j =>
    if canDma s then
      let w1 := j.words.getD 1 0#32
      let w3 := j.words.getD 3 0#32
      let len := fld w1 13 0
      let direct := bit w1.toNat 21
      let dport := fld w3 9 0
      let bad := len < 64 ∨ len > 16352 ∨ (j.buffers.map fun b => b.2).sum ≠ len - 4
        ∨ (direct ∧ (dport = 512 ∨ dport > 528))
      if bad then endInject j (bump Ctr.hifInjBad s)
      else if exhausted s 0 then endInject j (bump (Ctr.lkpChitExh 0) s)
      else if freeChit s 0 n && receives s 512 && (rxAt s 512).emac.isNone then
        let body := (j.buffers.map fun b => hostRead s b.1 b.2).flatten
        let bytes := body ++ fcsOf body
        let i : InjectInfo := ⟨bit w1.toNat 14, bit w1.toNat 15, fld w3 31 16, direct, fld (j.words.getD 2 0#32) 23 0,
          fld w1 20 17, bit w1.toNat 16⟩
        let s := setRx 512 false (some { chit := some (n, s.chitSeq), bytes := bytes })
          (allocate 512 n false bytes (some i) (frameBoundary 512 s))
        let s := if direct then
            let d := (lkpAt s 0).dispSeq
            let v := (classAt s 0).ver
            modLkp 0 (fun u => { u with dispSeq := u.dispSeq + 1 })
              (modChit n (fun c => { c with record := some (directRecord dport i (bit w1.toNat 22)), disp := some d, setVer := v }) s)
          else s
        endInject j (bump Ctr.hifInjFrames s)
      else s
    else s
  | none => s

/-- Meaning of INJECT_FRAME. -/
def execInjectFrame (n : Nat) (s : State) : Out := onChit n injectFrame s

end Sys2Proof.Machine
end

