-- ==== Sys2Proof/Machine/Tcs.lean ====
section
/-! DEFINITION. The Titimus command channels (chapter 16): what is handed to Titimus, how it answers, and the frame that every
TCS command's meaning runs in. -/
namespace Sys2Proof.Machine

/-! ### Outcome codes (Table 16-5) -/
namespace Code
def done : Nat := 0x00
def inserted : Nat := 0x01
def replaced : Nat := 0x02
def stashed : Nat := 0x03
def walkEnd : Nat := 0x04
def badArg : Nat := 0x40
def badLen : Nat := 0x41
def unknown : Nat := 0x42
def level : Nat := 0x43
def denied : Nat := 0x44
def busy : Nat := 0x45
def conflict : Nat := 0x46
def notSupported : Nat := 0x47
def notFound : Nat := 0x48
def exist : Nat := 0x49
def quota : Nat := 0x4A
def tableFull : Nat := 0x4B
def noCursor : Nat := 0x4C
def badCursor : Nat := 0x4D
def noMargin : Nat := 0x4E
def drainTimeout : Nat := 0x4F
def badSeq : Nat := 0x50
def signature : Nat := 0x51
def hostFault : Nat := 0x52
def internal : Nat := 0x53
end Code

/-! ### Channels -/

/-- A channel's number: F0 mailbox m at m, F1 mailbox m at 16 + m, the ring at 18. -/
def viaNum : Via → Nat
  | .f0 m => m
  | .f1 m => 16 + m
  | .ring => 18

/-- The channel exists: sixteen F0 mailboxes, two F1 mailboxes, one ring (R371). -/
def viaOk : Via → Bool
  | .f0 m => decide (m < 16)
  | .f1 m => decide (m < 2)
  | .ring => true

/-- What stands in a channel. -/
def channelAt (s : State) (v : Via) : Channel := tabGet .idle s.tcs.channels (viaNum v)

/-- Put something into a channel. -/
def setChannel (v : Via) (c : Channel) (s : State) : State :=
  { s with tcs := { s.tcs with channels := tabSet .idle s.tcs.channels (viaNum v) c } }

/-- The mailbox of a channel number. -/
def boxAt (s : State) (n : Nat) : Mailbox := tabGet {} s.boxes n

/-- Replace a mailbox. -/
def setBox (n : Nat) (b : Mailbox) (s : State) : State := { s with boxes := tabSet {} s.boxes n b }

/-- The MSI-X vector of a mailbox (Table 15-3). -/
def boxVector (n : Nat) : Nat := if n < 16 then 2 + n else 64 + (n - 16)

/-- Payload bytes of a channel (R377): 4,032 in F0, 1,984 in F1, 1,776 on the ring. -/
def viaCap : Via → Nat
  | .f0 _ => 4032
  | .f1 _ => 1984
  | .ring => 1776

/-- A payload byte; one nobody has written since the last answer is undefined (R367). DESIGN CHOICE, log 6. -/
def payloadByte (b : Mailbox) (i : Nat) : Byte :=
  match tabGet none b.payload i with
  | some x => x
  | none => Config.freeByte b.gen i

/-- A payload of the given bytes, the rest undefined (R367). -/
def payloadOf (bs : List Byte) : Tab (Option Byte) := tabWrite none [] 0 (bs.map some)

/-- The command word without its level and reserved bits: GROUP and NUMBER (Table 16-1). -/
def cmdCode (w : W32) : Nat := fld w 15 0
/-- LEVEL of a command word. -/
def cmdLevel (w : W32) : Nat := fld w 23 16
/-- The command belongs to group TABLE. -/
def isTableCmd (w : W32) : Bool := decide (fld w 15 8 = 5)
/-- A command is a query when NUMBER[7] is 1 (R371). -/
def isQuery (w : W32) : Bool := bit w.toNat 7

/-- Argument words of a request: the first LENGTH of its bytes (R378). DEDUCED, log 9. -/
def argWords (r : Request) : List W32 := wordsOf (r.bytes.take r.len)

/-- Argument word `i` as a number; 0 where there is none. DEDUCED, log 9. -/
def arg (a : List W32) (i : Nat) : Nat := (a.getD i 0#32).toNat

/-! ### Answers (R366, R374, R375) -/

/-- The bytes of a result: the outcome word, then the command's results. -/
def resultBytes (code : Nat) (res : List Byte) : List Byte := leBytes 4 code ++ res

/-- The envelope of a ring completion (Table 16-4). -/
def completion (r : Request) (code : Nat) (res : List Byte) : List Byte :=
  let b := resultBytes code res
  leBytes 4 r.token ++ leBytes 4 r.cmd.toNat ++ leBytes 4 (if code < 0x40 then 2 else 3) ++ leBytes 4 b.length ++ b

/-- Write a final answer into a mailbox, unlock it and raise its vector (R366). DESIGN CHOICE, log 12. -/
def answerBox (n token code : Nat) (res : List Byte) (s : State) : State :=
  let bs := resultBytes code res
  let b := boxAt s n
  raise (boxVector n) (setBox n { b with
    rseq := token, status := if code < 0x40 then 2 else 3, error := if code < 0x40 then 0 else code
    rlength := bs.length, payload := payloadOf bs, gen := b.gen + 1, locked := false } s)

/-- Advance HIF_DS_CONS by `n` entries: they count as consumed, and vector 1 is raised when the advance reaches DS_NOTIFY (R351). -/
def advanceDs (n : Nat) (s : State) : State :=
  let h := s.hif
  let m := 2 * 2 ^ h.dsLog2
  let new := (h.dsCons + n) % m
  let d := (h.dsNotify + m - h.dsCons) % m
  let s := bumpBy Ctr.hifDsEntries n { s with hif := { h with dsCons := new } }
  if 0 < d ∧ d ≤ n % m then raise 1 s else s

/-- A ring command has ended, and with it its need of the host buffers that it names: HIF_DS_CONS passes its chain (R355). -/
def releaseChain (s : State) : State :=
  if s.hif.chainHeld = 0 then s else advanceDs s.hif.chainHeld { s with hif := { s.hif with chainHeld := 0 } }

/-- Answer a request and free its channel: a mailbox is answered and unlocked (R366), a ring command gets its completion (R374). -/
def answer (v : Via) (r : Request) (code : Nat) (res : List Byte) (s : State) : State :=
  let s := setChannel v .idle s
  match v with
  | .ring => postCompletion (completion r code res) (releaseChain s)
  | _ => answerBox (viaNum v) r.token code res s

/-- Answer a mailbox PENDING: STATUS and RSEQ are written, the mailbox stays locked, its vector is raised (R366 step 4). -/
def answerPending (n token : Nat) (s : State) : State :=
  raise (boxVector n) (setBox n { boxAt s n with rseq := token, status := 1, error := 0 } s)

/-- The bytes of a refusal: DETAIL and DETAIL2 (R375). -/
def details (d1 d2 : Nat) : List Byte := leBytes 4 d1 ++ leBytes 4 d2

/-- What a command's own rules make of it. DESIGN CHOICE, log 10 and 11. -/
inductive Ans where
  /-- It completes with an outcome code and result bytes, in a new state. -/
  | reply (code : Nat) (res : List Byte) (s : State)
  /-- It is answered PENDING and completes later. -/
  | pending (k : JobKind) (s : State)
  /-- It waits for an earlier command (R384) and nothing happens yet. -/
  | wait

/-- Refuse with a code, DETAIL and DETAIL2 0; nothing changes (R381). -/
def refuse (code : Nat) (s : State) : Ans := .reply code (details 0 0) s
/-- Refuse with a DETAIL. -/
def refuseD (code d1 : Nat) (s : State) : Ans := .reply code (details d1 0) s
/-- Complete DONE with result words. -/
def ok (ws : List W32) (s : State) : Ans := .reply Code.done (bytesOf ws) s

/-- A command's rules run: the first refusal that applies, in order, else its effect (R380).
DESIGN CHOICE, log 10. -/
def checked (checks : List (Bool × Nat)) (effect : State → Ans) (s : State) : Ans :=
  match checks.find? (fun c => c.1) with
  | some c => refuse c.2 s
  | none => effect s

/-- A journal entry is written once it stands in both clusters (R399). -/
def mirrorJournal (s : State) : State := if s.pair.ready then { s with pair := { s.pair with copy := s.tcs.journal } } else s

/-- Start a job: a mailbox is answered PENDING, the journal takes the command (R383, R384).
DESIGN CHOICE, log 10. -/
def startJob (v : Via) (r : Request) (k : JobKind) (s : State) : State :=
  let s := setChannel v (.running ⟨r, k, none, false, false⟩) s
  let s := mirrorJournal { s with tcs := { s.tcs with journal := s.tcs.journal ++ [⟨viaNum v, r.cmd⟩] } }
  match v with
  | .ring => s
  | _ => answerPending (viaNum v) r.token s

/-- A request of an F0 mailbox reached Titimus at the same instant as that of F1 mailbox channel `n`: it is taken first (R369, Table 14-4). -/
def privilegedFirst (s : State) (n : Nat) : Bool :=
  (List.range 16).any fun m => (match tabGet .idle s.tcs.channels m with | .handed _ => true | _ => false)
    && decide (tabGet 0 s.tcs.reached m = tabGet 0 s.tcs.reached n)

/-- Titimus may take the request of a channel now. -/
def mayTake (s : State) (v : Via) : Bool :=
  s.tcs.running && (match v with | .f1 m => !privilegedFirst s (16 + m) | _ => true)

/-- A TCS command as Titimus executes it: Titimus is available and the channel holds a request with this command code and these
arguments; then the command's own rules decide. Otherwise there is nothing to execute.
DESIGN CHOICE, log 10. -/
def tcsCommand (code : Nat) (body : List W32 → State → Ans) (v : Via) (args : List W32) (s : State) : Out :=
  if viaOk v then
    match channelAt s v with
    | .handed r =>
      if mayTake s v && decide (cmdCode r.cmd = code) && decide (argWords r = args) then
        match body args s with
        | .reply c res s' => .next (answer v r c res s')
        | .pending k s' => .next (startJob v r k s')
        | .wait => .next s
      else .next s
    | _ => .next s
  else .fault .noSuchUnit

/-! ### Jobs -/

/-- All nineteen channels. -/
def allVias : List Via := (List.range 16).map .f0 ++ [.f1 0, .f1 1, .ring]

/-- The running jobs whose kind satisfies `p`. -/
def jobsOf (p : JobKind → Bool) (s : State) : List (Via × Job) :=
  allVias.filterMap fun v =>
    match channelAt s v with
    | .running j => if p j.kind && j.outcome.isNone then some (v, j) else none
    | _ => none

/-- Some job of this kind is in progress. -/
def jobRunning (p : JobKind → Bool) (s : State) : Bool := !(jobsOf p s).isEmpty

/-- Give the jobs of a kind their outcome; COMMAND_COMPLETE writes it. DESIGN CHOICE, log 10. -/
def settleJobs (p : JobKind → Bool) (code : Nat) (res : List Byte) (s : State) : State :=
  (jobsOf p s).foldl (fun s vj => setChannel vj.1 (.running { vj.2 with outcome := some (code, res) }) s) s

/-- Replace the kind of the jobs that satisfy `p`. -/
def mapJobs (f : JobKind → JobKind) (s : State) : State :=
  (jobsOf (fun _ => true) s).foldl (fun s vj => setChannel vj.1 (.running { vj.2 with kind := f vj.2.kind }) s) s

/-- Remove one journal entry of a channel. -/
def dropJournal (v : Via) (s : State) : State :=
  mirrorJournal { s with tcs := { s.tcs with journal := s.tcs.journal.eraseP (fun e => e.via == viaNum v) } }

/-- A command answered PENDING completes: its final DONE or ERROR is written (R366 step 5). When a previous owner had answered a
mailbox command PENDING, an event of class 9 is posted too (R389), and at the end of a firmware activation on any channel (Table 16-10). A job whose mailbox was reset meanwhile ends without an answer.
DESIGN CHOICE, log 10 and 40. -/
def commandComplete (v : Via) (s : State) : State :=
  match channelAt s v with
  | .running j =>
    match j.outcome with
    | some (code, res) =>
      if s.tcs.running then
        let s := dropJournal v s
        let data := if v = .ring then Config.eventData 9 (viaNum v) 0 else w32 (viaNum v % 16)
        let s := if j.byPrevious && (v != .ring || decide (j.kind = .fwActivate)) then postEvent 9 (fld j.req.cmd 15 0) [data, 0#32, 0#32] s else s
        if j.orphan then setChannel v .idle s else answer v j.req code res s
      else s
    | none => s
  | _ => s

/-! ### Argument checks shared by the commands (R518) -/

/-- A slice mask that R518 refuses: 0, a bit above 15, or a fused slice. -/
def badMask (s : State) (m : Nat) : Bool := decide (m = 0) || decide (m ≥ 2 ^ 16) || decide (m &&& s.dev.fuses.sliceEn ≠ m)

/-- A slice argument that R518 refuses. -/
def badSlice (s : State) (k : Nat) : Bool := !sliceEnabled s k

/-- A port argument that R518 refuses: above 528, or of a fused slice. The host port belongs to no slice that can be fused. -/
def badPort (s : State) (p : Nat) : Bool := decide (p > 528) || (decide (p ≠ 512) && !sliceEnabled s (portSlice p))

/-- A front-port argument: 0-511 and not fused. -/
def badFront (s : State) (p : Nat) : Bool := decide (p ≥ 512) || badPort s p

/-- A yes/no argument that is neither 1 nor 0 (R378). -/
def badBool (n : Nat) : Bool := decide (n > 1)

/-- The slices of a mask, ascending. -/
def maskSlices (m : Nat) : List Nat := (List.range 16).filter (fun k => bit m k)

end Sys2Proof.Machine
end

