-- ==== Sys2Proof/Machine/HarpFam.lean ====
section
/-! DEFINITION. The Harp parse array (chapters 03 and 04): dispatch, one meaning for each instruction, lookup and range results, bank swaps
and engines. -/
namespace Sys2Proof.Machine

/-! ### Dispatch (R84, R85, R87) -/

/-- The bank of a slice. -/
def bankOf (h : HarpState) (b : Nat) : Bank := if b = 0 then h.bank0 else h.bank1
/-- Replace a bank. -/
def setBankOf (b : Nat) (v : Bank) (h : HarpState) : HarpState := if b = 0 then { h with bank0 := v } else { h with bank1 := v }

/-- WLEN: valid bytes of the header window (R88). -/
def windowLen (c : Chit) : Nat := min 256 c.bytes.length

/-- The registers of a thread at dispatch (Table 03-2). -/
def dispatchRegs (n : Nat) (c : Chit) : List W32 :=
  let seg := match c.inject with | some i => i.defSeg | none => c.ra.defSeg
  let cls := match c.inject with | some i => i.defCls | none => c.ra.defClass
  [packW [(0, c.port), (10, b2n c.pmac), (11, b2n c.station.isSome), (12, b2n c.tagged), (13, b2n c.raLaunched), (16, windowLen c)],
   packW [(0, seg), (24, cls)], w32 (c.rxAt % 2 ^ 32), w32 n] ++ List.replicate 12 0#32

/-- The dispatcher gives the frame at the head of its line to a free thread of a good engine. -/
def harpDispatch (n e t : Nat) (s : State) : State :=
  let k := chitSlice n
  let h := harpAt s k
  match chitAt s n with
  | some c =>
    if h.waiting.head? = some n ∧ (tabGet none h.threads (8 * e + t)).isNone ∧ engineCond h e = .good ∧ coreRuns s k then
      let th : Thread := { th := 8 * e + t, bank := h.active, pc := (bankOf h h.active).entry, regs := dispatchRegs n c }
      let d := (lkpAt s k).dispSeq
      let s := modHarp k (fun h => { h with waiting := h.waiting.tail, threads := tabSet none h.threads (8 * e + t) (some n) }) s
      let s := modLkp k (fun u => { u with dispSeq := d + 1 }) s
      let v := (classAt s k).ver
      let s := modChit n (fun c => { c with parse := some th, disp := some d, setVer := v, seed := h.seed }) s
      tallyFrame (16 * k) c.port c.bytes.length n (bump (Ctr.hrpFrames k) s)
    else s
  | none => s

/-- Meaning of HARP_DISPATCH. -/
def execHarpDispatch (n e t : Nat) (s : State) : Out :=
  onUnit (decide (n < 262144) && decide (e < 64) && decide (t < 8)) (harpDispatch n e t s)

/-! ### Issuing an instruction (R86, R95, R96, R110, R111) -/

/-- The thread exists. -/
def thrOk (th : Thr) : Bool := decide (th.slice < 16) && decide (th.engine < 64) && decide (th.thread < 8)

/-- The chit that a thread parses, with its parse. -/
def threadOf (s : State) (th : Thr) : Option (Nat × Chit × Thread) :=
  match tabGet none (harpAt s th.slice).threads (8 * th.engine + th.thread) with
  | some n =>
    match chitAt s n with
    | some c => c.parse.map fun t => (n, c, t)
    | none => none
  | none => none

/-- The word that a thread fetches. -/
def fetchWord (s : State) (k : Nat) (t : Thread) : W64 := tabGet 0#64 (bankOf (harpAt s k) t.bank).words t.pc

/-- Replace the parse of a chit. -/
def setThread (n : Nat) (t : Thread) (s : State) : State := modChit n (fun c => { c with parse := some t }) s

/-- R95: a 257th issue, a third lookup or a second range request. DESIGN CHOICE, log 23. -/
def overrun (i : Instr) (t : Thread) : Bool :=
  decide (t.issues ≥ 256)
    || (match i with | .lkp _ _ _ _ _ _ _ => decide (t.lkps ≥ 2) | .rng _ _ _ => decide (t.rngs ≥ 1) | _ => false)

/-- A slot's value has arrived, or its request was never issued. DESIGN CHOICE, log 23. -/
def landed : Slot → Bool
  | .asked _ _ _ => false
  | _ => true
/-- The range slot's value has arrived, or no request was issued. -/
def rangeLanded : RangeSlot → Bool
  | .asked _ _ => false
  | _ => true
/-- Lookup slot 0 or 1 of a thread. -/
def slotOf (t : Thread) (i : Nat) : Slot := if i = 0 then t.slot0 else t.slot1

/-- The value that RDS reads has arrived. DESIGN CHOICE, log 23. -/
def rdsReady (sel : Nat) (c : Chit) (t : Thread) : Bool :=
  if sel ≤ 1 then landed t.slot0 else if sel ≤ 3 then landed t.slot1 else if sel = 4 then rangeLanded t.range else c.ended

/-- Every asynchronous value that the instruction reads has arrived (R89): only BMISS, RDS and EMIT read one. -/
def instrReady (i : Instr) (c : Chit) (t : Thread) : Bool :=
  match i with
  | .bmiss _ _ sel => landed (slotOf t sel.toNat)
  | .rds _ _ _ sel => rdsReady sel.toNat c t
  | .emit _ _ _ dsrc _ => if dsrc = 1#2 then landed t.slot0 else if dsrc = 2#2 then landed t.slot1 else true
  | _ => true

/-- A thread of an engine has something to do in the next issue slot (R86): it runs, and does not wait under R89. A thread whose next word stops it
or would overrun does not wait. DESIGN CHOICE, log 64. -/
def threadReady (s : State) (th : Thr) : Bool :=
  match threadOf s th with
  | some (_, c, t) =>
    poisoned s (.harpWord th.slice t.bank t.pc)
      || (match harpDecode th (fetchWord s th.slice t) with | some i => overrun i t || instrReady i c t | none => true)
  | none => false

/-- The thread's distance in its engine's round, which starts after the thread that issued last. -/
def roundOf (s : State) (th : Thr) (t : Nat) : Nat := (t + 8 - tabGet 0 (harpAt s th.slice).issued th.engine % 8) % 8

/-- The next issue slot of its engine is the thread's: no ready thread comes before it in the round (R86). -/
def hasTurn (s : State) (th : Thr) : Bool :=
  (List.range 8).all fun u => !(decide (roundOf s th u < roundOf s th th.thread) && threadReady s { th with thread := u })

/-- The thread has issued in its engine's slot. -/
def noteIssue (th : Thr) (s : State) : State :=
  modHarp th.slice (fun h => { h with issued := tabSet 0 h.issued th.engine (th.thread + 1) }) (bump (Ctr.hrpIssues th.slice) s)

/-- A thread whose turn it is fetches and issues instruction `i`. A poisoned word stops it (R96), an illegal word stops it (R110), an issue over
the limits kills it (R95), whether or not a value it would read has arrived; an instruction whose value has not arrived does not issue (R89);
nothing happens when the word fetched is another instruction. After address 8,191 the thread fetches address 0. `eff` is the instruction's own
effect on the parse that has been counted as issued. DESIGN CHOICE, log 23, 52 and 64. -/
def harpIssue (th : Thr) (i : Instr) (eff : Nat → Chit → Thread → State → State) (s : State) : Out :=
  if thrOk th then
    match threadOf s th with
    | some (n, c, t) =>
      let k := th.slice
      if !hasTurn s th then .next s
      else if poisoned s (.harpWord k t.bank t.pc) then
        let s := countPoison 5 true (bump (Ctr.hrpPoisonAbort k) s)
        .next (voidChit n 8 (modHarp k (fun h => setBankOf t.bank { bankOf h t.bank with alarm := true } h) s))
      else
        match harpDecode th (fetchWord s k t) with
        | none => .next (voidChit n 9 (bump (Region.slice k + 0x1000 + 0x160) s))
        | some j =>
          if j = i then
            if overrun i t then .next (voidChit n 7 (bump (Ctr.hrpOverrun k) s))
            else if instrReady i c t then
              let t' := { t with issues := t.issues + 1, pc := (t.pc + 1) % 8192 }
              .next (eff n c t' (setThread n t' (noteIssue th s)))
            else .next s
          else .next s
    | none => .next s
  else .fault .noSuchUnit

/-- Register `r` of a thread. -/
def reg (t : Thread) (r : BitVec 4) : W32 := t.regs.getD r.toNat 0#32
/-- A thread with register `r` written. -/
def setReg (t : Thread) (r : BitVec 4) (v : W32) : Thread := { t with regs := t.regs.set r.toNat v }

/-- An instruction that writes one register from the thread's registers. -/
def alu (rd : BitVec 4) (f : Thread → W32) : Nat → Chit → Thread → State → State :=
  fun n _ t s => setThread n (setReg t rd (f t)) s

/-- A branch (R112). -/
def branchTo (target : BitVec 13) (taken : Thread → Bool) : Nat → Chit → Thread → State → State :=
  fun n _ t s => if taken t then setThread n { t with pc := target.toNat } s else s

/-- Meaning of NOP. -/
def execNop (th : Thr) (s : State) : Out := harpIssue th (.nop th) (fun _ _ _ s => s) s
/-- Meaning of ADD. -/
def execAdd (th : Thr) (d a b : BitVec 4) (s : State) : Out := harpIssue th (.add th d a b) (alu d fun t => reg t a + reg t b) s
/-- Meaning of SUB. -/
def execSub (th : Thr) (d a b : BitVec 4) (s : State) : Out := harpIssue th (.sub th d a b) (alu d fun t => reg t a - reg t b) s
/-- Meaning of AND. -/
def execAndR (th : Thr) (d a b : BitVec 4) (s : State) : Out := harpIssue th (.andR th d a b) (alu d fun t => reg t a &&& reg t b) s
/-- Meaning of OR. -/
def execOrR (th : Thr) (d a b : BitVec 4) (s : State) : Out := harpIssue th (.orR th d a b) (alu d fun t => reg t a ||| reg t b) s
/-- Meaning of XOR. -/
def execXorR (th : Thr) (d a b : BitVec 4) (s : State) : Out := harpIssue th (.xorR th d a b) (alu d fun t => reg t a ^^^ reg t b) s
/-- Meaning of SHL. -/
def execShl (th : Thr) (d a b : BitVec 4) (s : State) : Out :=
  harpIssue th (.shl th d a b) (alu d fun t => reg t a <<< (fld (reg t b) 4 0)) s
/-- Meaning of SHR. -/
def execShr (th : Thr) (d a b : BitVec 4) (s : State) : Out :=
  harpIssue th (.shr th d a b) (alu d fun t => reg t a >>> (fld (reg t b) 4 0)) s
/-- Meaning of ADDI. -/
def execAddi (th : Thr) (d a : BitVec 4) (i : W32) (s : State) : Out := harpIssue th (.addi th d a i) (alu d fun t => reg t a + i) s
/-- Meaning of ANDI. -/
def execAndi (th : Thr) (d a : BitVec 4) (i : W32) (s : State) : Out := harpIssue th (.andi th d a i) (alu d fun t => reg t a &&& i) s
/-- Meaning of ORI. -/
def execOri (th : Thr) (d a : BitVec 4) (i : W32) (s : State) : Out := harpIssue th (.ori th d a i) (alu d fun t => reg t a ||| i) s
/-- Meaning of XORI. -/
def execXori (th : Thr) (d a : BitVec 4) (i : W32) (s : State) : Out := harpIssue th (.xori th d a i) (alu d fun t => reg t a ^^^ i) s
/-- Meaning of SHLI. -/
def execShli (th : Thr) (d a : BitVec 4) (i : W32) (s : State) : Out :=
  harpIssue th (.shli th d a i) (alu d fun t => reg t a <<< (fld i 4 0)) s
/-- Meaning of SHRI. -/
def execShri (th : Thr) (d a : BitVec 4) (i : W32) (s : State) : Out :=
  harpIssue th (.shri th d a i) (alu d fun t => reg t a >>> (fld i 4 0)) s
/-- Meaning of MOVI. -/
def execMovi (th : Thr) (d : BitVec 4) (i : W32) (s : State) : Out := harpIssue th (.movi th d i) (alu d fun _ => i) s

/-! ### Window and register fields (R113, R114, R223) -/

/-- The header window as one number, bit 0 of R113 most significant, 32 zero bits behind it. -/
def windowNum (c : Chit) : Nat :=
  beNat (c.bytes.take (windowLen c)) * 2 ^ (8 * (256 - windowLen c) + 32)

/-- The window field of `len` bits that starts at bit `e`; bits beyond 2,047 read as 0. -/
def windowField (c : Chit) (e len : Nat) : Nat := if e ≥ 2048 then 0 else windowNum c / 2 ^ (2080 - e - len) % 2 ^ len

/-- A field deposited in a register (MERGE of R113). -/
def deposit (old : W32) (v lenm1 dpos : Nat) (merge : BitVec 1) : W32 :=
  setFld (if merge = 1#1 then old else 0#32) (dpos + lenm1) dpos v

/-- The window read at bits [e, e + len) consumes a poisoned word of the first cell (R223). -/
def windowPoison (s : State) (c : Chit) (e len : Nat) : Bool :=
  match c.chain.head? with
  | some (cell, _) => decide (e < 2048) && ((List.range 32).any fun w =>
      decide (64 * w < e + len) && decide (e < 64 * (w + 1)) && cellPoisoned s cell w)
  | none => false

/-- Effective offset of XTR (R113). -/
def xtrOffset (t : Thread) (ra : BitVec 4) (off : BitVec 11) (idx : BitVec 1) : Nat :=
  off.toNat + (if idx = 1#1 then 8 * fld (reg t ra) 8 0 else 0)

/-- Meaning of XTR. -/
def execXtr (th : Thr) (d a : BitVec 4) (off : BitVec 11) (lenm1 dpos : BitVec 5) (merge idx : BitVec 1) (s : State) : Out :=
  harpIssue th (.xtr th d a off lenm1 dpos merge idx) (fun n c t s =>
    let e := xtrOffset t a off idx
    if windowPoison s c e (lenm1.toNat + 1) then voidChit n 12 (countPoison 0 true s)
    else setThread n (setReg t d (deposit (reg t d) (windowField c e (lenm1.toNat + 1)) lenm1.toNat dpos.toNat merge)) s) s

/-- Meaning of DEP. -/
def execDep (th : Thr) (d a : BitVec 4) (spos lenm1 dpos : BitVec 5) (merge : BitVec 1) (s : State) : Out :=
  harpIssue th (.dep th d a spos lenm1 dpos merge)
    (alu d fun t => deposit (reg t d) (fld (reg t a) (spos.toNat + lenm1.toNat) spos.toNat) lenm1.toNat dpos.toNat merge) s

/-! ### Branches (R115, R121) -/

/-- The second operand of a compare. -/
def cmpOperand (t : Thread) (rb : BitVec 4) (immf : BitVec 1) (imm : BitVec 24) : Nat :=
  if immf = 1#1 then imm.toNat else (reg t rb).toNat

/-- Meaning of JMP. -/
def execJmp (th : Thr) (g : BitVec 13) (s : State) : Out := harpIssue th (.jmp th g) (branchTo g fun _ => true) s
/-- Meaning of BEQ. -/
def execBeq (th : Thr) (a b : BitVec 4) (g : BitVec 13) (f : BitVec 1) (i : BitVec 24) (s : State) : Out :=
  harpIssue th (.beq th a b g f i) (branchTo g fun t => decide ((reg t a).toNat = cmpOperand t b f i)) s
/-- Meaning of BNE. -/
def execBne (th : Thr) (a b : BitVec 4) (g : BitVec 13) (f : BitVec 1) (i : BitVec 24) (s : State) : Out :=
  harpIssue th (.bne th a b g f i) (branchTo g fun t => decide ((reg t a).toNat ≠ cmpOperand t b f i)) s
/-- Meaning of BLTU. -/
def execBltu (th : Thr) (a b : BitVec 4) (g : BitVec 13) (f : BitVec 1) (i : BitVec 24) (s : State) : Out :=
  harpIssue th (.bltu th a b g f i) (branchTo g fun t => decide ((reg t a).toNat < cmpOperand t b f i)) s
/-- Meaning of BGEU. -/
def execBgeu (th : Thr) (a b : BitVec 4) (g : BitVec 13) (f : BitVec 1) (i : BitVec 24) (s : State) : Out :=
  harpIssue th (.bgeu th a b g f i) (branchTo g fun t => decide ((reg t a).toNat ≥ cmpOperand t b f i)) s
/-- Meaning of BBS. -/
def execBbs (th : Thr) (a : BitVec 4) (g : BitVec 13) (b : BitVec 5) (s : State) : Out :=
  harpIssue th (.bbs th a g b) (branchTo g fun t => (reg t a).getLsbD b.toNat) s
/-- Meaning of BBC. -/
def execBbc (th : Thr) (a : BitVec 4) (g : BitVec 13) (b : BitVec 5) (s : State) : Out :=
  harpIssue th (.bbc th a g b) (branchTo g fun t => !(reg t a).getLsbD b.toNat) s

/-- A slot holds a hit. -/
def slotHit : Slot → Bool
  | .got _ _ _ r => r.hit
  | _ => false
/-- Meaning of BMISS. -/
def execBmiss (th : Thr) (g : BitVec 13) (sel : BitVec 3) (s : State) : Out :=
  harpIssue th (.bmiss th g sel) (branchTo g fun t => !slotHit (slotOf t sel.toNat)) s

/-! ### Lookups, ranges and slot values (R116 to R120) -/

/-- The key that LKP presents (R117). -/
def lkpKey (t : Thread) (a b : BitVec 4) (nm1 : Nat) (topw : BitVec 1) : Nat :=
  ((List.range (nm1 + 1)).map fun i =>
    (if i = nm1 ∧ topw = 1#1 then reg t b else t.regs.getD (a.toNat + i) 0#32).toNat * 2 ^ (32 * i)).sum

/-- Meaning of LKP. -/
def execLkp (th : Thr) (a b : BitVec 4) (table nm1 : BitVec 3) (src topw : BitVec 1) (s : State) : Out :=
  harpIssue th (.lkp th a b table nm1 src topw) (fun n _ t s =>
    let q : Slot := .asked table.toNat (lkpKey t a b nm1.toNat topw) (src == 1#1)
    setThread n (if t.lkps = 0 then { t with slot0 := q, lkps := 1 } else { t with slot1 := q, lkps := t.lkps + 1 }) s) s

/-- Meaning of RNG. -/
def execRng (th : Thr) (a b : BitVec 4) (s : State) : Out :=
  harpIssue th (.rng th a b) (fun n _ t s =>
    let fs := ((List.range 4).map fun j => let w := t.regs.getD (a.toNat + j) 0#32; [fld w 15 0, fld w 31 16]).flatten
    setThread n { t with range := .asked fs (255 - fld (reg t b) 7 0), rngs := t.rngs + 1 } s) s

/-- What a comparator reports for a range vector: none is field absent (R131). -/
def comparator (w : W32 × W32) (fields : List Nat) (present : Nat) : Option Bool :=
  let f := fld w.1 2 0
  if bit present f then
    let v := fields.getD f 0
    some ((decide (fld w.2 15 0 ≤ v) && decide (v ≤ fld w.2 31 16)) != bit w.1.toNat 4)
  else none

/-- The comparators and rules that a frame uses (R142). -/
def setFor (s : State) (k ver : Nat) : ClassSet :=
  let c := classAt s k
  if ver = c.ver then c.now else ((c.olds.find? fun e => e.1 = ver).map fun e => e.2).getD c.now

/-- Comparator `i`'s report as it landed; without a request every comparator reports field absent (R119). -/
def report (r : RangeSlot) (i : Nat) : Option Bool :=
  match r with
  | .got rs => rs.getD i none
  | _ => none

/-- What the 512 comparators of a slice report for a vector; a poisoned comparator reports field absent (Table 20-4). -/
def reports (s : State) (k ver : Nat) (fields : List Nat) (present : Nat) : List (Option Bool) :=
  let v := (setFor s k ver).ranges
  (List.range 512).map fun i =>
    if poisoned s (.comparator k i) then none else comparator (tabGet (0#32, 0#32) v i) fields present

/-- Status word of a lookup slot (Table 04-6). -/
def slotStatus : Slot → W32
  | .got _ _ _ r => packW [(0, b2n r.hit), (1, b2n r.poison), (2, b2n r.wide)]
  | _ => 0#32
/-- Data word of a lookup slot. -/
def slotData : Slot → W32
  | .got _ _ _ r => if r.hit then w32 r.data else 0#32
  | _ => 0#32

/-- The value that RDS reads (Table 04-5). -/
def rdsValue (sel : Nat) (c : Chit) (t : Thread) (a : BitVec 4) : W32 :=
  if sel = 0 then slotStatus t.slot0 else if sel = 1 then slotData t.slot0
  else if sel = 2 then slotStatus t.slot1 else if sel = 3 then slotData t.slot1
  else if sel = 4 then
    let g := fld (reg t a) 3 0
    packW ((List.range 32).map fun i => (i, b2n (report t.range (32 * g + i) == some true)))
  else w32 c.bytes.length

/-- Meaning of RDS. -/
def execRds (th : Thr) (d a : BitVec 4) (sel : BitVec 3) (s : State) : Out :=
  harpIssue th (.rds th d a sel)
    (fun n c t s => setThread n (setReg t d (rdsValue sel.toNat c t a)) s) s

/-- Meaning of HSH (R122). -/
def execHsh (th : Thr) (d a : BitVec 4) (nm1 : BitVec 3) (s : State) : Out :=
  harpIssue th (.hsh th d a nm1) (fun n c t s =>
    let bs := ((List.range (nm1.toNat + 1)).map fun i => beBytes 4 (t.regs.getD (a.toNat + i) 0#32).toNat).flatten
    setThread n (setReg t d (w32 (crc32c c.seed.toNat bs))) s) s

/-! ### Ending a thread (R123, R124, R94) -/

/-- Record word 0x0C from a lookup slot (R123). -/
def destWord (q : Slot) : W32 := if slotHit q then w32 (fld (slotData q) 11 0) else packW [(10, 3)]

/-- The record that EMIT builds. -/
def emitRecord (t : Thread) (a : BitVec 4) (wmask : BitVec 6) (dsrc : BitVec 2) (w0or : BitVec 16) : List W32 :=
  let w (k : Nat) : W32 := if wmask.getLsbD k then t.regs.getD (a.toNat + k) 0#32 else 0#32
  let d := if dsrc = 1#2 then destWord t.slot0 else if dsrc = 2#2 then destWord t.slot1 else w 3
  [w 0 ||| w32 w0or.toNat, w 1, w 2, d, w 4, w 5, 0#32, 0#32]

/-- Meaning of EMIT. -/
def execEmit (th : Thr) (a : BitVec 4) (wmask : BitVec 6) (dsrc : BitVec 2) (w0or : BitVec 16) (s : State) : Out :=
  harpIssue th (.emit th a wmask dsrc w0or)
    (fun n _ t s => setThread n { t with record := some (emitRecord t a wmask dsrc w0or) } s) s

/-- A thread ends and hands a record on; requests still in flight land in the parse that the chit keeps. -/
def endThread (k n : Nat) (r : List W32) (t : Thread) (s : State) : State :=
  let s := modHarp k (fun h => { h with threads := tabSet none h.threads t.th none }) s
  modChit n (fun c => { c with parse := some { t with done := true }, record := some r }) s

/-- Meaning of DONE. -/
def execDone (th : Thr) (s : State) : Out :=
  harpIssue th (.done th) (fun n _ t s =>
    match t.record with
    | some r => endThread th.slice n r t s
    | none => voidChit n 6 (bump (Ctr.hrpNoEmit th.slice) s)) s

/-- Meaning of DROP. -/
def execDrop (th : Thr) (s : State) : Out := harpIssue th (.drop th) (fun n _ _ s => voidChit n 6 s) s

/-- A record with ACTION trap and TRAP_REASON set. -/
def trapRecord (r : List W32) (reason : Nat) : List W32 :=
  (r.set 0 (setFld (r.getD 0 0#32) 9 8 2)).set 1 (setFld (r.getD 1 0#32) 31 24 reason)

/-- Meaning of TRAP. -/
def execTrap (th : Thr) (reason : BitVec 8) (s : State) : Out :=
  harpIssue th (.trap th reason) (fun n _ t s =>
    endThread th.slice n (trapRecord (t.record.getD (List.replicate 8 0#32)) reason.toNat) t s) s

/-! ### Results (R89, R118, R119, R164) -/

/-- A forwarding entry's destination counts as the ingress port, or is an ECMP group, for which no notice is raised (R118, R164). -/
def noMove (s : State) (port data : Nat) : Bool :=
  let kind := bits data 11 10
  let dest := bits data 9 0
  decide (kind = 2) || (decide (kind = 0) && decide (dest = port))
    || (decide (kind = 1) && (groupAt s dest).members.contains port)

/-- What a source lookup puts into escrow (R118, R162, R164). -/
def sourceEffect (n k table key : Nat) (r : LkpResult) (s : State) : State :=
  if r.poison then s
  else
    let kind := ((tabCfgAt s table).map TabCfg.kind).getD 0
    let s := if r.hit then modChit n (fun c => { c with hits := c.hits ++ [⟨k / 4, r.loc, table, key⟩] }) s else s
    modChit n (fun c =>
      if decide (kind = 1) && !(r.hit && noMove s c.port r.data) then
        { c with learns := c.learns ++ [⟨table, key, r.hit, if r.hit then r.data else 0⟩] }
      else c) s

/-- A lookup result lands in its slot. -/
def lookupResult (n i : Nat) (s : State) : State :=
  match chitAt s n with
  | some c =>
    match c.parse with
    | some t =>
      match slotOf t i with
      | .asked table key src =>
        let k := chitSlice n
        let width := ((tabCfgAt s table).map TabCfg.width).getD 0
        let key := key % 2 ^ width
        let r := lookupIn s (k / 4) table key
        let s := countLookup k table (some n) r s
        let q : Slot := .got table key src r
        let s := setThread n (if i = 0 then { t with slot0 := q } else { t with slot1 := q }) s
        if src then sourceEffect n k table key r s else s
      | _ => s
    | none => s
  | none => s

/-- Meaning of LOOKUP_RESULT. -/
def execLookupResult (n i : Nat) (s : State) : Out := onUnit (decide (n < 262144) && decide (i < 2)) (lookupResult n i s)

/-- The comparator results land in the range slot. -/
def rangeResult (n : Nat) (s : State) : State :=
  match chitAt s n with
  | some c =>
    match c.parse with
    | some t => match t.range with
      | .asked fs pr =>
        let bad := ((List.range 512).filter fun i => poisoned s (.comparator (chitSlice n) i)).length
        setThread n { t with range := .got (reports s (chitSlice n) c.setVer fs pr) } (bumpBy (Ctr.memPoisonRead 4) bad s)
      | _ => s
    | none => s
  | none => s

/-- Meaning of RANGE_RESULT. -/
def execRangeResult (n : Nat) (s : State) : Out := onChit n rangeResult s

/-! ### Bank swap (R100, R101) -/

/-- Threads of a slice run from bank `b`. -/
def bankBusy (s : State) (k b : Nat) : Bool :=
  (chitsOf k s).any fun e => match e.2.parse with | some t => !t.done && decide (t.bank = b) | none => false

/-- A slice makes its staged bank active. -/
def swapBank (k : Nat) (s : State) : State :=
  modHarp k (fun h => { h with active := 1 - h.active, swap := false }) s

/-- A slice leaves the mask of the jobs that wait for it; a job whose mask is empty is done. -/
def leaveJobs (k : Nat) (commit : Bool) (s : State) : State :=
  let drop (m : Nat) : Nat := if bit m k then m - 2 ^ k else m
  let s := mapJobs (fun j => match j with
    | .commit m => if commit then .commit (drop m) else j
    | .classUpdate m => if commit then j else .classUpdate (drop m)
    | _ => j) s
  settleJobs (fun j => match j with | .commit 0 | .classUpdate 0 => true | _ => false) Code.done [] s

/-- Meaning of HARP_SWAP. -/
def execHarpSwap (k : Nat) (s : State) : Out :=
  onUnit (sliceEnabled s k) (if (harpAt s k).swap then leaveJobs k true (swapBank k s) else s)

/-! ### Engines (R104 to R107) -/

/-- Put a physical engine into a condition. -/
def setCond (x : Nat) (v : EngineCond) (h : HarpState) : HarpState := { h with conds := tabSet .untested h.conds x v }

/-- Spares neither mapped nor found bad. -/
def spares (h : HarpState) : List Nat :=
  (List.range 68).filter fun x => decide (tabGet EngineCond.untested h.conds x = .untested)
    && !((List.range 64).any fun e => physEngine h e == some x)

/-- The physical engine of `e` is mapped out as bad and the lowest-numbered untested spare mapped in for its check (R105). -/
def repairEngine (k e : Nat) (s : State) : State :=
  let h := harpAt s k
  let h1 := match physEngine h e with | some x => setCond x .bad h | none => h
  let h2 := match spares h1 with
    | x :: _ => setCond x .checking { h1 with map := tabSet 0 h1.map e (x + 1) }
    | [] => { h1 with map := tabSet 0 h1.map e 69 }
  bump (Ctr.hrpRepair k) (modHarp k (fun _ => h2) s)

/-- The frames in parse on an engine. -/
def onEngine (s : State) (k e : Nat) : List Nat :=
  (List.range 8).filterMap fun t => tabGet none (harpAt s k).threads (8 * e + t)

/-- A HARP.ENGINE_CHECK of an engine completes when no further check of it runs. -/
def engineChecked (k e : Nat) (s : State) : State :=
  if engineCond (harpAt s k) e = .checking then s else settleJobs (fun j => decide (j = .engineCheck k e)) Code.done [] s

/-- An engine's parity error: its frames void with cause Harp fault and it is repaired. -/
def engineFault (k e : Nat) (s : State) : State :=
  if (physEngine (harpAt s k) e).isSome then
    countWaits k (engineChecked k e
      (repairEngine k e ((onEngine s k e).foldl (fun s n => voidChit n 9 (bump (Ctr.hrpFaultVoid k) s)) s)))
  else s

/-- Meaning of ENGINE_FAULT. -/
def execEngineFault (k e : Nat) (s : State) : Out := onUnit (sliceEnabled s k && decide (e < 64)) (engineFault k e s)

/-- A built-in check ends: the engine is good, or is repaired. -/
def engineCheckDone (k e : Nat) (good : Bool) (s : State) : State :=
  let h := harpAt s k
  let c := engineCond h e
  if c = .checking ∨ (c = .draining ∧ (onEngine s k e).isEmpty) then
    engineChecked k e
      (if good then modHarp k (fun h => match physEngine h e with | some x => setCond x .good h | none => h) s else repairEngine k e s)
  else s

/-- Meaning of ENGINE_CHECK_DONE. -/
def execEngineCheckDone (k e : Nat) (good : Bool) (s : State) : Out :=
  onUnit (sliceEnabled s k && decide (e < 64)) (engineCheckDone k e good s)

/-- Every mapped engine of a slice starts its check (R104). -/
def checkEngines (k : Nat) (s : State) : State :=
  modHarp k (fun h => (List.range 64).foldl (fun h e => match physEngine h e with | some x => setCond x .checking h | none => h) h) s

end Sys2Proof.Machine
end

