-- ==== Sys2Proof/Machine/ClassFam.lean ====
section
/-! DEFINITION. Classification (chapter 05): the record that leaves the Harp, the rule table, the tenant map, the segment miss action,
and the CLASS commands. -/
namespace Sys2Proof.Machine

/-! ### The result record (Table 03-4) -/

/-- The fields of a record's words; the device fills word 0x18. -/
def recOf (ws : List W32) : Rec :=
  let w (i : Nat) : W32 := ws.getD i 0#32
  let b (i j : Nat) : Bool := (w i).getLsbD j
  { cls := fld (w 0) 3 0, bcls := fld (w 0) 5 4, colorIn := fld (w 0) 7 6, action := fld (w 0) 9 8, mirror := fld (w 0) 13 10
    mirrorEn := b 0 14, learnEn := b 0 15, tenant := fld (w 0) 29 16
    segment := fld (w 1) 23 0, trapReason := fld (w 1) 31 24
    meter0 := fld (w 2) 13 0, meter0En := b 2 14, meter1 := fld (w 2) 29 16, meter1En := b 2 30
    dest := fld (w 3) 9 0, destKind := fld (w 3) 11 10, hash := (w 4).toNat
    l3Off := fld (w 5) 7 0, l4Off := fld (w 5) 15 8, ipv4 := b 5 16, ipv6 := b 5 17, ect := b 5 18, frag := b 5 19
    innerBad := b 5 20, ptp := b 5 21, tagged := b 5 22 }

/-! ### Rules (R133 to R136) -/

/-- The rule key K (Table 05-3). -/
def ruleKey (c : Chit) (r : Rec) : Nat :=
  r.segment + c.port * 2 ^ 24 + r.cls * 2 ^ 34 + r.bcls * 2 ^ 38 + r.colorIn * 2 ^ 40 + r.destKind * 2 ^ 42
    + b2n r.ipv4 * 2 ^ 44 + b2n r.ipv6 * 2 ^ 45 + b2n r.ect * 2 ^ 46 + b2n r.frag * 2 ^ 47 + b2n r.innerBad * 2 ^ 48
    + b2n r.ptp * 2 ^ 49 + b2n r.tagged * 2 ^ 50 + b2n c.station.isSome * 2 ^ 51

/-- Word `i` of a rule. -/
def ruleWord (w : List W32) (i : Nat) : W32 := w.getD i 0#32
/-- KEYV and KEYM of a rule. -/
def ruleKeyV (w : List W32) : Nat := (ruleWord w 0).toNat + fld (ruleWord w 1) 23 0 * 2 ^ 32
def ruleKeyM (w : List W32) : Nat := (ruleWord w 2).toNat + fld (ruleWord w 3) 23 0 * 2 ^ 32
/-- The four terms of a rule. -/
def ruleTerms (w : List W32) : List Nat :=
  [fld (ruleWord w 4) 10 0, fld (ruleWord w 4) 21 11, fld (ruleWord w 5) 10 0, fld (ruleWord w 5) 21 11]

/-- A term holds for what the comparators report (R134). -/
def termHolds (rep : Nat → Option Bool) (t : Nat) : Bool :=
  let req := bits t 10 9
  if req = 1 then rep (bits t 8 0) == some true
  else if req = 2 then rep (bits t 8 0) == some false
  else true

/-- What the comparators report to the rule table for a record (R131, R132). -/
def ruleReport (s : State) (k : Nat) (c : Chit) (r : Rec) (i : Nat) : Option Bool :=
  let inner := bit (tabGet (0#32, 0#32) (setFor s k c.setVer).ranges i).1.toNat 3
  if (r.frag || r.innerBad) && inner then none
  else match c.parse with
    | some t => report t.range i
    | none => none

/-- A rule matches a key and the comparators' reports (R134). -/
def ruleMatches (rep : Nat → Option Bool) (key : Nat) (w : List W32) : Bool :=
  bit (ruleWord w 3).toNat 27 && decide (key &&& ruleKeyM w = ruleKeyV w) && (ruleTerms w).all (termHolds rep)

/-- The winning rule (R135), and how many valid rules before it could not be read (Table 20-4). -/
def winningRule (s : State) (k : Nat) (c : Chit) (r : Rec) : Tab (List W32) → Option (Nat × List W32) × Nat
  | [] => (none, 0)
  | (i, w) :: rest =>
    if bit (ruleWord w 3).toNat 27 && poisoned s (.rule k i) then
      let x := winningRule s k c r rest
      (x.1, x.2 + 1)
    else if ruleMatches (ruleReport s k c r) (ruleKey c r) w then (some (i, w), 0)
    else winningRule s k c r rest

/-- The record after the winning rule (R136, R137). -/
def applyRule (i : Nat) (w : List W32) (r : Rec) : Rec :=
  let act := fld (ruleWord w 3) 26 24
  let p := ruleWord w 6
  let q := ruleWord w 7
  { r with
    rule := i, ruleHit := true
    action := if act = 1 then 0 else if act = 2 then 1 else if act = 3 then 2 else if act = 4 then 3 else r.action
    trapReason := if act = 3 then fld (ruleWord w 1) 31 24 else r.trapReason
    dest := if act = 4 then fld q 24 15 else r.dest
    destKind := if act = 4 then fld q 26 25 else r.destKind
    cls := if bit p.toNat 4 then fld p 3 0 else r.cls
    bcls := if bit p.toNat 7 then fld p 6 5 else r.bcls
    colorIn := if bit p.toNat 10 then fld p 9 8 else r.colorIn
    tenant := if bit p.toNat 25 then fld p 24 11 else r.tenant
    mirror := if fld p 31 30 = 1 then fld p 29 26 else r.mirror
    mirrorEn := if fld p 31 30 = 1 then true else if fld p 31 30 = 2 then false else r.mirrorEn
    meter0 := if bit q.toNat 14 then fld q 13 0 else r.meter0
    meter0En := if bit q.toNat 14 then true else r.meter0En }

/-! ### Tenant map and segment miss (R139, R140, R167) -/

/-- The tenant-map lookup of a record as emitted and what it supplies; `won` is the winning rule. -/
def tenantMap (n k : Nat) (c : Chit) (emitted : Rec) (won : Option (List W32)) (r : Rec) (s : State) : Rec × State :=
  let cl := classAt s k
  if cl.tmapEn then
    let x := lookupIn s (k / 4) cl.tmapTab (emitted.segment + c.port * 2 ^ 24)
    let s := countLookup k cl.tmapTab (some n) x s
    let ten (j : Nat) : Bool := match won with | some w => bit (ruleWord w 6).toNat j | none => false
    if x.hit then
      let s := bump (Ctr.clsTmapHit k) s
      let r := if ten 25 then r
        else { r with tenant := bits x.data 13 0, bcls := if ten 7 || !bit x.data 16 then r.bcls else bits x.data 15 14 }
      (r, bumpIf (ten 25) (Ctr.clsTmapOverride k) s)
    else (r, bumpIf (ten 25) (Ctr.clsTmapOverride k) (bumpIf x.poison (Ctr.clsTmapPoison k) (bump (Ctr.clsTmapMiss k) s)))
  else (r, s)

/-- Reasons that the device gives (R361). -/
def reasonStation : Nat := 0xF0
def reasonMiss : Nat := 0xF1

/-- The segment miss action of a classified record with ACTION forward and DEST_KIND 3 (R167).
DEDUCED, log 28. -/
def segmentMiss (n k : Nat) (r : Rec) (s : State) : Rec × State :=
  if r.action = 0 ∧ r.destKind = 3 then
    let cfg := (lkpAt s k).cfgAct.toNat
    let fallback : Rec := if bit cfg 4 then { r with action := 2, trapReason := reasonMiss } else { r with action := 1 }
    if bit cfg 3 then
      let t := bits cfg 2 0
      let x := lookupIn s (k / 4) t r.segment
      let s := bump (Ctr.lkpMissAct k) (countLookup k t (some n) x s)
      if x.hit then
        let act := bits x.data 13 12
        (if act = 0 then { r with dest := bits x.data 9 0, destKind := bits x.data 11 10 }
         else if act = 1 then { r with action := 1 }
         else { r with action := 2, trapReason := reasonMiss }, s)
      else (fallback, s)
    else (fallback, s)
  else (r, s)

/-! ### CLASSIFY -/

/-- The requests of a frame's thread have all returned (R124). -/
def returned (c : Chit) : Bool :=
  match c.parse with
  | some t => landed t.slot0 && landed t.slot1 && rangeLanded t.range
  | none => true

/-- Every frame of the same port dispatched earlier has been handed on or has ended (R97, R130). -/
def inOrder (s : State) (n : Nat) (c : Chit) (handed : Chit → Bool) : Bool :=
  !(s.chits.any fun e => match e.2 with
    | some d => decide (e.1 ≠ n) && decide (d.port = c.port) && decide (d.status = .provisional) && !handed d
        && (match d.disp, c.disp with | some a, some b => decide (a < b) | _, _ => false)
    | none => false)

/-- Earlier sets that no unclassified frame uses any more are forgotten. -/
def pruneSets (k : Nat) (s : State) : State :=
  let used := (chitsOf k s).filterMap fun e =>
    if e.2.disp.isSome && e.2.cls.isNone && decide (e.2.status = .provisional) then some e.2.setVer else none
  modClass k (fun c => { c with olds := c.olds.filter fun o => used.contains o.1 }) s

/-- The mirror sampling of a classified record (R249): the count of its session, and the session when the frame is chosen. -/
def sampleMirror (k : Nat) (r : Rec) (s : State) : Option Nat × State :=
  let v := mirrorAt s r.mirror
  if r.mirrorEn && decide (v.kind ≠ 0) then
    let x := tabGet 0 (lkpAt s k).mirCount r.mirror + 1
    let pick := decide (x ≥ v.sample)
    (if pick then some r.mirror else none,
     modLkp k (fun u => { u with mirCount := tabSet 0 u.mirCount r.mirror (if pick then 0 else x) }) s)
  else (none, s)

/-- The final destination and queue equal the run-ahead decision (RA_CONFIRM). DESIGN CHOICE, log 27. -/
def confirms (s : State) (c : Chit) (r : Rec) : Bool :=
  (decide (r.action = 0) || decide (r.action = 3)) && c.raDec.isSome && decide (finalDest s r = c.raDec)

/-- The counters of a classified record (Table 05-8). -/
def countClass (k n : Nat) (c : Chit) (emitted : Rec) (won : Option (Nat × List W32)) (s : State) : State :=
  let s := bump (Ctr.clsEval k) s
  let s := bumpIf (emitted.frag || emitted.innerBad) (Ctr.clsOuterOnly k) s
  let s := tallyFrame (16 * k + 2) c.port c.bytes.length n s
  match won with
  | some (i, w) =>
    let act := fld (ruleWord w 3) 26 24
    let s := bump (Ctr.clsHit k) s
    let s := bumpIf (decide (act = 2)) (Ctr.clsDrop k) s
    let s := bumpIf (decide (act = 3)) (Ctr.clsTrap k) s
    let s := bumpIf (decide (act = 4)) (Ctr.clsRedirect k) s
    tallyEvent (16 * k + 2) 3 1 (fun q => decide (q = i)) (some n) s
  | none => s

/-- The record that classification makes of a frame's emitted record, with the winning rule and the state after its lookups.
DEDUCED, log 28. -/
def classified (n k : Nat) (c : Chit) (ws : List W32) (s : State) : Rec × Option (Nat × List W32) × State :=
  let e := recOf ws
  let w := winningRule s k c e (setFor s k c.setVer).rules
  let s := bumpBy (Ctr.memPoisonRead 4) w.2 s
  let r := match w.1 with | some (i, x) => applyRule i x e | none => e
  let m := tenantMap n k c e (w.1.map fun x => x.2) r s
  let r := m.1
  let r := if c.station.isSome && decide (r.action ≠ 1) then { r with action := 2, trapReason := reasonStation } else r
  let x := segmentMiss n k r m.2
  ({ x.1 with raConfirm := confirms x.2 c x.1 }, w.1, x.2)

/-- A record that leaves the Harp is classified. -/
def classify (n : Nat) (s : State) : State :=
  match chitAt s n with
  | some c =>
    match c.record with
    | some ws =>
      if c.cls.isNone && decide (c.status = .provisional) && returned c && inOrder s n c (fun d => d.cls.isSome) then
        let k := chitSlice n
        let x := classified n k c ws s
        let r := x.1
        let s := countClass k n c (recOf ws) x.2.1 x.2.2
        let m := sampleMirror k r s
        let s := modChit n (fun c => { c with
          cls := some r, mirrorSel := m.1, learns := if r.learnEn then c.learns else [] }) m.2
        let s := pruneSets k s
        if r.action = 1 then voidChit n 6 s
        else if !r.raConfirm || ptpEvent r c.bytes then stompSpec n .wrong false s
        else s
      else s
    | none => s
  | none => s

/-- Meaning of CLASSIFY. -/
def execClassify (n : Nat) (s : State) : Out := onChit n classify s

/-! ### CLASS_UPDATE_BOUNDARY (R142) -/

/-- A slice applies the comparators or rules that wait. -/
def applySet (k : Nat) (s : State) : State :=
  match (classAt s k).next with
  | some v => pruneSets k (modClass k (fun c => { c with olds := c.olds ++ [(c.ver, c.now)], ver := c.ver + 1, now := v, next := none }) s)
  | none => s

/-- Meaning of CLASS_UPDATE_BOUNDARY. -/
def execClassUpdateBoundary (k : Nat) (s : State) : Out :=
  onUnit (sliceEnabled s k) (if (classAt s k).next.isSome then leaveJobs k false (applySet k s) else s)

/-! ### CLASS commands (R131, R133, R142, R143, R512, Table 05-7) -/

/-- Store a changed set in each named slice, to be applied at its boundary. -/
def stageSet (mask : Nat) (f : ClassSet → ClassSet) (s : State) : State :=
  (maskSlices mask).foldl (fun s k => modClass k (fun c => { c with next := some (f c.now) }) s) s

/-- A named slice still has a change to apply. DEDUCED, log 28. -/
def setWaits (s : State) (mask : Nat) : Bool := (maskSlices mask).any fun k => (classAt s k).next.isSome

/-- CLASS.RANGE_SET: slice mask, first comparator, count, entries of two words. -/
def rangeSet (a : List W32) (s : State) : Ans :=
  let mask := arg a 0
  let first := arg a 1
  let n := arg a 2
  let es := (List.range n).map fun i => (a.getD (3 + 2 * i) 0#32 &&& 0x1F#32, a.getD (4 + 2 * i) 0#32)
  checked [
    (badMask s mask || decide (n < 1) || decide (n > 64) || decide (first + n > 512)
      || es.any (fun e => decide (fld e.2 15 0 > fld e.2 31 16)), Code.badArg),
    (setWaits s mask, Code.busy)] (fun s =>
      .pending (.classUpdate mask) ((List.range n).foldl (fun s i => cleanseMask mask (fun k => .comparator k (first + i)) s)
        (stageSet mask (fun v => { v with ranges := tabWrite (0#32, 0#32) v.ranges first es }) s))) s
where
  /-- The word of each named slice is written whole. -/
  cleanseMask (mask : Nat) (h : Nat → Config.Held) (s : State) : State := (maskSlices mask).foldl (fun s k => cleanse (h k) s) s

/-- Meaning of CLASS_RANGE_SET. -/
def execClassRangeSet (v : Via) (a : List W32) (s : State) : Out := tcsCommand 0x0401 rangeSet v a s

/-- A rule entry that R133 refuses. -/
def badRule (w : List W32) : Bool :=
  decide (fld (ruleWord w 3) 26 24 > 4) || (ruleTerms w).any (fun t => decide (bits t 10 9 = 3))
    || decide (ruleKeyV w &&& ruleKeyM w ≠ ruleKeyV w)
    || decide (fld (ruleWord w 1) 23 20 ≠ 0) || decide (fld (ruleWord w 3) 23 20 ≠ 0)
    || (decide (fld (ruleWord w 3) 26 24 = 4) && decide (fld (ruleWord w 7) 26 25 = 3))
    || decide (fld (ruleWord w 6) 31 30 = 3)

/-- A rule with its reserved bits read as 0 (R10). -/
def cleanRule (w : List W32) : List W32 :=
  [ruleWord w 0, ruleWord w 1, ruleWord w 2, ruleWord w 3 &&& 0x0FFFFFFF#32, ruleWord w 4 &&& 0x003FFFFF#32,
   ruleWord w 5 &&& 0x003FFFFF#32, ruleWord w 6, ruleWord w 7 &&& 0x07FFFFFF#32]

/-- The empty rule. -/
def noRule : List W32 := List.replicate 8 0#32

/-- CLASS.RULES_SET: slice mask, first rule, count, entries of eight words. -/
def rulesSet (a : List W32) (s : State) : Ans :=
  let mask := arg a 0
  let first := arg a 1
  let n := arg a 2
  let es := (List.range n).map fun i => (a.drop (3 + 8 * i)).take 8
  checked [
    (badMask s mask || decide (n < 1) || decide (n > 64) || decide (first + n > 8192) || es.any badRule, Code.badArg),
    (setWaits s mask, Code.busy)] (fun s =>
      .pending (.classUpdate mask) ((List.range n).foldl (fun s i => rangeSet.cleanseMask mask (fun k => .rule k (first + i)) s)
        (stageSet mask (fun v => { v with rules := tabWrite [] v.rules first (es.map fun w => if cleanRule w = noRule then [] else cleanRule w) }) s))) s

/-- Meaning of CLASS_RULES_SET. -/
def execClassRulesSet (v : Via) (a : List W32) (s : State) : Out := tcsCommand 0x0402 rulesSet v a s

/-- CLASS.TMAP_SET: slice mask, TMAP_EN, TMAP_TABLE. -/
def tmapSet (a : List W32) (s : State) : Ans :=
  let t := arg a 2
  let short : Bool := match tabCfgAt s t with | some c => decide (c.width < 34) | none => true
  checked [(badMask s (arg a 0) || badBool (arg a 1) || (decide (arg a 1 = 1) && (decide (t > 7) || short)), Code.badArg)] (fun s =>
    ok [] ((maskSlices (arg a 0)).foldl (fun s k => modClass k (fun c => { c with tmapEn := arg a 1 == 1, tmapTab := t }) s) s)) s

/-- Meaning of CLASS_TMAP_SET. -/
def execClassTmapSet (v : Via) (a : List W32) (s : State) : Out := tcsCommand 0x0403 tmapSet v a s

/-- The newest rule entry of a slice: the accepted one while an update waits. -/
def ruleAt (s : State) (k i : Nat) : List W32 :=
  match tabGet [] (((classAt s k).next.getD (classAt s k).now).rules) i with
  | [] => noRule
  | w => w

/-- CLASS.RULES_GET: slice, first rule, count. DEDUCED, log 28. -/
def rulesGet (a : List W32) (s : State) : Ans :=
  let first := arg a 1
  let n := arg a 2
  checked [(badSlice s (arg a 0) || decide (n < 1) || decide (n > 64) || decide (first + n > 8192), Code.badArg)] (fun s =>
    ok (((List.range n).map fun i => ruleAt s (arg a 0) (first + i)).flatten) s) s

/-- Meaning of CLASS_RULES_GET. -/
def execClassRulesGet (v : Via) (a : List W32) (s : State) : Out := tcsCommand 0x0481 rulesGet v a s

/-- CLS_STATUS of a slice. -/
def clsStatus (s : State) (k : Nat) : W32 :=
  packW [(0, b2n (classAt s k).next.isSome), (1, b2n ((chitsOf k s).any fun e =>
    e.2.disp.isSome && e.2.cls.isNone && decide (e.2.status = .provisional) && decide (e.2.setVer ≠ (classAt s k).ver)))]
/-- CLS_TMAP of a slice. -/
def clsTmap (s : State) (k : Nat) : W32 := packW [(0, (classAt s k).tmapTab), (3, b2n (classAt s k).tmapEn)]

/-- CLASS.STATUS: slice (R512). -/
def classStatusCmd (a : List W32) (s : State) : Ans :=
  checked [(badSlice s (arg a 0), Code.badArg)] (fun s => ok [clsStatus s (arg a 0), clsTmap s (arg a 0)] s) s

/-- Meaning of CLASS_STATUS. -/
def execClassStatus (v : Via) (a : List W32) (s : State) : Out := tcsCommand 0x0482 classStatusCmd v a s

end Sys2Proof.Machine
end

