-- ==== Sys2Proof/Machine/Crypto.lean ====
section
/-! DEFINITION. AES-CMAC (RFC 4493) for the Ledger's tags (R270), SHA-384 and ECDSA P-384 for firmware images (R394), and integer roots. -/
namespace Sys2Proof.Machine

/-! ### Roots -/

/-- The greatest `r` built from bits below 2^`i`, on top of `acc`, whose `k`-th power is at most `n`. -/
def rootFrom (k n : Nat) : Nat → Nat → Nat
  | 0, acc => acc
  | i + 1, acc => rootFrom k n i (if (acc + 2 ^ i) ^ k ≤ n then acc + 2 ^ i else acc)

/-- The integer `k`-th root of a number whose root is below 2^`b`. -/
def iroot (k n b : Nat) : Nat := rootFrom k n b 0

/-! ### AES-128 (FIPS 197) -/

/-- Multiplication by x in GF(2^8). -/
def xtime (x : Nat) : Nat := if x ≥ 128 then (2 * x) ^^^ 0x11B else 2 * x

/-- Multiplication in GF(2^8), over the low `n` bits of `b`. -/
def gmul : Nat → Nat → Nat → Nat
  | 0, _, _ => 0
  | n + 1, a, b => (if b % 2 = 1 then a else 0) ^^^ gmul n (xtime a) (b / 2)

/-- x^254, the inverse of x in GF(2^8), and 0 of 0. -/
def ginv (x : Nat) : Nat :=
  let m := gmul 8
  let x2 := m x x
  let x3 := m x2 x
  let x12 := let y := m x3 x3; m y y
  let x14 := m x12 x2
  let x15 := m x12 x3
  let x240 := let a := m x15 x15; let b := m a a; let c := m b b; m c c
  m x240 x14

/-- A byte rotated left. -/
def rotl8 (x n : Nat) : Nat := (x * 2 ^ n + x / 2 ^ (8 - n)) % 256

/-- The S-box. -/
def sbox (x : Nat) : Nat := let y := ginv x; y ^^^ rotl8 y 1 ^^^ rotl8 y 2 ^^^ rotl8 y 3 ^^^ rotl8 y 4 ^^^ 0x63

/-- Byte-wise exclusive or. -/
def xorBytes (a b : List Nat) : List Nat := a.zipWith (· ^^^ ·) b

/-- Round keys from round `r` on, from the key of the round before: `n` of them, with round constant `rc`. -/
def roundKeys : Nat → Nat → List Nat → List (List Nat)
  | 0, _, _ => []
  | n + 1, rc, k =>
    let g (i : Nat) : Nat := k.getD i 0
    let t := [sbox (g 13) ^^^ rc, sbox (g 14), sbox (g 15), sbox (g 12)]
    let w0 := xorBytes (k.take 4) t
    let w1 := xorBytes ((k.drop 4).take 4) w0
    let w2 := xorBytes ((k.drop 8).take 4) w1
    let w3 := xorBytes (k.drop 12) w2
    let k' := w0 ++ w1 ++ w2 ++ w3
    k' :: roundKeys n (xtime rc) k'

/-- SubBytes and ShiftRows. -/
def subShift (s : List Nat) : List Nat := (List.range 16).map fun i => sbox (s.getD (4 * ((i / 4 + i % 4) % 4) + i % 4) 0)

/-- MixColumns. -/
def mixColumns (s : List Nat) : List Nat :=
  (List.range 16).map fun i =>
    let c (j : Nat) : Nat := s.getD (4 * (i / 4) + (i + j) % 4) 0
    xtime (c 0) ^^^ xtime (c 1) ^^^ c 1 ^^^ c 2 ^^^ c 3

/-- The rounds after the first key addition; the last has no MixColumns. -/
def aesRounds : List (List Nat) → List Nat → List Nat
  | [], s => s
  | [k], s => xorBytes (subShift s) k
  | k :: ks, s => aesRounds ks (xorBytes (mixColumns (subShift s)) k)

/-- AES-128 of one block. -/
def aes (key block : List Nat) : List Nat := aesRounds (roundKeys 10 1 key) (xorBytes block key)

/-! ### AES-CMAC (RFC 4493), for messages of whole blocks -/

/-- The first subkey. -/
def cmacSubkey (key : List Nat) : List Nat :=
  let l := (aes key (List.replicate 16 0)).foldl (fun a b => a * 256 + b) 0
  let d := l * 2 % 2 ^ 128 ^^^ (if l ≥ 2 ^ 127 then 0x87 else 0)
  (List.range 16).map fun i => d / 2 ^ (8 * (15 - i)) % 256

/-- CBC over the message's blocks, `n` of them, the last with the first subkey. -/
def cmacLoop (key k1 : List Nat) : Nat → List Nat → List Nat → List Nat
  | 0, _, x => x
  | n + 1, m, x =>
    let b := xorBytes (m.take 16) x
    cmacLoop key k1 n (m.drop 16) (aes key (if n = 0 then xorBytes b k1 else b))

/-- AES-CMAC of a message of one or more whole blocks. -/
def cmac (key : List Byte) (m : List Byte) : List Byte :=
  let k := key.map (·.toNat)
  (cmacLoop k (cmacSubkey k) (m.length / 16) (m.map (·.toNat)) (List.replicate 16 0)).map byte

/-! ### SHA-384 (FIPS 180-4) -/

/-- A prime, by trial division. -/
def isPrime (n : Nat) : Bool := decide (n ≥ 2) && (List.range n).all fun d => decide (d < 2) || decide (n % d ≠ 0)

/-- The first 80 primes. -/
def primes : List Nat := (List.range 410).filter isPrime

/-- The 80 round constants: the first 64 bits of the fractional parts of the primes' cube roots. -/
def shaK : List Nat := primes.map fun p => iroot 3 (p * 2 ^ 192) 68 % 2 ^ 64

/-- SHA-384's initial value: the first 64 bits of the fractional parts of the square roots of the ninth to sixteenth primes. -/
def shaInit : List Nat := ((primes.drop 8).take 8).map fun p => iroot 2 (p * 2 ^ 128) 70 % 2 ^ 64

/-- A 64-bit word rotated right. -/
def rotr (x n : Nat) : Nat := x / 2 ^ n + x * 2 ^ (64 - n) % 2 ^ 64

/-- The message schedule, newest word first, extended by `n` words. -/
def shaSchedule : Nat → List Nat → List Nat
  | 0, w => w
  | n + 1, w =>
    let g (i : Nat) : Nat := w.getD i 0
    let s0 := rotr (g 14) 1 ^^^ rotr (g 14) 8 ^^^ g 14 / 2 ^ 7
    let s1 := rotr (g 1) 19 ^^^ rotr (g 1) 61 ^^^ g 1 / 2 ^ 6
    shaSchedule n ((g 15 + s0 + g 6 + s1) % 2 ^ 64 :: w)

/-- One round. -/
def shaRound (v : List Nat) (kw : Nat × Nat) : List Nat :=
  let g (i : Nat) : Nat := v.getD i 0
  let s1 := rotr (g 4) 14 ^^^ rotr (g 4) 18 ^^^ rotr (g 4) 41
  let ch := (g 4 &&& g 5) ^^^ ((2 ^ 64 - 1 - g 4) &&& g 6)
  let t1 := g 7 + s1 + ch + kw.1 + kw.2
  let s0 := rotr (g 0) 28 ^^^ rotr (g 0) 34 ^^^ rotr (g 0) 39
  let maj := (g 0 &&& g 1) ^^^ (g 0 &&& g 2) ^^^ (g 1 &&& g 2)
  [(t1 + s0 + maj) % 2 ^ 64, g 0, g 1, g 2, (g 3 + t1) % 2 ^ 64, g 4, g 5, g 6]

/-- The blocks, `n` of 128 bytes. -/
def shaBlocks : Nat → List Byte → List Nat → List Nat
  | 0, _, h => h
  | n + 1, m, h =>
    let w := ((List.range 16).map fun i => beNat ((m.drop (8 * i)).take 8)).reverse
    let v := (shaK.zip (shaSchedule 64 w).reverse).foldl shaRound h
    shaBlocks n (m.drop 128) (h.zipWith (fun a b => (a + b) % 2 ^ 64) v)

/-- SHA-384, as a number. -/
def sha384 (m : List Byte) : Nat :=
  let pad := (239 - m.length % 128) % 128
  let p := m ++ byte 0x80 :: List.replicate pad 0#8 ++ beBytes 16 (8 * m.length)
  ((shaBlocks (p.length / 128) p shaInit).take 6).foldl (fun a b => a * 2 ^ 64 + b) 0

/-! ### ECDSA P-384 (FIPS 186-5) -/

namespace P384
/-- The field. -/
def p : Nat := 2 ^ 384 - 2 ^ 128 - 2 ^ 96 + 2 ^ 32 - 1
/-- The curve's b; its a is −3. -/
def b : Nat := 0xb3312fa7e23ee7e4988e056be3f82d19181d9c6efe8141120314088f5013875ac656398d8a2ed19d2a85c8edd3ec2aef
/-- The order. -/
def n : Nat := 0xffffffffffffffffffffffffffffffffffffffffffffffffc7634d81f4372ddf581a0db248b0a77aecec196accc52973
/-- The base point. -/
def g : Nat × Nat :=
  (0xaa87ca22be8b05378eb1c71ef320ad746e1d3b628ba79b9859f741e082542a385502f25dbf55296c3a545e3872760ab7,
   0x3617de4a96262c6f5d9e98bf9292dc29f8f41dbd289a147ce9da3113b5f0b8c00a60b1ce1d7e819d7a431d7c90ea0e5f)
end P384

/-- x^e modulo m, over the low `k` bits of e. -/
def powMod (m : Nat) : Nat → Nat → Nat → Nat
  | 0, _, _ => 1 % m
  | k + 1, x, e => (if e % 2 = 1 then x else 1) * powMod m k (x * x % m) (e / 2) % m

/-- The inverse modulo a prime below 2^384. -/
def invMod (m x : Nat) : Nat := powMod m 384 x (m - 2)

/-- The sum of two points; none is the point at infinity. -/
def ecAdd (a c : Option (Nat × Nat)) : Option (Nat × Nat) :=
  match a, c with
  | none, _ => c
  | _, none => a
  | some (x1, y1), some (x2, y2) =>
    if x1 = x2 ∧ (y1 + y2) % P384.p = 0 then none
    else
      let l := if x1 = x2 then (3 * x1 * x1 + P384.p - 3) * invMod P384.p (2 * y1) % P384.p
        else (y2 + P384.p - y1) * invMod P384.p (x2 + P384.p - x1) % P384.p
      let x3 := (l * l + 2 * P384.p - x1 - x2) % P384.p
      some (x3, (l * (x1 + P384.p - x3) + P384.p - y1) % P384.p)

/-- A multiple of a point, over the low `k` bits of the factor. -/
def ecMul : Nat → Nat → Option (Nat × Nat) → Option (Nat × Nat)
  | 0, _, _ => none
  | k + 1, e, q => ecAdd (if e % 2 = 1 then q else none) (ecMul k (e / 2) (ecAdd q q))

/-- A point lies on the curve. -/
def onCurve (q : Nat × Nat) : Bool :=
  decide (q.1 < P384.p) && decide (q.2 < P384.p)
    && decide (q.2 * q.2 % P384.p = (q.1 * q.1 * q.1 + (P384.p - 3) * q.1 + P384.b) % P384.p)

/-- The signature (r, s) of the hash `e` is valid under the public key. -/
def ecdsaOk (e r s : Nat) (q : Nat × Nat) : Bool :=
  decide (0 < r) && decide (r < P384.n) && decide (0 < s) && decide (s < P384.n) && onCurve q &&
    let w := invMod P384.n s
    match ecAdd (ecMul 384 (e * w % P384.n) (some P384.g)) (ecMul 384 (r * w % P384.n) (some q)) with
    | some (x, _) => decide (x % P384.n = r)
    | none => false

end Sys2Proof.Machine
end

