-- ==== Sys2Proof/Machine/PolicerFam.lean ====
section
/-! DEFINITION. Policing (chapter 08): meters, remarking, tenant policers and the Treasury, the METER commands; and what an admitted frame
does next (R173, R176). -/
namespace Sys2Proof.Machine

/-! ### Buckets (R188 to R193, Table 08-2) -/

/-- The caps of a meter's buckets. -/
def cap1 (c : MeterCfg) : Nat := 8000 * c.bs1
def cap2 (c : MeterCfg) : Nat := 8000 * c.bs2

/-- Device time that a refill credits: elapsed of R190. -/
def elapsed (now last : Nat) : Nat :=
  let e := (now + 2 ^ 32 - last) % 2 ^ 32
  if e ≥ 2 ^ 31 then 0 else e

/-- A meter refilled to `now`. A meter that is off meters nothing and keeps its LAST (R190, R192). -/
def refillMeter (now : Nat) (m : Meter) : Meter :=
  let e := elapsed now m.last
  let a := m.t1 + e * m.cfg.cir
  if m.cfg.mode = 0 then m
  else if m.cfg.mode = 1 then
    { m with t1 := min a (cap1 m.cfg), t2 := min (m.t2 + (a - cap1 m.cfg)) (cap2 m.cfg), last := now }
  else { m with t1 := min a (cap1 m.cfg), t2 := min (m.t2 + e * m.cfg.rate2) (cap2 m.cfg), last := now }

/-- A meter that takes its acknowledged entry (R201 steps 2 and 3). -/
def takeEntry (now : Nat) (m : Meter) : Meter :=
  match m.next with
  | some (c, reset) =>
    if reset || decide (c.mode ≠ m.cfg.mode) then { cfg := c, next := none, t1 := cap1 c, t2 := cap2 c, last := now }
    else { m with cfg := c, next := none, t1 := min m.t1 (cap1 c), t2 := min m.t2 (cap2 c) }
  | none => m

/-- A meter at its metering or refresh. -/
def refreshed (now : Nat) (m : Meter) : Meter := takeEntry now (refillMeter now m)

/-- Colour and debits of T1 and T2 for cost `b` and an input colour (Table 08-2). -/
def decideColor (mode input t1 t2 b : Nat) : Nat × Nat × Nat :=
  if input = 2 then (2, 0, 0)
  else if mode = 2 then
    if t2 < b then (2, 0, 0)
    else if input = 1 ∨ t1 < b then (1, 0, b)
    else (0, b, b)
  else if input = 0 ∧ t1 ≥ b then (0, b, 0)
  else if t2 ≥ b then (1, 0, b)
  else (2, 0, 0)

/-- Metered cost in millibits (R188, R189). -/
def meterCost (c : MeterCfg) (len : Nat) : Nat := 8000 * (max 1 ((len : Int) + sgn 8 c.lenAdj)).toNat

/-! ### Running a meter (R194 to R196) -/

/-- What metering has made of a frame so far. -/
structure Metering where
  color  : Nat
  drop   : Bool := false
  debits : List DebitEscrow := []
  pcpDei : Option Nat := none
  dscp   : Option Nat := none
  deriving DecidableEq, Repr

/-- A meter's poisoned entry or buckets (Table 20-4): buckets at their caps, LAST now, and an event.
DESIGN CHOICE, log 29. -/
def meterPoison (k m now : Nat) (s : State) : State :=
  let x := refreshed now (meterAt s k m)
  let s := setMeter k m { x with t1 := cap1 x.cfg, t2 := cap2 x.cfg, last := now } (cleanse (.meter k m) s)
  postEvent 4 3 [1#32, 0#32, 0#32] (countPoison 3 true s)

/-- The rewrite that a meter's output selects (R196): by REMARK and the profile row's EN alone; whether the frame has the field decides when a
copy is written. DESIGN CHOICE, log 29. -/
def remark (s : State) (k : Nat) (c : MeterCfg) (g : Metering) : Metering :=
  let row := tabGet 0 s.profiles (k * 64 + c.prof * 4 + g.color)
  if bit row 10 then
    if c.remark = 1 then { g with pcpDei := some (bits row 3 0) }
    else if c.remark = 2 then { g with dscp := some (bits row 9 4) }
    else g
  else g

/-- One meter of a frame runs when it is enabled in the record and not off. DESIGN CHOICE, log 29. -/
def runMeter (n k m : Nat) (en : Bool) (len : Nat) (g : Metering) (s : State) : Metering × State :=
  if en && !g.drop then
    let now := ns32 s
    let bad := poisoned s (.meter k m)
    let s := if bad then meterPoison k m now s else setMeter k m (refreshed now (meterAt s k m)) s
    let x := meterAt s k m
    if x.cfg.mode = 0 then (g, s)
    else
      let b := meterCost x.cfg len
      let input := if !x.cfg.aware || decide (g.color = 3) then 0 else g.color
      let d := if bad then (2, 0, 0) else decideColor x.cfg.mode input x.t1 x.t2 b
      let s := bump (Ctr.mtrMetered k) s
      let s := tallyEvent (16 * k + 3) 6 1 (fun q => decide (q = m + d.1 * 2 ^ 14)) (some n) s
      if (d.1 = 1 ∧ x.cfg.yDrop) ∨ (d.1 = 2 ∧ x.cfg.rDrop) then (remark s k x.cfg { g with color := d.1, drop := true }, s)
      else
        let s := setMeter k m { x with t1 := x.t1 - d.2.1, t2 := x.t2 - d.2.2 } s
        let g := { g with color := d.1, debits := if d.2.1 + d.2.2 > 0 then g.debits ++ [⟨m, d.2.1, d.2.2⟩] else g.debits }
        (remark s k x.cfg g, s)
  else (g, s)

/-- Both meters of a frame, in order (R187). -/
def runMeters (n k len : Nat) (r : Rec) (s : State) : Metering × State :=
  let x := runMeter n k r.meter0 r.meter0En len { color := r.colorIn } s
  runMeter n k r.meter1 r.meter1En len x.1 x.2

/-! ### Tenant policer (R197) -/

/-- A poisoned purse is set to 0 with no demand (Table 20-4). -/
def pursePoison (k t : Nat) (s : State) : State :=
  let v := tenantAt s t
  setTenant t { v with purses := tabSet 0 v.purses k 0, demand := tabSet 0 v.demand k 0 } (cleanse (.purse k t) (countPoison 3 true s))

/-- The tenant policer of a frame of length `len`: whether it admits, the purse debit, and the state after. -/
def spend (k t len : Nat) (s : State) : Bool × Option (Nat × Nat) × State :=
  if (tenantAt s t).actEn then
    let bad := poisoned s (.purse k t)
    let s := if bad then pursePoison k t s else s
    let v := tenantAt s t
    let p := tabGet 0 v.purses k
    let cost := 8000 * len
    let asks : Tab Nat := tabSet 0 v.demand k (tabGet 0 v.demand k + cost)
    if p > 0 then
      (true, some (t, cost), bump (Ctr.mtrTpAdmit k) (setTenant t { v with purses := tabSet 0 v.purses k (p - cost), demand := asks } s))
    else (false, none, bump (Ctr.mtrTpDrop k) (if bad then s else setTenant t { v with demand := asks } s))
  else (true, none, s)

/-! ### After admission (R173, R176) -/

/-- A frame for the host: trapped, or forwarded to port 512. -/
def forHost (r : Rec) : Bool := decide (r.action = 2) || (decide (r.destKind = 0) && decide (r.dest = 512))

/-- The cut-through decision, taken once at admission (R173). A copy whose frame a meter rewrites is stomped as an express copy is (R181).
DESIGN CHOICE, log 27. -/
def cutDecision (n : Nat) (s : State) : State :=
  match chitAt s n with
  | some c =>
    match c.cls with
    | some r =>
      if (decide (c.depth = 1) || decide (c.depth = 2)) && c.specPort.isNone && !c.ended && !forHost r
          && (decide (r.action = 0) || decide (r.action = 3)) then
        match finalDest s r with
        | some (e, q) =>
          let s := catchUp e s
          if speculable s n c e q then
            let s := startSpec .cut n e q s
            if c.pcpDei.isSome || c.dscp.isSome then stompSpec n .wrong false s else s
          else s
        | none => s
      else s
    | none => s
  | none => s

/-- A frame's final colour is counted (R204). -/
def countColor (k color : Nat) (s : State) : State :=
  bump (if color = 1 then Ctr.mtrYellow k else if color = 2 then Ctr.mtrRed k else Ctr.mtrGreen k) s

/-- Both levels have admitted the frame. -/
def admitFrame (n : Nat) (g : Metering) (purse : Option (Nat × Nat)) (s : State) : State :=
  let rw := g.pcpDei.isSome || g.dscp.isSome
  let s := modChit n (fun c => { c with admitted := true, purse := purse }) s
  let s := if rw then stompSpec n .wrong false s else s
  settleSpec n (cutDecision n s)

/-- A classified record is policed. DESIGN CHOICE, log 29. -/
def police (n : Nat) (s : State) : State :=
  match chitAt s n with
  | some c =>
    match c.cls with
    | some r =>
      if decide (c.status = .provisional) && !c.admitted && (!c.pmac || c.ended) && decide (r.action ≠ 1)
          && inOrder s n c (fun d => d.admitted) then
        let k := chitSlice n
        let len := c.bytes.length
        let x := runMeters n k len r s
        let g := x.1
        let color := if g.color = 3 then 0 else g.color
        let s := countColor k color x.2
        let s := tallyFrame (16 * k + 3) c.port len n s
        let s := modChit n (fun c => { c with color := color, debits := g.debits, pcpDei := g.pcpDei, dscp := g.dscp }) s
        let s := bumpIf (g.pcpDei.isSome || g.dscp.isSome) (Ctr.mtrRemark k) s
        if g.drop then voidChit n 10 (bump (Ctr.mtrDrop k) s)
        else
          let y := spend k r.tenant len s
          if y.1 then admitFrame n g y.2.1 y.2.2
          else voidChit n 11 (tallyEvent (16 * k + 3) 7 1 (fun q => decide (q = r.tenant)) (some n) y.2.2)
      else s
    | none => s
  | none => s

/-- Meaning of POLICE. -/
def execPolice (n : Nat) (s : State) : Out := onChit n police s

/-! ### METER_REFRESH (R190, R201) -/

/-- The meter unit refreshes a meter that is not off, or has a new entry to take. -/
def meterRefresh (k m : Nat) (s : State) : State :=
  let x := meterAt s k m
  let now := ns32 s
  if x.cfg.mode = 0 ∧ x.next = none then s
  else if poisoned s (.meter k m) then meterPoison k m now s
  else setMeter k m (refreshed now x) s

/-- Meaning of METER_REFRESH. -/
def execMeterRefresh (k m : Nat) (s : State) : Out := onUnit (sliceEnabled s k && decide (m < 16384)) (meterRefresh k m s)

/-! ### TREASURY_SWEEP (R198, R202) -/

/-- The slices in cyclic order from `f`. -/
def cyclic (f : Nat) : List Nat := (List.range 16).map fun i => (f + i) % 16

/-- Step 2 of the pass: idle purses return to the pool. -/
def collect (p : Int × Tab Int) (demand : Tab Nat) : Int × Tab Int :=
  (List.range 16).foldl (fun p s =>
    let v : Int := tabGet 0 p.2 s
    let d : Nat := tabGet 0 demand s
    if d = 0 ∧ v > 0 then (p.1 + v, tabSet 0 p.2 s 0) else p) p

/-- Step 3: overdrawn purses are paid. -/
def payBack (f : Nat) (p : Int × Tab Int) : Int × Tab Int :=
  (cyclic f).foldl (fun p s =>
    let v : Int := tabGet 0 p.2 s
    if v < 0 then let x := min p.1 (-v); (p.1 - x, tabSet 0 p.2 s (v + x)) else p) p

/-- Step 4: demands are met. -/
def give (f : Nat) (demand : Tab Nat) (p : Int × Tab Int) : Int × Tab Int :=
  (cyclic f).foldl (fun p s =>
    let d : Nat := tabGet 0 demand s
    if d > 0 then let x : Int := min p.1 d; (p.1 - x, tabSet 0 p.2 s (tabGet 0 p.2 s + x)) else p) p

/-- One normal pass of a tenant; whether the last line turned tokens away. A slice that is off counts as holding 0 with no demand, and keeps
a negative purse (R440). -/
def normalPass (on : Nat → Bool) (v : Tenant) : Tenant × Bool :=
  let demand := v.demand.filter fun e => on e.1
  let p := give v.first demand (payBack v.first (collect (v.treasury + v.actRate * 500, v.purses.filter fun e => on e.1) demand))
  let room : Int := 8000 * v.actBurst - ((p.2.map fun e => max e.2 0).sum)
  let t := max 0 (min p.1 room)
  let all := (v.purses.filter fun e => !on e.1).foldl (fun m e => tabSet 0 m e.1 e.2) p.2
  ({ v with treasury := t, purses := all, demand := [], first := (v.first + 1) % 16 }, decide (t < p.1))

/-- A tenant at a Treasury pass: settings acknowledged since take effect (R202). -/
def tenantPass (on : Nat → Bool) (v : Tenant) : Tenant × Bool :=
  if v.en && !v.actEn then
    ({ v with actEn := true, actRate := v.rate, actBurst := v.burst, treasury := 8000 * v.burst, purses := [], demand := [], first := 0 }, false)
  else if !v.en then ({ v with actEn := false, actRate := v.rate, actBurst := v.burst, treasury := 0, purses := [], demand := [] }, false)
  else normalPass on { v with actRate := v.rate, actBurst := v.burst }

/-- Poisoned Treasury and purse words of a tenant are set to 0 with no demand before the pass (Table 20-4). -/
def treasuryPoison (t : Nat) (s : State) : State :=
  let s := if poisoned s (.treasury t) then
      setTenant t { tenantAt s t with treasury := 0 } (cleanse (.treasury t) (countPoison 3 true s))
    else s
  (List.range 16).foldl (fun s k => if poisoned s (.purse k t) then pursePoison k t s else s) s

/-- One sweep over every tenant. DESIGN CHOICE, log 29. -/
def treasurySweep (s : State) : State :=
  let s := (s.tenants.map fun e => e.1).foldl (fun s t =>
    let s := treasuryPoison t s
    let x := tenantPass (sliceOn s) (tenantAt s t)
    bumpIf x.2 Ctr.trsCapped (setTenant t { x.1 with passTreasury := x.1.treasury, passPurses := x.1.purses } s)) s
  bump Ctr.trsSweeps s

/-- Meaning of TREASURY_SWEEP. -/
def execTreasurySweep (s : State) : Out := .next (treasurySweep s)

/-! ### METER commands (Table 08-4) -/

/-- A meter entry from its five words (Table 08-1). -/
def meterOf (w : List W32) : MeterCfg :=
  let a := w.getD 0 0#32
  { mode := fld a 1 0, aware := a.getLsbD 2, yDrop := a.getLsbD 3, rDrop := a.getLsbD 4, remark := fld a 6 5, prof := fld a 10 7
    lenAdj := fld a 18 11, cir := fld (w.getD 1 0#32) 20 0, rate2 := fld (w.getD 2 0#32) 20 0, bs1 := fld (w.getD 3 0#32) 23 0
    bs2 := fld (w.getD 4 0#32) 23 0 }

/-- The five words of a meter entry. -/
def meterWords (c : MeterCfg) : List W32 :=
  [packW [(0, c.mode), (2, b2n c.aware), (3, b2n c.yDrop), (4, b2n c.rDrop), (5, c.remark), (7, c.prof), (11, c.lenAdj)],
   w32 c.cir, w32 c.rate2, w32 c.bs1, w32 c.bs2]

/-- An entry that R192 refuses. -/
def badMeter (w : List W32) : Bool :=
  let c := meterOf w
  decide (meterWords c ≠ w) || decide (c.cir > 1600000) || decide (c.rate2 > 1600000) || (decide (c.mode = 2) && decide (c.rate2 < c.cir))
    || (decide (c.mode = 1) && decide (c.rate2 ≠ 0)) || decide (c.remark = 3)

/-- METER.SET: slice mask, first meter, count, RESET, entries. -/
def meterSet (a : List W32) (s : State) : Ans :=
  let mask := arg a 0
  let first := arg a 1
  let n := arg a 2
  let reset := arg a 3
  let es := (List.range n).map fun i => (a.drop (4 + 5 * i)).take 5
  checked [(badMask s mask || decide (n < 1) || decide (n > 64) || decide (first + n > 16384) || badBool reset || es.any badMeter, Code.badArg)]
    (fun s => ok [] ((maskSlices mask).foldl (fun s k =>
      (List.range n).foldl (fun s i =>
        let m := meterAt s k (first + i)
        let waits : Bool := match m.next with | some x => x.2 | none => false
        setMeter k (first + i) { m with next := some (meterOf (es.getD i []), reset == 1 || waits) } s) s) s)) s

/-- Meaning of METER_SET. -/
def execMeterSet (v : Via) (a : List W32) (s : State) : Out := tcsCommand 0x0601 meterSet v a s

/-- METER.PROFILE_SET: slice mask, profile, three rows. -/
def profileSet (a : List W32) (s : State) : Ans :=
  checked [(badMask s (arg a 0) || decide (arg a 1 > 15), Code.badArg)] (fun s =>
    ok [] ((maskSlices (arg a 0)).foldl (fun s k =>
      (List.range 3).foldl (fun s c =>
        { s with profiles := tabSet 0 s.profiles (k * 64 + arg a 1 * 4 + c) (arg a (2 + c) % 2 ^ 11) }) s) s)) s

/-- Meaning of METER_PROFILE_SET. -/
def execMeterProfileSet (v : Via) (a : List W32) (s : State) : Out := tcsCommand 0x0602 profileSet v a s

/-- METER.TENANT_SET: tenant, TP_EN, RATE, BURST. -/
def tenantSet (a : List W32) (s : State) : Ans :=
  let t := arg a 0
  checked [(decide (t ≥ 16384) || badBool (arg a 1) || (decide (arg a 1 = 1) && decide (arg a 2 = 0)) || decide (arg a 2 > 1600000)
      || decide (arg a 3 > 16777215), Code.badArg)] (fun s =>
    ok [] (setTenant t { tenantAt s t with en := arg a 1 == 1, rate := arg a 2, burst := arg a 3 } s)) s

/-- Meaning of METER_TENANT_SET. -/
def execMeterTenantSet (v : Via) (a : List W32) (s : State) : Out := tcsCommand 0x0603 tenantSet v a s

/-- The low and high words of a 64-bit value. -/
def two (n : Nat) : List W32 := [w32 n, w32 (n / 2 ^ 32)]

/-- METER.GET: slice, meter; the newest entry, T1, T2 and LAST. -/
def meterGet (a : List W32) (s : State) : Ans :=
  checked [(badSlice s (arg a 0) || decide (arg a 1 ≥ 16384), Code.badArg)] (fun s =>
    let m := meterAt s (arg a 0) (arg a 1)
    let c := match m.next with | some x => x.1 | none => m.cfg
    ok (meterWords c ++ two m.t1 ++ two m.t2 ++ [w32 m.last]) s) s

/-- Meaning of METER_GET. -/
def execMeterGet (v : Via) (a : List W32) (s : State) : Out := tcsCommand 0x0681 meterGet v a s

/-- METER.TENANT_GET: tenant; settings, and the Treasury balance and sixteen purses as the latest Treasury pass left them. -/
def tenantGet (a : List W32) (s : State) : Ans :=
  checked [(decide (arg a 0 ≥ 16384), Code.badArg)] (fun s =>
    let v := tenantAt s (arg a 0)
    ok ([w32 (b2n v.en), w32 v.rate, w32 v.burst] ++ two (unsgn 48 v.passTreasury)
      ++ ((List.range 16).map fun k => two (unsgn 48 (tabGet 0 v.passPurses k))).flatten) s) s

/-- Meaning of METER_TENANT_GET. -/
def execMeterTenantGet (v : Via) (a : List W32) (s : State) : Out := tcsCommand 0x0682 tenantGet v a s

end Sys2Proof.Machine
end

