-- ==== Sys2Proof/Machine/Rewrite.lean ====
section
/-! DEFINITION. What the device changes in the bytes of a copy: PCP, DEI and DSCP (R196), ECN marks (R221), one-step timestamps and
transparent-clock corrections (R290, R291). Offsets count from 0 at the first byte of DA. -/
namespace Sys2Proof.Machine

/-- The number that `k` bytes from offset `o` spell in network order. -/
def getBe (o k : Nat) (bs : List Byte) : Nat := beNat ((bs.drop o).take k)
/-- Bytes with `k` bytes from offset `o` replaced; a field that does not lie wholly inside the frame is left alone. -/
def putBe (o k v : Nat) (bs : List Byte) : List Byte :=
  if o + k ≤ bs.length then bs.take o ++ beBytes k v ++ bs.drop (o + k) else bs
/-- The frame with its FCS computed anew. -/
def refcs (bs : List Byte) : List Byte := let b := bs.take (bs.length - 4); b ++ fcsOf b

/-- One's complement sum of 16-bit words. -/
def onesSum (a b : Nat) : Nat := let x := a + b; if x ≥ 65536 then x - 65535 else x
/-- A header checksum after a 16-bit word changes from `m` to `m'`. -/
def fixSum (sum m m' : Nat) : Nat := 65535 - onesSum (onesSum (65535 - sum) (65535 - m)) m'

/-- The traffic class byte of the IP header of a record; bits [7:2] DSCP, [1:0] ECN. -/
def trafficClass (r : Rec) (bs : List Byte) : Nat :=
  if r.ipv4 then getBe (r.l3Off + 1) 1 bs else bits (getBe r.l3Off 2 bs) 11 4

/-- The frame with another traffic class, an IPv4 header's checksum updated. -/
def setTrafficClass (r : Rec) (v : Nat) (bs : List Byte) : List Byte :=
  let old := getBe r.l3Off 2 bs
  if r.ipv4 then
    let new := old / 256 * 256 + v
    putBe r.l3Off 2 new (putBe (r.l3Off + 10) 2 (fixSum (getBe (r.l3Off + 10) 2 bs) old new) bs)
  else if r.ipv6 then putBe r.l3Off 2 (old / 4096 * 4096 + v * 16 + old % 16) bs
  else bs

/-- PCP and DEI written into the outer tag. -/
def setPcpDei (v : Nat) (bs : List Byte) : List Byte :=
  let tci := getBe 14 2 bs
  putBe 14 2 (v % 8 * 8192 + v / 8 * 4096 + tci % 4096) bs

/-- The bytes of a buffer-route copy: R196's rewrite unless it is a mirror copy, and the ECN mark. -/
def copyBytes (c : Chit) (kind : CopyKind) (mark : Bool) : List Byte :=
  match c.cls with
  | some r =>
    let plain : Bool := match kind with | .mirror _ => true | _ => false
    let b := match c.pcpDei with | some v => if plain || !r.tagged then c.bytes else setPcpDei v c.bytes | none => c.bytes
    let tc := trafficClass r b
    let dscp := match c.dscp with | some v => if plain then tc / 4 else v | none => tc / 4
    let ecn := if mark then 3 else tc % 4
    let b := if dscp * 4 + ecn ≠ tc then setTrafficClass r (dscp * 4 + ecn) b else b
    if b = c.bytes then b else refcs b
  | none => c.bytes

/-! ### PTP (R289 to R291) -/

/-- A port's RX_ADJ, TX_ADJ and LINK_DELAY in force. -/
def rxAdj (q : PortState) : Int := sgn 8 (fld q.cfg.ptpAct 11 4)
def txAdj (q : PortState) : Int := sgn 8 (fld q.cfg.ptpAct 19 12)
def linkDelay (q : PortState) : Int := (fld q.cfg.ptpAct 31 20 : Nat)
/-- PIN_REF of a port. -/
def pinRef (q : PortState) : Bool := bit q.cfg.ptpAct.toNat 2

/-- Receive and transmit instants referred to the pins (R289). -/
def rxPin (q : PortState) (t : Nat) : Int := (t : Int) - (q.cfg.dRx : Int) - rxAdj q
def txPin (q : PortState) (t : Nat) : Int := (t : Int) + (q.cfg.dTx : Int) + txAdj q
/-- The timestamps that PIN_REF selects. -/
def rxStamp (q : PortState) (t : Nat) : Int := if pinRef q then rxPin q t else t
def txStamp (q : PortState) (t : Nat) : Int := if pinRef q then txPin q t else t

/-- Sum of the 16-bit words of bytes, modulo 65,535. -/
def wordSum : List Byte → Nat
  | [] => 0
  | [a] => a.toNat * 256 % 65535
  | a :: b :: rest => (a.toNat * 256 + b.toNat + wordSum rest) % 65535

/-- The UDP datagram of a frame. -/
def udpBytes (r : Rec) (bs : List Byte) : List Byte := (bs.drop r.l4Off).take (getBe (r.l4Off + 4) 2 bs)

/-- The last two bytes of an IPv6 UDP payload rewritten so that the checksum of `old` stays valid for `new`. -/
def fixTrailer (r : Rec) (old new : List Byte) : List Byte :=
  let len := getBe (r.l4Off + 4) 2 new
  let o := r.l4Off + len - 2
  let bare := putBe o 2 0 new
  let d := (wordSum (udpBytes r old) + 65535 - wordSum (udpBytes r bare)) % 65535
  putBe o 2 (if len % 2 = 1 then d % 256 * 256 + d / 256 else d) bare

/-- The checksum rule of R291 around a change of a PTP message; none where the message is left unchanged. -/
def withUdp (q : PortState) (r : Rec) (f : List Byte → List Byte) (bs : List Byte) : Option (List Byte) :=
  if r.ipv4 then some (putBe (r.l4Off + 6) 2 0 (f bs))
  else if r.ipv6 then (if bit q.cfg.ptpAct.toNat 3 then some (fixTrailer r bs (f bs)) else none)
  else some (f bs)

/-- The amount added to a correctionField of `v`, saturating at the signed 64-bit limits. -/
def addCorrection (v : Nat) (amount : Int) : Nat :=
  unsgn 64 (max (-(2 ^ 63 : Nat)) (min ((2 ^ 63 : Nat) - 1) (sgn 64 v + amount * 65536)))

/-- The correction of a forwarded event message (R291) for residence and link delay; none when TC_MODE corrects no such message. -/
def correction (s : State) (p : Nat) (c : Chit) (r : Rec) (txAt : Nat) : Option Int :=
  let e := portAt s p
  let i := portAt s c.port
  let mode := fld e.cfg.ptpAct 1 0
  let res := txPin e txAt - rxPin i c.rxAt
  if isFront c.port && isFront p then
    if mode = 1 then some res
    else if mode = 2 ∧ ptpType r c.bytes = 0 then some (res + linkDelay i)
    else none
  else none

/-- One timestamp treatment of a copy: what it makes of the bytes, and whether it was skipped for its checksum.
DEDUCED, log 28. -/
def treat (q : PortState) (r : Rec) (f : List Byte → List Byte) (bs : List Byte) : List Byte × Bool :=
  match withUdp q r f bs with
  | some b => (refcs b, false)
  | none => (bs, true)

/-- The frame that a forwarding copy sends with its good FCS: one-step timestamp (R290) or correction (R291), counted.
DEDUCED, log 28. -/
def ptpBytes (p : Nat) (t : Tx) (c : Chit) (s : State) : List Byte × State :=
  match c.cls with
  | some r =>
    if ptpEvent r c.bytes && (match t.copy.kind with | .mirror _ => false | _ => true) then
      let q := portAt s p
      let o := ptpOffset r
      let one := match c.inject with | some i => i.oneStep && decide (ptpType r c.bytes = 0) | none => false
      if one then
        let ts := (txStamp q t.txAt).toNat
        let x := treat q r (fun b => putBe (o + 40) 4 (ts % 1000000000) (putBe (o + 34) 6 (ts / 1000000000) b)) t.bytes
        (x.1, if x.2 then bumpMac Ctr.macPtpSkip p 1 s else s)
      else
        match correction s p c r t.txAt with
        | some a =>
          let x := treat q r (fun b => putBe (o + 8) 8 (addCorrection (getBe (o + 8) 8 b) a) b) t.bytes
          (x.1, bumpMac (if x.2 then Ctr.macPtpSkip else Ctr.macPtpTc) p 1 s)
        | none => (t.bytes, s)
    else (t.bytes, s)
  | none => (t.bytes, s)

end Sys2Proof.Machine
end

