-- ==== Sys2Proof/Machine/EgressFam.lean ====
section
/-! DEFINITION. Frames on their way out (chapters 07, 09, 10): enqueue, trap, selection, the FCS, the end of a copy, underrun, shapers,
gates and telemetry samples. -/
namespace Sys2Proof.Machine

/-! ### Losing copies (R178, R249) -/

/-- A copy ends without delivery: a forwarding copy counts as dropped after admission, a mirror copy in its session's counters. -/
def loseCopy (p : Nat) (c : Copy) (s : State) : State :=
  match c.kind with
  | .mirror m => bump (Ctr.tlrMirDrop (chitSlice c.chit) m) s
  | _ => dropAdmitted (portSlice p) p c.chit s

/-- The first cell of a frame's chain whose poison a copy meets (R223), and whether its chain ends early at a poisoned link word (R224). -/
def chainPoisoned (s : State) (c : Chit) : Option Nat × Bool :=
  let r := readChain s c.chain
  ((List.range r.1.length).find? (fun i => cellPoison s (r.1.getD i 0) c.bytes.length i), r.2 && decide (r.1.length < c.chain.length))

/-- A queued copy is discarded. -/
def discardCopy (p : Nat) (c : Copy) (s : State) : State := dropRef c.chit (loseCopy p c s)

/-! ### ENQUEUE_REQUEST, TELLER_ENQUEUE (R176, R214, R241) -/

/-- The frame's speculative copy to its final destination and queue is under way, or the frame never had one that counts. -/
def specServes (s : State) (n : Nat) (c : Chit) (r : Rec) : Bool :=
  c.specOn && (match c.specPort, finalDest s r with
    | some p, some (fp, fq) => decide (p = fp) && (match (txAt s p).tx with
      | some t => decide (t.copy.chit = n) && decide (t.copy.queue = fq) && t.fcs.isNone
      | none => false)
    | _, _ => false)

/-- The ingress slice requests the enqueue once FCS is good and both levels have admitted the frame. -/
def enqueueRequest (n : Nat) (s : State) : State :=
  match chitAt s n with
  | some c =>
    match c.cls with
    | some r =>
      if decide (c.status = .provisional) && c.admitted && c.fcsGood && !c.requested && chainWhole c && !forHost r && !specServes s n c r then
        modChit n (fun c => { c with requested := true }) s
      else s
    | none => s
  | none => s

/-- Meaning of ENQUEUE_REQUEST. -/
def execEnqueueRequest (n : Nat) (s : State) : Out := onChit n enqueueRequest s

/-- The colour check of R214 refuses a frame. -/
def colorRefuses (s : State) (c : Chit) : Bool :=
  let floor := if c.color = 1 then s.mint.yelFloor else if c.color = 2 then s.mint.redFloor else 0
  (c.chain.any fun e => decide (c.pool = 0) || e.2) && decide (pool0Cap s - (poolAt s 0).used < floor * 16)

/-- The frame's forwarding copy is created; a frame whose speculative copy was stomped is re-dispatched (R181). -/
def dispatchCopy (n : Nat) (s : State) : State :=
  match chitAt s n with
  | some c => makeForward n (bumpIf c.specPort.isSome (Ctr.lkpRedispatch (chitSlice n)) s)
  | none => s

/-- An earlier frame of the same ingress port is still on its way to the same queue, or its queue is not known yet (R175). -/
def overtakes (s : State) (n : Nat) (c : Chit) (r : Rec) : Bool :=
  s.chits.any fun x => match x.2 with
    | some d =>
      decide (x.1 ≠ n) && decide (d.port = c.port) && decide (d.order < c.order) && decide (d.status = .provisional)
        && (match d.cls with | some e => !forHost e && decide (finalDest s e = finalDest s r) | none => true)
    | none => false

/-- The egress Teller takes the enqueue: refused for its colour, or accepted, and the chit settles. Frames of one ingress port enter a queue in their order
(R175). DESIGN CHOICE, log 31. -/
def tellerEnqueue (n : Nat) (s : State) : State :=
  match chitAt s n with
  | some c =>
    if c.requested && decide (c.status = .provisional) && !c.cls.any (overtakes s n c) then
      if colorRefuses s c then voidChit n 13 (bump Ctr.mntColorRefuse s)
      else
        let port := match c.cls with | some r => (finalDest s r).map fun x => portSlice x.1 | none => none
        let s := match port with | some e => tallyFrame (16 * e + 4) c.port c.bytes.length n s | none => s
        settleWith (dispatchCopy n) n (modChit n (fun c => { c with enqueued := true }) s)
    else s
  | none => s

/-- Meaning of TELLER_ENQUEUE. -/
def execTellerEnqueue (n : Nat) (s : State) : Out := onChit n tellerEnqueue s

/-! ### TRAP_ACCEPT (R213, R361, R363) -/

/-- The Mint charges a chain's cells to pool 31. -/
def chargeTrap (n : Nat) (c : Chit) (s : State) : State :=
  let s := c.chain.foldl (fun s e =>
    match tabGet none s.mint.cells e.1 with
    | some x =>
      let s := dropUse x.pool x.pair x.borrow s
      let s := { s with mint := { s.mint with cells := tabSet none s.mint.cells e.1 (some { x with pool := 31, borrow := false }) } }
      addUse 31 x.pair false s
    | none => s) s
  modChit n (fun c => { c with chain := c.chain.map (fun e => (e.1, false)), pool := 31 }) s

/-- Where the arena takes a frame of `len` bytes: the start offset and the write offset after it (R361). -/
def arenaPlace (s : State) (len : Nat) : Option (Nat × Nat) :=
  let u := s.up
  let size := 2 ^ u.rxaLog2
  let a := 64 * ((len - 4 + 63) / 64)
  let w := u.rxaW % size
  let skip := if w + a > size then size - w else 0
  if u.rxaEn && decide (a + skip + ringUsed u.rxaLog2 u.rxaW u.rxaRel ≤ size) then
    some ((u.rxaW + skip) % size, (u.rxaW + skip + a) % (2 * size))
  else none

/-- A frame of the group address and EtherType, on a group port in MODE group: it goes to Titimus, not to the upstream ring (R412). -/
def groupFrame (s : State) (c : Chit) : Bool :=
  decide (s.pair.mode = 2) && decide (c.station = some 7) && bit (wordAt s.pair.ports (c.port / 32)) (c.port % 32)
    && decide (beNat ((c.bytes.drop 12).take 2) = 0x88B5)

/-- A punted frame finishes: it takes ring and arena room, or is dropped at once (R363). -/
def offerPunt (n : Nat) (c : Chit) (r : Rec) (s : State) : State :=
  let q := portAt s c.port
  let pin := ptpEvent r c.bytes && pinRef q && isFront c.port
  let lose (ctr : Nat) (s : State) : State := dropRef n (dropAdmitted (chitSlice n) 512 n (bump ctr s))
  let bad := chainPoisoned s c
  if bad.1.isSome || bad.2 then
    lose Ctr.mntPoisonCopy (countPoison 0 bad.1.isSome (if bad.2 then linkPoison s else s))
  else if groupFrame s c then dropRef n s
  else if usRoom s < 1 then lose Ctr.hifPuntRingDrop s
  else
    match arenaPlace s c.bytes.length with
    | none =>
      let old := (s.up.ready.filter fun j => decide (jobRank j = 4)).length
      lose Ctr.hifPuntArenaDrop { s with up := { s.up with arenaFull := true, arenaOld := old } }
    | some (a, e) =>
      let j : Punt := { chit := n, port := c.port, tsPin := pin, staIdx := c.station.getD 0, reason := r.trapReason, cls := r.cls
                        len := c.bytes.length, tenant := r.tenant
                        rxTs := unsgn 32 (if pin then rxPin q c.rxAt else (c.rxAt : Int))
                        segment := r.segment, rule := r.rule, ruleHit := r.ruleHit, start := a, fin := e
                        bytes := c.bytes.take (c.bytes.length - 4) }
      pushReady (.punt j) { s with up := { s.up with rxaW := e } }

/-- The host interface takes a trapped frame for pool 31. -/
def trapAccept (n : Nat) (s : State) : State :=
  match chitAt s n with
  | some c =>
    match c.cls with
    | some r =>
      if decide (c.status = .provisional) && c.admitted && c.fcsGood && chainWhole c && forHost r then
        let move := (c.chain.filter fun e => match tabGet none s.mint.cells e.1 with | some x => decide (x.pool ≠ 31) | none => false).length
        if (poolAt s 31).used + move > (poolAt s 31).size then voidChit n 13 (bump Ctr.mntP31Drop s)
        else
          let s := if move = 0 then s else chargeTrap n c s
          settleWith (fun s => match addRef n s with
            | some s => offerPunt n c r s
            | none => dropAdmitted (chitSlice n) 512 n (bump Ctr.mntRefLimit s)) n s
      else s
    | none => s
  | none => s

/-- Meaning of TRAP_ACCEPT. -/
def execTrapAccept (n : Nat) (s : State) : Out := onChit n trapAccept s

/-! ### Selection (R231, R232) -/

/-- A child of a scheduling node: holds a frame, is eligible, is strict, its quantum, and the charge of the frame it would select. -/
structure Child where
  id     : Nat
  holds  : Bool
  elig   : Bool
  strict : Bool
  quantum : Nat
  charge : Nat
  deriving DecidableEq, Repr

/-- DWRR state of the children of a node: pointer, and (deficit, fresh) by child. -/
structure Dwrr where
  ptr : Nat
  st  : Tab (Nat × Bool)
  deriving DecidableEq, Repr

/-- A child's deficit and fresh flag. -/
def dwrrAt (d : Dwrr) (i : Nat) : Nat × Bool := tabGet (0, true) d.st i
/-- Replace them. -/
def dwrrSet (i : Nat) (v : Nat × Bool) (d : Dwrr) : Dwrr := { d with st := tabSet (0, true) d.st i v }

/-- The DWRR child at the pointer: the first at or after it, cyclically. -/
def childAt (cs : List Child) (ptr : Nat) : Option Child :=
  match cs.find? fun c => decide (c.id ≥ ptr) with
  | some c => some c
  | none => cs.head?

/-- The loop of R232 over the DWRR children; `fuel` bounds the visits. -/
def dwrrLoop (cs : List Child) : Nat → Dwrr → Option (Nat × Dwrr)
  | 0, _ => none
  | fuel + 1, d =>
    match childAt cs d.ptr with
    | none => none
    | some c =>
      let x := dwrrAt d c.id
      let def1 := if c.elig && x.2 then x.1 + c.quantum else x.1
      if c.elig && decide (def1 ≥ c.charge) then some (c.id, { dwrrSet c.id (def1 - c.charge, false) d with ptr := c.id })
      else
        let def2 := if c.elig || c.holds then def1 else 0
        dwrrLoop cs fuel { dwrrSet c.id (def2, true) d with ptr := c.id + 1 }

/-- select(node) of R232: the child and the DWRR state after. -/
def selectChild (cs : List Child) (d : Dwrr) : Option (Nat × Dwrr) :=
  if cs.any (fun c => c.elig) then
    match (cs.filter fun c => c.strict && c.elig).getLast? with
    | some c => some (c.id, d)
    | none =>
      let w := cs.filter fun c => !c.strict
      let most := (w.map fun c => c.charge / max 1 c.quantum).foldl max 0
      dwrrLoop w (w.length * (most + 3)) d
  else none

/-! ### Eligible queues (R231, R50, R54, R69) -/

/-- The frame length that a queue would send next: its head, or the suspended remainder of a frame of its own. -/
def nextLen (t : TxPort) (q : Nat) : Option Nat :=
  match t.susp with
  | some x => if x.copy.queue = q then some (x.copy.len - x.sent) else ((queueAt t q).head?).map Copy.len
  | none => ((queueAt t q).head?).map Copy.len

/-- A queue is eligible. -/
def eligible (s : State) (p q : Nat) : Bool :=
  let t := txAt s p
  match nextLen t q with
  | some len => !queuePaused (portAt s p).fc q && gateFits s p q len && pathOpen s.cycles t q
  | none => false

/-- The DWRR state of a group's queues. -/
def groupDwrr (t : TxPort) (g : Nat) (qs : List Nat) : Dwrr :=
  ⟨tabGet 0 t.ptrs g, qs.foldl (fun m q => let n := nodeAt t q; tabSet (0, true) m q (n.deficit, n.fresh)) []⟩

/-- Write DWRR state back into nodes. -/
def putDwrr (ids : List Nat) (base ptrAt : Nat) (d : Dwrr) (t : TxPort) : TxPort :=
  let t := ids.foldl (fun t i => let x := dwrrAt d i; setNode (base + i) { nodeAt t (base + i) with deficit := x.1, fresh := x.2 } t) t
  { t with ptrs := tabSet 0 t.ptrs ptrAt d.ptr }

/-- The queues of a group. -/
def groupQueues (t : TxPort) (g : Nat) : List Nat := (List.range 16).filter fun q => decide ((nodeAt t q).group = g)

/-- A group's own selection among the queues that `cand` admits. -/
def selectInGroup (s : State) (p g : Nat) (cand : Nat → Bool) : Option (Nat × Dwrr) :=
  let t := txAt s p
  let qs := groupQueues t g
  let cs := qs.map fun q =>
    let n := nodeAt t q
    { id := q, holds := (nextLen t q).isSome, elig := cand q && eligible s p q, strict := n.strict, quantum := n.quantum
      charge := (nextLen t q).getD 0 + 20 : Child }
  selectChild cs (groupDwrr t g qs)

/-- The queue that a front port selects among those that `cand` admits, with the transmit side after it. -/
def selectQueue (s : State) (p : Nat) (cand : Nat → Bool) : Option (Nat × TxPort) :=
  let t := txAt s p
  let picks := (List.range 4).map fun g => selectInGroup s p g cand
  let cs := (List.range 4).map fun g =>
    let n := nodeAt t (16 + g)
    let pick := picks.getD g none
    { id := g, holds := (groupQueues t g).any (fun q => (nextLen t q).isSome), elig := pick.isSome, strict := n.strict, quantum := n.quantum
      charge := match pick with | some x => (nextLen t x.1).getD 0 + 20 | none => 0 : Child }
  let d : Dwrr := ⟨tabGet 0 t.ptrs 4, (List.range 4).foldl (fun m g =>
    let n := nodeAt t (16 + g); tabSet (0, true) m g (n.deficit, n.fresh)) []⟩
  match selectChild cs d with
  | some (g, d') =>
    match picks.getD g none with
    | some (q, dq) => some (q, putDwrr (List.range 4) 16 4 d' (putDwrr (groupQueues t g) 0 g dq t))
    | none => none
  | none => none

/-! ### Discards at the head of a queue (R57, R241) -/

/-- Discard the copies at the head of a queue that never fit or meet the pause watchdog; `fuel` bounds the count by the queue's length. -/
def pruneHead (p q : Nat) : Nat → State → State
  | 0, s => s
  | fuel + 1, s =>
    match queueAt (txAt s p) q with
    | [] => s
    | c :: rest =>
      let never := neverFits s p q c.len
      if never || queueDropped (portAt s p).fc q then
        let s := modTx p (setQueue q rest) s
        let s := if never then bump (Ctr.tlrNeverFits (portSlice p)) s else bumpMac Ctr.macPwdDrop p 1 s
        pruneHead p q fuel (discardCopy p c s)
      else s

/-- Every queue of a port. -/
def pruneHeads (p : Nat) (s : State) : State :=
  (List.range 16).foldl (fun s q => pruneHead p q (queueAt (txAt s p) q).length s) s

/-! ### Starting a copy (R221, R236, R287) -/

/-- The ECN decision for a copy at its dequeue (R221): mark, or a field already 11. -/
def ecnDecision (s : State) (p : Nat) (c : Copy) : Bool × Bool :=
  match chitAt s c.chit with
  | some x =>
    match x.cls with
    | some r =>
      let m := tabGet 0 s.mint.marks (16 * p + c.queue)
      let marks := decide (m ≠ 0) && decide (depthOf (txAt s p) c.queue > m) && r.ect && (r.ipv4 || r.ipv6)
      let e := trafficClass r x.bytes % 4
      (marks && decide (e = 1 ∨ e = 2), (r.ipv4 || r.ipv6) && decide (e = 3))
    | none => (false, false)
  | none => (false, false)

/-- The copy at the head of queue `q` starts: the Mint has read so much of it that the transmit bridge holds the minimum of R44, which for a
buffer-route copy is a full bridge or the whole frame. DESIGN CHOICE, log 27 and 60. -/
def startCopy (p q : Nat) (s : State) : State :=
  match queueAt (txAt s p) q with
  | [] => s
  | c :: rest =>
    let m := ecnDecision s p c
    let bytes := match chitAt s c.chit with | some x => copyBytes x c.kind m.1 | none => []
    let s := bumpIf m.2 Ctr.mntEcnCeIn (bumpIf m.1 Ctr.mntEcnMark s)
    let now := timeTotal s
    let close := closing s p q
    let s := modTx p (fun t =>
      let t := setQueue q rest t
      let t := if isFront p && !plainSlice s (portSlice p) then debitPath s.cycles c.len q t else t
      { t with tx := some { copy := c, txAt := now, fragAt := now, bytes := bytes, closeAt := close, bridge := bridgeFull s p c.len } }) s
    let k := portSlice p
    tallyEvent (16 * k + 4) 5 1 (fun x => decide (x = 16 * (p % 32) + q)) (some c.chit) (bump (Ctr.tlrDeq k) s)

/-- The suspended remainder resumes. -/
def resume (p : Nat) (s : State) : State :=
  match (txAt s p).susp with
  | some t =>
    let now := timeTotal s
    let close := closing s p t.copy.queue
    modTx p (fun x => { x with tx := some { t with fragAt := now, closeAt := close }, susp := none }) s
  | none => s

/-- A front port is able to start a frame: powered, up, not in LPI or waking, not restoring lanes. -/
def mayStart (s : State) (p : Nat) : Bool :=
  let d := (portAt s p).damp
  takesCopies s p && (isRecirc p || (!d.txLpi && !d.waking && !d.restoring))

/-- The Teller's selection for the eMAC (`express`) or the pMAC of a port on which preemption is active, or for the port as a whole. -/
def tellerServe (p : Nat) (express : Bool) (s : State) : State :=
  let pre := (portAt s p).pre
  let t := txAt s p
  let cand (q : Nat) : Bool :=
    if pre.active then
      if express then !bit pre.pmacMask q
      else bit pre.pmacMask q && (match t.susp with | some x => decide (x.copy.queue = q) | none => true)
    else true
  match t.susp with
  | some x =>
    if pre.active && express then
      match selectQueue s p cand with
      | some (q, t') => startCopy p q (modTx p (fun _ => t') s)
      | none => s
    else if gateFits s p x.copy.queue (x.copy.len - x.sent) then resume p s else s
  | none =>
    match selectQueue s p cand with
    | some (q, t') => startCopy p q (modTx p (fun _ => t') s)
    | none => s

/-- A port can start a frame, or an eMAC frame may preempt the pMAC frame in progress after `cut` bytes of its fragment. In Plain service the port
sends queue 0 in order, without gates or shapers (R431). Gate changes due by now come first (R239). DESIGN CHOICE, log 8 and 31. -/
def tellerSelect (p : Nat) (express : Bool) (cut : Nat) (s : State) : State :=
  if mayStart s p then
    if plainSlice s (portSlice p) then (if (txAt s p).tx.isNone then startCopy p 0 s else s) else
    let s := pruneHeads p (catchUp p s)
    if isRecirc p then
      if (txAt s p).tx.isNone && decide (stopMask s p = 0) then startCopy p 0 s else s
    else
      match (txAt s p).tx with
      | none => tellerServe p express s
      | some t =>
        let pre := (portAt s p).pre
        if express && maySplit s p t cut && ((List.range 16).any fun q => !bit pre.pmacMask q && eligible s p q) then
          tellerServe p true (suspend p t cut s)
        else s
  else s

/-- Meaning of TELLER_SELECT. -/
def execTellerSelect (p : Nat) (express : Bool) (cut : Nat) (s : State) : Out :=
  onUnit (isPort p && decide (p ≠ 512) && portEnabledByFuse s p) (tellerSelect p express cut s)

/-! ### EGRESS_FCS, COPY_END, TX_UNDERRUN (R29 to R32, R45, R219, R223) -/

/-- An entry for a TX timestamp queue (R293, R294). -/
def pushTsq (k : Nat) (e : TsqEntry) (s : State) : State :=
  let q : Tsq := tabGet {} s.time.tsqs k
  let q := if q.entries.length ≥ 64 then { q with lost := (q.lost + 1) % 2 ^ 16 } else { q with entries := q.entries ++ [e] }
  { s with time := { s.time with tsqs := tabSet {} s.time.tsqs k q } }

/-- The copy's good FCS goes out. -/
def sendGood (p : Nat) (t : Tx) (c : Chit) (s : State) : State :=
  let k := portSlice p
  let x := ptpBytes p t c s
  let s := x.2
  let len := t.copy.len
  let spec : Bool := match t.copy.kind with | .express | .cut => true | _ => false
  let s := modTx p (fun y =>
    let y := if spec then debitPath s.cycles len t.copy.queue y else y
    { y with tx := some { t with fcs := some true, bytes := x.1 }, wire := x.1 }) s
  let s := bumpMac Ctr.macTxOctets p len (bumpMac Ctr.macTxFrames p 1 s)
  let s := if isPmac s p t.copy.queue then bumpMac Ctr.macTxFrag p 1 s else s
  let s := match t.copy.kind with
    | .express => bump (Ctr.lkpExpStood (chitSlice t.copy.chit)) s
    | .cut => bump (Ctr.lkpCutStood (chitSlice t.copy.chit)) s
    | _ => s
  let s := if spec then modChit t.copy.chit (fun c => { c with specOn := false }) s else s
  let s := match t.copy.kind with | .mirror _ => s | _ => billCopy k p 1 c s
  let s := match c.inject with
    | some i => if i.tsReq then pushTsq k ⟨i.tsId, p, unsgn 32 (txStamp (portAt s p) t.txAt)⟩ s else s
    | none => s
  if isRecirc p then { s with recirc := tabSet [] s.recirc p (tabGet [] s.recirc p ++ [x.1]) } else s

/-- The egress MAC reaches the FCS of the copy in progress, unless its gate has closed before. -/
def egressFcs (p : Nat) (s : State) : State :=
  let s := gateHold p s
  match (txAt s p).tx with
  | some t =>
    if t.fcs.isSome || !t.began then s
    else
      match chitAt s t.copy.chit with
      | some c =>
        match t.copy.kind with
        | .express | .cut =>
          if c.status = .settled then sendGood p t c s
          else if c.ended then stompSpec t.copy.chit (if c.status = .voided then .void else .late) true s
          else s
        | _ =>
          let bad := chainPoisoned s c
          if bad.1.isSome || bad.2 then
            let s := countPoison 0 bad.1.isSome (if bad.2 then linkPoison s else s)
            let fwd : Bool := match t.copy.kind with | .mirror _ => false | _ => true
            let last := bad.1.getD (readChain s c.chain).1.length
            stompAt p t (min (t.copy.len - 4) (max 60 (256 * last))) (loseCopy p t.copy (bumpIf fwd Ctr.mntPoisonCopy s))
          else sendGood p t c s
      | none => s
  | none => s

/-- A port's sent bits count toward damping: the window's total, and the last 2 µs, whose load above 70% restores full width (R66).
DESIGN CHOICE, log 53. -/
def noteSent (p bits : Nat) (s : State) : State :=
  if isFront p then
    let now := s.cycles
    let s := modPort p (fun q => { q with damp := { q.damp with
      winBits := q.damp.winBits + bits
      recent := (q.damp.recent.filter fun e => decide (now < e.1 + 2000)) ++ [(now, bits)] } }) s
    let d := (portAt s p).damp
    if decide ((d.recent.map fun e => e.2).sum * 100 > 70 * activeRate s p false * 2000) then startRestore p s else s
  else s

/-- Meaning of EGRESS_FCS. -/
def execEgressFcs (p : Nat) (s : State) : Out := onUnit (isPort p && portEnabledByFuse s p) (egressFcs p s)

/-- The copy in progress has sent its last byte and ends: the bits it really sent count toward damping, and a port in near-end loopback receives
them (R76). DESIGN CHOICE, log 8, 53 and 60. -/
def copyEnd (p : Nat) (s : State) : State :=
  match (txAt s p).tx with
  | some t =>
    if t.fcs.isSome then
      let s := modTx p (fun x => { x with tx := none }) s
      let s := if isFront p then modPort p (fun q => { q with damp := { q.damp with idleAt := s.cycles } }) s else s
      let s := if t.bytes.isEmpty then s
        else loopBack p (isPmac s p t.copy.queue) t.bytes (noteSent p (8 * (t.bytes.length + 20)) s)
      dropRef t.copy.chit s
    else s
  | none => s

/-- Meaning of COPY_END. -/
def execCopyEnd (p : Nat) (s : State) : Out := onUnit (isPort p && portEnabledByFuse s p) (copyEnd p s)

/-- A speculative copy of a settled frame is sent again from the buffer. -/
def redispatch (n : Nat) (s : State) : State :=
  match chitAt s n with
  | some c => if c.status = .settled then dispatchCopy n s else s
  | none => s

/-- A speculative copy in progress ends by an underrun or a link down (R45, R73, R181). -/
def failSpec (p : Nat) (t : Tx) (s : State) : State :=
  let s := modChit t.copy.chit (fun c => { c with specOn := false }) s
  let s := bumpIf (decide (t.copy.kind = .express)) (Ctr.lkpExpOther (chitSlice t.copy.chit)) s
  stompTx p t (match chitAt s t.copy.chit with | some c => arrived s c | none => t.copy.len) s

/-- The transmit bridge runs empty. DESIGN CHOICE, log 27. -/
def txUnderrun (p : Nat) (s : State) : State :=
  match (txAt s p).tx with
  | some t =>
    if t.fcs.isSome || !t.began then s
    else
      let s := bumpMac Ctr.macTxUnderrun p 1 s
      match t.copy.kind with
      | .express | .cut => redispatch t.copy.chit (failSpec p t s)
      | _ =>
        if t.copy.again then stompTx p t t.copy.len (loseCopy p t.copy s)
        else
          match addRef t.copy.chit s with
          | some s =>
            stompTx p t t.copy.len
              (modTx p (fun x => setQueue t.copy.queue ({ t.copy with again := true } :: queueAt x t.copy.queue) x) s)
          | none => stompTx p t t.copy.len (loseCopy p t.copy (bump Ctr.mntRefLimit s))
  | none => s

/-- Meaning of TX_UNDERRUN. -/
def execTxUnderrun (p : Nat) (s : State) : Out := onUnit (isFront p && portEnabledByFuse s p) (txUnderrun p s)

/-! ### SHAPER_REFILL (R235) -/

/-- A shaper of a port: queue q at q, group g at 16 + g, the port at 20. -/
def shaperRefill (p i : Nat) (s : State) : State :=
  modTx p (fun t =>
    if i < 20 then let n := nodeAt t i; setNode i { n with shaper := refill s.cycles n.shaper } t
    else { t with shaper := refill s.cycles t.shaper }) s

/-- Meaning of SHAPER_REFILL. -/
def execShaperRefill (p i : Nat) (s : State) : Out :=
  onUnit (isFront p && portEnabledByFuse s p && decide (i ≤ 20)) (shaperRefill p i s)

/-! ### Gates (R238, R239, R242) -/

/-- Meaning of GATE_CYCLE_START. -/
def execGateCycleStart (p : Nat) (s : State) : Out := onUnit (isFront p && portEnabledByFuse s p) (gateHold p (gateCycle p s))

/-- Meaning of GATE_ENTRY_END. -/
def execGateEntryEnd (p : Nat) (s : State) : Out := onUnit (isFront p && portEnabledByFuse s p) (gateHold p (gateEntry p s))

/-! ### TELEMETRY_SAMPLE (R245, Table 22-4) -/

/-- Queue mask of local port `i` in a slice's mask words. -/
def teleMask (m : List W32) (i : Nat) : Nat := let w := m.getD (i / 2) 0#32; if i % 2 = 0 then fld w 15 0 else fld w 31 16

/-- The sample of one port: its record. -/
def teleRecord (s : State) (p mask seq at_ : Nat) : List Byte :=
  let t := txAt s p
  recordHead 2 4 17 seq at_ ++ leBytes 4 (p + mask * 2 ^ 16) ++ List.replicate 44 0#8
    ++ ((List.range 16).map fun q =>
      if bit mask q then
        let d := depthOf t q
        let soj := match queueAt t q with | c :: _ => min (timeTotal s - c.enq) (2 ^ 32 - 1) | [] => 0
        leBytes 4 (d % 2 ^ 20) ++ leBytes 4 (max d (tabGet 0 t.peak q) % 2 ^ 20) ++ leBytes 4 soj
      else List.replicate 12 0#8).flatten

/-- The peaks of a port's sampled queues start again from the present depths. -/
def resetPeaks (p mask : Nat) (s : State) : State :=
  modTx p (fun t => { t with peak := (List.range 16).foldl (fun m q => if bit mask q then tabSet 0 m q (depthOf t q) else m) t.peak }) s

/-- Queues in a mask. -/
def popCount (m : Nat) : Nat := ((List.range 16).filter fun i => bit m i).length

/-- One port of a slice is sampled and its record offered to stream 17. -/
def samplePort (k : Nat) (at_ : Nat) (m : List W32) (s : State) (i : Nat) : State :=
  let mask := teleMask m i
  if mask = 0 then s
  else
    let p := 32 * k + i
    let o := offerRecords 17 [teleRecord s p mask (streamAt s 17).seq at_] s
    resetPeaks p mask (if o.2 then o.1 else bumpBy (Ctr.tlrTelLost k) (popCount mask) o.1)

/-- A telemetry period starts in a slice: a change takes effect, and the queues are sampled.
DESIGN CHOICE, log 31. -/
def telemetrySample (k : Nat) (s : State) : State :=
  let t : Telemetry := tabGet {} s.tele k
  let put (v : Telemetry) (s : State) : State := { s with tele := tabSet {} s.tele k v }
  let run (v : Telemetry) (s : State) : State :=
    let g := trigAt s v.trigger
    (List.range 32).foldl (samplePort k g.lastAt v.mask) (put { v with seen := g.fires } s)
  match t.next with
  | some (tr, m, seen) =>
    if (trigAt s tr).fires ≠ seen then run { on := !(m.all fun w => w == 0#32), trigger := tr, mask := m, next := none, seen := 0 } s
    else if t.on && decide ((trigAt s t.trigger).fires ≠ t.seen) then run t s
    else s
  | none => if t.on && decide ((trigAt s t.trigger).fires ≠ t.seen) then run t s else s

/-- Meaning of TELEMETRY_SAMPLE. -/
def execTelemetrySample (k : Nat) (s : State) : Out := onUnit (sliceEnabled s k) (telemetrySample k s)

end Sys2Proof.Machine
end

