-- ==== Sys2Proof/Machine/PortFam.lean ====
section
/-! DEFINITION. Port clusters and the MAC (chapter 02): the PORT and DIAG commands, pause, preemption, damping, low-power idle and links. -/
namespace Sys2Proof.Machine

/-! ### Links (R73) -/

/-- Discard what a port holds: queued copies, a suspended remainder, and the copy in progress, which ends under R30. A speculative copy that
ends here is sent again once its chit settles. -/
def flushPort (p : Nat) (s : State) : State :=
  let live : Option Tx := (txAt s p).tx.filter fun t => t.fcs.isNone
  let s := match live with
    | some t => if onQueue t.copy then stompTx p t t.copy.len (loseCopy p t.copy s) else failSpec p t s
    | none => s
  let s := match (txAt s p).susp with
    | some t => discardCopy p t.copy (modTx p (fun x => { x with susp := none }) s)
    | none => s
  let s := (List.range 16).foldl (fun s q =>
    let cs := queueAt (txAt s p) q
    cs.foldl (fun s c => discardCopy p c s) (modTx p (setQueue q []) s)) s
  match live with
  | some t => if onQueue t.copy then s else redispatch t.copy.chit s
  | none => s

/-- Some group names the port as a member. -/
def inGroup (s : State) (p : Nat) : Bool := s.groups.any fun e => e.2.members.contains p

/-- The frames being received on a port void with cause bad FCS. -/
def voidReceiving (p : Nat) (s : State) : State :=
  (s.chits.filterMap fun e => match e.2 with
    | some c => if c.port = p ∧ !c.ended ∧ c.status = .provisional then some e.1 else none
    | none => none).foldl (fun s n => voidChit n 1 s) s

/-- What a port knows of its link while there is none. -/
def unlink (q : PortState) : PortState := { q with
  linkUp := false, pcsLock := false
  fc := { q.fc with xoff := [] }
  pre := { q.pre with verify := if q.pre.en && !q.pre.verifyDis then 1 else 0, attempts := 0, active := false }
  damp := { q.damp with agreed := false, capsSent := 0, shed := none, restoring := false, rxMarker := none, winBits := 0, recent := []
                        txLpi := false, rxLpi := false, waking := false } }

/-- A link goes down. DESIGN CHOICE, log 25. -/
def linkDown (p : Nat) (s : State) : State :=
  if (portAt s p).linkUp then
    let s := bumpIf (inGroup s p) (Ctr.tlrFailover (portSlice p)) s
    let s := modRx p (fun x => { x with emac := none, pmac := none, loop := [] }) (modPort p unlink s)
    flushPort p (voidReceiving p s)
  else s

/-- Meaning of LINK_DOWN. -/
def execLinkDown (p : Nat) (s : State) : Out := onUnit (isFront p && portEnabledByFuse s p) (linkDown p s)

/-- A port with its full-service settings: a plain port keeps them apart until its transition (R434, R435). -/
def fullOf (q : PortState) : PortState :=
  match q.kept with
  | some k => { q with cfg := k.cfg, fc := k.fc, pre := k.pre, damp := k.damp, linkUp := false }
  | none => q
/-- A port's full-service settings. DESIGN CHOICE, log 25. -/
def fullAt (s : State) (p : Nat) : PortState := fullOf (portAt s p)
/-- Change a port's full-service settings. DESIGN CHOICE, log 25. -/
def modFull (p : Nat) (f : PortState → PortState) (s : State) : State :=
  modPort p (fun q => match q.kept with
    | some _ => let r := f (fullOf q); { q with kept := some { cfg := r.cfg, fc := r.fc, pre := r.pre, damp := r.damp } }
    | none => f q) s

/-- log2 of a lane count. -/
def lanesLog (n : Nat) : Nat := if n ≥ 8 then 3 else if n ≥ 4 then 2 else if n ≥ 2 then 1 else 0

/-- Lanes of a port's full-service mode. -/
def fullLanes (s : State) (p : Nat) : Nat := cfgLanes (fullAt s p).cfg
/-- The lanes of a port under its configuration. -/
def lanesOf (s : State) (p : Nat) : List Nat := (List.range (fullLanes s p)).map fun i => p + i

/-- A PRBS test runs on some lane of the port. -/
def prbsRuns (s : State) (p : Nat) : Bool := (lanesOf s p).any fun l => decide ((tabGet {} s.prbs l : Prbs).pattern ≠ 0)

/-- Verify and damping start on a link that is up (Table 02-5 step 6). -/
def startLink (p : Nat) (s : State) : State :=
  let lg := lanesLog (portLanes s p)
  modPort p (fun q => { q with
    pre := { q.pre with
      active := q.pre.en && q.pre.verifyDis
      verify := if q.pre.en && !q.pre.verifyDis then 2 else 0
      attempts := if q.pre.en && !q.pre.verifyDis then 1 else 0 }
    damp := { q.damp with txLanes := lg, rxLanes := lg, upAt := s.cycles, capsSent := 0, agreed := false } }) s

/-- A port's mode works in its slice's service: in Plain service only plain ports do (R431, R434). -/
def served (s : State) (p : Nat) : Bool := !plainSlice s (portSlice p) || (portAt s p).plainGroup.isSome

/-- Loopback and PRBS tests leave the port's link alone: neither far-end loopback nor a test is on, or the port is a plain port, which takes
them up at its transition (R76, R77, R435). -/
def lineFree (s : State) (p : Nat) : Bool :=
  (portAt s p).kept.isSome || (decide ((portAt s p).cfg.loopback ≠ 2) && !prbsRuns s p)

/-- Block, alignment and FEC lock complete on an enabled port: LINK_UP sets, a link event is posted, verify and damping start.
DESIGN CHOICE, log 8 and 25. -/
def linkUp (p : Nat) (s : State) : State :=
  let q := portAt s p
  if q.cfg.enabled && q.cfg.lit && !q.linkUp && lineFree s p && sliceOn s (16 + portSlice p)
      && !bit s.dev.blockRst.toNat (portSlice p) && decide (s.dev.asserted = 0) && served s p then
    postOpen 0 p (startLink p (modPort p (fun q => { q with linkUp := true, pcsLock := true }) s))
  else s

/-- Meaning of LINK_UP. -/
def execLinkUp (p : Nat) (s : State) : Out := onUnit (isFront p && portEnabledByFuse s p) (linkUp p s)

/-! ### Pause and the pause watchdog (R49 to R58) -/

/-- Cycles that `quanta` pause quanta of 512 bit times last at the nominal rate. -/
def quantaCycles (s : State) (p quanta : Nat) : Nat := quanta * 512 / max 1 (portRate s p)

/-- A received pause time for a priority replaces what remains; 0 ends the pause. A pause whose time has already expired does not count as
uninterrupted (R56). DESIGN CHOICE, log 26. -/
def setPause (p k quanta : Nat) (s : State) : State :=
  let now := s.cycles
  modPort p (fun q => { q with fc := { q.fc with
    paused := tabSet none q.fc.paused k (if quanta = 0 then none else
      some ⟨match tabGet none q.fc.paused k with | some x => if now < x.till then x.since else now | none => now,
        now + quantaCycles s p quanta⟩)
    lastPause := if quanta = 0 then q.fc.lastPause else tabSet 0 q.fc.lastPause k now } }) s

/-- The MAC acts on a received control frame of the port's mode, whatever its destination address: opcode 0x0001 link pause, 0x0101 PFC.
DESIGN CHOICE, log 61. -/
def actPause (p : Nat) (bs : List Byte) (s : State) : State :=
  let op := half bs 15
  let mode := (portAt s p).fc.mode
  if mode = 1 ∧ op = 0x0001 then setPause p 0 (half bs 17) s
  else if mode = 2 ∧ op = 0x0101 then
    (List.range 8).foldl (fun s k => if bit (half bs 17) k then setPause p k (half bs (19 + 2 * k)) s else s) s
  else s

/-- The oldest MAC control frame that a port has received is consumed, whatever has become of its chit (Note under Table 02-6).
DESIGN CHOICE, log 25. -/
def pauseReceive (p : Nat) (s : State) : State :=
  match (rxAt s p).ctls with
  | [] => s
  | f :: rest =>
    let s := modRx p (fun x => { x with ctls := rest }) s
    voidRx f 4 (actPause p f.bytes (bumpMac Ctr.macRxPause p 1 s))

/-- Meaning of PAUSE_RECEIVE. -/
def execPauseReceive (p : Nat) (s : State) : Out := onUnit (isFront p && portEnabledByFuse s p) (pauseReceive p s)

/-- A pause time runs out. DESIGN CHOICE, log 8 and 26. -/
def pauseExpire (p k : Nat) (s : State) : State :=
  match tabGet none (portAt s p).fc.paused k with
  | some x => if x.till ≤ s.cycles then modPort p (fun q => { q with fc := { q.fc with paused := tabSet none q.fc.paused k none } }) s else s
  | none => s

/-- A front port of the part and a priority. -/
def portPrio (s : State) (p k : Nat) : Bool := isFront p && portEnabledByFuse s p && decide (k < 8)

/-- Meaning of PAUSE_EXPIRE. -/
def execPauseExpire (p k : Nat) (s : State) : Out := onUnit (portPrio s p k) (pauseExpire p k s)

/-- While the stop persists the MAC sends XOFF again. -/
def xoffRefresh (p k : Nat) (s : State) : State :=
  let fc := (portAt s p).fc
  let m := stopMask s p
  if ((decide (fc.mode = 1) && decide (k = 0) && decide (m ≠ 0)) || (decide (fc.mode = 2) && bit m k)) then
    sendPause p k fc.quanta s
  else s

/-- Meaning of XOFF_REFRESH. -/
def execXoffRefresh (p k : Nat) (s : State) : Out := onUnit (portPrio s p k) (xoffRefresh p k s)

/-- The watchdog fires after PWD_TIME milliseconds in which the priority was paused without interruption and one of its queues held a frame.
DESIGN CHOICE, log 26. -/
def pwdFire (p k : Nat) (s : State) : State :=
  let fc := (portAt s p).fc
  match tabGet none fc.paused k with
  | some x =>
    if decide (fc.pwdTime ≠ 0) && decide (max x.since (tabGet 0 fc.heldAt k) + fc.pwdTime * 1000000 ≤ min s.cycles x.till)
        && prioHolds s p k && !tabGet false fc.pwdActive k then
      postOpen 1 p (bumpMac Ctr.macPwdFire p 1
        (modPort p (fun q => { q with fc := { q.fc with pwdActive := tabSet false q.fc.pwdActive k true } }) s))
    else s
  | none => s

/-- Meaning of PWD_FIRE. -/
def execPwdFire (p k : Nat) (s : State) : Out := onUnit (portPrio s p k) (pwdFire p k s)

/-- The watchdog releases a priority after PWD_RESTORE without a pause. DESIGN CHOICE, log 26. -/
def pwdRestore (p k : Nat) (s : State) : State :=
  let fc := (portAt s p).fc
  if tabGet false fc.pwdActive k && decide (tabGet 0 fc.lastPause k + fc.pwdRestore * 1000000 ≤ s.cycles) then
    modPort p (fun q => { q with fc := { q.fc with pwdActive := tabSet false q.fc.pwdActive k false } }) s
  else s

/-- Meaning of PWD_RESTORE. -/
def execPwdRestore (p k : Nat) (s : State) : Out := onUnit (portPrio s p k) (pwdRestore p k s)

/-! ### Preemption verify (R60) -/

/-- VERIFY_TIME passes without respond. -/
def verifyTimeout (p : Nat) (s : State) : State :=
  let q := portAt s p
  if q.pre.verify = 2 then
    if q.pre.attempts < 3 then modPort p (fun q => { q with pre := { q.pre with attempts := q.pre.attempts + 1 } }) s
    else modPort p (fun q => { q with pre := { q.pre with verify := 4 } }) s
  else s

/-- Meaning of VERIFY_TIMEOUT. -/
def execVerifyTimeout (p : Nat) (s : State) : Out := onUnit (isFront p && portEnabledByFuse s p) (verifyTimeout p s)

/-- A received verify is answered with respond while preemption is enabled. -/
def verifyReceive (p : Nat) (s : State) : State :=
  let q := portAt s p
  if q.pre.en && q.linkUp then modPort p (fun q => { q with pre := { q.pre with responds := q.pre.responds + 1 } }) s else s

/-- Meaning of VERIFY_RECEIVE. -/
def execVerifyReceive (p : Nat) (s : State) : Out := onUnit (isFront p && portEnabledByFuse s p) (verifyReceive p s)

/-- A received respond makes verify succeed. -/
def respondReceive (p : Nat) (s : State) : State :=
  if (portAt s p).pre.verify = 2 then modPort p (fun q => { q with pre := { q.pre with verify := 3, active := true } }) s else s

/-- Meaning of RESPOND_RECEIVE. -/
def execRespondReceive (p : Nat) (s : State) : Out := onUnit (isFront p && portEnabledByFuse s p) (respondReceive p s)

/-! ### Damping (R64 to R69) -/

/-- The port has an enabled gate control list, in force or accepted. -/
def gated (s : State) (p : Nat) : Bool :=
  let g := (txAt s p).gate
  g.oper.isSome || (match g.pending with | some (some _) => true | _ => false)

/-- The conditions of R64 at this end. -/
def dampable (s : State) (p : Nat) : Bool :=
  let q := portAt s p
  decide (portLanes s p ≥ 2) && q.damp.en && q.damp.agreed && q.linkUp && !gated s p && !q.damp.lpiEn

/-- Change a port's damping state. -/
def modDamp (p : Nat) (f : PortDamp → PortDamp) (s : State) : State := modPort p (fun q => { q with damp := f q.damp }) s

/-- The port sends its capability set, at most ten times after link up. -/
def dampCapabilitySend (p : Nat) (s : State) : State :=
  let q := portAt s p
  if q.linkUp && q.damp.en && decide (q.damp.capsSent < 10) then modDamp p (fun d => { d with capsSent := d.capsSent + 1 }) s else s

/-- Meaning of DAMP_CAPABILITY_SEND. -/
def execDampCapabilitySend (p : Nat) (s : State) : Out := onUnit (isFront p && portEnabledByFuse s p) (dampCapabilitySend p s)

/-- The partner's capability set arrives within 10 ms of link up; `caps` is what the set carries, `on` that DAMP_EN is 1 at the partner. -/
def dampCapabilityReceive (p : Nat) (on : Bool) (s : State) : State :=
  let q := portAt s p
  if q.linkUp && q.damp.en && on && decide (s.cycles ≤ q.damp.upAt + 10000000) then modDamp p (fun d => { d with agreed := true }) s else s

/-- Meaning of DAMP_CAPABILITY_RECEIVE. -/
def execDampCapabilityReceive (p : Nat) (_caps : BitVec 4) (on : Bool) (s : State) : Out :=
  onUnit (isFront p && portEnabledByFuse s p) (dampCapabilityReceive p on s)

/-- A damping window ends: a shed to half the active lanes is proposed when the load was below 40% and no queue held more than 16 cells.
DESIGN CHOICE, log 26. -/
def dampWindowEnd (p : Nat) (s : State) : State :=
  let d := (portAt s p).damp
  let light := decide (d.winBits * 100 < 40 * activeRate s p false * d.window * 1000)
  let deep := (List.range 16).any fun q => decide (depthOf (txAt s p) q > 16)
  let go := dampable s p && light && !d.winDeep && !deep && decide (d.txLanes > 0) && d.shed.isNone && !d.restoring
  modDamp p (fun d => { d with winBits := 0, winDeep := deep, shed := if go then some (d.txLanes - 1) else d.shed }) s

/-- Meaning of DAMP_WINDOW_END. -/
def execDampWindowEnd (p : Nat) (s : State) : Out := onUnit (isFront p && portEnabledByFuse s p) (dampWindowEnd p s)

/-- A receiver answers a shed request with a shed grant. -/
def shedRequestReceive (p lanes : Nat) (s : State) : State :=
  if dampable s p && decide (lanes < (portAt s p).damp.rxLanes) then modDamp p (fun d => { d with rxMarker := some lanes }) s else s

/-- Meaning of SHED_REQUEST_RECEIVE; `lanes` is log2 of the target lane count. -/
def execShedRequestReceive (p lanes : Nat) (s : State) : Out := onUnit (isFront p && portEnabledByFuse s p) (shedRequestReceive p lanes s)

/-- The transmitter gets a shed grant and sends the switch marker: codewords go over the target lanes. -/
def shedGrantReceive (p lanes : Nat) (s : State) : State :=
  if dampable s p && decide ((portAt s p).damp.shed = some lanes) then
    bumpMac Ctr.macDampShift p 1 (modDamp p (fun d => { d with txLanes := lanes, shed := none }) s)
  else s

/-- Meaning of SHED_GRANT_RECEIVE. -/
def execShedGrantReceive (p lanes : Nat) (s : State) : Out := onUnit (isFront p && portEnabledByFuse s p) (shedGrantReceive p lanes s)

/-- No shed grant arrives: the lane count is kept. -/
def shedGrantTimeout (p : Nat) (s : State) : State := modDamp p (fun d => { d with shed := none }) s

/-- Meaning of SHED_GRANT_TIMEOUT. -/
def execShedGrantTimeout (p : Nat) (s : State) : Out := onUnit (isFront p && portEnabledByFuse s p) (shedGrantTimeout p s)

/-- A receiver gets a switch marker: the lanes it granted, or full width again. -/
def switchMarkerReceive (p lanes : Nat) (s : State) : State :=
  let q := portAt s p
  if (dampable s p && decide (q.damp.rxMarker = some lanes)) || (q.linkUp && decide (lanes = lanesLog (portLanes s p))) then
    modDamp p (fun d => { d with rxLanes := lanes, rxMarker := none }) s
  else s

/-- Meaning of SWITCH_MARKER_RECEIVE. -/
def execSwitchMarkerReceive (p lanes : Nat) (s : State) : Out := onUnit (isFront p && portEnabledByFuse s p) (switchMarkerReceive p lanes s)

/-- A receiver fails to realign: the link restarts and DAMP_EN clears. DESIGN CHOICE, log 26. -/
def realignTimeout (p : Nat) (s : State) : State :=
  let q := portAt s p
  if q.linkUp && q.damp.agreed && decide (portLanes s p ≥ 2) then linkDown p (bumpMac Ctr.macDampFail p 1 (modDamp p (fun d => { d with en := false }) s)) else s

/-- Meaning of REALIGN_TIMEOUT. -/
def execRealignTimeout (p : Nat) (s : State) : Out := onUnit (isFront p && portEnabledByFuse s p) (realignTimeout p s)

/-- The receiver reports lock on all lanes: full width resumes. -/
def lockReportReceive (p : Nat) (s : State) : State :=
  if (portAt s p).damp.restoring then
    bumpMac Ctr.macDampShift p 1 (modDamp p (fun d => { d with txLanes := lanesLog (portLanes s p), restoring := false }) s)
  else s

/-- Meaning of LOCK_REPORT_RECEIVE. -/
def execLockReportReceive (p : Nat) (s : State) : Out := onUnit (isFront p && portEnabledByFuse s p) (lockReportReceive p s)

/-! ### Low-power idle (R70, R71) -/

/-- The port holds no copy. -/
def portIdle (s : State) (p : Nat) : Bool :=
  let t := txAt s p
  t.tx.isNone && t.susp.isNone && (List.range 16).all fun q => (queueAt t q).isEmpty

/-- LPI_CAP of a port: 0 while it has no mode, otherwise whether IEEE 802.3 defines LPI for the mode. DESIGN CHOICE, log 6. -/
def lpiCapOf (s : State) (p : Nat) : Bool :=
  let c := (fullAt s p).cfg
  decide (c.speed ≠ 0) && Config.lpiCap c.speed c.laneRate

/-- The transmitter enters LPI once every queue has been empty for LPI_IDLE; with `rx` the receiver sees the partner's LPI instead.
DESIGN CHOICE, log 62. -/
def lpiEntry (p : Nat) (rx : Bool) (s : State) : State :=
  let q := portAt s p
  if q.linkUp && !q.damp.agreed && lpiCapOf s p then
    if rx then modDamp p (fun d => { d with rxLpi := true }) s
    else if q.damp.lpiEn && !q.damp.txLpi && portIdle s p && decide (q.damp.idleAt + q.damp.lpiIdle * 1000 ≤ s.cycles) then
      bumpMac Ctr.macLpiEntry p 1 (modDamp p (fun d => { d with txLpi := true }) s)
    else s
  else s

/-- Meaning of LPI_ENTRY. -/
def execLpiEntry (l : LpiSide) (s : State) : Out := onUnit (isFront l.port && portEnabledByFuse s l.port) (lpiEntry l.port l.rx s)

/-- The LPI wake time ends; with `rx` the partner has woken. DESIGN CHOICE, log 62. -/
def lpiWakeDone (p : Nat) (rx : Bool) (s : State) : State :=
  if rx then modDamp p (fun d => { d with rxLpi := false }) s
  else if (portAt s p).damp.waking then modDamp p (fun d => { d with txLpi := false, waking := false }) s
  else s

/-- Meaning of LPI_WAKE_DONE. -/
def execLpiWakeDone (l : LpiSide) (s : State) : Out := onUnit (isFront l.port && portEnabledByFuse s l.port) (lpiWakeDone l.port l.rx s)

/-! ### Registers (R74) -/

/-- MAC_CFG of a port. -/
def macCfg (s : State) (p : Nat) : W32 :=
  let q := fullAt s p
  packW [(0, q.cfg.speed), (4, q.cfg.laneRate), (7, q.cfg.reach), (8, q.fc.mode), (10, b2n q.pre.en), (11, q.pre.addFrag)
    , (13, b2n q.pre.verifyDis), (14, b2n q.damp.en), (15, b2n q.damp.lpiEn), (16, q.cfg.maxLen)]

/-- Bits of the priorities in a pause condition. -/
def prioBits (f : Nat → Bool) : Nat := ((List.range 8).map fun k => b2n (f k) * 2 ^ k).sum

/-- MAC_STATUS of a port. -/
def macStatus (s : State) (p : Nat) : W32 :=
  let q := portAt s p
  packW [(0, b2n q.linkUp), (1, b2n q.pcsLock), (2, b2n q.rxFault), (3, prioBits fun k => (tabGet none q.fc.paused k).isSome)
    , (11, prioBits fun k => tabGet false q.fc.pwdActive k), (19, q.pre.verify), (22, b2n q.pre.active), (23, b2n q.damp.agreed)
    , (24, q.damp.txLanes), (26, q.damp.rxLanes), (28, b2n (lpiCapOf s p)), (29, b2n q.damp.txLpi), (30, b2n q.damp.rxLpi)]

/-- MAC_EXPRESS of a port. -/
def macExpress (s : State) (p : Nat) : W32 := packW [(0, (fullAt s p).cfg.expClass), (16, (fullAt s p).cfg.expMinLen)]
/-- MAC_PTP_DLY of a port. -/
def macPtpDly (s : State) (p : Nat) : W32 := packW [(0, (fullAt s p).cfg.dRx), (16, (fullAt s p).cfg.dTx)]

/-! ### PORT commands (Table 02-4) -/

/-- Lanes of a mode, when SPEED and LANE_RATE are a row of Table 02-1. -/
def modeLanes (speed rate : Nat) : Option Nat :=
  match speed, rate with
  | 6, 2 => some 8 | 5, 1 => some 8 | 5, 2 => some 4 | 4, 1 => some 4 | 4, 2 => some 2 | 3, 1 => some 2 | 3, 2 => some 1
  | 2, 0 => some 2 | 2, 1 => some 1 | 1, 0 => some 1
  | _, _ => none

/-- D_RX and D_TX of a mode (Table 12-1). -/
def pathDelays (speed rate : Nat) : Nat × Nat :=
  match speed, rate with
  | 6, 2 => (76, 31) | 5, 2 => (80, 33) | 5, 1 => (118, 44) | 4, 2 => (92, 37) | 4, 1 => (124, 46) | 3, 2 => (112, 43)
  | 3, 1 => (136, 50) | 2, 1 => (160, 58) | 2, 0 => (210, 72) | 1, 0 => (262, 90)
  | _, _ => (0, 0)

/-- Default EXP_MIN_LEN of a speed (Table 07-3). -/
def defaultMinLen (speed : Nat) : Nat := [64, 64, 128, 256, 512, 1024, 2048].getD speed 64

/-- Enabled ports other than `p`. -/
def otherEnabled (s : State) (p : Nat) : List Nat := (s.ports.filter fun e => decide (e.1 ≠ p) && (fullOf e.2).cfg.enabled).map fun e => e.1

/-- A lane of the `n` lanes from `p` belongs to another enabled port. -/
def lanesTaken (s : State) (p n : Nat) : Bool :=
  (otherEnabled s p).any fun q => decide (q < p + n) && decide (p < q + cfgLanes (fullAt s q).cfg)

/-- Another enabled port in a quad of the `n` lanes from `p` runs at another lane rate (R36). -/
def quadClash (s : State) (p n rate : Nat) : Bool :=
  (otherEnabled s p).any fun q =>
    let c := (fullAt s q).cfg
    decide (c.laneRate ≠ rate) && decide (q / 4 ≤ (p + n - 1) / 4) && decide (p / 4 ≤ (q + cfgLanes c - 1) / 4)

/-- A PORT.ENABLE of the port is in progress. -/
def enabling (s : State) (p : Nat) : Bool := jobRunning (fun j => decide (j = .portEnable p)) s

/-- PORT.CONFIG: port, SPEED, LANE_RATE, REACH, MAX_LEN, link training. -/
def portConfigCmd (a : List W32) (s : State) : Ans :=
  let p := arg a 0
  let n := (modeLanes (arg a 1) (arg a 2)).getD 0
  checked [
    (badFront s p || decide (n = 0) || decide (p % max 1 n ≠ 0) || decide (arg a 3 > 1) || decide (arg a 4 < 64) || decide (arg a 4 > 16352)
      || badBool (arg a 5), Code.badArg),
    (lanesTaken s p n || quadClash s p n (arg a 2), Code.conflict),
    ((fullAt s p).cfg.enabled, Code.busy)] (fun s =>
      let d := pathDelays (arg a 1) (arg a 2)
      ok [] (modFull p (fun q => { q with
        cfg := { q.cfg with speed := arg a 1, laneRate := arg a 2, reach := arg a 3, maxLen := arg a 4, training := arg a 5 == 1
                            expMinLen := defaultMinLen (arg a 1), dRx := d.1, dTx := d.2 }
        damp := { q.damp with txLanes := lanesLog n, rxLanes := lanesLog n } }) s)) s

/-- Meaning of PORT_CONFIG. -/
def execPortConfig (v : Via) (a : List W32) (s : State) : Out := tcsCommand 0x0201 portConfigCmd v a s

/-- A lane's test. -/
def prbsAt (s : State) (l : Nat) : Prbs := tabGet {} s.prbs l
/-- Replace a lane's test. -/
def setPrbs (l : Nat) (v : Prbs) (s : State) : State := { s with prbs := tabSet {} s.prbs l v }

/-- Bits that a lane of LANE_RATE `rate` compares in `n` cycles. -/
def laneBits (rate n : Nat) : Nat := 425 * 2 ^ rate * n / 8

/-- A lane's record with the bit errors of its present lock brought up to the present cycle: the channel gives any number since the last look,
at most one for each bit compared since then. DESIGN CHOICE, log 6. -/
def prbsNow (s : State) (p l : Nat) : Prbs :=
  let x := prbsAt s l
  let rate := (fullAt s p).cfg.laneRate
  if x.lock then { x with
    newErrs := x.newErrs + min (Config.prbsErrors l x.errAt s.cycles) (laneBits rate (s.cycles - x.lockAt) - laneBits rate (x.errAt - x.lockAt))
    errAt := s.cycles }
  else x

/-- ERRORS and BITS of a lane at the present cycle, from its record brought up to date (R78). -/
def prbsCounts (s : State) (p : Nat) (x : Prbs) : Nat × Nat :=
  if x.lock then
    (min (x.errors + x.newErrs) (2 ^ 32 - 1), (x.bits + laneBits (fullAt s p).cfg.laneRate (s.cycles - x.lockAt)) % 2 ^ 64)
  else (x.errors, x.bits)

/-- A lane without lock: both counts are kept. -/
def prbsUnlock (s : State) (p l : Nat) : Prbs :=
  let x := prbsNow s p l
  let c := prbsCounts s p x
  { x with lock := false, errors := c.1, bits := c.2, newErrs := 0 }

/-- A lane whose test has ended: its counts stay, PATTERN, DIR and LOCK read 0. DESIGN CHOICE, log 61. -/
def prbsEnded (s : State) (p l : Nat) : Prbs := { prbsUnlock s p l with pattern := 0, dir := 0 }

/-- A port is disabled: its link goes down and its transmitters to electrical idle (R73). A plain port is from its transition. -/
def disablePort (p : Nat) (s : State) : State :=
  let s := modFull p (fun q => { q with cfg := { q.cfg with enabled := false, lit := false, loopback := 0 } })
    (if (portAt s p).kept.isSome then s else linkDown p s)
  (lanesOf s p).foldl (fun s l => setPrbs l (prbsEnded s p l) s) s

/-- PORT.DISABLE: port. -/
def portDisableCmd (a : List W32) (s : State) : Ans :=
  let p := arg a 0
  checked [(badFront s p, Code.badArg), (enabling s p, Code.busy)] (fun s => ok [] (disablePort p s)) s

/-- Meaning of PORT_DISABLE. -/
def execPortDisable (v : Via) (a : List W32) (s : State) : Out := tcsCommand 0x0203 portDisableCmd v a s

/-- PORT.LANE_MAP: octet, eight map words, polarity. -/
def laneMapCmd (a : List W32) (s : State) : Ans :=
  let o := arg a 0
  let m := (List.range 8).map fun i => arg a (1 + i)
  checked [
    (decide (o ≥ 64) || badFront s (8 * o) || !((List.range 8).all fun i => m.contains i) || decide (arg a 9 ≥ 2 ^ 16), Code.badArg),
    (s.ports.any fun e => let c := (fullOf e.2).cfg; c.enabled && decide (e.1 < 8 * o + 8) && decide (8 * o < e.1 + cfgLanes c), Code.conflict)]
    (fun s => ok [] { s with lanes := tabSet {} s.lanes o { phys := m, polarity := arg a 9 } }) s

/-- Meaning of PORT_LANE_MAP. -/
def execPortLaneMap (v : Via) (a : List W32) (s : State) : Out := tcsCommand 0x0204 laneMapCmd v a s

/-- PORT.STATION_SET: port, entry, address, valid. -/
def stationSetCmd (a : List W32) (s : State) : Ans :=
  checked [(badFront s (arg a 0) || decide (arg a 1 > 7) || decide (arg a 3 ≥ 2 ^ 16) || badBool (arg a 4), Code.badArg)] (fun s =>
    ok [] (modFull (arg a 0) (fun q => { q with cfg := { q.cfg with
      stations := tabSet none q.cfg.stations (arg a 1) (if arg a 4 = 1 then some (arg a 2 + arg a 3 * 2 ^ 32) else none) } }) s)) s

/-- Meaning of PORT_STATION_SET. -/
def execPortStationSet (v : Via) (a : List W32) (s : State) : Out := tcsCommand 0x0205 stationSetCmd v a s

/-- PORT.FLOWCTL_SET: port, mode, PAUSE_QUANTA, 16 priorities (8 to 15 none), PWD_TIME, PWD_ACTION (0 IGNORE, 1 DROP), PWD_RESTORE.
DESIGN CHOICE, log 25. -/
def flowctlSetCmd (a : List W32) (s : State) : Ans :=
  let p := arg a 0
  let m := (List.range 16).map fun i => arg a (3 + i)
  checked [
    (badFront s p || decide (arg a 1 > 2) || decide (arg a 2 ≥ 2 ^ 16) || m.any (fun k => decide (k > 15)) || decide (arg a 19 > 1000)
      || decide (arg a 20 > 1) || decide (arg a 21 < 1) || decide (arg a 21 > 1000), Code.badArg)] (fun s =>
    ok [] (modFull p (fun q => { q with fc := { q.fc with
      mode := arg a 1, quanta := arg a 2, prioOf := m.map (min 8), pwdTime := arg a 19, pwdIgnore := arg a 20 == 0, pwdRestore := arg a 21
      heldAt := (List.range 8).foldl (fun m k => tabSet 0 m k s.cycles) q.fc.heldAt
      paused := if q.fc.mode = arg a 1 then q.fc.paused else []
      pwdActive := if q.fc.mode = arg a 1 then q.fc.pwdActive else [] } }) s)) s

/-- Meaning of PORT_FLOWCTL_SET. -/
def execPortFlowctlSet (v : Via) (a : List W32) (s : State) : Out := tcsCommand 0x0206 flowctlSetCmd v a s

/-- PORT.PREEMPT_SET: port, enable, 16 queues (0 eMAC, 1 pMAC), ADD_FRAG_SIZE, VERIFY_DIS, VERIFY_TIME. On a link that is up, verify starts at
once, or with VERIFY_DIS 1 preemption is active at once. DESIGN CHOICE, log 61. -/
def preemptSetCmd (a : List W32) (s : State) : Ans :=
  let p := arg a 0
  let qs := (List.range 16).map fun i => arg a (2 + i)
  let en := arg a 1 == 1
  let dis := arg a 19 == 1
  checked [
    (badFront s p || badBool (arg a 1) || qs.any badBool || decide (arg a 18 > 3) || badBool (arg a 19) || decide (arg a 20 < 1)
      || decide (arg a 20 > 128), Code.badArg)] (fun s =>
    ok [] (modFull p (fun q =>
      let keep := en && !dis && q.pre.en && !q.pre.verifyDis
      { q with pre := { q.pre with
        en := en, pmacMask := ((List.range 16).map fun i => qs.getD i 0 * 2 ^ i).sum, addFrag := arg a 18, verifyDis := dis, verifyTime := arg a 20
        verify := if keep then q.pre.verify else if en && !dis then (if q.linkUp then 2 else 1) else 0
        attempts := if keep then q.pre.attempts else if en && !dis && q.linkUp then 1 else 0
        active := if keep then q.pre.active else en && dis && q.linkUp } }) s)) s

/-- Meaning of PORT_PREEMPT_SET. -/
def execPortPreemptSet (v : Via) (a : List W32) (s : State) : Out := tcsCommand 0x0207 preemptSetCmd v a s

/-- PORT.DAMP_SET: port, enable, DAMP_WINDOW, DAMP_WAKE_CELLS. -/
def dampSetCmd (a : List W32) (s : State) : Ans :=
  let p := arg a 0
  checked [
    (badFront s p || badBool (arg a 1) || decide (arg a 2 < 10) || decide (arg a 2 > 1000), Code.badArg),
    (gated s p || (fullAt s p).damp.lpiEn, Code.conflict)] (fun s =>
      let s := modFull p (fun q => { q with damp := { q.damp with
        en := arg a 1 == 1, window := arg a 2, wake := arg a 3, shed := if arg a 1 = 1 then q.damp.shed else none } }) s
      ok [] (if arg a 1 = 1 then s else startRestore p s)) s

/-- Meaning of PORT_DAMP_SET. -/
def execPortDampSet (v : Via) (a : List W32) (s : State) : Out := tcsCommand 0x0208 dampSetCmd v a s

/-- PORT.LPI_SET: port, enable, LPI_IDLE. With LPI on no direction is damped (R64): a shed that waits is dropped and full width restored. -/
def lpiSetCmd (a : List W32) (s : State) : Ans :=
  let p := arg a 0
  checked [
    (badFront s p || badBool (arg a 1) || decide (arg a 2 < 1) || decide (arg a 2 > 10000), Code.badArg),
    (!lpiCapOf s p, Code.notSupported),
    (gated s p, Code.conflict)] (fun s =>
      let on := arg a 1 == 1
      let s := modFull p (fun q => { q with damp := { q.damp with
        lpiEn := on, lpiIdle := arg a 2, shed := if on then none else q.damp.shed
        waking := if on then q.damp.waking else q.damp.waking || q.damp.txLpi } }) s
      ok [] (if on then startRestore p s else s)) s

/-- Meaning of PORT_LPI_SET. -/
def execPortLpiSet (v : Via) (a : List W32) (s : State) : Out := tcsCommand 0x0209 lpiSetCmd v a s

/-- PORT.EXPRESS_SET: port, EXP_CLASS, EXP_MIN_LEN. -/
def expressSetCmd (a : List W32) (s : State) : Ans :=
  checked [(badFront s (arg a 0) || decide (arg a 1 ≥ 2 ^ 16) || decide (arg a 2 < 64) || decide (arg a 2 > 16352), Code.badArg)] (fun s =>
    ok [] (modFull (arg a 0) (fun q => { q with cfg := { q.cfg with expClass := arg a 1, expMinLen := arg a 2 } }) s)) s

/-- Meaning of PORT_EXPRESS_SET. -/
def execPortExpressSet (v : Via) (a : List W32) (s : State) : Out := tcsCommand 0x020A expressSetCmd v a s

/-- PORT.STATUS: port (R510). -/
def portStatusCmd (a : List W32) (s : State) : Ans :=
  let p := arg a 0
  checked [(badFront s p, Code.badArg)] (fun s =>
    ok [macCfg s p, macStatus s p, macExpress s p, (fullAt s p).cfg.ptp, macPtpDly s p] s) s

/-- Meaning of PORT_STATUS. -/
def execPortStatus (v : Via) (a : List W32) (s : State) : Out := tcsCommand 0x0281 portStatusCmd v a s

/-! ### DIAG commands (R76 to R78) -/

/-- DIAG.LOOPBACK: port, MODE; a plain port takes it up at its transition. DESIGN CHOICE, log 25. -/
def loopbackCmd (a : List W32) (s : State) : Ans :=
  let p := arg a 0
  let q := fullAt s p
  checked [
    (badFront s p || decide (arg a 1 > 2), Code.badArg),
    (!q.cfg.enabled || q.damp.en || prbsRuns s p, Code.conflict)] (fun s =>
      ok [] (if q.cfg.loopback = arg a 1 then s
        else modFull p (fun q => { q with cfg := { q.cfg with loopback := arg a 1 } })
          (if (portAt s p).kept.isSome then s else linkDown p s))) s

/-- Meaning of DIAG_LOOPBACK. -/
def execDiagLoopback (v : Via) (a : List W32) (s : State) : Out := tcsCommand 0x1101 loopbackCmd v a s

/-- DIAG.PRBS: port, lane mask, PATTERN, DIR. What DIAG.PRBS_GET shows of a lane whose test was ended by PATTERN 0: DESIGN CHOICE, log 61. -/
def prbsCmd (a : List W32) (s : State) : Ans :=
  let p := arg a 0
  checked [
    (badFront s p || decide (arg a 1 ≥ 2 ^ fullLanes s p) || decide (arg a 2 > 3) || decide (arg a 3 > 3)
      || (decide (arg a 2 ≠ 0) && decide (arg a 3 = 0)), Code.badArg),
    (!(fullAt s p).cfg.enabled || decide ((fullAt s p).cfg.loopback ≠ 0), Code.conflict)] (fun s =>
      let s := (List.range 8).foldl (fun s i =>
        if bit (arg a 1) i then
          setPrbs (p + i) (if arg a 2 = 0 then prbsEnded s p (p + i) else { pattern := arg a 2, dir := arg a 3 }) s
        else s) s
      ok [] (if prbsRuns s p && (portAt s p).kept.isNone then linkDown p s else s)) s

/-- Meaning of DIAG_PRBS. -/
def execDiagPrbs (v : Via) (a : List W32) (s : State) : Out := tcsCommand 0x1102 prbsCmd v a s

/-- DIAG.PRBS_GET: port. -/
def prbsGetCmd (a : List W32) (s : State) : Ans :=
  let p := arg a 0
  checked [(badFront s p, Code.badArg)] (fun s =>
    let s := (lanesOf s p).foldl (fun s l => setPrbs l (prbsNow s p l) s) s
    ok ((lanesOf s p).map fun l =>
      let x := prbsAt s l
      let c := prbsCounts s p x
      [packW [(0, b2n x.lock), (1, b2n (decide (x.pattern ≠ 0))), (2, x.pattern), (4, x.dir)], w32 c.1] ++ two c.2).flatten s) s

/-- Meaning of DIAG_PRBS_GET. -/
def execDiagPrbsGet (v : Via) (a : List W32) (s : State) : Out := tcsCommand 0x1182 prbsGetCmd v a s

/-- Port `p` has a lane `l` that checks a pattern. -/
def checks (s : State) (p l : Nat) : Bool :=
  (lanesOf s p).contains l && decide ((prbsAt s l).pattern ≠ 0) && decide ((prbsAt s l).dir ≥ 2)

/-- A checking lane locks. -/
def prbsLock (p l : Nat) (s : State) : State :=
  if checks s p l && !(prbsAt s l).lock then setPrbs l { prbsAt s l with lock := true, lockAt := s.cycles, errAt := s.cycles, newErrs := 0 } s
  else s

/-- Meaning of PRBS_LOCK. -/
def execPrbsLock (p l : Nat) (s : State) : Out := onUnit (isFront p && portEnabledByFuse s p && decide (l < 512)) (prbsLock p l s)

/-- A checking lane loses lock and keeps its counts. -/
def prbsLockLoss (p l : Nat) (s : State) : State :=
  if (lanesOf s p).contains l && (prbsAt s l).lock then setPrbs l (prbsUnlock s p l) s else s

/-- Meaning of PRBS_LOCK_LOSS. -/
def execPrbsLockLoss (p l : Nat) (s : State) : Out := onUnit (isFront p && portEnabledByFuse s p && decide (l < 512)) (prbsLockLoss p l s)

/-- Meaning of DIAG_ECHO (R375): a query that returns its argument bytes. -/
def execDiagEcho (v : Via) (bytes : List Byte) (s : State) : Out :=
  if viaOk v then
    match channelAt s v with
    | .handed r =>
      if mayTake s v && decide (cmdCode r.cmd = 0x1181) && decide (r.bytes.take r.len = bytes) then .next (answer v r Code.done bytes s)
      else .next s
    | _ => .next s
  else .fault .noSuchUnit

end Sys2Proof.Machine
end

