-- ==== Sys2Proof/Machine/CoreCmds.lean ====
section
/-! DEFINITION. The HARP, MINT and TELLER commands (Tables 03-6, 09-6 and 10-1). -/
namespace Sys2Proof.Machine

/-! ### HARP commands (R99 to R107, R122, R125 to R127) -/

/-- A staged bank of the slices is engaged: its threads still run, or an accepted COMMIT is about to make it active. -/
def stagedBusy (s : State) (mask : Nat) : Bool :=
  (maskSlices mask).any fun k => (harpAt s k).swap || bankBusy s k (1 - (harpAt s k).active)

/-- A word of an image at a byte offset. -/
def imageWord (img : List Byte) (o n : Nat) : Nat := leNat ((img.drop o).take n)

/-- The instruction words of an image of `n` words. -/
def imageWords (img : List Byte) (n : Nat) : List W64 := (List.range n).map fun i => BitVec.ofNat 64 (imageWord img (64 + 8 * i) 8)

/-- A thread name used only to decode words. -/
def anyThread : Thr := ⟨0, 0, 0⟩

/-- WORDS and ENTRY of an image's header (Table 04-7). -/
def imageCount (img : List Byte) : Nat := imageWord img 8 2 % 2 ^ 14
def imageEntry (img : List Byte) : Nat := imageWord img 0xC 2 % 2 ^ 13

/-- The first failing check of R126 with DETAIL and DETAIL2. -/
def imageRefusal (s : State) (img : List Byte) (len : Nat) : Option (Nat × Nat) :=
  let n := imageCount img
  let tables := imageWord img 0x10 1
  if imageWord img 0 4 ≠ 0x49505248 ∨ imageWord img 4 2 ≠ 1 then some (1, 0)
  else if len ≠ 64 + 8 * n then some (2, 0)
  else if n = 0 ∨ n > 8192 ∨ imageEntry img ≥ n then some (3, 0)
  else if imageWord img 0x18 4 ≠ crc32 ((img.drop 64).take (8 * n)) then some (4, 0)
  else if (List.range 8).any (fun t => bit tables t && (tabCfgAt s t).isNone) then some (5, 0)
  else
    let ws := imageWords img n
    match ws.findIdx? fun w => (harpDecode anyThread w).isNone with
    | some i => some (6, i)
    | none =>
      match ws.findIdx? fun w => match (harpDecode anyThread w).bind harpTarget with | some t => decide (t ≥ n) | none => false with
      | some i => some (7, i)
      | none => none

/-- Write an image into the staged bank of a slice; the words beyond it become 0 (R127). -/
def writeImage (img : List Byte) (k : Nat) (s : State) : State :=
  let n := imageCount img
  let b : Bank := { words := tabWrite 0#64 [] 0 (imageWords img n), count := n, entry := imageEntry img, tables := imageWord img 0x10 1
                    buildId := w32 (imageWord img 0x14 4) }
  let staged := 1 - (harpAt s k).active
  let s := modHarp k (setBankOf staged b) s
  (List.range 8192).foldl (fun s a => cleanse (.harpWord k staged a) s) s

/-- The longest image R125 allows. -/
def imageMax : Nat := 64 + 8 * 8192

/-- A HARP.LOAD that is still writing names a slice of the mask (R99). -/
def loading (s : State) (mask : Nat) : Bool :=
  jobRunning (fun j => match j with | .load m => decide (m &&& mask ≠ 0) | _ => false) s

/-- HARP.LOAD: slice mask, host address (two words), length. The header is read whole, whatever LENGTH is; the staged banks are written until the
command completes, and one that names a slice being written waits (R384). DESIGN CHOICE, log 10 and 64. -/
def harpLoadCmd (a : List W32) (s : State) : Ans :=
  let mask := arg a 0
  let len := arg a 3
  if badMask s mask then refuse Code.badArg s
  else if loading s mask then .wait
  else if !canDma s then
    if stagedBusy s mask then refuse Code.busy s
    else .reply Code.hostFault (details 0 0) ((maskSlices mask).foldl (fun s k =>
      modHarp k (fun h => let b := 1 - h.active; setBankOf b { bankOf h b with undefinedImage := true } h) s) s)
  else
    let img := hostRead s (arg a 1 + arg a 2 * 2 ^ 32) (max 64 (min len imageMax))
    match imageRefusal s img len with
    | some (d, d2) => .reply Code.badArg (details d d2) s
    | none =>
      if stagedBusy s mask then refuse Code.busy s
      else .pending (.load mask) ((maskSlices mask).foldl (fun s k => writeImage img k s) s)

/-- Meaning of HARP_LOAD. -/
def execHarpLoad (v : Via) (a : List W32) (s : State) : Out := tcsCommand 0x0301 harpLoadCmd v a s

/-- HARP.COMMIT: slice mask. A slice in Plain service swaps at once (R434), another at its frame boundary. A bank from which old threads still run
is made active again like any other. DESIGN CHOICE, log 64. -/
def harpCommitCmd (a : List W32) (s : State) : Ans :=
  let mask := arg a 0
  checked [
    (badMask s mask, Code.badArg),
    (loading s mask || ((maskSlices mask).any fun k => (harpAt s k).swap), Code.busy),
    ((maskSlices mask).any fun k => let h := harpAt s k; (bankOf h (1 - h.active)).undefinedImage, Code.conflict)] (fun s =>
      let later := ((maskSlices mask).filter fun k => !plainSlice s k)
      let s := (maskSlices mask).foldl (fun s k =>
        if plainSlice s k then swapBank k s else modHarp k (fun h => { h with swap := true }) s) s
      if later.isEmpty then ok [] s else .pending (.commit (later.map fun k => 2 ^ k).sum) s) s

/-- Meaning of HARP_COMMIT. -/
def execHarpCommit (v : Via) (a : List W32) (s : State) : Out := tcsCommand 0x0302 harpCommitCmd v a s

/-- HARP.RA_SET: port, DEF_SEG, DEF_CLASS, PCP_MAP for PCP 0 to 7, RA_EN, RA_TABLE. -/
def harpRaSetCmd (a : List W32) (s : State) : Ans :=
  let p := arg a 0
  let m := (List.range 8).map fun i => arg a (3 + i)
  checked [
    (decide (p = 512) || badPort s p || decide (arg a 1 ≥ 2 ^ 24) || decide (arg a 2 > 15) || m.any (fun c => decide (c > 15))
      || badBool (arg a 11) || decide (arg a 12 > 7), Code.badArg)] (fun s =>
    let ra : RaCfg := { defSeg := arg a 1, defClass := arg a 2, raEn := arg a 11 == 1, raTable := arg a 12
                        pcpMap := packW ((List.range 8).map fun i => (4 * i, m.getD i 0)) }
    ok [] { s with ras := tabSet {} s.ras p ra }) s

/-- Meaning of HARP_RA_SET. -/
def execHarpRaSet (v : Via) (a : List W32) (s : State) : Out := tcsCommand 0x0303 harpRaSetCmd v a s

/-- HARP.RA_TPID: slice, TPID. -/
def harpRaTpidCmd (a : List W32) (s : State) : Ans :=
  checked [(badSlice s (arg a 0) || decide (arg a 1 ≥ 2 ^ 16), Code.badArg)] (fun s =>
    ok [] (modHarp (arg a 0) (fun h => { h with raTpid := arg a 1 }) s)) s

/-- Meaning of HARP_RA_TPID. -/
def execHarpRaTpid (v : Via) (a : List W32) (s : State) : Out := tcsCommand 0x0304 harpRaTpidCmd v a s

/-- A built-in check runs in a slice: of an engine just mapped in, or of one whose threads have ended. -/
def checkRunning (s : State) (k : Nat) : Bool :=
  (List.range 64).any fun e =>
    engineCond (harpAt s k) e == .checking || (engineCond (harpAt s k) e == .draining && (onEngine s k e).isEmpty)

/-- HARP.ENGINE_CHECK: slice, engine. The engine leaves dispatch, its threads end, and its check runs (R107). With no physical engine left under the
number there is nothing to check, and the command is done. DESIGN CHOICE, log 64. -/
def engineCheckCmd (a : List W32) (s : State) : Ans :=
  let k := arg a 0
  let e := arg a 1
  checked [
    (badSlice s k || decide (e > 63), Code.badArg),
    (engineCond (harpAt s k) e == .checking || engineCond (harpAt s k) e == .draining, Code.busy)] (fun s =>
      match physEngine (harpAt s k) e with
      | some x =>
        .pending (.engineCheck k e) (countWaits k (modHarp k (setCond x (if (onEngine s k e).isEmpty then .checking else .draining)) s))
      | none => ok [] s) s

/-- Meaning of HARP_ENGINE_CHECK. -/
def execHarpEngineCheck (v : Via) (a : List W32) (s : State) : Out := tcsCommand 0x0305 engineCheckCmd v a s

/-- HARP.HASH_SEED: seed, into every slice. -/
def hashSeedCmd (a : List W32) (s : State) : Ans :=
  ok [] ((List.range 16).foldl (fun s k => modHarp k (fun h => { h with seed := a.getD 0 0#32 }) s) s)

/-- Meaning of HARP_HASH_SEED. -/
def execHarpHashSeed (v : Via) (a : List W32) (s : State) : Out := tcsCommand 0x0306 hashSeedCmd v a s

/-- Engines mapped and checked good. -/
def enginesGood (h : HarpState) : Nat := ((List.range 64).filter fun e => engineCond h e == .good).length

/-- HRP_STATUS of a slice; the fields of the engines read their reset values until an engine has been checked. -/
def hrpStatus (s : State) (k : Nat) : W32 :=
  let h := harpAt s k
  let fresh := h.conds.isEmpty
  packW [(0, h.active), (1, b2n h.swap), (2, b2n (bankBusy s k (1 - h.active))), (3, enginesGood h)
    , (10, if fresh then 0 else (spares h).length), (13, b2n (!fresh && decide (enginesGood h < 64))), (14, b2n (bankOf h h.active).alarm)
    , (15, b2n (checkRunning s k))]

/-- HRP_BUILD_ID of a slice. -/
def hrpBuildId (s : State) (k : Nat) : W32 := let h := harpAt s k; (bankOf h h.active).buildId

/-- HARP.STATUS: slice (R511). -/
def harpStatusCmd (a : List W32) (s : State) : Ans :=
  let k := arg a 0
  checked [(badSlice s k, Code.badArg)] (fun s => ok [hrpStatus s k, w32 (harpAt s k).raTpid, (harpAt s k).seed, hrpBuildId s k] s) s

/-- Meaning of HARP_STATUS. -/
def execHarpStatus (v : Via) (a : List W32) (s : State) : Out := tcsCommand 0x0381 harpStatusCmd v a s

/-! ### MINT commands (R227, R514) -/

/-- KIND is allowed for the pool (Table 09-3). -/
def kindOk (pool kind : Nat) : Bool := if pool = 31 then decide (kind = 3) else decide (kind ≤ 2)

/-- A threshold or floor in cells that its 16-bit register field cannot hold. DESIGN CHOICE, log 30. -/
def badUnits (n : Nat) : Bool := decide (n % 16 ≠ 0) || decide (n / 16 ≥ 2 ^ 16)

/-- Some port map entry names the pool. -/
def poolMapped (s : State) (p : Nat) : Bool := s.mint.portMap.any fun e => e.2.any fun x => decide (x % 32 = p)

/-- MINT.POOL_SET: pool, KIND, SIZE, WARN, STOP, RESUME, FAIR. DESIGN CHOICE, log 30. -/
def poolSetCmd (a : List W32) (s : State) : Ans :=
  let p := arg a 0
  let kind := arg a 1
  let size := arg a 2
  let warn := arg a 3
  let stop := arg a 4
  let res := arg a 5
  let fair := arg a 6
  let q := poolAt s p
  let held := ((List.range 32).map fun i =>
    if i = 0 then 0 else max (if i = p then size else (poolAt s i).size) ((poolAt s i).used - (poolAt s i).borrowed)).sum
  checked [
    (decide (p = 0) || decide (p > 31) || !kindOk p kind || decide (size ≥ 2 ^ 20) || badUnits warn || badUnits stop || badUnits res
      || badUnits fair || (decide (kind = 2) && !(decide (res < warn) && decide (warn ≤ stop) && decide (stop < size))), Code.badArg),
    (decide (kind ≠ q.kind) && (decide (q.used ≠ 0) || poolMapped s p), Code.conflict),
    (decide (held + 4096 > cellsTotal s), Code.conflict)] (fun s =>
      ok [] (changePool p (fun q => { q with
        kind := kind, size := size, warn := warn / 16, stop := stop / 16, resume := res / 16, fair := fair / 16 }) s)) s

/-- Meaning of MINT_POOL_SET. -/
def execMintPoolSet (v : Via) (a : List W32) (s : State) : Out := tcsCommand 0x0801 poolSetCmd v a s

/-- MINT.PORT_MAP: port, sixteen entries of Table 09-4. -/
def portMapCmd (a : List W32) (s : State) : Ans :=
  let m := (List.range 16).map fun i => arg a (1 + i)
  checked [
    (badPort s (arg a 0) || m.any (fun e => decide (e > 255) || decide (e % 32 = 31) || decide ((poolAt s (e % 32)).kind = 0)), Code.badArg)]
    (fun s => ok [] { s with mint := { s.mint with portMap := tabSet [] s.mint.portMap (arg a 0) (if m.all (· == 0) then [] else m) } }) s

/-- Meaning of MINT_PORT_MAP. -/
def execMintPortMap (v : Via) (a : List W32) (s : State) : Out := tcsCommand 0x0802 portMapCmd v a s

/-- MINT.COLOR_SET: YEL_FLOOR, RED_FLOOR. -/
def colorSetCmd (a : List W32) (s : State) : Ans :=
  checked [(badUnits (arg a 0) || badUnits (arg a 1), Code.badArg)] (fun s =>
    ok [] { s with mint := { s.mint with yelFloor := arg a 0 / 16, redFloor := arg a 1 / 16 } }) s

/-- Meaning of MINT_COLOR_SET. -/
def execMintColorSet (v : Via) (a : List W32) (s : State) : Out := tcsCommand 0x0803 colorSetCmd v a s

/-- MINT.ECN_SET: port, queue mask, MARK_CELLS. DESIGN CHOICE, log 31. -/
def ecnSetCmd (a : List W32) (s : State) : Ans :=
  let p := arg a 0
  checked [(badFront s p || decide (arg a 1 ≥ 2 ^ 16) || decide (arg a 2 ≥ 2 ^ 20), Code.badArg)] (fun s =>
    let marks := (List.range 16).foldl (fun m q => if bit (arg a 1) q then tabSet 0 m (16 * p + q) (arg a 2) else m) s.mint.marks
    ok [] { s with mint := { s.mint with marks := marks } }) s

/-- Meaning of MINT_ECN_SET. -/
def execMintEcnSet (v : Via) (a : List W32) (s : State) : Out := tcsCommand 0x0804 ecnSetCmd v a s

/-- MINT.RECLAIM: starts a reclaim sweep (R224). -/
def reclaimCmd (_ : List W32) (s : State) : Ans :=
  checked [(s.mint.reclaim, Code.busy)] (fun s => .pending .reclaim { s with mint := { s.mint with reclaim := true } }) s

/-- Meaning of MINT_RECLAIM. -/
def execMintReclaim (v : Via) (a : List W32) (s : State) : Out := tcsCommand 0x0805 reclaimCmd v a s

/-- A reclaim sweep ends: what it frees is freed, and MINT.RECLAIM completes. -/
def reclaimDone (s : State) : State :=
  if s.mint.reclaim then
    let s := reclaimSweep s
    settleJobs (fun j => decide (j = .reclaim)) Code.done [] { s with mint := { s.mint with reclaim := false } }
  else s

/-- Meaning of MINT_RECLAIM_DONE. -/
def execMintReclaimDone (s : State) : Out := .next (reclaimDone s)

/-- The Mint serves only the Plain service region: no enabled slice has left Plain service. -/
def mintPlain (s : State) : Bool := decide (s.dev.plain &&& s.dev.fuses.sliceEn = s.dev.fuses.sliceEn)

/-- MNT_STATUS; FREE and PLAIN read 0 until the Mint is first released. DESIGN CHOICE, log 42. -/
def mntStatus (s : State) : W32 :=
  let free := decide (s.dev.step ≥ 5) || !s.dev.cold
  packW [(0, if free then cellsFree s else 0), (20, s.mint.split), (22, b2n s.mint.reclaim), (23, b2n (free && mintPlain s))]

/-- MNT_POOL_CFG to MNT_POOL_BORROWED of a pool. DESIGN CHOICE, log 42. -/
def poolWords (s : State) (p : Nat) : List W32 :=
  let q := poolAt s p
  let size := if p = 0 then (if s.dev.step ≥ 5 then pool0Cap s else 0) else q.size
  [packW [(0, size), (20, q.kind)], packW [(0, q.warn), (16, q.stop)], packW [(0, q.resume), (16, q.fair)], packW [(0, q.used), (20, q.state)]
  , w32 q.borrowed]

/-- MINT.STATUS: pool (R514). -/
def mintStatusCmd (a : List W32) (s : State) : Ans :=
  let p := arg a 0
  checked [(decide (p > 31), Code.badArg)] (fun s => ok ([mntStatus s] ++ poolWords s p ++ two (ctrAt s (Ctr.mntPoolDrop p)).toNat) s) s

/-- Meaning of MINT_STATUS. -/
def execMintStatus (v : Via) (a : List W32) (s : State) : Out := tcsCommand 0x0881 mintStatusCmd v a s

/-! ### TELLER commands (R229 to R251) -/

/-- RATE and BURST of a shaper are in range (R235). -/
def shapeOk (rate burst : Nat) : Bool := decide (rate ≤ 1600000) && decide (burst ≤ 16777215)
/-- QUANTUM is in range (R232). -/
def quantumOk (q : Nat) : Bool := decide (64 ≤ q) && decide (q ≤ 1048575)

/-- TELLER.QUEUE_SET: port, queue mask, QGROUP, STRICT, QUANTUM, RATE, BURST. DESIGN CHOICE, log 31. -/
def queueSetCmd (a : List W32) (s : State) : Ans :=
  let p := arg a 0
  checked [
    (badFront s p || decide (arg a 1 ≥ 2 ^ 16) || decide (arg a 2 > 3) || badBool (arg a 3) || !quantumOk (arg a 4)
      || !shapeOk (arg a 5) (arg a 6), Code.badArg)] (fun s =>
    ok [] ((List.range 16).foldl (fun s q =>
      if bit (arg a 1) q then
        modTx p (fun t => let n := nodeAt t q
          setNode q { n with group := arg a 2, strict := arg a 3 == 1, quantum := arg a 4
                             shaper := reshape s.cycles (arg a 5) (arg a 6) n.shaper } t) s
      else s) s)) s

/-- Meaning of TELLER_QUEUE_SET. -/
def execTellerQueueSet (v : Via) (a : List W32) (s : State) : Out := tcsCommand 0x0701 queueSetCmd v a s

/-- TELLER.GROUP_SET: port, group, STRICT, QUANTUM, RATE, BURST. -/
def groupSetCmd (a : List W32) (s : State) : Ans :=
  let p := arg a 0
  let g := 16 + arg a 1
  checked [
    (badFront s p || decide (arg a 1 > 3) || badBool (arg a 2) || !quantumOk (arg a 3) || !shapeOk (arg a 4) (arg a 5), Code.badArg)]
    (fun s => ok [] (modTx p (fun t => let n := nodeAt t g
      setNode g { n with strict := arg a 2 == 1, quantum := arg a 3, shaper := reshape s.cycles (arg a 4) (arg a 5) n.shaper } t) s)) s

/-- Meaning of TELLER_GROUP_SET. -/
def execTellerGroupSet (v : Via) (a : List W32) (s : State) : Out := tcsCommand 0x0702 groupSetCmd v a s

/-- TELLER.PORT_SET: port, RATE, BURST. -/
def portSetCmd (a : List W32) (s : State) : Ans :=
  checked [(badFront s (arg a 0) || !shapeOk (arg a 1) (arg a 2), Code.badArg)] (fun s =>
    ok [] (modTx (arg a 0) (fun t => { t with shaper := reshape s.cycles (arg a 1) (arg a 2) t.shaper }) s)) s

/-- Meaning of TELLER_PORT_SET. -/
def execTellerPortSet (v : Via) (a : List W32) (s : State) : Out := tcsCommand 0x0703 portSetCmd v a s

/-- TELLER.CLASS_MAP: port, sixteen queue numbers. -/
def classMapCmd (a : List W32) (s : State) : Ans :=
  let m := (List.range 16).map fun i => arg a (1 + i)
  checked [(badFront s (arg a 0) || m.any (fun q => decide (q > 15)), Code.badArg)] (fun s =>
    ok [] (modTx (arg a 0) (fun t => { t with classMap := m }) s)) s

/-- Meaning of TELLER_CLASS_MAP. -/
def execTellerClassMap (v : Via) (a : List W32) (s : State) : Out := tcsCommand 0x0704 classMapCmd v a s

/-- The gate entries (GATES, INTERVAL) of TELLER.GATE_SET, from argument word 4. -/
def gateEntries (a : List W32) (n : Nat) : List (Nat × Nat) := (List.range n).map fun i => (arg a (4 + 2 * i), arg a (5 + 2 * i))

/-- A list's entries are in range (R238). -/
def gateListOk (s : State) (trig n : Nat) (es : List (Nat × Nat)) : Bool :=
  decide (1 ≤ n) && decide (n ≤ 256) && es.all (fun e => decide (e.1 < 2 ^ 16) && decide (8 ≤ e.2) && decide (e.2 ≤ 1000000000))
    && decide (1000 ≤ trigPeriod s trig) && decide (trigPeriod s trig ≤ 1000000000)

/-- TELLER.GATE_SET: port, trigger, entry count, enable, entries. DESIGN CHOICE, log 31. -/
def gateSetCmd (a : List W32) (s : State) : Ans :=
  let p := arg a 0
  let trig := arg a 1
  let n := arg a 2
  let en := arg a 3 == 1
  let d := (fullAt s p).damp
  let g := (txAt s p).gate
  checked [
    (badFront s p || decide (trig > 15) || decide (n > 256) || badBool (arg a 3) || (en && !gateListOk s trig n (gateEntries a n)), Code.badArg),
    (d.en || d.lpiEn, Code.conflict),
    (g.pending.isSome, Code.busy)] (fun s =>
      let new : Option (Option GateList) :=
        if en then some (some { trigger := trig, entries := gateEntries a n }) else if g.oper.isSome then some none else none
      let t := if en then trig else match g.oper with | some l => l.trigger | none => 0
      ok [] (modTx p (fun x => { x with gate := { x.gate with pending := new, pendSeen := (trigAt s t).fires } }) s)) s

/-- Meaning of TELLER_GATE_SET. -/
def execTellerGateSet (v : Via) (a : List W32) (s : State) : Out := tcsCommand 0x0705 gateSetCmd v a s

/-- The members of TELLER.LAG_SET or TELLER.ECMP_SET, from argument word 2. -/
def memberList (a : List W32) : List Nat := (List.range (arg a 1)).map fun i => arg a (2 + i)

/-- A member word that a group of this kind may not hold (R247, R518). -/
def badMember (s : State) (lag : Bool) (m : Nat) : Bool :=
  if m ≥ 2048 then true
  else if isLagMember m then lag || decide (m % 1024 > 255)
  else badFront s m

/-- Replace a group: bucket b goes to member b modulo n; its pinning words are written whole (R452). -/
def setGroup (i : Nat) (ms : List Nat) (s : State) : State :=
  let n := ms.length
  let s := if s.mem.poison.isEmpty then s else (List.range 384).foldl (fun s w => cleanse (.pinning i w) s) s
  { s with groups := tabSet {} s.groups i { members := ms, buckets := if n = 0 then [] else (List.range 4096).map fun b => b % n } }

/-- A change of a group's members is being written (R247, R250). -/
def changing (s : State) (i : Nat) : Bool := jobRunning (fun j => decide (j = .members i)) s

/-- LAG_SET or ECMP_SET of a group; one that finds a change being written waits for it (R384). -/
def groupListCmd (lag : Bool) (a : List W32) (s : State) : Ans :=
  let ms := memberList a
  let i := if lag then arg a 0 else 256 + arg a 0
  if decide (arg a 0 ≥ (if lag then 256 else 1024)) || decide (arg a 1 > 64) || ms.any (badMember s lag) || decide (¬ ms.Nodup) then
    refuse Code.badArg s
  else if changing s i then .wait
  else ok [] (setGroup i ms s)

/-- Meaning of TELLER_LAG_SET. -/
def execTellerLagSet (v : Via) (a : List W32) (s : State) : Out := tcsCommand 0x0706 (groupListCmd true) v a s
/-- Meaning of TELLER_ECMP_SET. -/
def execTellerEcmpSet (v : Via) (a : List W32) (s : State) : Out := tcsCommand 0x0707 (groupListCmd false) v a s

/-- The group index of a KIND (1 LAG, 2 ECMP) and number. -/
def groupIndex (kind g : Nat) : Option Nat :=
  if kind = 1 then (if g < 256 then some g else none)
  else if kind = 2 then (if g < 1024 then some (256 + g) else none)
  else none

/-- Buckets that each of `n` members holds. -/
def holdings (n : Nat) (bs : List Nat) : List Nat := (List.range n).map fun i => bs.count i

/-- The first index of the largest number. -/
def maxIndex (xs : List Nat) : Nat := xs.findIdx fun x => decide (x = xs.foldl max 0)

/-- The first of the indexes with the smallest number. -/
def minIndex (is : List Nat) (f : Nat → Nat) : Nat :=
  match is with
  | [] => 0
  | i :: rest => rest.foldl (fun m j => if f j < f m then j else m) i

/-- Move the highest-numbered bucket of the member with the most buckets to member `m`, `k` times (R247 add). -/
def takeBuckets (n m : Nat) : Nat → List Nat → List Nat
  | 0, bs => bs
  | k + 1, bs =>
    let d := maxIndex (holdings n bs)
    let last := bs.length - 1 - bs.reverse.findIdx (fun x => x == d)
    takeBuckets n m k (bs.set last m)

/-- The writes that change a group's buckets to `new`, in ascending order (R247); into a group without members every bucket is written. -/
def bucketMoves (g : Group) (new : List Nat) : List (Nat × Nat) :=
  (List.range 4096).filterMap fun b =>
    if g.members.isEmpty || new.getD b 0 != g.buckets.getD b 0 then some (b, new.getD b 0) else none

/-- A member joins a group (R247): its buckets are to be written. -/
def addMember (g : Group) (m : Nat) : Group :=
  let n := g.members.length
  let new := if n = 0 then List.replicate 4096 0 else takeBuckets n n (4096 / (n + 1)) g.buckets
  { g with members := g.members ++ [m], buckets := if n = 0 then new else g.buckets, moves := bucketMoves g new }

/-- Give each bucket of member `m` away, in ascending order, to the member with the fewest. -/
def giveBuckets (others : List Nat) (m : Nat) : List Nat → List Nat → List Nat
  | [], bs => bs
  | b :: rest, bs =>
    if bs.getD b 0 = m then giveBuckets others m rest (bs.set b (minIndex others fun i => bs.count i)) else giveBuckets others m rest bs

/-- The member at index `m` leaves a group (R247): its buckets are to be given to the others. -/
def removeMember (g : Group) (m : Nat) : Group :=
  let others := (List.range g.members.length).filter fun i => decide (i ≠ m)
  { g with moves := bucketMoves g (giveBuckets others m (List.range 4096) g.buckets), leaving := some m }

/-- TELLER.MEMBER_ADD: kind, group, member. DESIGN CHOICE, log 31. -/
def memberAddCmd (a : List W32) (s : State) : Ans :=
  match groupIndex (arg a 0) (arg a 1) with
  | none => refuse Code.badArg s
  | some i =>
    let g := groupAt s i
    checked [
      (badMember s (decide (arg a 0 = 1)) (arg a 2) || g.members.contains (arg a 2) || decide (g.members.length ≥ 64), Code.badArg),
      (changing s i, Code.busy)]
      (fun s => .pending (.members i) { s with groups := tabSet {} s.groups i (addMember g (arg a 2)) }) s

/-- Meaning of TELLER_MEMBER_ADD. -/
def execTellerMemberAdd (v : Via) (a : List W32) (s : State) : Out := tcsCommand 0x0708 memberAddCmd v a s

/-- TELLER.MEMBER_REMOVE: kind, group, member. DESIGN CHOICE, log 31. -/
def memberRemoveCmd (a : List W32) (s : State) : Ans :=
  match groupIndex (arg a 0) (arg a 1) with
  | none => refuse Code.badArg s
  | some i =>
    let g := groupAt s i
    checked [
      (badMember s (decide (arg a 0 = 1)) (arg a 2) || !g.members.contains (arg a 2) || decide (g.members.length ≤ 1), Code.badArg),
      (changing s i, Code.busy)]
      (fun s => .pending (.members i) { s with groups := tabSet {} s.groups i (removeMember g (g.members.idxOf (arg a 2))) }) s

/-- Meaning of TELLER_MEMBER_REMOVE. -/
def execTellerMemberRemove (v : Via) (a : List W32) (s : State) : Out := tcsCommand 0x0709 memberRemoveCmd v a s

/-- TELLER.GROUP_GET: kind, group; the member count and the member list. -/
def groupGetCmd (a : List W32) (s : State) : Ans :=
  match groupIndex (arg a 0) (arg a 1) with
  | none => refuse Code.badArg s
  | some i => ok (w32 (groupAt s i).members.length :: (groupAt s i).members.map w32) s

/-- Meaning of TELLER_GROUP_GET. -/
def execTellerGroupGet (v : Via) (a : List W32) (s : State) : Out := tcsCommand 0x0782 groupGetCmd v a s

/-- The destination word of a mirror session that R249 refuses. -/
def badMirror (s : State) (d : Nat) : Bool :=
  let kind := bits d 15 14
  if d ≥ 2 ^ 16 ∨ kind = 3 then true
  else if kind = 0 then decide (d ≠ 0)
  else if kind = 1 then badFront s (bits d 9 0)
  else decide (bits d 9 0 ≠ 0)

/-- TELLER.MIRROR_SET: session, destination, SAMPLE. -/
def mirrorSetCmd (a : List W32) (s : State) : Ans :=
  let m := arg a 0
  let d := arg a 1
  checked [
    (decide (m > 15) || badMirror s d || decide (arg a 2 = 0) || decide (arg a 2 > 65536), Code.badArg)] (fun s =>
      let s := { s with mirrors := tabSet {} s.mirrors m { kind := bits d 15 14, port := bits d 9 0, sel := bits d 13 10, sample := arg a 2 } }
      ok [] ((List.range 16).foldl (fun s k => modLkp k (fun u => { u with mirCount := tabSet 0 u.mirCount m 0 }) s) s)) s

/-- Meaning of TELLER_MIRROR_SET. -/
def execTellerMirrorSet (v : Via) (a : List W32) (s : State) : Out := tcsCommand 0x070A mirrorSetCmd v a s

/-- TELLER.TELEMETRY_SET: slice, trigger, the mask of the slice's 512 queues in sixteen words. An empty mask ends telemetry.
DESIGN CHOICE, log 31. -/
def telemetrySetCmd (a : List W32) (s : State) : Ans :=
  let k := arg a 0
  let t := arg a 1
  checked [
    (badSlice s k || decide (t > 15) || decide (trigPeriod s t < 1000) || decide (trigPeriod s t > 1000000), Code.badArg)] (fun s =>
      let v : Telemetry := tabGet {} s.tele k
      ok [] { s with tele := tabSet {} s.tele k { v with next := some (t, (a.drop 2).take 16, (trigAt s t).fires) } }) s

/-- Meaning of TELLER_TELEMETRY_SET. -/
def execTellerTelemetrySet (v : Via) (a : List W32) (s : State) : Out := tcsCommand 0x070B telemetrySetCmd v a s

/-- TLR_GATE of a port. -/
def tlrGate (s : State) (p : Nat) : W32 :=
  let t := txAt s p
  packW [(0, b2n t.gate.oper.isSome), (1, match t.gate.oper with | some l => l.trigger | none => 0), (5, t.gate.entry)
    , (13, b2n t.gate.pending.isSome), (14, b2n t.susp.isSome)]

/-- TELLER.GATE_STATUS: port (R515). -/
def gateStatusCmd (a : List W32) (s : State) : Ans :=
  let p := arg a 0
  checked [(badFront s p, Code.badArg)] (fun s => ok [tlrGate s p, w32 (gatesNow (txAt s p))] s) s

/-- Meaning of TELLER_GATE_STATUS. -/
def execTellerGateStatus (v : Via) (a : List W32) (s : State) : Out := tcsCommand 0x0781 gateStatusCmd v a s

end Sys2Proof.Machine
end

