-- ==== Sys2Proof/Machine/TableFam.lean ====
section
/-! DEFINITION. The table engine (chapter 06): configuration, inserts and relocation, deletes, walks, flushes, bulk commands. -/
namespace Sys2Proof.Machine

/-- Replace the table engine's state. -/
def modTbl (f : TblState → TblState) (s : State) : State := { s with tbl := f s.tbl }

/-! ### Places (R145, R146, R153) -/

/-- A location holds an entry, or the second half of a wide one. -/
def locTaken (s : State) (loc : Nat) : Bool :=
  (slotAt s loc).isSome || (decide (loc % 2 = 1) && match slotAt s (loc - 1) with | some e => e.wide | none => false)

/-- A free place at a location: one slot, or the pair that starts there. DESIGN CHOICE, log 32. -/
def placeFree (s : State) (wide : Bool) (loc : Nat) : Bool := !locTaken s loc && (!wide || !locTaken s (loc + 1))

/-- Locations, from a base, at which an entry may start. DESIGN CHOICE, log 32. -/
def starts (wide : Bool) (base n : Nat) : List Nat :=
  (List.range n).filterMap fun i => if wide && decide (i % 2 = 1) then none else some (base + i)

/-- The free places of bucket `b`. -/
def places (s : State) (wide : Bool) (b : Nat) : List Nat := (starts wide (4 * b) 4).filter (placeFree s wide)

/-- The lowest free place of the stash. -/
def stashPlace (s : State) (wide : Bool) : Option Nat := (starts wide stashBase 64).find? (placeFree s wide)

/-- Write a location in all four replicas; fresh words replace poison (R154, R452). -/
def writeSlot (loc : Nat) (e : Option Entry) (wide : Bool) (s : State) : State :=
  let s := { s with tbl := { s.tbl with slots := tabSet none s.tbl.slots loc e } }
  (List.range 4).foldl (fun s q =>
    let s := cleanse (.tableSlot q loc) s
    if wide then cleanse (.tableSlot q (loc + 1)) s else s) s

/-- Slots that the entries of table `t` occupy. -/
def usedSlots (s : State) (t : Nat) : Nat :=
  (s.tbl.slots.map fun x => match x.2 with | some e => if e.tid = t then 1 + b2n e.wide else 0 | none => 0).sum

/-- Some logical table holds an entry. -/
def anyEntry (s : State) : Bool := !s.tbl.slots.isEmpty

/-- Some replica of an entry carries poison. -/
def entryPoison (s : State) (loc : Nat) (e : Entry) : Bool := (List.range 4).any fun q => entryPoisoned s q loc e

/-! ### Moves and open walks (R154, R160) -/

/-- A walk's list entry for a key: true AGAIN, false CARRY. -/
def walkMark (w : Walk) (t key : Nat) : Option Bool := (w.moved.find? fun m => m.1 = t && m.2.1 = key).map fun m => m.2.2

/-- A walk's list without a key. -/
def unmark (t key : Nat) (w : Walk) : Walk := { w with moved := w.moved.filter fun m => !(m.1 = t && m.2.1 = key) }

/-- The effect of a move from `a` to `b` on a walk (Table 06-5). -/
def walkMove (t key a b : Nat) (w : Walk) : Walk :=
  if !bit w.mask t || decide (a < w.pos) == decide (b < w.pos) then w
  else if a < w.pos then
    match walkMark w t key with
    | some _ => unmark t key w
    | none => { w with moved := w.moved ++ [(t, key, true)] }
  else
    match walkMark w t key with
    | some true => unmark t key w
    | _ => { w with moved := w.moved ++ [(t, key, false)] }

/-- A move planned: table, key, and the locations it leads between. -/
abbrev Planned := Nat × Nat × Nat × Nat

/-- The move needs a new entry of the walk's list (Table 06-5). -/
def needsMark (w : Walk) (m : Planned) : Bool :=
  bit w.mask m.1 && decide (m.2.2.1 < w.pos) != decide (m.2.2.2 < w.pos)
    && (walkMark w m.1 m.2.1).all fun again => again == decide (m.2.2.1 < w.pos)

/-- Moves made in this order never need an entry of the walk's list while it holds 256 (R160). -/
def walkFits (w : Walk) : List Planned → Bool
  | [] => true
  | m :: rest => !(needsMark w m && decide (w.moved.length ≥ 256)) && walkFits (walkMove m.1 m.2.1 m.2.2.1 m.2.2.2 w) rest

/-- No open walk blocks moves made in this order. -/
def movesFit (s : State) (ms : List Planned) : Bool := s.tbl.walks.all fun w => walkFits w ms

/-- An entry as it stands at a location: HB tells bucket B (Table 06-3). -/
def entryAt (s : State) (loc : Nat) (e : Entry) : Entry :=
  let b := match tabCfgAt s e.tid with | some c => (bucketsOf s e.tid c.width e.key).2 | none => 0
  { e with hb := decide (loc < stashBase) && decide (loc / 4 = b) }

/-- The copy of a move, in all replicas (R154). -/
def copyEntry (a b : Nat) (s : State) : State :=
  match slotAt s a with
  | some e => writeSlot b (some (entryAt s b e)) e.wide s
  | none => s

/-- The delete of a move; the walks follow the entry to its new location (R160). -/
def dropMoved (a b : Nat) (s : State) : State :=
  match slotAt s a with
  | some e =>
    let s := writeSlot a none e.wide s
    bump Ctr.tblMoves { s with tbl := { s.tbl with walks := s.tbl.walks.map (walkMove e.tid e.key a b) } }
  | none => s

/-- The other candidate bucket of an entry. -/
def otherBucket (s : State) (e : Entry) (cur : Nat) : Nat :=
  match tabCfgAt s e.tid with
  | some c => let ab := bucketsOf s e.tid c.width e.key; if cur = ab.1 then ab.2 else ab.1
  | none => cur

/-! ### INSERT (R147, R148, R153, R155) -/

/-- The search of R153 from bucket `cur`: `path` holds the victims found so far with their other buckets, last first, and `ms` the moves among them
whose destination is known, in the order in which they are made. A victim is blocked when its own move, or the move of the victim before it into
its place, would need an entry of a full list (R160). -/
def searchPath : Nat → Nat → List (Nat × Entry × Nat) → List Planned → State → Option (List (Nat × Entry × Nat)) × State
  | 0, _, _, _, s => (none, s)
  | fuel + 1, cur, path, ms, s =>
    let cands := (List.range 4).filterMap fun i =>
      let loc := 4 * cur + i
      match slotAt s loc with
      | some e => if e.wide || entryPoison s loc e || path.any (fun m => decide (m.1 = loc)) then none else some (loc, e)
      | none => none
    let before (x : Nat × Entry) : List Planned :=
      match path with | (a, e, _) :: _ => (e.tid, e.key, a, x.1) :: ms | [] => ms
    let ways (x : Nat × Entry) : List Nat :=
      let alt := otherBucket s x.2 cur
      match places s false alt with | [] => (List.range 4).map (4 * alt + ·) | ps => ps
    let stuck (x : Nat × Entry) : Bool :=
      (ways x).all fun b => !movesFit s ((x.2.tid, x.2.key, x.1, b) :: before x)
    let s1 := bumpBy Ctr.tblWalkBlock (cands.filter stuck).length s
    let free := cands.filter fun x => !stuck x
    let c := freeChoice free.length s1
    match free[c.1]? with
    | none => (none, s1)
    | some v =>
      let alt := otherBucket s v.2 cur
      if (places s false alt).isEmpty then searchPath fuel alt ((v.1, v.2, alt) :: path) (before v) c.2
      else (some ((v.1, v.2, alt) :: path), c.2)

/-- The moves of a path, last first, when its last victim goes to `dest`. -/
def pathMoves : List (Nat × Entry × Nat) → Nat → List Planned
  | [], _ => []
  | (a, e, _) :: rest, dest => (e.tid, e.key, a, dest) :: pathMoves rest a

/-- The location that a path frees in the first bucket. -/
def pathFree (path : List (Nat × Entry × Nat)) (dest : Nat) : Nat := match path.getLast? with | some m => m.1 | none => dest

/-- The writes of a path's moves. -/
def pathWrites (ms : List Planned) : List TblWrite := (ms.map fun m => [.copy m.2.2.1 m.2.2.2, .del m.2.2.1 m.2.2.2]).flatten

/-- A data word that Table 06-4 refuses for a table of this kind (R148, R518). -/
def badData (s : State) (kind data : Nat) : Bool :=
  let dk := bits data 11 10
  let dest := bits data 9 0
  let badDest := (decide (dk = 0) && badPort s dest) || (decide (dk = 1) && decide (dest > 255)) || decide (dk = 3)
  decide (data ≥ 2 ^ 24) || (decide (kind = 1) && badDest) || (decide (kind = 2) && decide (data ≥ 2 ^ 17))
    || (decide (kind = 3) && (badDest || decide (bits data 13 12 = 3) || decide (data ≥ 2 ^ 14)))

/-- The entry record's TABLE (Table 06-8). -/
def recTable (r : List W32) : Nat := fld (r.getD 0 0#32) 2 0
/-- The entry record's key, below the table's width. -/
def recKey (r : List W32) (width : Nat) : Nat := leNat (bytesOf ((r.drop 2).take 7)) % 2 ^ width

/-- One of these free places; which one is undefined (R8). DESIGN CHOICE, log 32. -/
def choosePlace (ps : List Nat) (s : State) : Option Nat × State :=
  let c := freeChoice ps.length s
  (ps[c.1]?, if ps.isEmpty then s else c.2)

/-- A new entry is placed. DESIGN CHOICE, log 32. -/
def placeNew (e : Entry) (loc code : Nat) (s : State) : State :=
  bumpIf (code == Code.stashed) Ctr.tblStashed (bump Ctr.tblInsert (writeSlot loc (some (entryAt s loc e)) e.wide s))

/-- What an INSERT of a new entry is to write (R153): its outcome, its writes, and the state after the search. -/
def insertNew (c : TabCfg) (e : Entry) (s : State) : Nat × List TblWrite × State :=
  let ab := bucketsOf s e.tid c.width e.key
  let p := choosePlace (places s e.wide ab.1 ++ places s e.wide ab.2) s
  match p.1 with
  | some loc => (Code.inserted, [.place e loc Code.inserted], p.2)
  | none =>
    let st := freeChoice 2 p.2
    let found := if e.wide then (none, p.2) else searchPath 32 (if st.1 = 0 then ab.1 else ab.2) [] [] st.2
    match found.1 with
    | some path =>
      let ends := match path with
        | (_, _, alt) :: _ => (places found.2 false alt).filter fun b => movesFit found.2 (pathMoves path b)
        | [] => []
      let d := choosePlace ends found.2
      let dest := d.1.getD 0
      (Code.inserted, pathWrites (pathMoves path dest) ++ [.place e (pathFree path dest) Code.inserted], d.2)
    | none =>
      match stashPlace found.2 e.wide with
      | some loc => (Code.stashed, [.place e loc Code.stashed], found.2)
      | none => (Code.tableFull, [], bump Ctr.tblFull found.2)

/-- What an INSERT of an entry record is to write: outcome, writes, state. -/
def insertPlan (r : List W32) (s : State) : Nat × List TblWrite × State :=
  let t := recTable r
  match tabCfgAt s t with
  | none => (Code.badArg, [], s)
  | some c =>
    let data := (r.getD 1 0#32).toNat
    if badData s c.kind data then (Code.badArg, [], s)
    else
      let key := recKey r c.width
      match findEntry s t c.width key with
      | some (loc, e) =>
        if bit (r.getD 0 0#32).toNat 8 then (Code.exist, [], s)
        else (Code.replaced, [.place { e with data := data } loc Code.replaced], s)
      | none =>
        let wide := decide (c.width > 96)
        if c.quota ≠ 0 ∧ usedSlots s t + 1 + b2n wide > c.quota then (Code.quota, [], s)
        else insertNew c { tid := t, wide := wide, data := data, key := key } s

/-! ### DELETE (R156) -/

/-- The place, in bucket A or else bucket B, to which a stash entry may return. -/
def returnPlace (s : State) (loc : Nat) (e : Entry) : Option Nat :=
  match tabCfgAt s e.tid with
  | none => none
  | some c =>
    let ab := bucketsOf s e.tid c.width e.key
    match (places s e.wide ab.1 ++ places s e.wide ab.2).head? with
    | some p => if movesFit s [(e.tid, e.key, loc, p)] then some p else none
    | none => none

/-- The move that one attempt to return a stash entry to its buckets makes. DESIGN CHOICE, log 32. -/
def stashReturn (s : State) : List TblWrite :=
  match (stashEntries s).findSome? fun x => if entryPoison s x.1 x.2 then none else (returnPlace s x.1 x.2).map fun p => (x.1, p) with
  | some (a, b) => [.copy a b, .del a b]
  | none => []

/-- Remove an entry and its key from every walk's list. -/
def removeEntry (loc : Nat) (e : Entry) (s : State) : State :=
  let s := writeSlot loc none e.wide s
  bump Ctr.tblDelete { s with tbl := { s.tbl with walks := s.tbl.walks.map (unmark e.tid e.key) } }

/-- What a DELETE of an entry record's key is to write: outcome, writes, state. -/
def deletePlan (r : List W32) (s : State) : Nat × List TblWrite × State :=
  let t := recTable r
  match tabCfgAt s t with
  | none => (Code.badArg, [], s)
  | some c =>
    match findEntry s t c.width (recKey r c.width) with
    | some (loc, _) => (Code.done, [.remove loc, .ret], s)
    | none => (Code.notFound, [], s)

/-! ### SEARCH (R161, Table 06-8) -/

/-- The words of a key. -/
def keyWords (key : Nat) : List W32 := (List.range 7).map fun i => w32 (key / 2 ^ (32 * i))

/-- The result record of an entry. -/
def entryRecord (s : State) (loc : Nat) (e : Entry) (moved : Bool) : List W32 :=
  [packW [(0, e.tid), (3, b2n e.wide), (4, b2n (decide (e.hit ≠ 0))), (5, b2n moved), (6, b2n (decide (loc ≥ stashBase)))
    , (7, b2n (entryPoison s loc e))], w32 e.data] ++ keyWords e.key ++ [w32 loc]

/-- Search an entry record's key: outcome code and result record. -/
def searchRec (r : List W32) (s : State) : Nat × List W32 :=
  let t := recTable r
  match tabCfgAt s t with
  | none => (Code.badArg, [])
  | some c =>
    match findEntry s t c.width (recKey r c.width) with
    | some (loc, e) => (Code.done, entryRecord s loc e false)
    | none => (Code.notFound, [])

/-! ### The table engine at work (R154, R157, R161, R168) -/

/-- One write of the table engine, and the writes that it leads to. -/
def doWrite (x : TblWrite) (s : State) : List TblWrite × State :=
  match x with
  | .copy a b => ([], copyEntry a b s)
  | .del a b => ([], dropMoved a b s)
  | .place e loc code => ([], placeNew e loc code s)
  | .remove loc => ([], match slotAt s loc with | some e => removeEntry loc e s | none => s)
  | .ret => (stashReturn s, s)
  | .result at_ bs => ([], hostWrite at_ bs s)

/-- Writes made one after another. -/
def doWrites (ws : List TblWrite) (s : State) : State :=
  ws.foldl (fun s x => let y := doWrite x s; y.1.foldl (fun s z => (doWrite z s).2) y.2) s

/-- Write a RESULT byte into a record's first word. -/
def withResult (r : List W32) (code : Nat) : List W32 := setFld (r.getD 0 0#32) 31 24 code :: r.drop 1

/-- What a bulk command makes of a record: outcome, the record it writes back, the writes, the state. -/
def bulkRecord (op : Nat) (r : List W32) (s : State) : Nat × List W32 × List TblWrite × State :=
  if op = 0 then let x := insertPlan r s; (x.1, r, x.2.1, x.2.2)
  else if op = 1 then let x := deletePlan r s; (x.1, r, x.2.1, x.2.2)
  else let x := searchRec r s; (x.1, if x.1 = Code.done then x.2 else r, [], s)

/-- The outcomes that a bulk command counts, in ascending order of their codes: those of the single command. -/
def bulkKinds (op : Nat) : List Nat :=
  if op = 0 then [Code.inserted, Code.replaced, Code.stashed, Code.badArg, Code.exist, Code.quota, Code.tableFull]
  else [Code.done, Code.badArg, Code.notFound]

/-- The bulk command's next record, read from host memory: its writes, ending with the record's RESULT, and the rest of the command. -/
def bulkNext (b : Bulk) (s : State) : List TblWrite × Bulk × State :=
  let x := bulkRecord b.op (wordsOf (hostRead s b.at_ 40)) s
  (x.2.2.1 ++ [.result b.at_ (bytesOf (withResult x.2.1 x.1))],
   { b with at_ := b.at_ + 40, left := b.left - 1, codes := b.codes ++ [x.1] }, x.2.2.2)

/-- The command in execution ends with its outcome; a bulk command's result counts its records' outcomes. -/
def endWork (w : TblWork) (s : State) : State :=
  let res := match w.bulk with | some b => bytesOf ((bulkKinds b.op).map fun c => w32 (b.codes.count c)) | none => w.res
  settleJobs (fun j => decide (j = .table)) w.code res (modTbl (fun t => { t with work := none }) s)

/-- The table engine makes its next write, fetches a bulk command's next record, or ends its command. -/
def engineStep (s : State) : State :=
  match s.tbl.work with
  | none => s
  | some w =>
    match w.writes with
    | x :: rest =>
      let y := doWrite x s
      modTbl (fun t => { t with work := some { w with writes := y.1 ++ rest } }) y.2
    | [] =>
      match w.bulk with
      | some b =>
        if b.left = 0 then endWork w s
        else
          let x := bulkNext b s
          modTbl (fun t => { t with work := some { w with writes := x.1, bulk := some x.2.1 } }) x.2.2
      | none => endWork w s

/-- The records left of a bulk command, `n` of them. -/
def bulkLoop : Nat → Bulk → State → Bulk × State
  | 0, b, s => (b, s)
  | n + 1, b, s => let x := bulkNext b s; bulkLoop n x.2.1 (doWrites x.1 x.2.2)

/-- The table engine finishes the command in execution. -/
def finishWork (s : State) : State :=
  match s.tbl.work with
  | none => s
  | some w =>
    let s := doWrites w.writes s
    match w.bulk with
    | some b => let x := bulkLoop b.left b s; endWork { w with bulk := some x.1 } x.2
    | none => endWork w s

/-- A warm reset falls inside the table engine's command (R157): the delete of a move whose copy was made is still to be made; of another write, it
is free whether it was in progress. What is to be completed stands in `fixup`. DESIGN CHOICE, log 65. -/
def cutWork (s : State) : State :=
  match s.tbl.work with
  | none => s
  | some w =>
    let c := freeChoice 2 s
    let fix : List TblWrite := match w.writes with
      | .del a b :: _ => [.del a b]
      | .copy a b :: _ => if c.1 = 0 then [] else [.copy a b, .del a b]
      | .place e l k :: _ => if c.1 = 0 then [] else [.place e l k]
      | .remove l :: _ => if c.1 = 0 then [] else [.remove l]
      | _ => []
    modTbl (fun t => { t with work := none, fixup := t.fixup ++ fix }) c.2

/-- The table engine makes what R157 left it. -/
def fixTables (s : State) : State := modTbl (fun t => { t with fixup := [] }) (doWrites s.tbl.fixup s)

/-- The table engine's turn is the channel's (R161): its completion after a reset is made, no command is in execution, and no other channel holds a
TABLE command accepted earlier. -/
def tableTurn (s : State) (v : Via) : Bool :=
  s.tbl.fixup.isEmpty && !jobRunning (fun j => decide (j = .table)) s
    && (s.tcs.tableLine.takeWhile (· != viaNum v)).all fun n =>
      match tabGet .idle s.tcs.channels n with | .handed r => !isTableCmd r.cmd | _ => true

/-- A TABLE command: it waits for those accepted before it. -/
def tableCommand (code : Nat) (body : List W32 → State → Ans) (v : Via) (a : List W32) (s : State) : Out :=
  tcsCommand code (fun a s => if tableTurn s v then body a s else .wait) v a s

/-- A command whose writes are planned: one write is made at once, more make the engine work on it. -/
def workAns (code : Nat) (res : List Byte) (ws : List TblWrite) (s : State) : Ans :=
  match ws with
  | [] => .reply code res s
  | [x] => .reply code res (doWrite x s).2
  | _ => .pending .table (modTbl (fun t => { t with work := some { writes := ws, code := code, res := res } }) s)

/-- The answer that an outcome and its writes make; a refusal has DETAIL 0. -/
def codeAns (x : Nat × List TblWrite × State) : Ans := workAns x.1 (if x.1 < 0x40 then [] else details 0 0) x.2.1 x.2.2

/-- Meaning of TABLE_INSERT. -/
def execTableInsert (v : Via) (a : List W32) (s : State) : Out := tableCommand 0x0503 (fun a s => codeAns (insertPlan a s)) v a s

/-- TABLE.DELETE: the removal, then the return of a stash entry where one is possible. -/
def tableDeleteCmd (a : List W32) (s : State) : Ans :=
  let x := deletePlan a s
  match x.2.1 with
  | w :: _ =>
    let s := (doWrite w x.2.2).2
    workAns x.1 [] (stashReturn s) s
  | [] => refuse x.1 s

/-- Meaning of TABLE_DELETE. -/
def execTableDelete (v : Via) (a : List W32) (s : State) : Out := tableCommand 0x0504 tableDeleteCmd v a s

/-- TABLE.SEARCH. -/
def tableSearchCmd (a : List W32) (s : State) : Ans :=
  let x := searchRec a s
  if x.1 = Code.done then ok x.2 s else refuse x.1 s

/-- Meaning of TABLE_SEARCH. -/
def execTableSearch (v : Via) (a : List W32) (s : State) : Out := tableCommand 0x0581 tableSearchCmd v a s

/-- A bulk command: host address (two words), count. DESIGN CHOICE, log 32. -/
def bulkCmd (op : Nat) (a : List W32) (s : State) : Ans :=
  if arg a 2 = 0 ∨ arg a 2 > 65536 then refuse Code.badArg s
  else if !canDma s then .reply Code.hostFault (details 0 0) s
  else
    .pending .table (modTbl (fun t => { t with
      work := some { writes := [], bulk := some { op := op, at_ := arg a 0 + arg a 1 * 2 ^ 32, left := arg a 2 } } }) s)

/-- Meaning of TABLE_INSERT_BULK. -/
def execTableInsertBulk (v : Via) (a : List W32) (s : State) : Out := tableCommand 0x050A (bulkCmd 0) v a s
/-- Meaning of TABLE_DELETE_BULK. -/
def execTableDeleteBulk (v : Via) (a : List W32) (s : State) : Out := tableCommand 0x050B (bulkCmd 1) v a s
/-- Meaning of TABLE_SEARCH_BULK. -/
def execTableSearchBulk (v : Via) (a : List W32) (s : State) : Out := tableCommand 0x050C (bulkCmd 2) v a s

/-! ### TABLE.CONFIG and SEED_SET (R146, R150) -/

/-- The key width is allowed for the kind (Table 06-2). -/
def widthOk (kind width : Nat) : Bool :=
  let lo := if kind = 0 then 1 else if kind = 1 then 48 else if kind = 2 then 34 else 24
  decide (lo ≤ width) && decide (width ≤ (if kind = 0 then 224 else 96))

/-- TABLE.CONFIG: table, kind, key width, quota. -/
def tableConfigCmd (a : List W32) (s : State) : Ans :=
  let t := arg a 0
  let same := match tabCfgAt s t with | some c => decide (c.kind = arg a 1) && decide (c.width = arg a 2) | none => true
  checked [
    (decide (t > 7) || decide (arg a 1 > 3) || !widthOk (arg a 1) (arg a 2), Code.badArg),
    (decide (usedSlots s t ≠ 0) && !same, Code.conflict)] (fun s =>
      ok [] (modTbl (fun x => { x with cfgs := tabSet none x.cfgs t (some ⟨arg a 1, arg a 2, arg a 3⟩) }) s)) s

/-- Meaning of TABLE_CONFIG. -/
def execTableConfig (v : Via) (a : List W32) (s : State) : Out := tableCommand 0x0501 tableConfigCmd v a s

/-- TABLE.SEED_SET: SEED_A, SEED_B, two words each. -/
def seedSetCmd (a : List W32) (s : State) : Ans :=
  checked [(anyEntry s, Code.conflict)] (fun s =>
    ok [] (modTbl (fun x => { x with seedA := arg a 0 + arg a 1 * 2 ^ 32, seedB := arg a 2 + arg a 3 * 2 ^ 32, seedSet := true }) s)) s

/-- Meaning of TABLE_SEED_SET. -/
def execTableSeedSet (v : Via) (a : List W32) (s : State) : Out := tableCommand 0x0502 seedSetCmd v a s

/-! ### Walks (R158 to R160, R163) -/

/-- An open walk by its cursor. DESIGN CHOICE, log 32. -/
def walkAt (s : State) (cursor : Nat) : Option Walk := s.tbl.walks.find? fun w => decide (w.cursor = cursor)

/-- What one walk command has gathered: records (location, entry, MOVED), and the keys to take out of the walk's list. -/
structure Gather where
  recs : List (Nat × Entry × Bool) := []
  gone : List (Nat × Nat) := []

/-- Visit one entry. -/
def Gather.visit (g : Gather) (sel : Entry → Bool) (moved : Bool) (loc : Nat) (e : Entry) : Gather :=
  { recs := if sel e then g.recs ++ [(loc, e, moved)] else g.recs, gone := if moved then g.gone ++ [(e.tid, e.key)] else g.gone }

/-- Scan entries in location order until `n` records are gathered; the location at which the scan stopped, none at the end. -/
def scanWalk (w : Walk) (sel : Entry → Bool) (n : Nat) : List (Nat × Entry) → Gather → Gather × Option Nat
  | [], g => (g, none)
  | (loc, e) :: rest, g =>
    if g.recs.length ≥ n then (g, some loc)
    else scanWalk w sel n rest (g.visit sel (walkMark w e.tid e.key == some true) loc e)

/-- The CARRY keys of a walk, first in the list first, returned ahead of the scan, at most `n` of them. -/
def carryWalk (s : State) (w : Walk) (sel : Entry → Bool) (n : Nat) : Gather :=
  (w.moved.filter fun m => !m.2.2).foldl (fun g m =>
    if g.recs.length ≥ n then g
    else
      match tabCfgAt s m.1 with
      | some c => (match findEntry s m.1 c.width m.2.1 with | some (loc, e) => g.visit sel true loc e | none => g)
      | none => g) {}

/-- The walk after a command: its cursor's new place and its list; none when the walk has ended.
DESIGN CHOICE, log 32. -/
def runWalk (s : State) (w : Walk) (sel : Entry → Bool) (n : Nat) : Gather × Option Walk :=
  let g := carryWalk s w sel n
  let es := s.tbl.slots.filterMap fun x =>
    match x.2 with | some e => if decide (x.1 ≥ w.pos) && bit w.mask e.tid then some (x.1, e) else none | none => none
  let r := scanWalk w sel n es g
  let moved := w.moved.filter fun m => !r.1.gone.contains (m.1, m.2.1)
  let carry := moved.any fun m => !m.2.2
  match r.2 with
  | some p => (r.1, some { w with pos := p, moved := moved, last := s.cycles })
  | none => (r.1, if carry then some { w with pos := 2 ^ 32, moved := moved, last := s.cycles } else none)

/-- A walk command on the tables of `mask`: up to `n` records of the entries `sel` chooses; `clear` clears HIT of the entries examined. NEXT and HITS
may continue each other's walks over the same mask. DESIGN CHOICE, log 65. -/
def walkCmd (cursor mask n : Nat) (sel : Entry → Bool) (clear : Bool) (s : State) : Ans :=
  let w? : Option Walk := if cursor = 0 then some ⟨s.tbl.cursors + 1, mask, 0, s.cycles, []⟩ else walkAt s cursor
  if cursor = 0 ∧ s.tbl.walks.length ≥ 4 then refuse Code.noCursor s
  else
    match w? with
    | none => refuse Code.badCursor s
    | some w =>
      if w.mask ≠ mask then refuse Code.badArg s
      else
        let r := runWalk s w sel n
        let others := s.tbl.walks.filter fun x => decide (x.cursor ≠ w.cursor)
        let recs := (r.1.recs.map fun x => entryRecord s x.1 x.2.1 x.2.2).flatten
        let stop := match r.2 with | some w' => w'.pos | none => 2 ^ 32
        let seen (loc : Nat) (e : Entry) : Bool :=
          clear && bit mask e.tid && ((decide (w.pos ≤ loc) && decide (loc < stop)) || r.1.gone.contains (e.tid, e.key))
        let slots := s.tbl.slots.map fun x => (x.1, x.2.map fun e => if seen x.1 e then { e with hit := 0 } else e)
        let s := modTbl (fun t => { t with slots := slots, walks := others ++ r.2.toList, cursors := max t.cursors w.cursor }) s
        .reply (if r.2.isNone then Code.walkEnd else Code.done) (bytesOf ([w32 w.cursor, w32 (b2n r.2.isNone)] ++ recs)) s

/-- TABLE.NEXT: cursor or 0, table mask, count. A mask of 0 is BAD_ARG; a table that is not configured may be named, and returns nothing.
DESIGN CHOICE, log 65. -/
def tableNextCmd (a : List W32) (s : State) : Ans :=
  if arg a 1 = 0 ∨ arg a 1 > 255 ∨ arg a 2 = 0 ∨ arg a 2 > 96 then refuse Code.badArg s
  else walkCmd (arg a 0) (arg a 1) (arg a 2) (fun _ => true) false s

/-- Meaning of TABLE_NEXT. -/
def execTableNext (v : Via) (a : List W32) (s : State) : Out := tableCommand 0x0505 tableNextCmd v a s

/-- TABLE.HITS: cursor or 0, table, count, SELECT (0 all, 1 HIT set, 2 HIT clear), CLEAR. A table that is not configured may be named.
DESIGN CHOICE, log 65. -/
def tableHitsCmd (a : List W32) (s : State) : Ans :=
  if arg a 1 > 7 ∨ arg a 2 = 0 ∨ arg a 2 > 96 ∨ arg a 3 > 2 ∨ arg a 4 > 1 then refuse Code.badArg s
  else
    walkCmd (arg a 0) (2 ^ arg a 1) (arg a 2)
      (fun e => decide (arg a 3 = 0) || (decide (arg a 3 = 1) == decide (e.hit ≠ 0))) (arg a 4 == 1) s

/-- Meaning of TABLE_HITS. -/
def execTableHits (v : Via) (a : List W32) (s : State) : Out := tableCommand 0x0506 tableHitsCmd v a s

/-- Close a walk. -/
def closeWalk (cursor : Nat) (s : State) : State :=
  modTbl (fun t => { t with walks := t.walks.filter fun x => decide (x.cursor ≠ cursor) }) s

/-- TABLE.WALK_CLOSE: cursor. -/
def walkCloseCmd (a : List W32) (s : State) : Ans :=
  checked [((walkAt s (arg a 0)).isNone, Code.badCursor)] (fun s => ok [] (closeWalk (arg a 0) s)) s

/-- Meaning of TABLE_WALK_CLOSE. -/
def execTableWalkClose (v : Via) (a : List W32) (s : State) : Out := tableCommand 0x0507 walkCloseCmd v a s

/-- A walk with no command for 10 s closes. -/
def walkTimeout (cursor : Nat) (s : State) : State :=
  match walkAt s cursor with
  | some w => if w.last + 10000000000 ≤ s.cycles then closeWalk cursor s else s
  | none => s

/-- Meaning of WALK_TIMEOUT. -/
def execWalkTimeout (w : Nat) (s : State) : Out := .next (walkTimeout w s)

/-! ### Flushes (R169) -/

/-- The locations of the entries that `p` chooses, ascending. -/
def flushLocs (p : Entry → Bool) (s : State) : List Nat :=
  s.tbl.slots.filterMap fun x => match x.2 with | some e => if p e then some x.1 else none | none => none

/-- Remove every entry that `p` chooses; the answer is their number. -/
def flushAns (p : Entry → Bool) (s : State) : Ans :=
  let ls := flushLocs p s
  workAns Code.done (bytesOf [w32 ls.length]) (ls.map .remove) s

/-- TABLE.FLUSH_PORT: table mask, DEST_KIND, DEST. -/
def flushPortCmd (a : List W32) (s : State) : Ans :=
  let m := arg a 0
  let kindBad (t : Nat) : Bool := match tabCfgAt s t with | some c => decide (c.kind ≠ 1) && decide (c.kind ≠ 3) | none => true
  checked [
    (decide (m = 0) || decide (m > 255) || (List.range 8).any (fun t => bit m t && kindBad t) || decide (arg a 1 > 1)
      || (if arg a 1 = 0 then badPort s (arg a 2) else decide (arg a 2 > 255)), Code.badArg)]
    (flushAns fun e => bit m e.tid && decide (bits e.data 11 10 = arg a 1) && decide (bits e.data 9 0 = arg a 2)) s

/-- Meaning of TABLE_FLUSH_PORT. -/
def execTableFlushPort (v : Via) (a : List W32) (s : State) : Out := tableCommand 0x0508 flushPortCmd v a s

/-- TABLE.FLUSH_TABLE: table. -/
def flushTableCmd (a : List W32) (s : State) : Ans :=
  checked [(decide (arg a 0 > 7) || (tabCfgAt s (arg a 0)).isNone, Code.badArg)]
    (flushAns fun e => decide (e.tid = arg a 0)) s

/-- Meaning of TABLE_FLUSH_TABLE. -/
def execTableFlushTable (v : Via) (a : List W32) (s : State) : Out := tableCommand 0x0509 flushTableCmd v a s

/-! ### TABLE.STATUS and registers (R513) -/

/-- Stash slots in use. -/
def stashUsed (s : State) : Nat := ((stashEntries s).map fun x => 1 + b2n x.2.wide).sum

/-- TBL_STATUS. -/
def tblStatus (s : State) : W32 :=
  packW [(0, b2n s.tbl.work.isSome), (1, s.tbl.walks.length), (4, b2n s.tbl.seedSet), (5, s.mint.split), (7, stashUsed s)
    , (14, b2n !s.tbl.fixup.isEmpty)]

/-- TBL_LTAB_CFG of a table. -/
def ltabCfg (s : State) (t : Nat) : W32 :=
  match tabCfgAt s t with
  | some c => packW [(0, c.kind), (2, c.width), (10, b2n (decide (c.width > 96))), (11, 1)]
  | none => 0#32

/-- TABLE.STATUS. -/
def tableStatusCmd (_ : List W32) (s : State) : Ans :=
  ok (tblStatus s :: ((List.range 8).map fun t =>
    [ltabCfg s t, w32 (usedSlots s t), w32 (match tabCfgAt s t with | some c => c.quota | none => 0)]).flatten) s

/-- Meaning of TABLE_STATUS. -/
def execTableStatus (v : Via) (a : List W32) (s : State) : Out := tableCommand 0x0582 tableStatusCmd v a s

/-! ### The learn filter (R165) -/

/-- Entries of a slice's learn filter whose hold of 1 s ± 1 ms has ended leave it. DESIGN CHOICE, log 32. -/
def learnFilterExpire (k : Nat) (s : State) : State :=
  modLkp k (fun u => { u with filter := u.filter.filter fun e => decide (timeTotal s < e.2.2 + 999000000) }) s

/-- Meaning of LEARN_FILTER_EXPIRE. -/
def execLearnFilterExpire (k : Nat) (s : State) : Out := onUnit (sliceEnabled s k) (learnFilterExpire k s)

end Sys2Proof.Machine
end

