-- ==== Sys2Proof/Machine/LedgerFam.lean ====
section
/-! DEFINITION. The tenant Ledger (chapter 11): epoch boundaries, banks, the drain, records and tags, and the LEDGER commands. -/
namespace Sys2Proof.Machine

/-! ### The boundary and what follows it (R259 to R261) -/

/-- Meaning of LEDGER_EPOCH_BOUNDARY. -/
def execLedgerEpochBoundary (s : State) : Out := .next (ledgerBoundary s)

/-- The grace windows that are 100 µs old end (R260). -/
def graceEnd (s : State) : State :=
  (List.range 3).foldl (fun s b =>
    let k := bankAt s b
    if k.state = 2 && k.grace && decide (s.cycles ≥ k.closedAt + 100000) then setBank b { k with grace := false } s else s) s

/-- Meaning of GRACE_WINDOW_END. -/
def execGraceWindowEnd (s : State) : Out := .next (graceEnd s)

/-- Seal a bank: every slice flushes its rows for it (R257, R258). -/
def sealBank (b : Nat) (s : State) : State :=
  let s := flushAll (fun x => x == b) s
  let s := setBank b { bankAt s b with state := 3, grace := false } s
  { s with led := { s.led with sealed := s.led.sealed ++ [b] } }

/-- A console sample of the epoch that a bank covers is still in its output period: its energy is to come (R265, R307). -/
def energyDue (s : State) (k : Bank3) : Bool :=
  filterOn s && (List.range 4).any fun i =>
    let g : ConGroup := tabGet {} s.con.groups i
    g.run && decide (g.periodAt < k.endAt) && decide (timeTotal s * 2 ^ 32 ≤ g.periodAt * 2 ^ 32 + g.osr * g.div * s.time.incr)

/-- Every CLOSED bank whose grace window has ended and whose energy has come is sealed (R260, Table 11-3). -/
def bankSeal (s : State) : State :=
  (List.range 3).foldl (fun s b => let k := bankAt s b; if k.state = 2 && !k.grace && !energyDue s k then sealBank b s else s) s

/-- Meaning of BANK_SEAL. -/
def execBankSeal (s : State) : Out := .next (bankSeal s)

/-! ### Records (R268 to R271, Table 11-4) -/

/-- The 144 bytes of a row (R255). -/
def rowBytes (r : Row) : List Byte :=
  ((List.range 12).map fun j => let p := tabGet (0, 0) r.pairs j; leBytes 5 p.1 ++ leBytes 7 p.2).flatten

/-- What a record says beside its bank: tenant or port, KIND, row, energy, ENERGY_GAP and RECORDS. -/
structure RecordOf where
  who     : Nat
  kind    : Nat
  row     : Row
  energy  : Nat := 0
  gap     : Bool := false
  records : Nat := 0

/-- Word 0x04 of a record of bank `b`, with POISON 0. -/
def recordFlags (s : State) (b : Bank3) (x : RecordOf) : W32 :=
  packW [(0, x.who), (14, x.kind), (16, b2n b.interrupted), (17, b2n (decide (b.span > 1))), (18, b2n x.row.unreliable)
    , (20, b2n x.row.lateIn), (21, b2n x.row.saturated), (22, b2n x.gap), (24, s.led.keyId)]

/-- Body bytes 0x00-0xB7 of a record. -/
def recordBody (s : State) (b : Bank3) (x : RecordOf) : List Byte :=
  let sec (t : Nat) : Nat := t / 1000000000
  bytesOf [w32 b.epoch, recordFlags s b x, w32 (b.startAt % 1000000000), w32 (sec b.startAt)
    , packW [(0, sec b.startAt / 2 ^ 32 % 2 ^ 16), (16, min b.span 65535)], w32 (b.endAt % 1000000000), w32 (sec b.endAt)
    , packW [(0, sec b.endAt / 2 ^ 32 % 2 ^ 16), (16, x.records)], w32 x.energy, w32 (x.energy / 2 ^ 32)] ++ rowBytes x.row

/-- The key in use (R271): the all-zero key until one is installed. DEDUCED, log 34. -/
def ledgerKey (s : State) : List Byte := if s.led.keyId = 0 then List.replicate 16 0#8 else s.led.key

/-- A record with its tag (R270). DEDUCED, log 34. -/
def sealRecord (s : State) (body : List Byte) : List Byte := body ++ (cmac (ledgerKey s) (leBytes 8 s.led.source ++ body)).take 8

/-- The outlet map that applies to a closed bank's energy: the one in force over its epoch, for a merged bank the one in force at the drain
(R266). A word that reads as poison reads as its reset value 0 (R460). -/
def mapOf (s : State) (b : Bank3) : Tab W32 :=
  (if b.span > 1 then s.led.mapAct else b.map).filter fun e => !poisoned s (.outletMap e.1)

/-- The tenant that a map bills outlet `o` to (R266). DESIGN CHOICE, log 33. -/
def outletTenant (m : Tab W32) (o : Nat) : Nat :=
  let w := tabGet 0#32 m o
  if bit w.toNat 14 then fld w 13 0 else 0

/-- A tenant's energy in a bank (R266). -/
def tenantEnergy (s : State) (b : Bank3) (t : Nat) : Nat :=
  (((List.range 32).filter fun o => outletTenant (mapOf s b) o = t).map fun o => tabGet 0 b.energy o).sum % 2 ^ 64

/-- A record is formed for the row (R268). -/
def rowCounts (r : Row) : Bool := r.pairs.any fun e => decide (e.2 ≠ (0, 0))

/-- The words of bank `b`'s rows that carry poison: (tenant, word) (R264). -/
def poisonRows (s : State) (b : Nat) : List (Nat × Nat) :=
  if s.mem.poison.isEmpty then []
  else ((List.range 16384).map fun t => ((List.range 18).filter fun w => poisoned s (.ledgerRow b t w)).map fun w => (t, w)).flatten

/-- Each poisoned row word that the drain reads marks its row UNRELIABLE and counts (R264). -/
def markPoison (b : Nat) (s : State) : State :=
  (poisonRows s b).foldl (fun s x =>
    let k := bankAt s b
    let s := setBank b { k with rows := tabSet {} k.rows x.1 { tabGet {} k.rows x.1 with unreliable := true } } s
    countPoison 2 true (bump Ctr.ldgUnreliable s)) s

/-- The tenant records' contents. -/
def tenantRecords (s : State) (b : Bank3) : List RecordOf :=
  (List.range 16384).filterMap fun t =>
    let r := tabGet {} b.rows t
    let e := tenantEnergy s b t
    if rowCounts r || r.unreliable || decide (e ≠ 0) then
      some { who := t, kind := 0, row := r, energy := e, gap := b.gaps.any fun o => outletTenant (mapOf s b) o == t }
    else none

/-- The plain records' contents (R275). -/
def plainRecords (b : Bank3) : List RecordOf :=
  b.plain.filterMap fun e => if rowCounts e.2 then some { who := e.1, kind := 1, row := e.2 } else none

/-- The summary record's pairs: the sums over the tenant records (R268). DESIGN CHOICE, log 33. -/
def summaryRow (rs : List RecordOf) : Row :=
  { pairs := (List.range 12).foldl (fun m j =>
      let f := (rs.map fun r => (tabGet (0, 0) r.row.pairs j).1).sum % 2 ^ 40
      let o := (rs.map fun r => (tabGet (0, 0) r.row.pairs j).2).sum % 2 ^ 56
      tabSet (0, 0) m j (f, o)) [] }

/-- All records of a bank in their order, with their tags (R268, R270). DESIGN CHOICE, log 33. -/
def bankRecords (s : State) (b : Bank3) : List (List Byte) :=
  let ts := tenantRecords s b
  let rs := plainRecords b ++ ts
  let energy := ((List.range 32).map fun o => tabGet 0 b.energy o).sum % 2 ^ 64
  let sum : RecordOf := { who := 0, kind := 2, row := summaryRow ts, energy := energy, records := rs.length }
  (rs ++ [sum]).map fun x => sealRecord s (recordBody s b x)

/-! ### The drain and the archive (R261, R272) -/

/-- The archive can take a record: it lies in LPDDR5X memory that can be used (R262), within ARCH_SIZE, and within 4,096 epochs. -/
def archRoom (s : State) (written : Nat) : Bool :=
  domainWorks s 32 && s.mem.ddrReady && !s.mem.ddrFail
    && decide ((s.led.arch.map fun e => e.records.length).sum + written < s.led.archSize * 2 ^ 26 / 192)
    && decide (s.led.arch.length < 4096)

/-- Records `todo` of a drain that finds room, at most `n`: those written and those left. -/
def writeArchive (s : State) : Nat → List (List Byte) → List (List Byte) → List (List Byte) × List (List Byte)
  | 0, done, todo => (done, todo)
  | _ + 1, done, [] => (done, [])
  | n + 1, done, r :: todo => if archRoom s done.length then writeArchive s n (done ++ [r]) todo else (done, r :: todo)

/-- The drain writes as far as the archive has room; without room it pauses and LDG_ARCH_WAIT counts (R261). -/
def runDrain (d : Drain) (s : State) : State :=
  let w := writeArchive s d.todo.length d.done d.todo
  let stop := !w.2.isEmpty
  let e := (bankAt s d.bank).epoch
  let s := (List.range w.1.length).foldl (fun s i =>
    if i < d.done.length then s else (List.range 24).foldl (fun s w => cleanse (.archived e i w) s) s) s
  bumpIf (stop && (!d.paused || decide (w.1.length > d.done.length))) Ctr.ldgArchWait
    { s with led := { s.led with drain := some { d with done := w.1, todo := w.2, paused := stop } } }

/-- Words of the bank's rows are zeroed with fresh check bits (R264). -/
def cleanseRows (b : Nat) (s : State) : State := (poisonRows s b).foldl (fun s x => cleanse (.ledgerRow b x.1 x.2) s) s

/-- The drain engine takes the next SEALED bank, forms its records and zeroes its rows (R261). -/
def drainStart (s : State) : State :=
  match s.led.drain, s.led.sealed with
  | none, b :: rest =>
    let s := markPoison b s
    let k := bankAt s b
    let rs := bankRecords s k
    let s := countDefaults 2 ((List.range 32).filter fun o => poisoned s (.outletMap o)).length (cleanseRows b s)
    let s := setBank b { k with state := 4, rows := [], plain := [] } s
    runDrain ⟨b, rs, [], false⟩ { s with led := { s.led with sealed := rest } }
  | _, _ => s

/-- Meaning of DRAIN_START. -/
def execDrainStart (s : State) : Out := .next (drainStart s)

/-- A paused drain goes on (R261). -/
def drainResume (s : State) : State :=
  match s.led.drain with
  | some d => if d.paused then runDrain d s else s
  | none => s

/-- Meaning of DRAIN_RESUME. -/
def execDrainResume (s : State) : Out := .next (drainResume s)

/-- The last record is in the archive: the bank becomes READY (R261). -/
def drainDone (s : State) : State :=
  match s.led.drain with
  | some d =>
    if d.todo.isEmpty then
      let e := (bankAt s d.bank).epoch
      let s := setBank d.bank {} s
      { s with led := { s.led with drain := none, arch := s.led.arch ++ [{ epoch := e, records := d.done }] } }
    else s
  | none => s

/-- Meaning of DRAIN_DONE. -/
def execDrainDone (s : State) : Out := .next (drainDone s)

/-! ### Sending (R269, R273, R274) -/

/-- The next archived record to send: the position of its epoch in the archive and its number in it. -/
def nextRecord (s : State) : Option (Nat × Nat) :=
  (s.led.arch.findIdx? fun e => decide (e.sent < e.records.length)).map fun i => (i, (s.led.arch.getD i { epoch := 0, records := [] }).sent)

/-- The record goes up as 192 bytes; POISON is set when any of its 24 words carries poison (R274). -/
def sendRecord (s : State) : Option (List Byte × State) :=
  (nextRecord s).map fun ij =>
    let e := s.led.arch.getD ij.1 { epoch := 0, records := [] }
    let body := e.records.getD ij.2 []
    let words := (List.range 24).filter fun w => poisoned s (.archived e.epoch ij.2 w)
    let bad := !words.isEmpty
    let body := if bad then body.set 6 (body.getD 6 0#8 ||| 8#8) else body
    let sent := e.sent + 1
    let e := { e with sent := sent, once := e.once || decide (sent ≥ e.records.length) }
    let s := bump Ctr.ldgRecords (bumpBy (Ctr.memPoisonRead 8) words.length (bumpIf bad Ctr.ldgArchPoison s))
    (body, { s with led := { s.led with arch := s.led.arch.set ij.1 e } })

/-! ### Commands (Table 11-5) -/

/-- A period that the Ledger accepts: whole seconds, 1 to 3,600 (R276). -/
def ledgerPeriod (p : Nat) : Bool := decide (p % 1000000000 = 0) && decide (1000000000 ≤ p) && decide (p ≤ 3600000000000)

/-- Name the ledger trigger: at once when none was named before, otherwise from the next boundary of the previous one (R276).
DESIGN CHOICE, log 33. -/
def nameTrigger (t : Nat) (s : State) : State :=
  if s.led.trigSet then
    { s with led := { s.led with trigNext := if t = s.led.trigger then none else some t } }
  else { s with led := { s.led with trigSet := true, trigger := t, due := [] } }

/-- LEDGER.CONFIG: trigger, ARCH_SIZE in units of 64 MiB. -/
def ledgerConfigCmd (a : List W32) (s : State) : Ans :=
  let t := arg a 0
  let n := arg a 1
  checked [
    (decide (t > 15) || decide (n > 256) || !ledgerPeriod (trigAt s t).act.period, Code.badArg),
    (decide (n ≠ 0) && decide (n ≠ s.led.archSize) && (!s.led.arch.isEmpty || s.led.drain.isSome), Code.conflict)] (fun s =>
      let s := { s with led := { s.led with archSize := if n ≠ 0 then n else if s.led.archSize = 0 then 16 else s.led.archSize } }
      ok [] (nameTrigger t s)) s

/-- Meaning of LEDGER_CONFIG. -/
def execLedgerConfig (v : Via) (a : List W32) (s : State) : Out := tcsCommand 0x0901 ledgerConfigCmd v a s

/-- LEDGER.KEY_SET: KEY_ID, key (four words), SOURCE_ID (two words). DEDUCED, log 34. -/
def ledgerKeySetCmd (a : List W32) (s : State) : Ans :=
  checked [(decide (arg a 0 = 0) || decide (arg a 0 > 255), Code.badArg)] (fun s =>
    let key := arg a 1 + arg a 2 * 2 ^ 32 + arg a 3 * 2 ^ 64 + arg a 4 * 2 ^ 96
    ok [] { s with led := { s.led with keyId := arg a 0, key := beBytes 16 key, source := arg a 5 + arg a 6 * 2 ^ 32 } }) s

/-- Meaning of LEDGER_KEY_SET. -/
def execLedgerKeySet (v : Via) (a : List W32) (s : State) : Out := tcsCommand 0x0902 ledgerKeySetCmd v a s

/-- LEDGER.ACK: epoch (R273). DESIGN CHOICE, log 33. -/
def ledgerAckCmd (a : List W32) (s : State) : Ans :=
  let e := arg a 0
  checked [
    ((s.led.arch.any fun x => decide (x.epoch ≤ e) && !x.once)
      || ((List.range 3).any fun b => decide ((bankAt s b).state ≠ 0) && decide ((bankAt s b).epoch ≤ e)), Code.badArg)] (fun s =>
    ok [] { s with led := { s.led with arch := s.led.arch.filter fun x => decide (x.epoch > e) } }) s

/-- Meaning of LEDGER_ACK. -/
def execLedgerAck (v : Via) (a : List W32) (s : State) : Out := tcsCommand 0x0903 ledgerAckCmd v a s

/-- The oldest epoch that LEDGER.ACK has not released: of the archive, else of the banks. -/
def oldestEpoch (s : State) : Nat :=
  match s.led.arch with
  | x :: _ => x.epoch
  | [] => ((List.range 3).filterMap fun b => let k := bankAt s b; if k.state ≠ 0 then some k.epoch else none).foldl min s.led.epoch

/-- LEDGER.REPLAY: epoch (R273). Every archived epoch from it on is sent again from its first record, one sent in part among them.
DESIGN CHOICE, log 33. -/
def ledgerReplayCmd (a : List W32) (s : State) : Ans :=
  let e := arg a 0
  checked [(decide (e < oldestEpoch s), Code.notFound)] (fun s =>
    let again (x : ArchEpoch) : ArchEpoch := if x.epoch ≥ e then { x with sent := 0 } else x
    ok [] { s with led := { s.led with arch := s.led.arch.map again } }) s

/-- Meaning of LEDGER_REPLAY. -/
def execLedgerReplay (v : Via) (a : List W32) (s : State) : Out := tcsCommand 0x0904 ledgerReplayCmd v a s

/-- A tenant's row of the OPEN bank with every slice's unflushed deltas. -/
def openRow (s : State) (t : Nat) : Row :=
  let b := s.led.open_
  (List.range 16).foldl (fun r k =>
    ((cacheAt s k).filter fun e => decide (e.1 = b) && decide (e.2.1 = t)).foldl (fun r e => mergeRow e.2.2 r) r) (tabGet {} (bankAt s b).rows t)

/-- LEDGER.ROW_GET: tenant. -/
def ledgerRowGetCmd (a : List W32) (s : State) : Ans :=
  checked [(decide (arg a 0 ≥ 16384), Code.badArg)] (fun s => .reply Code.done (rowBytes (openRow s (arg a 0))) s) s

/-- Meaning of LEDGER_ROW_GET. -/
def execLedgerRowGet (v : Via) (a : List W32) (s : State) : Out := tcsCommand 0x0981 ledgerRowGetCmd v a s

/-- LDG_STATUS. -/
def ldgStatus (s : State) : W32 :=
  let k := bankAt s s.led.open_
  packW [(0, s.led.open_), (2, (bankAt s 0).state), (5, (bankAt s 1).state), (8, (bankAt s 2).state), (11, b2n (decide (k.span > 1)))
    , (12, b2n (match s.led.drain with | some d => d.paused | none => false)), (13, b2n k.interrupted), (14, b2n s.led.plainPending)]

/-- LDG_CFG. -/
def ldgCfg (s : State) : W32 := packW [(0, s.led.trigger), (4, b2n s.led.trigSet), (5, s.led.archSize), (14, s.led.keyId)]

/-- LDG_ARCH_OLDEST. -/
def ldgOldest (s : State) : W32 := w32 (match s.led.arch with | x :: _ => x.epoch | [] => 0)

/-- LEDGER.STATUS (R516). The archive holds the records of its epochs and those that a drain in progress has written. -/
def ledgerStatusCmd (_ : List W32) (s : State) : Ans :=
  ok [ldgStatus s, w32 s.led.arch.length, ldgOldest s, w32 (match s.led.arch.getLast? with | some x => x.epoch | none => 0)
    , w32 ((s.led.arch.map fun x => x.records.length).sum + (match s.led.drain with | some d => d.done.length | none => 0)), w32 s.led.keyId, w32 s.led.source, w32 (s.led.source / 2 ^ 32)] s

/-- Meaning of LEDGER_STATUS. -/
def execLedgerStatus (v : Via) (a : List W32) (s : State) : Out := tcsCommand 0x0982 ledgerStatusCmd v a s

end Sys2Proof.Machine
end

