-- ==== Sys2Proof/Machine/TimeFam.lean ====
section
/-! DEFINITION. Device time, its ticks and triggers, timestamps, 1PPS and event inputs (chapter 12), and the TIME commands. -/
namespace Sys2Proof.Machine

/-- Device time runs: the time block has been released since the last cold reset (Table 18-2 step 2). -/
def timeRuns (s : State) : Bool := decide (s.dev.step ≥ 2)

/-- The total of device time with FRAC, in units of 2^-32 ns. -/
def timeExact (s : State) : Nat := timeTotal s * 2 ^ 32 + s.time.frac

/-- Cycles of the timing clock until device time reaches or passes a total (R278, R295). -/
def cyclesTo (n : Nat) (s : State) : Nat := (n * 2 ^ 32 - timeExact s + s.time.incr - 1) / s.time.incr

/-- Device time reaches or passes a total: the timing clock runs as many cycles as that takes, each adding INCR (R278).
DESIGN CHOICE, log 20. -/
def advanceTo (n : Nat) (s : State) : State :=
  if n ≤ timeTotal s then s
  else
    let v := timeExact s + cyclesTo n s * s.time.incr
    setTimeTotal (v / 2 ^ 32) { s with cycles := s.cycles + cyclesTo n s, time := { s.time with frac := v % 2 ^ 32 } }

/-! ### Triggers (R285, R295) -/

/-- START as a total of device time. -/
def TrigCfg.start (c : TrigCfg) : Nat := c.startSec * 1000000000 + c.startNs

/-- The first instant of a trigger's grid strictly after `now`. -/
def nextAfter (c : TrigCfg) (now : Nat) : Option Nat :=
  if !c.en then none
  else if now < c.start then some c.start
  else if c.period = 0 then none
  else some (c.start + ((now - c.start) / c.period + 1) * c.period)

/-- The instants of a trigger from its next one, `n`, up to `now`: how many, and the last of them.
DEDUCED, log 19. -/
def passed (c : TrigCfg) (n now : Nat) : Nat × Nat :=
  if c.period = 0 then (1, n) else let k := (now - n) / c.period; (k + 1, n + k * c.period)

/-- Replace a trigger. -/
def setTrig (t : Nat) (v : Trigger) (s : State) : State := { s with time := { s.time with triggers := tabSet {} s.time.triggers t v } }

/-- PPS_WIDTH in force, in µs. -/
def ppsWidth (s : State) : Nat := fld s.time.ppsAct 19 4

/-- An event input. -/
def evAt (s : State) (i : Nat) : EvInput := tabGet {} s.time.evs i
/-- Replace an event input. -/
def setEv (i : Nat) (v : EvInput) (s : State) : State := { s with time := { s.time with evs := tabSet {} s.time.evs i v } }

/-- What the time block itself does at an instant of trigger `t`: the 1PPS output rises (R298), event inputs are armed (R299). -/
def deliver (t : Nat) (s : State) : State :=
  let s := if fld s.time.ppsAct 3 0 = t && decide (ppsWidth s > 0) then
      { s with time := { s.time with ppsOut := true, ppsAt := s.cycles } } else s
  (List.range 4).foldl (fun s i =>
    let e := evAt s i
    if fld e.act 1 0 = 2 && decide (fld e.act 7 4 = t) then setEv i { e with armed := true } s else s) s

/-- A trigger whose next instant has come fires, once for all instants that have passed (R285, R295).
DEDUCED, log 19. -/
def fire (t : Nat) (s : State) : State :=
  let g := trigAt s t
  match g.next with
  | some n =>
    let p := passed g.act n (timeTotal s)
    let s := setTrig t { g with next := nextAfter g.act (timeTotal s), fires := g.fires + 1, lastAt := p.2, lastN := p.1 } s
    let s := noteInstant t p.1 p.2 s
    deliver t (bump (Ctr.timTrigFire t) (bumpBy (Ctr.timTrigSkip t) (p.1 - 1) s))
  | none => s

/-- Some trigger's next instant lies before `n`. DESIGN CHOICE, log 20. -/
def dueBefore (s : State) (n : Nat) : Bool :=
  (List.range 16).any fun t => match (trigAt s t).next with | some x => decide (x < n) | none => false

/-- Device time reaches the next instant of trigger `t`, unless a tick or another trigger comes before it, and the trigger fires.
DESIGN CHOICE, log 20. -/
def triggerFire (t : Nat) (s : State) : State :=
  match (trigAt s t).next with
  | some n => if timeRuns s && decide (n < s.time.nextTick) && !dueBefore s n then fire t (advanceTo n s) else s
  | none => s

/-- Meaning of TRIGGER_FIRE. -/
def execTriggerFire (t : Nat) (s : State) : Out := onUnit (decide (t < 16)) (triggerFire t s)

/-! ### The tick (R279, R284) -/

/-- Log a buffered value refused at the tick (R282, R295, R473). DESIGN CHOICE, log 21. -/
def logTick (off : Nat) (val : W32) (s : State) : State := logAccess .boundary false (Region.time + off) val 15#4 s

/-- A committed pair takes effect as INCR, or is refused when it lies outside its range; a TIM_INCR_LO written since stays staged (R282).
DESIGN CHOICE, log 21. -/
def tickIncr (s : State) : State :=
  match s.time.incrCommit with
  | some (lo, hi) =>
    let v := lo.toNat + hi.toNat * 2 ^ 32
    let s := { s with time := { s.time with incrCommit := none } }
    if 0x0F0000000 ≤ v ∧ v ≤ 0x110000000 then
      { s with time := { s.time with incr := v, incrOld := (lo, hi) } }
    else
      logTick 0xC hi { s with time := { s.time with
        incrLo := if s.time.incrLo = lo then s.time.incrOld.1 else s.time.incrLo
        incrHi := s.time.incrOld.2 } }
  | none => s

/-- A PERIOD that R295 reserves. -/
def badPeriod (p : Nat) : Bool := (decide (1 ≤ p) && decide (p ≤ 999)) || decide (p > 3600000000000)

/-- A trigger's TIM_TRIG_CFG as written. -/
def trigCfgWord (c : TrigCfg) : W32 := packW [(0, b2n c.en), (1, c.startSec / 2 ^ 32), (17, c.period / 2 ^ 32)]

/-- A trigger's buffered words take effect, or are refused together when PERIOD is reserved (R295).
DESIGN CHOICE, log 21. -/
def tickTrigger (t : Nat) (s : State) : State :=
  let g := trigAt s t
  if g.dirty then
    if badPeriod g.held.period then
      let s := setTrig t { g with held := g.act, dirty := false } s
      if g.held.period < 2 ^ 32 then logTick (0x10C + 0x20 * t) (w32 g.held.period) s
      else logTick (0x100 + 0x20 * t) (trigCfgWord g.held) s
    else setTrig t { g with act := g.held, next := none } s
  else s

/-- An event input's buffered fields take effect; the reserved codes 3 of MODE and EDGE are refused (R299, R473).
DESIGN CHOICE, log 21. -/
def tickEvent (i : Nat) (s : State) : State :=
  let e := evAt s i
  let keep (hi lo : Nat) (w : W32) : W32 := if fld w hi lo = 3 then setFld w hi lo (fld e.act hi lo) else w
  let w := keep 3 2 (keep 1 0 e.held)
  let s := setEv i { e with held := w, act := w, armed := e.armed && decide (w = e.act) } s
  if w = e.held then s else logTick (0x80 + 0x10 * i) e.held s

/-- The 1PPS output stays low while its width is 0 or its trigger disabled (R298). -/
def tickPps (s : State) : State :=
  let s := { s with time := { s.time with ppsAct := s.time.ppsHeld } }
  if ppsWidth s = 0 || !(trigAt s (fld s.time.ppsAct 3 0)).act.en then { s with time := { s.time with ppsOut := false } } else s

/-- A change of the clock reference takes effect: the PLL relocks (R297). -/
def tickClock (s : State) : State :=
  if s.time.clkSrc = s.time.clkAct then s else { s with time := { s.time with clkAct := s.time.clkSrc, lock := false } }

/-- Item 1 of R284: INCR, and everything buffered to the tick. DESIGN CHOICE, log 20. -/
def tickApply (s : State) : State :=
  tickPps ((List.range 4).foldl (fun s i => tickEvent i s) ((List.range 16).foldl (fun s t => tickTrigger t s) (tickClock (tickIncr s))))

/-- Item 2 of R284: an armed step is added, or rejected (R283). -/
def tickStep (s : State) : State :=
  if s.time.stepPending then
    let s := { s with time := { s.time with stepPending := false } }
    let t : Int := (timeTotal s : Int) + sgn 64 (s.time.stepLo.toNat + s.time.stepHi.toNat * 2 ^ 32)
    if t < 0 ∨ t ≥ (2 ^ 48 * 1000000000 : Nat) then bump Ctr.timStepReject s else setTimeTotal t.toNat s
  else s

/-- Item 3 of R284 for one trigger, with the time before the step: a fresh configuration takes its first instant after the stepped time; a
forward step fires a trigger whose instants it passed; a backward step moves it to its first instant after the stepped time (R285). -/
def tickNext (before : Nat) (t : Nat) (s : State) : State :=
  let g := trigAt s t
  let now := timeTotal s
  if g.dirty then setTrig t { g with dirty := false, next := nextAfter g.act now } s
  else if now > before then
    match g.next with
    | some n => if n ≤ now then fire t s else s
    | none => s
  else if now < before then setTrig t { g with next := nextAfter g.act now } s
  else s

/-- TIME.TRIGGER_SET at a tick: the words are written at the first, in force and acknowledged at the second (R392). -/
def tickJob (s : State) (vj : Via × Job) : State :=
  match vj.2.kind with
  | .trigger t en ns lo hi plo phi 0 =>
    let g := trigAt s t
    let c : TrigCfg := { en := en, startNs := ns, startSec := lo + hi * 2 ^ 32, period := plo + phi * 2 ^ 32 }
    setChannel vj.1 (.running { vj.2 with kind := .trigger t en ns lo hi plo phi 1 }) (setTrig t { g with held := c, dirty := true } s)
  | .trigger _ _ _ _ _ _ _ _ => setChannel vj.1 (.running { vj.2 with outcome := some (Code.done, []) }) s
  | _ => s

/-- The jobs of TIME.TRIGGER_SET in progress. -/
def isTrigJob (k : JobKind) : Bool := match k with | .trigger .. => true | _ => false

/-- The 1 ms tick (R279, R284). DESIGN CHOICE, log 20. -/
def tickNow (s : State) : State :=
  let s := advanceTo s.time.nextTick s
  let s := tickApply s
  let before := timeTotal s
  let s := tickStep s
  let s := (List.range 16).foldl (fun s t => tickNext before t s) s
  let s := { s with time := { s.time with nextTick := (timeTotal s / 1000000 + 1) * 1000000 } }
  (jobsOf isTrigJob s).foldl tickJob s

/-- Device time reaches the next tick, unless a trigger comes before it. DESIGN CHOICE, log 20. -/
def tick (s : State) : State := if timeRuns s && !dueBefore s s.time.nextTick then tickNow s else s

/-- One cycle of the timing clock with the ticks and firings that device time has reached: what the block does while no command waits.
DESIGN CHOICE, log 5. -/
def idleCycle (s : State) : State :=
  if timeRuns s then
    let s := clockCycle s
    let fireDue (s : State) (t : Nat) : State :=
      match (trigAt s t).next with
      | some n => if n ≤ timeTotal s && decide (n < s.time.nextTick) then fire t s else s
      | none => s
    let s := (List.range 16).foldl fireDue s
    let s := if timeTotal s ≥ s.time.nextTick then tick s else s
    (List.range 16).foldl fireDue s
  else { s with cycles := s.cycles + 1 }

/-! ### Register accesses with rows of their own -/

/-- The write of TIM_INCR_HI commits it, with the last value written to TIM_INCR_LO, for the next tick (R282). -/
def incrCommit (val : W32) (s : State) : State :=
  { s with time := { s.time with incrHi := val, incrCommit := some (s.time.incrLo, val) } }

/-- Meaning of INCR_COMMIT. -/
def execIncrCommit (val : W32) (s : State) : Out := .next (incrCommit val s)

/-- A write of TIM_CTRL: CLK_SRC is held for the tick, a 1 in STEP_ARM arms a step (R283). -/
def stepArm (val : W32) (s : State) : State :=
  { s with time := { s.time with clkSrc := fld val 0 0, stepPending := s.time.stepPending || bit val.toNat 1 } }

/-- Meaning of STEP_ARM. -/
def execStepArm (val : W32) (s : State) : Out := .next (stepArm val s)

/-- The words that a read of TIM_NOW_NS latches (R286). -/
def nowLatch (s : State) : NowLatch :=
  { secLo := w32 s.time.sec, secHi := w32 (s.time.sec / 2 ^ 32), frac := w32 s.time.frac, ns32 := w32 (ns32 s) }

/-- A read of TIM_NOW_NS through a function (R286). DESIGN CHOICE, log 49. -/
def timeNowRead (fn : Fn) (s : State) : State :=
  let s := { s with rsp := w32 s.time.ns }
  match fn with
  | .f0 => { s with time := { s.time with now0 := nowLatch s } }
  | .f1 => { s with time := { s.time with now1 := nowLatch s } }

/-- Meaning of TIME_NOW_READ. -/
def execTimeNowRead (fn : Fn) (s : State) : Out := .next (timeNowRead fn s)

/-- A TX timestamp queue. -/
def tsqAt (s : State) (k : Nat) : Tsq := tabGet {} s.time.tsqs k

/-- A read of TIM_TSQ_META: the head entry is returned and removed, its timestamp latched (R293).
DESIGN CHOICE, log 49. -/
def tsqMetaRead (k : Nat) (s : State) : State :=
  let q := tsqAt s k
  match q.entries with
  | e :: rest => { s with rsp := packW [(0, e.tsId), (16, e.port), (26, 1)]
                          time := { s.time with tsqs := tabSet {} s.time.tsqs k { q with entries := rest, latch := e.ts } } }
  | [] => { s with rsp := 0#32, time := { s.time with tsqs := tabSet {} s.time.tsqs k { q with latch := 0 } } }

/-- Meaning of TSQ_META_READ. -/
def execTsqMetaRead (k : Nat) (s : State) : Out := onUnit (decide (k < 16)) (tsqMetaRead k s)

/-- A read of TIM_EV_META, as R293 gives for TIM_TSQ_META (R299). DESIGN CHOICE, log 21 and 49. -/
def evMetaRead (i : Nat) (s : State) : State :=
  let e := evAt s i
  match e.queue with
  | t :: rest => setEv i { e with queue := rest, latch := t } { s with rsp := packW [(26, 1)] }
  | [] => setEv i { e with latch := 0 } { s with rsp := 0#32 }

/-- Meaning of EV_META_READ. -/
def execEvMetaRead (i : Nat) (s : State) : Out := onUnit (decide (i < 4)) (evMetaRead i s)

/-- A read of TIM_PPS_IN_NS latches TIM_PPS_IN_SEC (R298). DESIGN CHOICE, log 49. -/
def ppsInRead (s : State) : State := { s with rsp := w32 s.time.ppsInNs, time := { s.time with ppsLatch := w32 s.time.ppsInSec } }

/-- Meaning of PPS_IN_READ. -/
def execPpsInRead (s : State) : Out := .next (ppsInRead s)

/-! ### Pins of the time block -/

/-- The 1PPS output goes low PPS_WIDTH after its rise (R298). -/
def ppsWidthEnd (s : State) : State :=
  if s.time.ppsOut && decide (s.cycles ≥ s.time.ppsAt + 1000 * ppsWidth s) then { s with time := { s.time with ppsOut := false } } else s

/-- Meaning of PPS_WIDTH_END. -/
def execPpsWidthEnd (s : State) : Out := .next (ppsWidthEnd s)

/-- A rising edge at the 1PPS input (R298). -/
def ppsInEdge (s : State) : State :=
  bump Ctr.ppsInCount { s with time := { s.time with ppsInNs := s.time.ns, ppsInSec := s.time.sec } }

/-- Meaning of PPS_IN_EDGE. -/
def execPpsInEdge (s : State) : Out := .next (if timeRuns s then ppsInEdge s else s)

/-- An edge at an event input qualifies by MODE and EDGE (R299). -/
def evQualifies (e : EvInput) (rising : Bool) : Bool :=
  (decide (fld e.act 1 0 = 1) || (decide (fld e.act 1 0 = 2) && e.armed))
    && (decide (fld e.act 3 2 = 2) || decide (fld e.act 3 2 = if rising then 0 else 1))

/-- A qualifying edge is captured, or discarded and counted in the 16-bit EV_LOST when the queue is full (R299). -/
def eventEdge (i : Nat) (rising : Bool) (s : State) : State :=
  let e := evAt s i
  if evQualifies e rising then
    let e := { e with armed := false }
    if e.queue.length < 8 then setEv i { e with queue := e.queue ++ [ns32 s] } s
    else
      let n := ((ctrAt s (Ctr.evLost i)).toNat + 1) % 2 ^ 16
      setEv i e { s with ctr := tabSet 0#64 s.ctr (Ctr.evLost i) (BitVec.ofNat 64 n) }
  else s

/-- Meaning of EVENT_INPUT_EDGE. -/
def execEventInputEdge (i : Nat) (rising : Bool) (s : State) : Out := onUnit (decide (i < 4)) (eventEdge i rising s)

/-- The timing clock's PLL has relocked (R297). -/
def pllLock (s : State) : State := if timeRuns s then { s with time := { s.time with lock := true } } else s

/-- Meaning of PLL_LOCK. -/
def execPllLock (s : State) : Out := .next (pllLock s)

/-! ### TIME commands (R392, R517) -/

/-- A gate list of the port names trigger `t`. -/
def gateNames (t : Nat) (g : Gate) : Bool :=
  (match g.oper with | some l => decide (l.trigger = t) | none => false)
    || (match g.pending with | some (some l) => decide (l.trigger = t) | _ => false)

/-- Queue telemetry names trigger `t`. -/
def teleNames (t : Nat) (x : Telemetry) : Bool :=
  (x.on && decide (x.trigger = t)) || (match x.next with | some n => decide (n.1 = t) | none => false)

/-- Consumers that name trigger `t`, in the order of R517. DEDUCED, log 19. -/
def consumers (s : State) (t : Nat) : List Bool := [
  s.led.trigSet && (decide (s.led.trigger = t) || decide (s.led.trigNext = some t)),
  s.txs.any fun e => gateNames t e.2.gate,
  s.tele.any fun e => teleNames t e.2,
  s.con.cycleEn && decide (s.con.cycleTrig = t),
  s.con.frameEn && decide (s.con.frameTrig = t),
  decide (fld s.time.ppsAct 3 0 = t),
  (List.range 4).any fun i => let w := (evAt s i).act; decide (fld w 1 0 = 2) && decide (fld w 7 4 = t),
  bit s.pwr.srcEn 2 && decide (s.pwr.wakeTrig = t)]

/-- Ts of a clock group in cycles of the timing clock (R301). -/
def groupTs (g : ConGroup) : Nat := g.osr * g.div

/-- A period that the console frame start accepts: 1 ms to 3,600 s, a whole multiple of every enabled group's Ts (R305). -/
def framePeriod (groups : List ConGroup) (p : Nat) : Bool :=
  decide (1000000 ≤ p) && decide (p ≤ 3600000000000) && groups.all fun g => !g.en || decide (groupTs g = 0) || decide (p % groupTs g = 0)

/-- The four clock groups. -/
def conGroups (s : State) : List ConGroup := (List.range 4).map fun k => tabGet {} s.con.groups k

/-- Every consumer of trigger `t` accepts the period (Table 12-2). -/
def periodFits (s : State) (t p : Nat) : Bool :=
  let c (i : Nat) : Bool := (consumers s t).getD i false
  (!c 0 || ledgerPeriod p)
    && (!c 1 || (decide (1000 ≤ p) && decide (p ≤ 1000000000)))
    && (!c 2 || (decide (1000 ≤ p) && decide (p ≤ 1000000)))
    && (!c 3 || (decide (50000 ≤ p) && decide (p ≤ 100000000)))
    && (!c 4 || framePeriod (conGroups s) p)

/-- TIME.TRIGGER_SET: trigger, EN, START (NS, two words of SEC), PERIOD (two words). DESIGN CHOICE, log 21. -/
def triggerSetCmd (a : List W32) (s : State) : Ans :=
  let t := arg a 0
  let p := arg a 5 + arg a 6 * 2 ^ 32
  checked [
    (decide (t > 15) || badBool (arg a 1) || decide (arg a 2 ≥ 1000000000) || decide (arg a 4 ≥ 2 ^ 16) || badPeriod p || !periodFits s t p, Code.badArg),
    (jobRunning (fun k => match k with | .trigger u .. => decide (u = t) | _ => false) s, Code.busy)] (fun s =>
      let g := trigAt s t
      .pending (.trigger t (arg a 1 == 1) (arg a 2) (arg a 3) (arg a 4) (arg a 5) (arg a 6) 0)
        (setTrig t { g with held := { g.held with en := false }, dirty := true } s)) s

/-- Meaning of TIME_TRIGGER_SET. -/
def execTimeTriggerSet (v : Via) (a : List W32) (s : State) : Out := tcsCommand 0x0A01 triggerSetCmd v a s

/-- TIM_CTRL. -/
def timCtrl (s : State) : W32 := packW [(0, s.time.clkSrc), (2, b2n s.time.stepPending), (3, b2n s.time.lock)]

/-- A trigger's seven words of TIME.STATUS. -/
def trigWords (s : State) (t : Nat) : List W32 :=
  let c := (trigAt s t).act
  [w32 (b2n c.en), w32 c.startNs, w32 c.startSec, w32 (c.startSec / 2 ^ 32), w32 c.period, w32 (c.period / 2 ^ 32)
    , packW ((consumers s t).zipIdx.map fun x => (x.2, b2n x.1))]

/-- TIME.STATUS (R517). -/
def timeStatusCmd (_ : List W32) (s : State) : Ans := ok (timCtrl s :: ((List.range 16).map (trigWords s)).flatten) s

/-- Meaning of TIME_STATUS. -/
def execTimeStatus (v : Via) (a : List W32) (s : State) : Out := tcsCommand 0x0A81 timeStatusCmd v a s

end Sys2Proof.Machine
end

