-- ==== Sys2Proof/Machine/ConsoleFam.lean ====
section
/-! DEFINITION. The rack console (chapter 13): decimation, energy, trips, control cycles, fans, and the CONSOLE commands. -/
namespace Sys2Proof.Machine

/-! ### Units of the console -/

/-- A clock group. -/
def groupOf (s : State) (k : Nat) : ConGroup := tabGet {} s.con.groups k
/-- Replace a clock group. -/
def setGroupOf (k : Nat) (g : ConGroup) (s : State) : State := { s with con := { s.con with groups := tabSet {} s.con.groups k g } }
/-- A metering input. -/
def inputAt (s : State) (c : Nat) : ConInput := tabGet {} s.con.inputs c
/-- Replace a metering input. -/
def setInput (c : Nat) (v : ConInput) (s : State) : State := { s with con := { s.con with inputs := tabSet {} s.con.inputs c v } }
/-- An outlet. -/
def outletAt (s : State) (o : Nat) : Outlet := tabGet {} s.con.outlets o
/-- Replace an outlet. -/
def setOutlet (o : Nat) (v : Outlet) (s : State) : State := { s with con := { s.con with outlets := tabSet {} s.con.outlets o v } }
/-- An actuator output. -/
def actAt (s : State) (a : Nat) : Actuator := tabGet {} s.con.acts a
/-- Replace an actuator output. -/
def setAct (a : Nat) (v : Actuator) (s : State) : State := { s with con := { s.con with acts := tabSet {} s.con.acts a v } }
/-- A fan. -/
def fanAt (s : State) (f : Nat) : Fan := tabGet {} s.con.fans f
/-- Replace a fan. -/
def setFan (f : Nat) (v : Fan) (s : State) : State := { s with con := { s.con with fans := tabSet {} s.con.fans f v } }

/-! ### Decimation (R303, R304) -/

/-- Decimators of an enabled group stop and wait to start together (R304). -/
def armGroup (k : Nat) (s : State) : State :=
  let g := groupOf s k
  setGroupOf k { g with armed := if g.en then some (trigAt s s.con.frameTrig).fires else none, run := false, priming := 0, runts := 0 } s

/-- Decimators start at the first clock edge at or after the first instant of the frame trigger, or at the first edge while none is named;
their first two outputs are priming outputs (R304). -/
def decimatorStart (k : Nat) (s : State) : State :=
  let g := groupOf s k
  match g.armed with
  | some n =>
    if g.en && filterOn s && (!s.con.frameEn || decide ((trigAt s s.con.frameTrig).fires ≠ n)) then
      let s := setGroupOf k { g with armed := none, run := true, priming := 2, runts := 0, fresh := true, periodAt := timeTotal s } s
      (List.range 64).foldl (fun s c =>
        let i := inputAt s c
        if i.actClk = k && !i.hist.isEmpty then setInput c { i with hist := [] } s else s) s
    else s
  | none => s

/-- Meaning of DECIMATOR_START. -/
def execDecimatorStart (k : Nat) (s : State) : Out := onUnit (decide (k < 4)) (decimatorStart k s)

/-- (m + 1)(m + 2) ÷ 2 for m = j − k, 0 where that is negative. -/
def triangle (j k : Nat) : Int := if j < k then 0 else ((j - k + 1 : Nat) : Int) * ((j - k + 2 : Nat) : Int) / 2

/-- The coefficient h[j] of z^−j in (1 + z^−1 + … + z^−(R−1))³ (R303). DEDUCED, log 36. -/
def sincCoeff (r j : Nat) : Int := triangle j 0 - 3 * triangle j r + 3 * triangle j (2 * r)

/-- y of R303 from the bits, newest first. DEDUCED, log 36. -/
def sincOut (r : Nat) (hist : List Bool) : Int :=
  ((hist.take (3 * r - 2)).zipIdx.map fun b => if b.1 then sincCoeff r b.2 else - sincCoeff r b.2).sum

/-- The bits of an input in one output period, as the console reads them: its last bit again where the stream brings none (R302). -/
def periodBits (g : ConGroup) (i : ConInput) (raw : List Bool) : List Bool :=
  let last := i.hist.headD false
  let seen := (raw.take g.osr).map fun b => b != i.actInv
  seen ++ List.replicate (g.osr - seen.length) (seen.getLastD last)

/-- The input takes part in group `k`. -/
def inputIn (i : ConInput) (k : Nat) : Bool := i.actEn && decide (i.actClk = k)

/-- The received bits enter the histories of the group's inputs. -/
def takeBits (k : Nat) (g : ConGroup) (streams : List (Nat × List Bool)) (s : State) : State :=
  (List.range 64).foldl (fun s c =>
    let i := inputAt s c
    if inputIn i k then
      let raw := (streams.find? fun x => x.1 == c).elim [] (·.2)
      setInput c { i with hist := ((periodBits g i raw).reverse ++ i.hist).take (3 * g.osr) } s
    else s) s

/-! ### Power and energy (R306, R307) -/

/-- What an outlet's sample computes: numerators over D = OSR³ × 2^15 of x − OFF for voltage and current. -/
structure Sample where
  a : Int
  b : Int
  d : Nat
  clip : Bool

/-- The sample of an outlet from the histories of its inputs (R306). DEDUCED, log 36. -/
def sampleOf (s : State) (g : ConGroup) (c : OutletCfg) : Sample :=
  let r3 : Nat := g.osr ^ 3
  let y (n : Nat) : Int := sincOut g.osr (inputAt s n).hist
  let yv := y c.vsel
  let yi := y c.isel
  { a := yv * 2 ^ 15 - c.offv * r3, b := yi * 2 ^ 15 - c.offi * r3, d := r3 * 2 ^ 15
    clip := decide (yv.natAbs * 100 ≥ 99 * r3) || decide (yi.natAbs * 100 ≥ 99 * r3) }

/-- Length of `clocks` modulator clocks in device time, in 2^−32 ns (R306). -/
def spanOf (s : State) (g : ConGroup) (clocks : Nat) : Nat := clocks * g.div * s.time.incr

/-- A fraction with a product added: whole units, and the remainder in lowest terms. -/
def addPart (r : Nat × Nat) (num den : Nat) : Nat × Nat × Nat :=
  let d := r.2 * den
  let n := r.1 * den + num * r.2
  let g := Nat.gcd (n % d) d
  (n / d, n % d / g, d / g)

/-- Energy of num ÷ den units of 2^-16 µJ enters an outlet's accumulator, exactly. A sample that began before the last boundary belongs to
the bank that boundary closed: its whole µJ are delivered there, the fraction stays (R307). -/
def addEnergy (o num den at_ : Nat) (s : State) : State :=
  let x := outletAt s o
  let e := addPart x.part num den
  let acc := x.acc + e.1
  let closed := (List.range 3).find? fun b => let k := bankAt s b; k.state = 2 && k.endAt == (bankAt s s.led.open_).startAt
  match decide (at_ < (bankAt s s.led.open_).startAt), closed with
  | true, some b =>
    let k := bankAt s b
    let s := setBank b { k with energy := tabSet 0 k.energy o ((tabGet 0 k.energy o + acc / 65536) % 2 ^ 64) } s
    setOutlet o { x with acc := acc % 65536, part := e.2 } s
  | _, _ => setOutlet o { x with acc := acc, part := e.2 } s

/-- A sample enters the control window in which its instant lies (R308). -/
def addWindow (o at_ : Nat) (f : Window → Window) (s : State) : State :=
  let x := outletAt s o
  setOutlet o (if at_ < s.con.cycleAt then { x with last := f x.last } else { x with win := f x.win }) s

/-- The power × time of a sample enters a window's sums. -/
def windowPower (p : Int × Nat) (ns : Nat) (w : Window) : Window :=
  { w with pSum := w.pSum + p.1 * 65536 / (p.2 : Int) * ns, dSum := w.dSum + ns }

/-- An actuator latches at SAFE (R314). -/
def tripOutput (a : Nat) (s : State) : State :=
  let x := actAt s a
  setAct a { x with tripped := true, clearing := false, level := x.safe } s

/-- An outlet's trip fires (R314): every output in the mask latches at SAFE, a console event is raised, and Titimus posts an event of class 2. -/
def tripFire (o : Nat) (s : State) : State :=
  let m := (outletAt s o).tripAct.mask
  let s := (List.range 32).foldl (fun s a => if bit m a then tripOutput a s else s) s
  postOpen 2 o (bump Ctr.conTrip { s with con := { s.con with trips := s.con.trips + 1 } })

/-- The trip watches a full sample: |i| above TRIP_I in TRIP_N consecutive samples fires it (R314), but not while R316 bars it.
DESIGN CHOICE, log 35. -/
def watchTrip (o : Nat) (i : Sample) (s : State) : State :=
  let x := outletAt s o
  let t := x.tripAct
  let above := t.en && decide (x.act.ki * i.b.natAbs > t.i * i.d)
  let n := if above then min (x.overs + 1) (if s.con.barred then t.n - 1 else 17) else 0
  let s := setOutlet o { x with overs := n } s
  if above && decide (n = t.n) then tripFire o s else s

/-- Device time of a span in whole ns. -/
def spanNs (span : Nat) : Nat := span / 2 ^ 32

/-- A runt: the power of the last full output over the runt's own duration, in no RMS value (R304).
DESIGN CHOICE, log 35. -/
def runtOutlet (o : Nat) (span at_ : Nat) (s : State) : State :=
  let p := (outletAt s o).lastP
  addEnergy o (p.1.toNat * span * 65536) (p.2 * 2 ^ 32 * 1000000) at_ (addWindow o at_ (windowPower p (spanNs span)) s)

/-- A full output of an outlet (R306 to R308, R310, R314). DESIGN CHOICE, log 35. -/
def fullOutlet (o : Nat) (g : ConGroup) (bad : Bool) (s : State) : State :=
  let x := outletAt s o
  let c := x.act
  let i := sampleOf s g c
  let span := spanOf s g g.osr
  let pq : Int := if bad then 0 else (c.kv * c.ki : Nat) * i.a * i.b
  let p : Int × Nat := (pq, 1000 * i.d * i.d)
  let v : Int := (c.kv * 256 : Nat) * i.a / (i.d : Nat)
  let a : Int := (c.ki * 256 : Nat) * i.b / (i.d : Nat)
  let rms (w : Window) : Window := { w with n := w.n + 1, vSq := w.vSq + v.natAbs ^ 2, iSq := w.iSq + a.natAbs ^ 2 }
  let s := addWindow o g.periodAt (fun w => rms (windowPower p (spanNs span) w)) (setOutlet o { x with lastP := p } s)
  let s := bumpIf i.clip Ctr.conClip s
  watchTrip o i (addEnergy o (p.1.toNat * span * 65536) (p.2 * 2 ^ 32 * 1000000) g.periodAt s)

/-- One outlet in an output period of group `k`: nothing while an input is priming, a runt, or a full output.
DESIGN CHOICE, log 35. -/
def outletOutput (k : Nat) (g : ConGroup) (s : State) (o : Nat) : State :=
  let c := (outletAt s o).act
  let v := inputAt s c.vsel
  let i := inputAt s c.isel
  if c.en && inputIn v k && inputIn i k && decide (g.priming = 0) && decide (v.priming = 0) && decide (i.priming = 0) then
    if g.runts > 0 then (if v.fault || i.fault then s else runtOutlet o (spanOf s g g.osr) g.periodAt s)
    else fullOutlet o g (v.fault || i.fault) s
  else s

/-- Trips are barred no more once every enabled group has started and its third output has come (R316). -/
def unbar (s : State) : State :=
  let late (g : ConGroup) : Bool := g.en && (!g.run || g.fresh)
  if (conGroups s).any late then s else { s with con := { s.con with barred := false } }

/-- A decimator group completes an output period (R303 to R307). DESIGN CHOICE, log 35. -/
def decimatorOutput (k : Nat) (streams : List (Nat × List Bool)) (s : State) : State :=
  let g := groupOf s k
  if g.run && filterOn s then
    let g := { g with fresh := g.fresh && decide (g.priming > 0) }
    let s := unbar (setGroupOf k g (takeBits k g streams s))
    let s := (List.range 32).foldl (outletOutput k g) s
    let s := (List.range 64).foldl (fun s c =>
      let i := inputAt s c
      if inputIn i k && decide (i.priming > 0) then setInput c { i with priming := i.priming - 1 } s else s) s
    setGroupOf k { g with priming := g.priming - 1, runts := g.runts - 1, periodAt := timeTotal s } s
  else s

/-- Meaning of DECIMATOR_OUTPUT. -/
def execDecimatorOutput (k : Nat) (streams : List (Nat × List Bool)) (s : State) : Out := onUnit (decide (k < 4)) (decimatorOutput k streams s)

/-- A frame instant, at device time `t`, in the output periods of a group: more than one modulator clock from a boundary, the period is cut
short (R304). -/
def frameGroup (t : Nat) (s : State) (k : Nat) : State :=
  let g := groupOf s k
  let clock := spanOf s g 1
  let off := (t - g.periodAt) * 2 ^ 32
  if g.run && decide (clock > 0) && decide (off > clock) && decide (off + clock < g.osr * clock) then
    let n := (off + clock - 1) / clock
    let cut (s : State) (o : Nat) : State :=
      let c := (outletAt s o).act
      let v := inputAt s c.vsel
      let i := inputAt s c.isel
      if c.en && inputIn v k && inputIn i k && decide (g.priming = 0) && !v.fault && !i.fault then runtOutlet o (spanOf s g n) g.periodAt s else s
    let s := (List.range 32).foldl cut s
    bump Ctr.conFrameRunt (setGroupOf k { g with runts := 2, periodAt := timeTotal s } s)
  else s

/-- The console checks each running group at an instant of the frame trigger (R304). -/
def frameCheck (s : State) : State :=
  let t := trigAt s s.con.frameTrig
  if s.con.frameEn && decide (s.con.frameSeen ≠ t.fires) && filterOn s then
    (List.range 4).foldl (frameGroup t.lastAt) { s with con := { s.con with frameSeen := t.fires } }
  else s

/-- Meaning of CONSOLE_FRAME_CHECK. -/
def execConsoleFrameCheck (s : State) : Out := .next (frameCheck s)

/-! ### Input faults (R310) -/

/-- An input's bitstream has shown no transition for 1,024 clocks, or its group is disabled. -/
def faultOnset (c : Nat) (s : State) : State :=
  let i := inputAt s c
  if i.actEn && !i.fault then markGaps (bump Ctr.conInFault (setInput c { i with fault := true } s)) else s

/-- Meaning of INPUT_FAULT_ONSET. -/
def execInputFaultOnset (c : Nat) (s : State) : Out := onUnit (decide (c < 64)) (faultOnset c s)

/-- The input has shown transitions for 3 × OSR clocks: its next two outputs are treated as priming. -/
def faultEnd (c : Nat) (s : State) : State :=
  let i := inputAt s c
  if i.fault && (groupOf s i.actClk).en then setInput c { i with fault := false, priming := 2 } s else s

/-- Meaning of INPUT_FAULT_END. -/
def execInputFaultEnd (c : Nat) (s : State) : Out := onUnit (decide (c < 64)) (faultEnd c s)

/-! ### Outputs and control cycles (R311 to R319) -/

/-- The duty in force: a new one takes effect at the start of the next 40 µs PWM period (R317). DESIGN CHOICE, log 37. -/
def dutyNow (s : State) (f : Nat) : Nat :=
  let x := fanAt s f
  if s.cycles / 40000 > x.dutyAt / 40000 then x.duty else x.was

/-- A fan output is given a duty. -/
def setDuty (f d : Nat) (s : State) : State :=
  if (fanAt s f).duty = d then s else setFan f { fanAt s f with was := dutyNow s f, duty := d, dutyAt := s.cycles } s

/-- The output stage takes a set: every output that is not tripped takes its level. -/
def applySetNow (set : Nat × List Nat) (s : State) : State :=
  let s := (List.range 32).foldl (fun s a => if (actAt s a).tripped then s else setAct a { actAt s a with level := bit set.1 a } s) s
  let s := (List.range 8).foldl (fun s f => setDuty f (set.2.getD f 0) s) s
  { s with con := { s.con with applied := set } }

/-- At a cycle start, the outputs that CONSOLE.TRIP_CLEAR named are released to the control set (R315). -/
def finishClears (s : State) : State :=
  (List.range 32).foldl (fun s a =>
    let x := actAt s a
    if x.clearing then setAct a { x with tripped := false, clearing := false, level := bit s.con.applied.1 a } s else s) s

/-- The commanded set. While the output stage is off, the outputs' registers show it. -/
def showCommanded (s : State) : State :=
  if s.con.outEn then s
  else
    let s := (List.range 32).foldl (fun s a => let x := actAt s a; if x.tripped then s else setAct a { x with level := bit s.con.levels a } s) s
    (List.range 8).foldl (fun s f => setDuty f (s.con.duties.getD f 0) s) s

/-- An input takes its settings. A change restarts its history; a fault of an input that stays enabled lasts until its stream shows transitions
again (R310). -/
def applyInput (i : ConInput) : ConInput :=
  if i.actClk = i.clk && i.actEn == i.en && i.actInv == i.invert then i
  else { i with actClk := i.clk, actInv := i.invert, actEn := i.en, hist := [], fault := i.fault && i.en, priming := if i.en then 2 else 0 }

/-- Configuration changes take effect (R321). An outlet that now names an input not sampled is marked in the epoch (R267). -/
def conApply (s : State) : State :=
  let s := (List.range 64).foldl (fun s c => setInput c (applyInput (inputAt s c)) s) s
  let s := (List.range 32).foldl (fun s o =>
    let x := outletAt s o
    setOutlet o { x with act := x.cfg, tripAct := x.trip, overs := if x.trip == x.tripAct then x.overs else 0 } s) s
  let s := (List.range 32).foldl (fun s a => let x := actAt s a; setAct a { x with driveAct := x.drive } s) s
  markGaps ((List.range 8).foldl (fun s f => let x := fanAt s f; setFan f { x with polAct := x.pol, act := x.cfg } s) s)

/-- A CONSOLE.DISABLE takes effect at the cycle start: the task stops and every output is high-impedance (R321). -/
def stopOutputs (s : State) : State :=
  if s.con.disabling then
    showCommanded { s with con := { s.con with disabling := false, outEn := false, taskRun := false, task := none, committed := none } }
  else s

/-- The control task may run: the console drives its outputs, Titimus runs and no switch-over is in progress, no reset holds it, and in MODE pair
the claim is confirmed (R312, R407). -/
def taskMayRun (s : State) : Bool :=
  s.con.outEn && s.tcs.running && !s.pair.switching && decide (s.dev.asserted = 0) && (decide (s.pair.mode ≠ 1) || s.pair.confirmed)

/-- From the assertion of a warm reset until Titimus runs again the outputs hold, tripped ones at SAFE (Table 13-2). -/
def outputsHold (s : State) : Bool := decide (s.dev.asserted ≠ 0) || decide (s.dev.step < 8)

/-- A control window closes (R308). -/
def closeWindow (s : State) (o : Nat) : State :=
  let x := outletAt s o
  setOutlet o { x with last := if x.act.en then x.win else {}, win := {} } s

/-- VRMS, IRMS and P of a closed window, in mV, mA and mW (R308). DESIGN CHOICE, log 35; DEDUCED, log 36. -/
def Window.meas (w : Window) : Nat × Nat × Int :=
  let rms (q : Nat) : Nat := if w.n = 0 then 0 else iroot 2 (q / (w.n * 65536)) 64
  (rms w.vSq, rms w.iSq, if w.dSum = 0 then 0 else w.pSum / (w.dSum : Int) / 65536)

/-- A fan's stall in successive snapshots (R313). -/
def snapFan (s : State) (f : Nat) : State :=
  let x := fanAt s f
  setFan f (if x.stall then { x with stalls := min (x.stalls + 1) 3, turns := 0 } else { x with turns := min (x.turns + 1) 3, stalls := 0 }) s

/-- The flags of `n` units as a mask. -/
def maskOf (n : Nat) (f : Nat → Bool) : Nat := ((List.range n).map fun i => if f i then 2 ^ i else 0).sum

/-- What the cycle start latches beside CON_MEAS (Table 13-1). -/
def snapshot (s : State) : Snapshot :=
  { tach := (List.range 8).map fun f => (fanAt s f).tachUs
    faults := maskOf 64 fun c => (inputAt s c).fault
    trips := maskOf 32 fun a => (actAt s a).tripped
    tj := (List.range 19).map fun d => tabGet 0 s.tmp.tj d }

/-- The higher of the two thermal diodes' readings in the last snapshot (R313). -/
def snapT (s : State) : Int := max (s.con.snap.tj.getD 17 0) (s.con.snap.tj.getD 18 0)

/-- What a heartbeat or mirror message carries (R408). -/
def pairMessage (s : State) : PairMsg :=
  { good := true, pairId := s.dev.straps.pairId, epoch := s.pair.epoch, owner := s.pair.confirmed, console := s.con.outEn
    levels := s.con.applied.1, duties := s.con.applied.2, tripped := maskOf 32 fun a => (actAt s a).tripped }

/-- The set that the owner mirrors: sent when its output stage applies one in MODE pair (R408). -/
def mirrorSend (s : State) : State :=
  if s.pair.mode = 1 && s.pair.confirmed then 
    { s with con := { s.con with sends := s.con.sends + 1 }, pair := { s.pair with lastSent := some (pairMessage s), sentAt := s.cycles } }
  else s

/-- An owner that releases its claim deasserts CLAIM_OUT at the cycle start and holds off (R411). -/
def releaseClaim (s : State) : State :=
  if s.pair.releasing then
    { s with pair := { s.pair with releasing := false, claim := false, confirmed := false, holdoff := true, holdAt := s.cycles } }
  else s

/-- The output set committed in the last cycle is applied, outputs named by TRIP_CLEAR are released, and a disable takes effect; while the outputs
hold, none of it (Table 13-1 step 1, Table 13-2). -/
def cycleOutputs (s : State) : State :=
  if outputsHold s then s
  else
    let s := stopOutputs s
    let s := match s.con.committed with
      | some set => mirrorSend (applySetNow set s)
      | none => s
    releaseClaim (finishClears s)

/-- A control cycle starts (Table 13-1, R312). DESIGN CHOICE, log 35. -/
def cycleStart (s : State) : State :=
  let late := s.con.task.isSome
  let s := cycleOutputs (bumpIf late Ctr.conCycleLate (bump Ctr.conCycles s))
  let s := (List.range 8).foldl snapFan (conApply ((List.range 32).foldl closeWindow s))
  let run := taskMayRun s
  bumpIf (!run && !late) Ctr.conCycleIdle { s with con := { s.con with
    committed := none, taskRun := run, cycleAt := timeTotal s, snap := snapshot s, task := if run then some (s.con.levels, s.con.duties) else none } }

/-- The control trigger has fired and the console has not acted on it. -/
def cycleDue (s : State) : Bool :=
  s.con.cycleEn && decide (s.con.cycleSeen ≠ (trigAt s s.con.cycleTrig).fires)

/-- CONSOLE_CYCLE_START: the control trigger has fired and the console acts on it, during a warm reset as well (R312). -/
def consoleCycle (s : State) : State :=
  if cycleDue s then cycleStart { s with con := { s.con with cycleSeen := (trigAt s s.con.cycleTrig).fires } } else s

/-- Meaning of CONSOLE_CYCLE_START. -/
def execConsoleCycleStart (s : State) : Out := .next (consoleCycle s)

/-- The duty that the task gives a fan (R313): 100.0% while its stall overrides it, its curve on the higher diode reading, or the command. -/
def taskDuty (s : State) (f cmd : Nat) : Nat :=
  let x := fanAt s f
  let t := snapT s
  if x.forced then 1000
  else if x.act.curve then
    if t ≤ x.act.tLo then x.act.dutyMin
    else if t ≥ x.act.tHi then 1000
    else x.act.dutyMin + (1000 - x.act.dutyMin) * (t - x.act.tLo).toNat / (x.act.tHi - x.act.tLo).toNat
  else cmd

/-- The task overrides stalled fans and counts each override (R313). -/
def fanOverride (s : State) (f : Nat) : State :=
  let x := fanAt s f
  if !x.forced && decide (x.stalls ≥ 3) then bump Ctr.conFanOverride (setFan f { x with forced := true } s)
  else if x.forced && decide (x.turns ≥ 3) then setFan f { x with forced := false } s
  else s

/-- The control task commits a complete set (R311, R313). The commit feeds the owner watchdog (R406); in MODE pair without a confirmed claim the
set is discarded and counts as late (R407). A commit that comes once the next cycle start is due is late (R312). -/
def taskCommit (s : State) : State :=
  if cycleDue s then s else
  match s.con.task with
  | some set =>
    let s := (List.range 8).foldl fanOverride s
    let duties := (List.range 8).map fun f => taskDuty s f (set.2.getD f 0)
    let s := { s with con := { s.con with task := none } }
    if s.pair.mode = 1 && !s.pair.confirmed then bump Ctr.conCycleLate s
    else { s with con := { s.con with committed := some (set.1, duties) }, pair := { s.pair with ownerFed := s.cycles } }
  | none => s

/-- Meaning of CONTROL_TASK_COMMIT. -/
def execControlTaskCommit (s : State) : Out := .next (taskCommit s)

/-! ### Tachometers (R317) -/

/-- A falling edge at a tachometer: the revolution is the time over PPR edges, in µs, saturating. -/
def tachEdge (f : Nat) (s : State) : State :=
  let x := fanAt s f
  let t := match x.edges[x.act.ppr - 1]? with
    | some e => min ((s.cycles - e) / 1000) (2 ^ 20 - 1)
    | none => x.tachUs
  setFan f { x with tachUs := t, stall := false, edges := (s.cycles :: x.edges).take 4 } s

/-- Meaning of TACH_EDGE. -/
def execTachEdge (f : Nat) (s : State) : Out := onUnit (decide (f < 8)) (tachEdge f s)

/-- No falling edge has arrived for 1 s; the edges before it still measure the revolution in progress. -/
def tachStall (f : Nat) (s : State) : State :=
  let x := fanAt s f
  if s.cycles ≥ x.edges.headD 0 + 1000000000 then setFan f { x with stall := true } s else s

/-- Meaning of TACH_STALL. -/
def execTachStall (f : Nat) (s : State) : Out := onUnit (decide (f < 8)) (tachStall f s)

/-! ### Commands (Table 13-3) -/

/-- Changes apply from the next cycle start, or at once while no cycle is to come. DESIGN CHOICE, log 37. -/
def conSettle (s : State) : State := if s.con.cycleEn then s else conApply s

/-- CONSOLE.CLOCK_SET: group, EN, DIV, OSR. -/
def clockSetCmd (a : List W32) (s : State) : Ans :=
  let k := arg a 0
  let g := groupOf s k
  let new := { g with en := arg a 1 == 1, div := arg a 2, osr := arg a 3 }
  checked [
    (decide (k > 3) || badBool (arg a 1) || !(decide (40 ≤ arg a 2) && decide (arg a 2 ≤ 100)) || !(decide (64 ≤ arg a 3) && decide (arg a 3 ≤ 1024))
      || (s.con.frameEn && !framePeriod ((conGroups s).set k new) (trigAt s s.con.frameTrig).act.period), Code.badArg)] (fun s =>
      let changed := decide (g.en ≠ new.en) || decide (g.div ≠ new.div) || decide (g.osr ≠ new.osr)
      let s := setGroupOf k new s
      ok [] (if changed then armGroup k s else s)) s

/-- Meaning of CONSOLE_CLOCK_SET. -/
def execConsoleClockSet (v : Via) (a : List W32) (s : State) : Out := tcsCommand 0x0B01 clockSetCmd v a s

/-- CONSOLE.FRAME_SET: FRAME_TRIG, enable. Naming a trigger where none was restarts every enabled group (R304).
DESIGN CHOICE, log 37. -/
def frameSetCmd (a : List W32) (s : State) : Ans :=
  let t := arg a 0
  let en := arg a 1 == 1
  checked [
    (decide (t > 15) || badBool (arg a 1) || (en && !framePeriod (conGroups s) (trigAt s t).act.period), Code.badArg)] (fun s =>
      let fresh := en && !s.con.frameEn
      let s := { s with con := { s.con with frameTrig := t, frameEn := en, frameSeen := (trigAt s t).fires } }
      ok [] ((List.range 4).foldl (fun s k => if fresh || (groupOf s k).armed.isSome then armGroup k s else s) s)) s

/-- Meaning of CONSOLE_FRAME_SET. -/
def execConsoleFrameSet (v : Via) (a : List W32) (s : State) : Out := tcsCommand 0x0B02 frameSetCmd v a s

/-- CONSOLE.INPUT_SET: input, EN, CLK_SEL, INVERT. -/
def inputSetCmd (a : List W32) (s : State) : Ans :=
  let c := arg a 0
  checked [(decide (c > 63) || badBool (arg a 1) || decide (arg a 2 > 3) || badBool (arg a 3), Code.badArg)] (fun s =>
    ok [] (conSettle (setInput c { inputAt s c with en := arg a 1 == 1, clk := arg a 2, invert := arg a 3 == 1 } s))) s

/-- Meaning of CONSOLE_INPUT_SET. -/
def execConsoleInputSet (v : Via) (a : List W32) (s : State) : Out := tcsCommand 0x0B03 inputSetCmd v a s

/-- A scale of 0.001 to 4,000 in units of 0.001. -/
def badScale (n : Nat) : Bool := decide (n = 0) || decide (n > 4000000)

/-- CONSOLE.OUTLET_SET: outlet, EN, VSEL, ISEL, KV, KI, OFFV, OFFI. -/
def outletSetCmd (a : List W32) (s : State) : Ans :=
  let o := arg a 0
  checked [
    (decide (o > 31) || badBool (arg a 1) || decide (arg a 2 > 63) || decide (arg a 3 > 63) || badScale (arg a 4) || badScale (arg a 5)
      || decide (arg a 6 ≥ 2 ^ 16) || decide (arg a 7 ≥ 2 ^ 16) || decide ((inputAt s (arg a 2)).clk ≠ (inputAt s (arg a 3)).clk), Code.badArg)]
    (fun s =>
      let c : OutletCfg := { en := arg a 1 == 1, vsel := arg a 2, isel := arg a 3, kv := arg a 4, ki := arg a 5, offv := sgn 16 (arg a 6), offi := sgn 16 (arg a 7) }
      ok [] (conSettle (setOutlet o { outletAt s o with cfg := c } s))) s

/-- Meaning of CONSOLE_OUTLET_SET. -/
def execConsoleOutletSet (v : Via) (a : List W32) (s : State) : Out := tcsCommand 0x0B04 outletSetCmd v a s

/-- CON_MEAS of an outlet. -/
def conMeas (s : State) (o : Nat) : List W32 := let m := (outletAt s o).last.meas; [w32 m.1, w32 m.2.1, w32 (unsgn 32 m.2.2)]

/-- CONSOLE.OUTLET_GET: outlet. It returns the outlet's CON_MEAS. DESIGN CHOICE, log 37. -/
def outletGetCmd (a : List W32) (s : State) : Ans :=
  checked [(decide (arg a 0 > 31), Code.badArg)] (fun s => ok (conMeas s (arg a 0)) s) s

/-- Meaning of CONSOLE_OUTLET_GET. -/
def execConsoleOutletGet (v : Via) (a : List W32) (s : State) : Out := tcsCommand 0x0B81 outletGetCmd v a s

/-- CONSOLE.CYCLE_SET: CYCLE_TRIG, enable. DESIGN CHOICE, log 37. -/
def cycleSetCmd (a : List W32) (s : State) : Ans :=
  let t := arg a 0
  let en := arg a 1 == 1
  let p := (trigAt s t).act.period
  checked [(decide (t > 15) || badBool (arg a 1) || (en && !(decide (50000 ≤ p) && decide (p ≤ 100000000))), Code.badArg)] (fun s =>
    ok [] (conSettle { s with con := { s.con with cycleTrig := t, cycleEn := en, cycleSeen := (trigAt s t).fires } })) s

/-- Meaning of CONSOLE_CYCLE_SET. -/
def execConsoleCycleSet (v : Via) (a : List W32) (s : State) : Out := tcsCommand 0x0B05 cycleSetCmd v a s

/-- In MODE pair a device without a confirmed claim answers CONFLICT with DETAIL 7 (R407). -/
def noClaim (s : State) : Bool := decide (s.pair.mode = 1) && !s.pair.confirmed

/-- CONSOLE.OUTPUT_SET: output mask, levels, DRIVE, eight fan duties, POL. DESIGN CHOICE, log 37. -/
def outputSetCmd (a : List W32) (s : State) : Ans :=
  let m := arg a 0
  let duties := (List.range 8).map fun f => arg a (3 + f)
  if duties.any (fun d => decide (d > 1000)) || decide (arg a 11 ≥ 256) then refuse Code.badArg s
  else if noClaim s then refuseD Code.conflict 7 s
  else
    let pick (a : Nat) (old new : Bool) : Bool := if bit m a then new else old
    let levels := ((List.range 32).map fun i => if pick i (bit s.con.levels i) (bit (arg a 1) i) then 2 ^ i else 0).sum
    let s := { s with con := { s.con with levels := levels, duties := duties } }
    let s := (List.range 32).foldl (fun s i =>
      let x := actAt s i
      setAct i { x with drive := pick i x.drive (bit (arg a 2) i), given := x.given || bit m i } s) s
    let s := (List.range 8).foldl (fun s f => setFan f { fanAt s f with pol := bit (arg a 11) f, given := true } s) s
    ok [] (conSettle (showCommanded s))

/-- Meaning of CONSOLE_OUTPUT_SET. -/
def execConsoleOutputSet (v : Via) (a : List W32) (s : State) : Out := tcsCommand 0x0B06 outputSetCmd v a s

/-- CONSOLE.FAN_SET: fan, mode (0 HOST, 1 CURVE), DUTY_MIN, T_LO, T_HI (signed °C), PPR. -/
def fanSetCmd (a : List W32) (s : State) : Ans :=
  let f := arg a 0
  checked [
    (decide (f > 7) || decide (arg a 1 > 1) || decide (arg a 2 > 1000) || decide (arg a 3 ≥ 256) || decide (arg a 4 ≥ 256)
      || !(decide (1 ≤ arg a 5) && decide (arg a 5 ≤ 4)), Code.badArg)] (fun s =>
      let c : FanCfg := { curve := arg a 1 == 1, dutyMin := arg a 2, tLo := sgn 8 (arg a 3), tHi := sgn 8 (arg a 4), ppr := arg a 5 }
      ok [] (conSettle (setFan f { fanAt s f with cfg := c } s))) s

/-- Meaning of CONSOLE_FAN_SET. -/
def execConsoleFanSet (v : Via) (a : List W32) (s : State) : Out := tcsCommand 0x0B07 fanSetCmd v a s

/-- CONSOLE.TRIP_SET: outlet, TRIP_EN, TRIP_I, TRIP_N, TRIP_MASK, SAFE levels of the outputs in the mask. -/
def tripSetCmd (a : List W32) (s : State) : Ans :=
  let o := arg a 0
  checked [
    (decide (o > 31) || badBool (arg a 1) || badScale (arg a 2) || !(decide (1 ≤ arg a 3) && decide (arg a 3 ≤ 16)), Code.badArg)] (fun s =>
      let t : TripCfg := { en := arg a 1 == 1, i := arg a 2, n := arg a 3, mask := arg a 4 }
      let s := (List.range 32).foldl (fun s i => if bit t.mask i then setAct i { actAt s i with safe := bit (arg a 5) i } s else s) s
      ok [] (conSettle (setOutlet o { outletAt s o with trip := t } s))) s

/-- Meaning of CONSOLE_TRIP_SET. -/
def execConsoleTripSet (v : Via) (a : List W32) (s : State) : Out := tcsCommand 0x0B08 tripSetCmd v a s

/-- Some outlet that maps to output `i` still exceeds its TRIP_I (R315). -/
def tripHolds (s : State) (i : Nat) : Bool :=
  (List.range 32).any fun o => let x := outletAt s o; x.tripAct.en && bit x.tripAct.mask i && decide (x.overs > 0)

/-- CONSOLE.TRIP_CLEAR: output mask (R315, R407). -/
def tripClearCmd (a : List W32) (s : State) : Ans :=
  let m := arg a 0
  if noClaim s then refuseD Code.conflict 7 s
  else if (List.range 32).any fun i => bit m i && tripHolds s i then refuse Code.conflict s
  else
    let s := (List.range 32).foldl (fun s i =>
      let x := actAt s i
      if bit m i && x.tripped then setAct i { x with clearing := true } s else s) s
    ok [] s

/-- Meaning of CONSOLE_TRIP_CLEAR. -/
def execConsoleTripClear (v : Via) (a : List W32) (s : State) : Out := tcsCommand 0x0B09 tripClearCmd v a s

/-- CONSOLE.ENABLE: the output stage drives each output at its commanded value (R318). -/
def consoleEnableCmd (_ : List W32) (s : State) : Ans :=
  let allGiven := (List.range 32).all (fun i => (actAt s i).given) && (List.range 8).all (fun f => (fanAt s f).given)
  checked [(!allGiven, Code.conflict), (decide (s.pair.mode = 2), Code.conflict)] (fun s =>
    let s := { s with con := { s.con with everEn := true } }
    ok [] (if s.con.outEn then { s with con := { s.con with disabling := false } }
      else applySetNow (s.con.levels, s.con.duties) { s with con := { s.con with outEn := true, disabling := false } })) s

/-- Meaning of CONSOLE_ENABLE. -/
def execConsoleEnable (v : Via) (a : List W32) (s : State) : Out := tcsCommand 0x0B0A consoleEnableCmd v a s

/-- CONSOLE.DISABLE: takes effect at the next cycle start (R321). DESIGN CHOICE, log 37. -/
def consoleDisableCmd (_ : List W32) (s : State) : Ans :=
  checked [(s.pair.confirmed, Code.conflict)] (fun s =>
    ok [] { s with con := { s.con with disabling := s.con.outEn } }) s

/-- Meaning of CONSOLE_DISABLE. -/
def execConsoleDisable (v : Via) (a : List W32) (s : State) : Out := tcsCommand 0x0B0B consoleDisableCmd v a s

/-- CON_STATUS. -/
def conStatus (s : State) : W32 :=
  let primed (k : Nat) : Bool := let g := groupOf s k; g.run && decide (g.priming = 0) && filterOn s
  packW [(0, b2n s.con.outEn), (1, b2n (domainOn s 37)), (2, b2n (primed 0)), (3, b2n (primed 1)), (4, b2n (primed 2)), (5, b2n (primed 3))
    , (6, b2n ((List.range 32).any fun a => (actAt s a).tripped)), (7, b2n s.con.taskRun)]

/-- CON_CYCLE. -/
def conCycle (s : State) : W32 := packW [(0, s.con.cycleTrig), (4, b2n s.con.cycleEn), (5, s.con.frameTrig), (9, b2n s.con.frameEn)]

/-- CON_CLK of a group. -/
def conClk (s : State) (k : Nat) : W32 := let g := groupOf s k; packW [(0, g.div), (7, g.osr), (18, b2n g.en)]

/-- The counters of Table 13-4. -/
def conCounters : List Nat :=
  [Ctr.conCycles, Ctr.conCycleLate, Ctr.conCycleIdle, Ctr.conTrip, Ctr.conInFault, Ctr.conClip, Ctr.conFrameRunt, Ctr.conFanOverride]

/-- CONSOLE.STATUS. -/
def consoleStatusCmd (_ : List W32) (s : State) : Ans :=
  ok ([conStatus s, conCycle s] ++ (List.range 4).map (conClk s) ++ (conCounters.map fun c => two (ctrAt s c).toNat).flatten) s

/-- Meaning of CONSOLE_STATUS. -/
def execConsoleStatus (v : Via) (a : List W32) (s : State) : Out := tcsCommand 0x0B82 consoleStatusCmd v a s

end Sys2Proof.Machine
end

