-- ==== Sys2Proof/Machine/TcsTable.lean ====
section
/-! DEFINITION. The level-1 command table (Table 16-2): each command's code, its argument length (R377) and the longest result its
arguments can produce (R376). -/
namespace Sys2Proof.Machine

/-- One command: its code, the fixed argument words, the index of its count word and the words of one element when it has a list,
and the result bytes, outcome word included. `bytesMax`: a byte-string argument of up to that many bytes instead (DIAG.ECHO). -/
structure CmdInfo where
  code     : Nat
  fixed    : Nat
  list     : Option (Nat × Nat) := none
  result   : List W32 → Nat → Nat
  bytesMax : Option Nat := none

/-- LENGTH is the length that the command's chapter gives (R377). -/
def CmdInfo.lenOk (c : CmdInfo) (len : Nat) (a : List W32) : Bool :=
  match c.bytesMax with
  | some n => decide (len ≤ n)
  | none =>
    match c.list with
    | none => decide (len = 4 * c.fixed)
    | some (i, w) => decide (4 * c.fixed ≤ len) && decide (len = 4 * c.fixed + 4 * w * arg a i)

/-- A result of `n` bytes after the outcome word, whatever the arguments. -/
def res (n : Nat) : List W32 → Nat → Nat := fun _ _ => 4 + n

/-- SYS, TIME and DIAG.ECHO (Table 16-8). -/
def sysInfos : List CmdInfo := [
  { code := 0x0101, fixed := 1, result := res 8 },
  { code := 0x0102, fixed := 1, result := res 8 },
  { code := 0x0103, fixed := 1, result := res 8 },
  { code := 0x0104, fixed := 3, result := res 8 },
  { code := 0x0105, fixed := 0, result := res 8 },
  { code := 0x0106, fixed := 0, result := res 8 },
  { code := 0x0107, fixed := 0, result := res 8 },
  { code := 0x0108, fixed := 0, result := res 8 },
  { code := 0x0181, fixed := 0, result := res 28 },
  { code := 0x0182, fixed := 0, result := res 32 },
  { code := 0x0A01, fixed := 7, result := res 8 },
  { code := 0x0A81, fixed := 0, result := res 452 },
  { code := 0x1181, fixed := 0, result := fun _ n => 4 + n, bytesMax := some 1024 }]

/-- CLASS (Table 05-6). -/
def classInfos : List CmdInfo := [
  { code := 0x0401, fixed := 3, list := some (2, 2), result := res 8 },
  { code := 0x0402, fixed := 3, list := some (2, 8), result := res 8 },
  { code := 0x0403, fixed := 3, result := res 8 },
  { code := 0x0481, fixed := 3, result := fun a _ => 4 + max 8 (4 + 32 * arg a 2) },
  { code := 0x0482, fixed := 1, result := res 8 }]

/-- METER (Table 08-4). -/
def meterInfos : List CmdInfo := [
  { code := 0x0601, fixed := 4, list := some (2, 5), result := res 8 },
  { code := 0x0602, fixed := 5, result := res 8 },
  { code := 0x0603, fixed := 4, result := res 8 },
  { code := 0x0681, fixed := 2, result := res 40 },
  { code := 0x0682, fixed := 1, result := res 148 }]

/-- PORT (Table 02-4) and DIAG. -/
def portInfos : List CmdInfo := [
  { code := 0x0201, fixed := 6, result := res 8 },
  { code := 0x0202, fixed := 1, result := res 8 },
  { code := 0x0203, fixed := 1, result := res 8 },
  { code := 0x0204, fixed := 10, result := res 8 },
  { code := 0x0205, fixed := 5, result := res 8 },
  { code := 0x0206, fixed := 22, result := res 8 },
  { code := 0x0207, fixed := 21, result := res 8 },
  { code := 0x0208, fixed := 4, result := res 8 },
  { code := 0x0209, fixed := 3, result := res 8 },
  { code := 0x020A, fixed := 3, result := res 8 },
  { code := 0x0281, fixed := 1, result := res 20 },
  { code := 0x1101, fixed := 2, result := res 8 },
  { code := 0x1102, fixed := 4, result := res 8 },
  { code := 0x1182, fixed := 1, result := res 128 }]

/-- HARP (Table 03-6) and MINT (Table 09-6). -/
def harpInfos : List CmdInfo := [
  { code := 0x0301, fixed := 4, result := res 8 },
  { code := 0x0302, fixed := 1, result := res 8 },
  { code := 0x0303, fixed := 13, result := res 8 },
  { code := 0x0304, fixed := 2, result := res 8 },
  { code := 0x0305, fixed := 2, result := res 8 },
  { code := 0x0306, fixed := 1, result := res 8 },
  { code := 0x0381, fixed := 1, result := res 16 },
  { code := 0x0801, fixed := 7, result := res 8 },
  { code := 0x0802, fixed := 17, result := res 8 },
  { code := 0x0803, fixed := 2, result := res 8 },
  { code := 0x0804, fixed := 3, result := res 8 },
  { code := 0x0805, fixed := 0, result := res 8 },
  { code := 0x0881, fixed := 1, result := res 32 }]

/-- TELLER (Table 10-1). -/
def tellerInfos : List CmdInfo := [
  { code := 0x0701, fixed := 7, result := res 8 },
  { code := 0x0702, fixed := 6, result := res 8 },
  { code := 0x0703, fixed := 3, result := res 8 },
  { code := 0x0704, fixed := 17, result := res 8 },
  { code := 0x0705, fixed := 4, list := some (2, 2), result := res 8 },
  { code := 0x0706, fixed := 2, list := some (1, 1), result := res 8 },
  { code := 0x0707, fixed := 2, list := some (1, 1), result := res 8 },
  { code := 0x0708, fixed := 3, result := res 8 },
  { code := 0x0709, fixed := 3, result := res 8 },
  { code := 0x070A, fixed := 3, result := res 8 },
  { code := 0x070B, fixed := 18, result := res 8 },
  { code := 0x0781, fixed := 1, result := res 8 },
  { code := 0x0782, fixed := 2, result := res 260 }]

/-- TABLE (chapter 06). -/
def tableInfos : List CmdInfo := [
  { code := 0x0501, fixed := 4, result := res 8 },
  { code := 0x0502, fixed := 4, result := res 8 },
  { code := 0x0503, fixed := 10, result := res 8 },
  { code := 0x0504, fixed := 10, result := res 8 },
  { code := 0x0581, fixed := 10, result := res 40 },
  { code := 0x0505, fixed := 3, result := fun a _ => 4 + max 8 (8 + 40 * arg a 2) },
  { code := 0x0506, fixed := 5, result := fun a _ => 4 + max 8 (8 + 40 * arg a 2) },
  { code := 0x0507, fixed := 1, result := res 8 },
  { code := 0x0508, fixed := 3, result := res 8 },
  { code := 0x0509, fixed := 1, result := res 8 },
  { code := 0x050A, fixed := 3, result := res 28 },
  { code := 0x050B, fixed := 3, result := res 12 },
  { code := 0x050C, fixed := 3, result := res 12 },
  { code := 0x0582, fixed := 0, result := res 100 }]

/-- LEDGER (chapter 11) and CONSOLE (chapter 13). -/
def ledgerInfos : List CmdInfo := [
  { code := 0x0901, fixed := 2, result := res 8 },
  { code := 0x0902, fixed := 7, result := res 8 },
  { code := 0x0903, fixed := 1, result := res 8 },
  { code := 0x0904, fixed := 1, result := res 8 },
  { code := 0x0981, fixed := 1, result := res 144 },
  { code := 0x0982, fixed := 0, result := res 32 },
  { code := 0x0B01, fixed := 4, result := res 8 },
  { code := 0x0B02, fixed := 2, result := res 8 },
  { code := 0x0B03, fixed := 4, result := res 8 },
  { code := 0x0B04, fixed := 8, result := res 8 },
  { code := 0x0B05, fixed := 2, result := res 8 },
  { code := 0x0B06, fixed := 12, result := res 8 },
  { code := 0x0B07, fixed := 6, result := res 8 },
  { code := 0x0B08, fixed := 6, result := res 8 },
  { code := 0x0B09, fixed := 1, result := res 8 },
  { code := 0x0B0A, fixed := 0, result := res 8 },
  { code := 0x0B0B, fixed := 0, result := res 8 },
  { code := 0x0B81, fixed := 1, result := res 12 },
  { code := 0x0B82, fixed := 0, result := res 88 }]

/-- PAIR (chapter 17), POWER (chapter 19) and TUNE (chapter 14). -/
def pairInfos : List CmdInfo := [
  { code := 0x0C01, fixed := 3, result := res 8 },
  { code := 0x0C02, fixed := 20, result := res 8 },
  { code := 0x0C03, fixed := 0, result := res 8 },
  { code := 0x0C81, fixed := 0, result := res 68 },
  { code := 0x0D01, fixed := 4, result := res 8 },
  { code := 0x0D02, fixed := 5, result := res 8 },
  { code := 0x0D81, fixed := 0, result := res 52 },
  { code := 0x0E01, fixed := 0, result := res 16 },
  { code := 0x0E02, fixed := 1, result := res 8 },
  { code := 0x0E03, fixed := 2, result := res 8 },
  { code := 0x0E81, fixed := 0, result := res 88 },
  { code := 0x0E82, fixed := 2, result := fun a _ => 4 + max 8 (0 + 12 * arg a 1) }]

/-- MEM (chapter 20) and TALLY (chapter 22). -/
def memInfos : List CmdInfo := [
  { code := 0x0F01, fixed := 4, result := res 8 },
  { code := 0x0F02, fixed := 4, result := res 8 },
  { code := 0x0F03, fixed := 1, result := res 8 },
  { code := 0x0F81, fixed := 0, result := res 92 },
  { code := 0x0F82, fixed := 2, result := fun a _ => 4 + max 8 (0 + 16 * arg a 1) },
  { code := 0x1001, fixed := 5, result := res 8 },
  { code := 0x1002, fixed := 7, result := res 8 },
  { code := 0x1003, fixed := 9, result := res 8 },
  { code := 0x1004, fixed := 8, result := res 8 },
  { code := 0x1081, fixed := 0, result := res 188 }]

/-- The whole table. DEDUCED, log 9. -/
def cmdInfos : List CmdInfo :=
  sysInfos ++ classInfos ++ meterInfos ++ portInfos ++ harpInfos ++ tellerInfos ++ tableInfos ++ ledgerInfos ++ pairInfos
    ++ memInfos

/-- The table's entry for a command code. DEDUCED, log 9. -/
def cmdInfo (code : Nat) : Option CmdInfo := cmdInfos.find? (fun c => c.code == code)

end Sys2Proof.Machine
end

