-- ==== Sys2Proof/Machine/HostFam.lean ====
section
/-! DEFINITION. The host interface (chapter 15): mailbox doorbells, ring and arena registers, downstream chains, fences and failed
transfers. -/
namespace Sys2Proof.Machine

/-! ### Handing requests to Titimus -/

/-- The refusal Titimus gives a request before any rule of its command (R380): UNKNOWN, LEVEL, DENIED, BAD_LEN, in this order. -/
def requestRefusal (v : Via) (r : Request) (room : Nat) : Option Nat :=
  match cmdInfo (cmdCode r.cmd) with
  | none => some Code.unknown
  | some c =>
    if cmdLevel r.cmd ≠ 1 then some Code.level
    else if (match v with | .f1 _ => !isQuery r.cmd | _ => false) then some Code.denied
    else if r.len > room || !c.lenOk r.len (argWords r) || decide (c.result (argWords r) r.len > viaCap v) then
      some Code.badLen
    else none

/-- Hand a request to Titimus: refused at once by R380's first checks, otherwise it waits in its channel. The order in which TABLE
commands are accepted is kept (R161, R383). -/
def handOn (v : Via) (r : Request) (room : Nat) (s : State) : State :=
  match requestRefusal v r room with
  | some c => answer v r c (details 0 0) s
  | none =>
    let s := setChannel v (.handed r) { s with tcs := { s.tcs with reached := tabSet 0 s.tcs.reached (viaNum v) s.cycles } }
    if isTableCmd r.cmd then { s with tcs := { s.tcs with tableLine := s.tcs.tableLine.filter (· != viaNum v) ++ [viaNum v] } } else s

/-- A doorbell write to an unlocked mailbox (Table 15-10 steps 2 to 4). DESIGN CHOICE, log 12. -/
def ringMailbox (v : Via) (val : W32) (s : State) : State :=
  let n := viaNum v
  let b := boxAt s n
  let s := setBox n { b with locked := true } s
  let bytes := (List.range (min b.length (viaCap v))).map (payloadByte b)
  let r : Request := ⟨b.seq, b.command, b.length, bytes⟩
  if fld val 15 0 ≠ b.seq then answer v r Code.badSeq (details 0 0) s
  else if ctrlAvail s then handOn v r (viaCap v) s
  else
    bump Ctr.hifMbBusy (raise (boxVector n)
      (setBox n { boxAt s n with rseq := b.seq, status := 4, error := 0, locked := false } s))

/-- F0 BAR2 offset of an F0 mailbox register, for the access log. -/
def boxOffset (v : Via) (o : Nat) : Nat := match v with | .f0 m => 0x1000 * m + o | _ => o

/-- Discard a mailbox write that R365 or R367 refuses: F0's is logged (R480), F1's never (R369). -/
def refuseBoxWrite (v : Via) (c : AccCause) (o : Nat) (val : W32) (be : BitVec 4) (s : State) : State :=
  match v with
  | .f0 _ => logAccess c true (boxOffset v o) val be s
  | _ => s

/-- The host rings a doorbell: in Doze this is what wake source 0 listens to (Table 19-2). -/
def hearBell (s : State) : State := if bit s.pwr.off (34 + s.pair.owner) then { s with pwr := { s.pwr with bell := true } } else s

/-- A host write of a mailbox DOORBELL (R365 to R369). DESIGN CHOICE, log 12 and 14. -/
def mailboxDoorbell (v : Via) (val : W32) (be : BitVec 4) (s : State) : State :=
  let b := boxAt s (viaNum v)
  if b.locked then refuseBoxWrite v .mailbox 0x3C val be (bump Ctr.hifMbReject s)
  else if be ≠ 15#4 then
    match v with
    | .f1 _ => bump Ctr.hifF1WriteDrop s
    | _ => refuseBoxWrite v .byteEn 0x3C val be s
  else hearBell (ringMailbox v val s)

/-- Meaning of MAILBOX_DOORBELL: the channel is a mailbox. -/
def execMailboxDoorbell (v : Via) (val : W32) (be : BitVec 4) (s : State) : Out :=
  match v with
  | .ring => .fault .noSuchUnit
  | _ => if viaOk v then .next (mailboxDoorbell v val be s) else .fault .noSuchUnit

/-- The bytes of `b` at word offset `o` replaced where enabled; reserved bits stay 0. -/
def writeBoxWord (b : Mailbox) (o : Nat) (val : W32) (be : BitVec 4) : Mailbox :=
  let byteAt (i : Nat) (old : Nat) : Nat := if be.getLsbD i then fld val (8 * i + 7) (8 * i) else old
  let merge (old : Nat) : Nat :=
    byteAt 0 (bits old 7 0) + byteAt 1 (bits old 15 8) * 2 ^ 8 + byteAt 2 (bits old 23 16) * 2 ^ 16
      + byteAt 3 (bits old 31 24) * 2 ^ 24
  if o = 0 then { b with seq := merge b.seq % 2 ^ 16 }
  else if o = 4 then { b with command := w32 (merge b.command.toNat) }
  else if o = 8 then { b with length := merge b.length % 2 ^ 12 }
  else if o ≥ 0x40 then
    let put (p : Tab (Option Byte)) (i : Nat) : Tab (Option Byte) :=
      if be.getLsbD i then tabSet none p (o - 0x40 + i) (some (byte (fld val (8 * i + 7) (8 * i)))) else p
    { b with payload := (List.range 4).foldl put b.payload }
  else b

/-- A host write to mailbox memory at word offset `o` of the mailbox (R365, R367, R369).
DESIGN CHOICE, log 12. -/
def mailboxWrite (v : Via) (o : Nat) (val : W32) (be : BitVec 4) (s : State) : State :=
  let n := viaNum v
  let b := boxAt s n
  if o = 0x3C then mailboxDoorbell v val be s
  else if b.locked then refuseBoxWrite v .mailbox o val be (bump Ctr.hifMbReject s)
  else if 0x0C ≤ o ∧ o < 0x18 then
    match v with
    | .f1 _ => bump Ctr.hifF1WriteDrop s
    | _ => refuseBoxWrite v .mailbox o val be s
  else setBox n (writeBoxWord b o val be) s

/-! ### Ring registers (R352 to R354, R361) -/

/-- Offset of a host interface register in BAR0. -/
def hifOff (o : Nat) : Nat := Region.hif + o

/-- What a write leaves in a locked configuration field (R352): it takes the value only when EN was 0 and the value is not reserved.
DESIGN CHOICE, log 51. -/
def lockedField (en : Bool) (old new : Nat) (legal : Bool) : Nat := if en then old else if legal then new else old

/-- Log a write refused by R352 or R11. DESIGN CHOICE, log 51. -/
def logLocked (en : Bool) (old new : Nat) (legal : Bool) (off : Nat) (val : W32) (s : State) : State :=
  if en then (if old ≠ new then logAccess .ringCfg false off val 15#4 s else s)
  else if legal then s else logAccess .reserved false off val 15#4 s

/-- A write of HIF_DS_CFG (R352). -/
def writeDsCfg (val : W32) (s : State) : State :=
  let h := s.hif
  let lg := fld val 5 1
  let legal := decide (6 ≤ lg) && decide (lg ≤ 16)
  let s := logLocked h.dsEn h.dsLog2 lg legal (hifOff 0x10) val s
  let en := bit val.toNat 0
  let start := en && !h.dsEn
  { s with hif := { h with
      dsEn := en
      dsLog2 := lockedField h.dsEn h.dsLog2 lg legal
      dsNotify := fld val 22 6
      dsDb := if start then 0 else h.dsDb
      dsCons := if start then 0 else h.dsCons
      dsSkip := if start then false else h.dsSkip
      inject := if start then h.inject.map (fun j => { j with entries := 0 }) else h.inject
      chainHeld := if start then 0 else h.chainHeld
      dsHalt := if en then h.dsHalt else false } }

/-- A write of HIF_US_CFG (R352). -/
def writeUsCfg (val : W32) (s : State) : State :=
  let h := s.hif
  let lg := fld val 5 1
  let legal := decide (6 ≤ lg) && decide (lg ≤ 16)
  let s := logLocked h.usEn h.usLog2 lg legal (hifOff 0x30) val s
  let en := bit val.toNat 0
  let start := en && !h.usEn
  { s with hif := { h with
      usEn := en
      usLog2 := lockedField h.usEn h.usLog2 lg legal
      usWbEn := bit val.toNat 6
      usProd := if start then 0 else h.usProd
      usCons := if start then 0 else h.usCons } }

/-- A write of HIF_RXA_CFG (R352). -/
def writeRxaCfg (val : W32) (s : State) : State :=
  let u := s.up
  let lg := fld val 5 1
  let legal := decide (20 ≤ lg) && decide (lg ≤ 30)
  let s := logLocked u.rxaEn u.rxaLog2 lg legal (hifOff 0x50) val s
  let en := bit val.toNat 0
  let start := en && !u.rxaEn
  { s with up := { s.up with
      rxaEn := en
      rxaLog2 := lockedField u.rxaEn u.rxaLog2 lg legal
      rxaW := if start then 0 else u.rxaW
      rxaRel := if start then 0 else u.rxaRel } }

/-- A write of HIF_DS_DB (R354). -/
def writeDsDb (val : W32) (s : State) : State :=
  let h := s.hif
  let n := 2 ^ h.dsLog2
  let d := fld val 16 0
  if ringUsed h.dsLog2 h.dsDb h.dsCons ≤ ringUsed h.dsLog2 d h.dsCons ∧ ringUsed h.dsLog2 d h.dsCons ≤ n then
    { s with hif := { h with dsDb := d } }
  else bump Ctr.hifDbReject s

/-- A write of HIF_US_CONS (R353, the register's description). -/
def writeUsCons (val : W32) (s : State) : State :=
  let h := s.hif
  let c := fld val 16 0
  if ringUsed h.usLog2 c h.usCons ≤ ringUsed h.usLog2 h.usProd h.usCons then
    { s with hif := { h with usCons := c } }
  else bump Ctr.hifDbReject s

/-- A write of HIF_RXA_REL (R361). -/
def writeRxaRel (val : W32) (s : State) : State :=
  let u := s.up
  let c := val.toNat
  if c % 64 = 0 ∧ ringUsed u.rxaLog2 c u.rxaRel ≤ ringUsed u.rxaLog2 u.rxaW u.rxaRel then
    { s with up := { u with rxaRel := c } }
  else bump Ctr.hifDbReject s

/-- A write of a register that takes only full-word writes (R467): otherwise discarded and logged. -/
def fullWrite (off : Nat) (val : W32) (be : BitVec 4) (f : State → State) (s : State) : State :=
  if be = 15#4 then f s else logAccess .byteEn false off val be s

/-- Meaning of DS_DOORBELL. -/
def execDsDoorbell (val : W32) (be : BitVec 4) (s : State) : Out :=
  .next (fullWrite (hifOff 0x1C) val be (fun s => hearBell (writeDsDb val s)) s)
/-- Meaning of US_CONS_WRITE. -/
def execUsConsWrite (val : W32) (be : BitVec 4) (s : State) : Out :=
  .next (fullWrite (hifOff 0x40) val be (writeUsCons val) s)
/-- Meaning of ARENA_RELEASE. -/
def execArenaRelease (val : W32) (be : BitVec 4) (s : State) : Out :=
  .next (fullWrite (hifOff 0x60) val be (writeRxaRel val) s)
/-- Meaning of RING_ENABLE: a write of the ring's configuration word with EN set (upstream when `up`). -/
def execRingEnable (up : Bool) (val : W32) (s : State) : Out :=
  .next (if up then writeUsCfg (val ||| 1#32) s else writeDsCfg (val ||| 1#32) s)
/-- Meaning of RING_DISABLE: a write of the ring's configuration word with EN clear. -/
def execRingDisable (up : Bool) (val : W32) (s : State) : Out :=
  .next (if up then writeUsCfg (setFld val 0 0 0) s else writeDsCfg (setFld val 0 0 0) s)
/-- Meaning of ARENA_ENABLE. -/
def execArenaEnable (val : W32) (s : State) : Out := .next (writeRxaCfg (val ||| 1#32) s)
/-- Meaning of ARENA_DISABLE. -/
def execArenaDisable (val : W32) (s : State) : Out := .next (writeRxaCfg (setFld val 0 0 0) s)

/-! ### The downstream ring (R355 to R359) -/

/-- The eight words of the downstream entry at index `i`. -/
def dsEntry (s : State) (i : Nat) : List W32 :=
  let slot := i % 2 ^ s.hif.dsLog2
  wordsOf (hostRead s (addr64 s.hif.dsBaseLo s.hif.dsBaseHi + 32 * slot) 32)

/-- KIND, FIRST, LAST of an entry header (Table 15-4). -/
def entryKind (e : List W32) : Nat := fld (e.getD 0 0#32) 7 0
def entryFirst (e : List W32) : Bool := bit (e.getD 0 0#32).toNat 8
def entryLast (e : List W32) : Bool := bit (e.getD 0 0#32).toNat 9

/-- What stands at the head of the downstream ring. -/
inductive DsHead where
  | empty
  | partialChain                          -- the LAST entry is not before the doorbell yet (R356)
  | malformed (n : Nat)                   -- discard these entries
  | chain (entries : List (List W32))
  deriving DecidableEq, Repr

/-- Walk a chain whose entries so far are `acc` (in reverse), `left` entries being before the doorbell (R356). `fuel` bounds it to 64.
DESIGN CHOICE, log 18. -/
def walkChain (s : State) : Nat → Nat → Nat → List (List W32) → DsHead
  | 0, _, _, acc => .malformed acc.length
  | fuel + 1, i, left, acc =>
    match left with
    | 0 => .partialChain
    | left + 1 =>
      let e := dsEntry s i
      if acc.length > 0 && entryFirst e then .malformed acc.length
      else if (match acc.getLast? with | some f => entryKind f != entryKind e | none => false) then .malformed (acc.length + 1)
      else if entryLast e then .chain ((e :: acc).reverse)
      else walkChain s fuel (i + 1) left (e :: acc)

/-- What stands at the head of the ring. DESIGN CHOICE, log 18. -/
def dsHead (s : State) : DsHead :=
  let used := ringUsed s.hif.dsLog2 s.hif.dsDb s.hif.dsCons
  if used = 0 then .empty
  else
    let e := dsEntry s s.hif.dsCons
    if !entryFirst e then .malformed 1
    else if entryKind e > 2 then
      match walkChain s 64 s.hif.dsCons used [] with
      | .chain es => .malformed es.length
      | h => h
    else walkChain s 64 s.hif.dsCons used []

/-- Discard `n` entries of a malformed chain and count it, with an event of class 5 (R356). Entries up to the next FIRST belong to the
same chain. DESIGN CHOICE, log 18. -/
def discardChain (n : Nat) (s : State) : State :=
  let s := if s.hif.dsSkip && !entryFirst (dsEntry s s.hif.dsCons) then s else postEvent 5 0 [0#32, 0#32, 0#32] (bump Ctr.hifDsMalformed s)
  advanceDs n { s with hif := { s.hif with dsSkip := true } }

/-- The envelope bytes that a chain carries: bytes 0x04-0x1F of every entry (R359). -/
def chainBytes (es : List (List W32)) : List Byte := (es.map fun e => bytesOf (e.drop 1)).flatten

/-- A ring command's request from its envelope (Table 16-3). -/
def ringRequest (es : List (List W32)) : Request :=
  let b := chainBytes es
  let w := wordsOf (b.take 16)
  ⟨arg w 0, w.getD 1 0#32, fld (w.getD 2 0#32) 11 0, b.drop 16⟩

/-- The room a chain of `n` entries gives its arguments (R377). -/
def ringCap (n : Nat) : Nat := min 1776 (28 * n - 16)

/-- The command's arguments name a host buffer: HARP.LOAD, the bulk commands of group TABLE, SYS.FW_LOAD. -/
def namesBuffer (w : W32) : Bool := [0x0104, 0x0301, 0x050A, 0x050B, 0x050C].contains (cmdCode w)

/-- Execute the chain at the head of the ring. HIF_DS_CONS passes an inject chain, or a command that names a host buffer, only once its
buffers are no longer needed (R355). DESIGN CHOICE, log 18. -/
def executeChain (es : List (List W32)) (s : State) : State :=
  let h := es.headD []
  let s := { s with hif := { s.hif with dsSkip := false } }
  if entryKind h = 0 then
    let fences := es.filter (fun e => bit (e.getD 0 0#32).toNat 10)
    advanceDs es.length { s with hif := { s.hif with
      fences := s.hif.fences ++ fences.map (fun e => fld (e.getD 0 0#32) 31 16) } }
  else if entryKind h = 1 then
    { s with hif := { s.hif with inject := some ⟨h,
        es.map (fun e => (addr64 (e.getD 4 0#32) (e.getD 5 0#32), fld (e.getD 6 0#32) 13 0)), es.length⟩ } }
  else
    let r := ringRequest es
    let s := if namesBuffer r.cmd then { s with hif := { s.hif with chainHeld := es.length } } else advanceDs es.length s
    handOn .ring r (ringCap es.length) s

/-- The device may fetch: ring enabled and not halted, no completion waiting (R363), no inject chain and no command with host
buffers in execution, and host memory within reach (R346). -/
def dsMayFetch (s : State) : Bool :=
  s.hif.dsEn && !s.hif.dsHalt && !s.up.fetchPaused && s.hif.inject.isNone && decide (s.hif.chainHeld = 0)
    && canDma s

/-- A TCS entry is fetched only while Titimus is available (R387) and the previous ring command has completed (R385); an inject entry
only while S0 is not in Plain service (R431). -/
def dsMayExecute (k : Nat) (s : State) : Bool :=
  if k = 2 then ctrlAvail s && decide (channelAt s .ring = .idle)
  else if k = 1 then !bit s.dev.plain 0
  else true

/-- The device fetches what stands at the head of the downstream ring (R355, R356). DESIGN CHOICE, log 18. -/
def dsFetch (s : State) : State :=
  if dsMayFetch s then
    match dsHead s with
    | .empty => s
    | .partialChain => s
    | .malformed n => discardChain n s
    | .chain es => if dsMayExecute (entryKind (es.headD [])) s then executeChain es s else s
  else s

/-- Meaning of DS_CHAIN_FETCH. -/
def execDsChainFetch (s : State) : Out := .next (dsFetch s)

/-- Post the fence event of the oldest consumed no-op with FENCE (R359): class 6, SOURCE the TAG (R362). -/
def fence (s : State) : State :=
  match s.hif.fences with
  | [] => s
  | t :: ts => postEvent 6 t [0#32, 0#32, 0#32] { s with hif := { s.hif with fences := ts } }

/-- Meaning of FENCE. -/
def execFence (s : State) : Out := .next (fence s)

/-- US_IRQ_TIME has passed since the first entry posted after the last vector-0 message (R351). -/
def usIrqTimer (s : State) : State :=
  if s.hif.sinceIrq > 0 ∧ s.cycles ≥ s.hif.irqAt + 1000 * s.hif.irqTime then raise 0 { s with hif := { s.hif with sinceIrq := 0 } } else s

/-- Meaning of US_IRQ_TIMER. -/
def execUsIrqTimer (s : State) : Out := .next (usIrqTimer s)

end Sys2Proof.Machine
end

