-- ==== Sys2Proof/Machine/TempoFam.lean ====
section
/-! DEFINITION. Tempo monitors, the core supply, Tuning passes and the stress count (chapter 14), and the TUNE commands. -/
namespace Sys2Proof.Machine

/-! ### Required tempo and the prediction model (Table 14-1, R331) -/

/-- t_req of a capo setting in 10^−3 ps; none for Hush. -/
def treq (c : Nat) : Option Nat := match c with | 0 => some 416667 | 1 => some 555556 | 2 => some 833333 | _ => none

/-- The lowest voltage of a setting's planning range, in steps of 2.5 mV above 0.650 V. -/
def planLow (c : Nat) : Nat := match c with | 0 => 52 | 1 => 20 | _ => 0

/-- A voltage step in units of 0.1 mV. -/
def stepVolt (n : Nat) : Nat := 6500 + 25 * n

/-- x^(1/256) in 48-bit fixed point, by eight square roots, rounded down. DESIGN CHOICE, log 39. -/
def root256 (x : Nat) : Nat := (List.range 8).foldl (fun x _ => iroot 2 (x * 2 ^ 48) 100) x

/-- F(V) of R331 in 48-bit fixed point, V in 0.1 mV, rounded down. DESIGN CHOICE, log 39. -/
def tempoF (f : Fuses) (v : Nat) : Nat :=
  let r := (7800 - 10 * f.vt) * 2 ^ 48 / (v - 10 * f.vt)
  v * (root256 r ^ f.alpha * 2 ^ 48 / 2 ^ (48 * f.alpha)) / 7800

/-- G(T) of R331 in 10^−6. DESIGN CHOICE, log 39. -/
def tempoG (f : Fuses) (t : Int) : Int := 1000000 + sgn 12 f.kt * (t - 85)

/-- B_s. DESIGN CHOICE, log 39. -/
def baseTempo (s : State) (i : Nat) : Nat := tabGet 0 s.dev.fuses.base i

/-- The slices of a pass: those that no fuse disables, and the control domain as 16. -/
def passSlices (s : State) : List Nat := ((List.range 16).filter fun k => sliceEnabled s k) ++ [16]

/-- B_s × (1 + a) × F(v) × G(t) × (1 + guard) in units of 0.25 × 10^−4 × 2^−48 × 10^−6 × 10^−2 ps, `a` in 0.01%. -/
def wTerm (s : State) (i : Nat) (a : Int) (f : Nat) (t : Int) : Int := (baseTempo s i : Int) * (10000 + a) * f * tempoG s.dev.fuses t * 102

/-- The unit of `wTerm` in one 10^−3 ps. -/
def wUnit : Nat := 4 * 10 * 2 ^ 48 * 1000000 * 100

/-- tj_min of R333: −5 °C for the commercial grade, −20 °C for the extended one. -/
def tjMin (s : State) : Int := if s.dev.fuses.extended then -20 else -5

/-- w(v) of R333 with the indexes `a`. -/
def wMax (s : State) (a : Nat → Int) (v : Nat) : Int :=
  let f := tempoF s.dev.fuses (stepVolt v)
  ((passSlices s).map fun i => max (wTerm s i (a i) f (tjMin s)) (wTerm s i (a i) f 105)).foldl max 0

/-- w(v) ≤ t_req. -/
def meets (s : State) (a : Nat → Int) (v req : Nat) : Bool := decide (wMax s a v ≤ (req * wUnit : Nat))

/-- The measured ageing index of a slice, 0.01% units: the slowest of its valid monitors against the prediction (R333).
DESIGN CHOICE, log 39. -/
def measuredAge (s : State) (i : Nat) : Option Int :=
  let ts := (List.range 4).filterMap fun k => let m := tabGet {} s.tmp.mons (4 * i + k); if m.valid then some m.tempo else none
  let p : Int := (baseTempo s i : Int) * tempoF s.dev.fuses (10 * s.tmp.measured) * tempoG s.dev.fuses (tabGet 0 s.tmp.tj i)
  if ts.isEmpty || decide (p ≤ 0) then none
  else some ((((ts.foldl max 0 : Nat) : Int) * (10000 * 2 ^ 48 * 1000000 : Nat)) / p - 10000)

/-- a[s]. -/
def ageIndex (s : State) (i : Nat) : Int := tabGet 0 s.tmp.a i

/-! ### Supply and monitors (R323 to R328) -/

/-- The monitor's slice counts: it is neither fused nor off. -/
def monitorOn (s : State) (m : Nat) : Bool := decide (m ≥ 64) || (sliceEnabled s (m / 4) && sliceOn s (m / 4) && !bit s.dev.blockRst.toNat (m / 4))

/-- Some valid monitor exceeds 0.99 × t_req of the effective setting (R325). -/
def overGuard (s : State) : Bool :=
  match treq s.tmp.capo with
  | some r => (List.range 68).any fun m => let x := tabGet {} s.tmp.mons m; x.valid && monitorOn s m && decide (x.tempo * 25000 > 99 * r)
  | none => false

/-- Change the tempo state. -/
def modTmp (f : TempoState → TempoState) (s : State) : State := { s with tmp := f s.tmp }

/-- The guard: it raises the target one step, at most once per window, or at 0.850 V sets TEMPO_SLOW, which starts a pass (R325, R332). -/
def guardCheck (s : State) : State :=
  let w := s.cycles / 65536
  if overGuard s then
    if s.tmp.target ≥ 80 then
      if s.tmp.slow then s else modTmp (fun t => { t with slow := true, passes := t.passes ++ [.slow] }) s
    else if s.tmp.guardWin = some w then s
    else bump Ctr.tmpGuardStep (modTmp (fun t => { t with target := t.target + 1, goal := max t.goal (t.target + 1), guardWin := some w }) s)
  else modTmp (fun t => { t with slow := false }) s

/-- A tempo monitor's window ends with a count of ring cycles (R323). -/
def windowEnd (m count : Nat) (s : State) : State :=
  if monitorOn s m then
    let tempo := if count = 0 then 4095 else min (262144000 / count) 4095
    guardCheck (modTmp (fun t => { t with mons := tabSet {} t.mons m { tempo := tempo, valid := true } }) s)
  else modTmp (fun t => { t with mons := tabSet {} t.mons m { tabGet {} t.mons m with valid := false } }) s

/-- Meaning of TEMPO_WINDOW_END. -/
def execTempoWindowEnd (m count : Nat) (s : State) : Out := onUnit (decide (m < 68)) (windowEnd m count s)

/-- TMP_VOLT's TARGET and HALF. -/
def targetWord (t : TempoState) : Nat := let v := stepVolt t.target; v / 10 % 1024 + (if v % 10 = 5 then 1024 else 0)

/-- The four results of TUNE.RUN. -/
def runWords (s : State) : List W32 := [w32 (unsgn 16 s.tmp.age), w32 (unsgn 16 s.tmp.headroom), w32 (targetWord s.tmp), w32 s.tmp.horizon]

/-- The first TUNE.RUN in progress gets its outcome. -/
def settleRun (s : State) : State :=
  match jobsOf (fun j => decide (j = .tuneRun)) s with
  | vj :: _ => setChannel vj.1 (.running { vj.2 with outcome := some (Code.done, bytesOf (runWords s)) }) s
  | [] => s

/-- The rail stands at the target: the regulator has answered the last write and 20 µs have passed, in which it settles a step (R327).
DESIGN CHOICE, log 38. -/
def railSettled (s : State) : Bool :=
  decide (s.tmp.rail = s.tmp.target) && (match s.tmp.avsAt with | some t => decide (s.cycles ≥ t + 20000) | none => true)

/-- VOLT_CHANGING: the target and the rail differ (R338). -/
def voltChanging (s : State) : Bool := !railSettled s

/-- The pass in progress ends once the target has reached its plan and has been written: a higher CAPO is written then (R338), and the command
that asked is answered. -/
def finishPass (s : State) : State :=
  if s.tmp.stepping && decide (s.tmp.target = s.tmp.goal) && decide (s.tmp.rail = s.tmp.target) then
    let s := match s.tmp.nextCapo with
      | some c => modTmp (fun t => { t with capo := c, nextCapo := none }) s
      | none => s
    let cause := s.tmp.passes.head?
    let s := bump Ctr.tmpPasses (modTmp (fun t => { t with stepping := false, passes := t.passes.tail }) s)
    match cause with
    | some .run => settleRun s
    | some (.capo _) => settleJobs (fun j => decide (j = .tuneCapo)) Code.done [] s
    | some .bringUp => { s with dev := { s.dev with firstPass := true } }
    | _ => s
  else s

/-- AVS_FAULT sets (R328): no step leads below the present target any more; a pass that was lowering it ends. -/
def avsFail (s : State) : State :=
  bump Ctr.tmpAvsErr (modTmp (fun t => { t with avsFault := true, goodMs := 0, goal := max t.goal t.target }) s)

/-- The voltage of the next AVSBus write: a target that the rail has not taken, else one step towards the goal; under AVS_FAULT only towards
0.850 V (R326, R328). At most one write is made every 20 µs. -/
def nextWrite (s : State) : Option Nat :=
  let t := s.tmp
  let soon := match t.avsAt with | some c => decide (s.cycles < c + 20000) | none => false
  let v := if t.rail ≠ t.target then t.target else if t.target < t.goal then t.target + 1 else t.target - 1
  if soon || (decide (t.rail = t.target) && decide (t.target = t.goal)) || (t.avsFault && decide (v < t.rail)) then none else some v

/-- One AVSBus write. A step that the regulator does not answer leaves the target where it was and is a fault (R328).
DESIGN CHOICE, log 38. -/
def avsWrite (answered : Bool) (s : State) : State :=
  match nextWrite s with
  | some v =>
    let s := modTmp (fun t => { t with avsAt := some s.cycles }) s
    finishPass (if answered then modTmp (fun t => { t with target := v, rail := v }) s else avsFail s)
  | none => s

/-- Meaning of AVS_WRITE. -/
def execAvsWrite (answered : Bool) (s : State) : Out := .next (avsWrite answered s)

/-- The read-back of each millisecond: voltage, current and the sensors' readings; a deviation above 10 mV for 10 ms is a fault, which clears
after 100 good milliseconds (R324, R326, R328). -/
def avsReadback (mv current : Nat) (answered : Bool) (tj : List Int) (s : State) : State :=
  let s := modTmp (fun t => { t with tj := (tj.take 19).zipIdx.foldl (fun m x => tabSet 0 m x.2 x.1) t.tj }) s
  if answered then
    let off := (10 * mv + 100 < stepVolt s.tmp.target) || decide (10 * mv > stepVolt s.tmp.target + 100)
    let bad := if off then min (s.tmp.badMs + 1) 11 else 0
    let good := if off then 0 else min (s.tmp.goodMs + 1) 100
    let s := modTmp (fun t => { t with measured := mv % 1024, current := current % 2048, badMs := bad, goodMs := good }) s
    if bad = 10 then finishPass (avsFail s)
    else if good ≥ 100 then modTmp (fun t => { t with avsFault := false }) s
    else s
  else modTmp (fun t => { t with goodMs := 0 }) s

/-- Meaning of AVS_READBACK. -/
def execAvsReadback (mv current : Nat) (answered : Bool) (tj : List Int) (s : State) : Out := .next (avsReadback mv current answered tj s)

/-! ### Tuning passes (R332 to R338) -/

/-- The setting that the next pass is for. -/
def passSetting (s : State) (c : PassCause) : Nat :=
  match c with
  | .bringUp => s.tmp.reqCapo
  | .capo x => x
  | _ => s.tmp.capo

/-- Growth of E in the last 30 days, scaled when cold start is more recent (R335). -/
def growth30 (t : TempoState) : Nat := if t.growth.isEmpty then 0 else t.growth.sum * 2592000 / t.growth.length

/-- The service horizon for a setting with t_req `r` (R335). -/
def horizonOf (s : State) (r : Nat) : Nat :=
  let t := s.tmp
  let w : Int := wMax s (fun i => ageIndex s i) 80
  let worst := (passSlices s).find? fun i =>
    let f := tempoF s.dev.fuses (stepVolt 80)
    max (wTerm s i (ageIndex s i) f (tjMin s)) (wTerm s i (ageIndex s i) f 105) == w
  let w0 : Int := match worst with
    | some i => let f := tempoF s.dev.fuses (stepVolt 80); max (wTerm s i 0 f (tjMin s)) (wTerm s i 0 f 105)
    | none => 0
  let lim : Int := if w0 ≤ 0 then 0 else (r * wUnit * 10000 : Nat) / w0 - 10000
  if t.age < 50 then 4095
  else if t.age ≥ lim then 0
  else
    let a := t.age.toNat
    let l := lim.toNat
    let d := a ^ 5 * growth30 t
    if d = 0 then 4095 else min 4095 (t.stress * (l ^ 5 - a ^ 5) / d)

/-- Measure every slice: the per-slice indexes, and when the pass was (R332, R333). -/
def measure (s : State) : State :=
  let a := (passSlices s).foldl (fun m i =>
    match (if i = 16 || sliceOn s i then measuredAge s i else none) with
    | some v => tabSet 0 m i v
    | none => m) s.tmp.a
  modTmp (fun t => { t with a := a, lastPass := s.time.sec }) s

/-- AGE: the largest index. -/
def writeAge (s : State) : State :=
  let ages := (passSlices s).map (ageIndex s)
  modTmp (fun t => { t with age := ages.foldl max (ages.headD 0) }) s

/-- Write AGE, HEADROOM and the horizon (R333 to R335). For Hush the manual gives no t_req, hence no headroom and no limit: both
are free values. -/
def assess (c : Nat) (s : State) : State :=
  let s := writeAge s
  let s := match treq c with
    | some r =>
      let w := wMax s (ageIndex s) 80
      let h : Int := ((r * wUnit * 10000 : Nat) - w * 10000) / (r * wUnit : Nat)
      modTmp (fun t => { t with headroom := h, horizon := horizonOf s r }) s
    | none =>
      let h := freeChoice (2 ^ 16) s
      let z := freeChoice 4096 h.2
      modTmp (fun t => { t with headroom := sgn 16 h.1, horizon := if t.age < 50 then 4095 else z.1 }) z.2
  modTmp (fun t => { t with headLow := decide (t.headroom < 500) }) s

/-- The record of a pass, and the Tuning record in the flash (R335). DESIGN CHOICE, log 38. -/
def storePass (s : State) : State :=
  let t := s.tmp
  let r : PassRecord := ⟨t.age, t.headroom, t.plan, t.stress / 2 ^ 20⟩
  let s := modTmp (fun t => { t with history := t.history ++ [r] }) s
  { s with flash := { s.flash with
      record := some ⟨s.tmp.stress, (List.range 17).map fun i => unsgn 16 (ageIndex s i), s.tmp.history⟩ } }

/-- The pass is over without a plan: its record is stored with the target as it stands (R335). DESIGN CHOICE, log 38. -/
def endPass (s : State) : State :=
  bump Ctr.tmpPasses (storePass (modTmp (fun t => { t with passes := t.passes.tail, plan := t.target }) s))

/-- A pass for the effective setting finds no voltage: the device demotes, and a pass for the lower setting follows (R336). A TUNE.CAPO_SET
that asked for the setting is refused with NO_MARGIN. DESIGN CHOICE, log 38. -/
def demote (cause : PassCause) (s : State) : State :=
  let s := modTmp (fun t => { t with capo := t.capo + 1, passes := .demotion :: t.passes }) (bump Ctr.tmpDemote (endPass s))
  let s := postOpen 3 s.tmp.capo s
  match cause with
  | .run => settleRun s
  | .capo _ => settleJobs (fun j => decide (j = .tuneCapo)) Code.noMargin (details 0 0) s
  | _ => s

/-- The plan of a pass is adopted: a lower or equal CAPO is written before the target steps, a higher one after it has risen (R338). Under
AVS_FAULT no plan lowers the target (R328). -/
def adopt (c v : Nat) (s : State) : State :=
  let g := if s.tmp.avsFault then max v s.tmp.target else v
  let s := modTmp (fun t => { t with goal := g, plan := g, stepping := true }) s
  let s := if c ≥ s.tmp.capo || decide (g ≤ s.tmp.target) then modTmp (fun t => { t with capo := c, nextCapo := none }) s
    else modTmp (fun t => { t with nextCapo := some c }) s
  finishPass (storePass s)

/-- No voltage meets the setting `c` that is not the effective one: REQ_CAPO returns to CAPO and the command is refused with NO_MARGIN (R337); the
first pass after a cold reset leaves the device in Hush. DESIGN CHOICE, log 38. -/
def noMargin (cause : PassCause) (s : State) : State :=
  match cause with
  | .capo _ =>
    settleJobs (fun j => decide (j = .tuneCapo)) Code.noMargin (details 0 0) (modTmp (fun t => { t with reqCapo := t.capo }) (endPass s))
  | .bringUp => let s := endPass s; { s with dev := { s.dev with firstPass := true } }
  | _ => endPass s

/-- A Tuning pass (R333). DESIGN CHOICE, log 38. -/
def runPass (cause : PassCause) (s : State) : State :=
  let c := passSetting s cause
  let s := measure s
  match treq c with
  | none => adopt c 0 (assess c s)
  | some r =>
    match (List.range 81).find? fun v => decide (planLow c ≤ v) && meets s (ageIndex s) v r with
    | some v => adopt c v (assess c s)
    | none => if c = s.tmp.capo then demote cause s else noMargin cause s

/-- The interval between passes has elapsed (R332). -/
def intervalDue (s : State) : Bool := s.dev.firstPass && decide (s.time.sec ≥ s.tmp.lastPass + 3600 * s.tmp.interval)

/-- Titimus runs the next pass that is due, unless one is in progress (R332). -/
def tuningPass (s : State) : State :=
  if s.tcs.running && !s.tmp.stepping then
    match s.tmp.passes with
    | c :: _ => runPass c s
    | [] => if intervalDue s then runPass .interval (modTmp (fun t => { t with passes := [.interval] }) s) else s
  else s

/-- Meaning of TUNING_PASS. -/
def execTuningPass (s : State) : Out := .next (tuningPass s)

/-! ### The stress count (R335) -/

/-- 2^(k/10) in 48-bit fixed point, k from −2^10, rounded down. DESIGN CHOICE, log 39. -/
def pow2tenth (k : Int) : Nat :=
  let n := (k + 1000).toNat
  iroot 10 (2 ^ (n % 10 + 480)) 50 * 2 ^ (n / 10) / 2 ^ 100

/-- AF ÷ 3,600 in 2^−26 h. DESIGN CHOICE, log 39. -/
def stressStep (t : Int) (v : Nat) : Nat := pow2tenth (t - 95) * stepVolt v ^ 6 * 2 ^ 26 / (8000 ^ 6 * 2 ^ 48 * 3600)

/-- The highest slice sensor reading. -/
def hottest (s : State) : Int :=
  let ts := ((List.range 16).filter fun k => sliceEnabled s k).map fun k => tabGet 0 s.tmp.tj k
  ts.foldl max (ts.headD 0)

/-- Once every second of device time, AF ÷ 3,600 is added to E. -/
def stressUpdate (s : State) : State :=
  if s.time.sec = s.tmp.lastSec then s
  else
    let d := stressStep (hottest s) s.tmp.target
    modTmp (fun t => { t with stress := t.stress + d, growth := (d :: t.growth).take 2592000, lastSec := s.time.sec }) s

/-- Meaning of STRESS_UPDATE. -/
def execStressUpdate (s : State) : Out := .next (stressUpdate s)

/-! ### Commands (Table 14-5) -/

/-- TUNE.RUN. DESIGN CHOICE, log 38. -/
def tuneRunCmd (_ : List W32) (s : State) : Ans :=
  checked [(jobRunning (fun j => decide (j = .tuneCapo)) s, Code.busy)] (fun s =>
    .pending .tuneRun (modTmp (fun t => { t with passes := t.passes ++ [.run] }) s)) s

/-- Meaning of TUNE_RUN. -/
def execTuneRun (v : Via) (a : List W32) (s : State) : Out := tcsCommand 0x0E01 tuneRunCmd v a s

/-- REQ_CAPO is written; a CAPO above it is lowered with it, since CAPO is never higher than REQ_CAPO (R330), and a higher one is not written
later. DESIGN CHOICE, log 38. -/
def requestCapo (c : Nat) (s : State) : State :=
  modTmp (fun t => { t with
    reqCapo := c, capo := max t.capo c
    nextCapo := match t.nextCapo with | some x => if x < c then none else some x | none => none }) s

/-- TUNE.CAPO_SET: setting (R337). DESIGN CHOICE, log 11. -/
def capoSetCmd (a : List W32) (s : State) : Ans :=
  let c := arg a 0
  if c > 3 then refuse Code.badArg s
  else if jobRunning (fun j => decide (j = .tuneCapo)) s then .wait
  else .pending .tuneCapo (modTmp (fun t => { t with passes := t.passes ++ [.capo c] }) (requestCapo c s))

/-- Meaning of TUNE_CAPO_SET. -/
def execTuneCapoSet (v : Via) (a : List W32) (s : State) : Out := tcsCommand 0x0E02 capoSetCmd v a s

/-- TUNE.INTERVAL_SET: hours, ALERT_EN. -/
def intervalSetCmd (a : List W32) (s : State) : Ans :=
  checked [(!(decide (1 ≤ arg a 0) && decide (arg a 0 ≤ 168)) || badBool (arg a 1), Code.badArg)] (fun s =>
    ok [] (modTmp (fun t => { t with interval := arg a 0, alertEn := arg a 1 == 1 }) s)) s

/-- Meaning of TUNE_INTERVAL_SET. -/
def execTuneIntervalSet (v : Via) (a : List W32) (s : State) : Out := tcsCommand 0x0E03 intervalSetCmd v a s

/-- TUNE.STATUS: CAPO, REQ_CAPO, a[0] to a[16], E, the growth of E over 30 days in the unit of TMP_STRESS, horizon. -/
def tuneStatusCmd (_ : List W32) (s : State) : Ans :=
  let t := s.tmp
  ok ([w32 t.capo, w32 t.reqCapo] ++ (List.range 17).map (fun i => w32 (unsgn 16 (ageIndex s i)))
    ++ [w32 (t.stress / 2 ^ 20), w32 (growth30 t / 2 ^ 20), w32 t.horizon]) s

/-- Meaning of TUNE_STATUS. -/
def execTuneStatus (v : Via) (a : List W32) (s : State) : Out := tcsCommand 0x0E81 tuneStatusCmd v a s

/-- The words of a pass record: AGE and HEADROOM, target as in TMP_VOLT, E. -/
def passWords (r : PassRecord) : List W32 :=
  [packW [(0, unsgn 16 r.age), (16, unsgn 16 r.headroom)], w32 (targetWord { target := r.target }), w32 r.stress]

/-- TUNE.HISTORY: first pass, counted from the oldest stored, and count. DESIGN CHOICE, log 38. -/
def tuneHistoryCmd (a : List W32) (s : State) : Ans :=
  checked [(!(decide (1 ≤ arg a 1) && decide (arg a 1 ≤ 64)) || decide (arg a 0 ≥ s.tmp.history.length), Code.badArg)] (fun s =>
    ok (((s.tmp.history.drop (arg a 0)).take (arg a 1)).map passWords).flatten s) s

/-- Meaning of TUNE_HISTORY. -/
def execTuneHistory (v : Via) (a : List W32) (s : State) : Out := tcsCommand 0x0E82 tuneHistoryCmd v a s

end Sys2Proof.Machine
end

