-- ==== Sys2Proof/Machine/PairFam.lean ====
section
/-! DEFINITION. Control clusters, the device pair and group mode (chapter 17), and the PAIR commands. -/
namespace Sys2Proof.Machine

/-- Change the redundancy state. -/
def modPair (f : PairState → PairState) (s : State) : State := { s with pair := f s.pair }

/-- An event of class 7 with a SOURCE that chapter 17 gives; its DATA the chapter leaves open. It waits while Titimus does not run.
DESIGN CHOICE, log 6 and 68. -/
def post7 (source : Nat) (s : State) : State := postOpen 7 source s

/-! ### Clusters (R398 to R403) -/

/-- No control task runs during a switch-over or swap, and what it committed is not applied: the outputs hold (R402). -/
def dropTask (s : State) : State := { s with con := { s.con with task := none, committed := none, taskRun := false } }

/-- The ownership cell names the other cluster: CCL_EPOCH advances (R398), and the images change places. -/
def passCell (s : State) : State :=
  let s := modPair (fun p => { p with owner := 1 - p.owner, cclEpoch := (p.cclEpoch + 1) % 2 ^ 32 }) s
  { s with tcs := { s.tcs with image := s.tcs.standby.getD s.tcs.image, standby := some s.tcs.image } }

/-- Commands in progress were answered PENDING by what is now a previous owner (R389). -/
def markPrevious (s : State) : State :=
  allVias.foldl (fun s v => match channelAt s v with
    | .running j => setChannel v (.running { j with byPrevious := true }) s
    | _ => s) s

/-- A role swap has been asked for: by SYS.SWAP or SYS.FW_ACTIVATE. -/
def swapJob (k : JobKind) : Bool := decide (k = .swap) || decide (k = .fwActivate)

/-- A command that asked for a swap that did not take place stays with the owner that answered it. -/
def unmarkPrevious (s : State) : State :=
  allVias.foldl (fun s v => match channelAt s v with
    | .running j => if swapJob j.kind then setChannel v (.running { j with byPrevious := false }) s else s
    | _ => s) s

/-- Steps 1 and 2 of Table 17-1. DESIGN CHOICE, log 40. -/
def switchOver (s : State) : State :=
  let s := markPrevious (passCell (holdStat s))
  let s := modPair (fun p => { p with switching := true, ready := false, swapping := none, handed := false }) s
  bump Ctr.cclSwitch (dropTask { s with tcs := { s.tcs with running := false, standby := none } })

/-- Every accepted command is abandoned, and its mailbox returns to IDLE (R388, R401). A firmware load in progress fails with it (R396). -/
def abandonCommands (s : State) : State :=
  let s := allVias.foldl (fun s v =>
    match v, channelAt s v with
    | _, .idle => s
    | .ring, _ => setChannel v .idle s
    | _, _ => setBox (viaNum v) { boxAt s (viaNum v) with status := 0, error := 0, locked := false } (setChannel v .idle s)) s
  { s with tcs := { s.tcs with journal := [], fwBusy := false, swapBlock := s.tcs.swapBlock && !s.tcs.fwBusy } }

/-- The owner cluster takes its cluster-only reset and reloads Titimus (R401). -/
def clusterReload (s : State) : State :=
  let s := modPair (fun p => { p with swapping := none, handed := false, switching := false, ready := false })
    (dropTask (abandonCommands (holdStat s)))
  { s with tcs := { s.tcs with running := false } }

/-- A cluster fault (R400, R401). DESIGN CHOICE, log 40. -/
def clusterFault (s : State) : State := if standbyOk s then switchOver s else clusterReload s

/-- The cluster watchdog expires 5 ms after its last feed (R400). -/
def watchdogExpire (s : State) : State :=
  if s.tcs.running && decide (s.cycles ≥ s.pair.fedAt + 5000000) then clusterFault s else s

/-- Meaning of CLUSTER_WATCHDOG_EXPIRE. -/
def execClusterWatchdogExpire (s : State) : Out := .next (watchdogExpire s)

/-- Meaning of SWITCH_OVER: a cluster fault of any kind with a ready standby. -/
def execSwitchOver (s : State) : Out := .next (if s.tcs.running && standbyOk s then switchOver s else s)

/-- The new owner is available (Table 17-1 step 3). -/
def switchOverDone (s : State) : State :=
  if s.pair.switching && s.pair.swapping.isNone && !s.tcs.running then
    post7 1 (modPair (fun p => { p with switching := false, fedAt := s.cycles }) (runTitimus s))
  else s

/-- Meaning of SWITCH_OVER_DONE. -/
def execSwitchOverDone (s : State) : Out := .next (switchOverDone s)

/-- The owner's Titimus feeds the cluster watchdog (R400). -/
def watchdogFeed (s : State) : State := if s.tcs.running then modPair (fun p => { p with fedAt := s.cycles }) s else s

/-- Meaning of CLUSTER_WATCHDOG_FEED. -/
def execClusterWatchdogFeed (s : State) : Out := .next (watchdogFeed s)

/-- While CYCLE_EN is 0 the owner's Titimus feeds the pair owner watchdog (R406). -/
def ownerFeed (s : State) : State := if s.tcs.running && !s.con.cycleEn then modPair (fun p => { p with ownerFed := s.cycles }) s else s

/-- Meaning of OWNER_WATCHDOG_FEED. -/
def execOwnerWatchdogFeed (s : State) : Out := .next (ownerFeed s)

/-- The owner mirrors the journal and a checkpoint to the standby (R399). -/
def checkpoint (s : State) : State :=
  if s.tcs.running && s.tcs.standby.isSome then
    modPair (fun p => { p with copy := s.tcs.journal, copyEpoch := p.cclEpoch, checkAt := s.cycles }) s
  else s

/-- Meaning of CHECKPOINT. -/
def execCheckpoint (s : State) : Out := .next (checkpoint s)

/-- A pair handover is in progress. -/
def handover (s : State) : Bool := s.pair.releasing || s.pair.holdoff || (s.pair.claim && !s.pair.confirmed)

/-- The periodic swap is due (R403). -/
def swapDue (s : State) : Bool := decide (s.time.sec ≥ s.pair.swapAt + 3600 * s.pair.swapHours)

/-- Every accepted command but the one that asks for the swap is complete. -/
def commandsDone (s : State) : Bool :=
  allVias.all fun v => match channelAt s v with
    | .idle => true
    | .handed _ => false
    | .running j => swapJob j.kind

/-- Step 1 of a planned swap: mailboxes answer BUSY and ring fetch stops. A due periodic swap is skipped while the standby is not ready, a
handover is in progress or swaps are suspended (R403). -/
def swapBegin (s : State) : State :=
  let begin_ (s : State) : State :=
    modPair (fun p => { p with swapping := some s.cycles, handed := false, switching := true, swapAt := s.time.sec }) (holdStat s)
  if jobRunning swapJob s then begin_ s
  else if swapDue s then
    if !standbyOk s || handover s || s.tcs.swapBlock then post7 3 (modPair (fun p => { p with swapAt := s.time.sec }) s) else begin_ s
  else s

/-- The swap is abandoned, and a command that asked for it ends in BUSY. DESIGN CHOICE, log 40. -/
def swapAbandon (s : State) : State :=
  settleJobs swapJob Code.busy (details 0 0) (modPair (fun p => { p with swapping := none, switching := false }) s)

/-- Step 2: the owner writes a final checkpoint and hands over the cell. A firmware activation is on trial from here (R397). -/
def swapHand (s : State) : State :=
  let act := jobRunning (fun k => decide (k = .fwActivate)) s
  let s := markPrevious (passCell (checkpoint s))
  let s := modPair (fun p => { p with handed := true, swapping := some s.cycles }) s
  bump Ctr.cclSwap (dropTask { s with tcs := { s.tcs with
    running := false, trial := s.tcs.trial || act, swapBlock := s.tcs.swapBlock || act } })

/-- A planned role swap: its step 1 when it is due or asked for, then its step 2, or its abandonment after 500 ms (Table 17-2). -/
def roleSwap (s : State) : State :=
  match s.pair.swapping with
  | none => if s.tcs.running && !s.pair.switching then swapBegin s else s
  | some at_ =>
    if s.pair.handed || !s.tcs.running then s
    else if commandsDone s then swapHand s
    else if s.cycles ≥ at_ + 500000000 then swapAbandon s
    else s

/-- Meaning of ROLE_SWAP. -/
def execRoleSwap (s : State) : Out := .next (roleSwap s)

/-- The 2 ms that the new owner has to take over have passed since step 2 (Table 17-2). -/
def takeoverOver (s : State) : Bool := match s.pair.swapping with | some t => decide (s.cycles > t + 2000000) | none => false

/-- Step 3: the new owner is available within 2 ms, and the former one becomes its standby with the journal (step 5). A SYS.SWAP during a trial ends
it (R397). -/
def roleSwapDone (s : State) : State :=
  if s.pair.handed && !takeoverOver s then
    let back := jobRunning (fun k => decide (k = .swap)) s && s.tcs.trial
    let s := modPair (fun p => { p with
        swapping := none, handed := false, switching := false, fedAt := s.cycles, ready := true, copy := s.tcs.journal, checkAt := s.cycles })
      (runTitimus { s with tcs := { s.tcs with trial := s.tcs.trial && !back, swapBlock := s.tcs.swapBlock && !back } })
    let s := post7 2 s
    let s := settleJobs (fun k => decide (k = .swap)) Code.done (bytesOf [w32 s.pair.owner]) s
    settleJobs (fun k => decide (k = .fwActivate)) Code.done (bytesOf [w32 s.tcs.image.version]) s
  else s

/-- Meaning of ROLE_SWAP_DONE. -/
def execRoleSwapDone (s : State) : Out := .next (roleSwapDone s)

/-- Step 4: after 2 ms the cell returns to the former owner, which resumes; an activation ends in INTERNAL with DETAIL 1 and its trial ends (Table 16-10).
DESIGN CHOICE, log 40. -/
def roleSwapFail (s : State) : State :=
  if s.pair.handed && takeoverOver s then
    let act := jobRunning (fun k => decide (k = .fwActivate)) s
    let s := unmarkPrevious (passCell s)
    let s := modPair (fun p => { p with swapping := none, handed := false, switching := false, fedAt := s.cycles, ready := false }) s
    let s := runTitimus { s with tcs := { s.tcs with standby := none, trial := s.tcs.trial && !act, swapBlock := s.tcs.swapBlock && !act } }
    let s := post7 3 (bump Ctr.cclSwapFail s)
    settleJobs swapJob Code.internal (details 1 0) s
  else s

/-- Meaning of ROLE_SWAP_FAIL. -/
def execRoleSwapFail (s : State) : Out := .next (roleSwapFail s)

/-! ### The claim (R404 to R407, R411) -/

/-- Titimus's wait before it requests a claim, in cycles: device B's first claim after a cold reset waits 50 ms longer (R404). -/
def claimWait (s : State) : Nat :=
  1000 * s.pair.claimWait + (if s.dev.straps.pairId && !s.pair.claimed then 50000000 else 0)

/-- Titimus requests a claim: refused while PEER_CLAIM_IN has not been deasserted for 10 µs (R404).
DESIGN CHOICE, log 41. -/
def claimRequest (s : State) : State :=
  if s.tcs.running && decide (s.pair.mode = 1) && !s.pair.claim && !s.pair.holdoff then
    if s.pair.peerClaim || decide (s.cycles < s.pair.quietAt + 10000) then bump Ctr.pairClaimBlock s
    else if s.cycles ≥ s.pair.quietAt + claimWait s then
      modPair (fun p => { p with claim := true, claimed := true, claimAt := s.cycles, ownerFed := s.cycles }) s
    else s
  else s

/-- Meaning of CLAIM_REQUEST. -/
def execClaimRequest (s : State) : Out := .next (claimRequest s)

/-- The claim is confirmed 2 µs after it, with no peer claim (R405). -/
def claimConfirm (s : State) : State :=
  if s.pair.claim && !s.pair.confirmed && !s.pair.peerClaim && decide (s.cycles ≥ s.pair.claimAt + 2000) then
    let e := (match s.pair.peer with | some m => max s.pair.epoch m.epoch | none => s.pair.epoch) + 1
    post7 4 (bump Ctr.pairClaim (modPair (fun p => { p with confirmed := true, lapsed := false, stale := false, epoch := e % 2 ^ 32 }) s))
  else s

/-- Meaning of CLAIM_CONFIRM. -/
def execClaimConfirm (s : State) : Out := .next (claimConfirm s)

/-- PEER_CLAIM_IN changes: simultaneous claims make device B withdraw (R405); an assertion ends the hold-off (R411). -/
def peerClaimEdge (level : Bool) (s : State) : State :=
  if level then
    let tie := decide (s.pair.mode = 1) && s.pair.claim && !s.pair.confirmed && s.dev.straps.pairId
    bumpIf tie Ctr.pairTie (modPair (fun p => { p with peerClaim := true, holdoff := false, claim := p.claim && !tie }) s)
  else
    modPair (fun p => { p with peerClaim := false, quietAt := s.cycles, claimAt := if p.confirmed then p.claimAt else s.cycles }) s

/-- Meaning of PEER_CLAIM_EDGE. -/
def execPeerClaimEdge (level : Bool) (s : State) : Out := .next (peerClaimEdge level s)

/-- The owner watchdog lapses 20 ms after its last feed (R406). DESIGN CHOICE, log 41. -/
def watchdogLapse (s : State) : State :=
  if s.pair.claim && decide (s.cycles ≥ s.pair.ownerFed + 20000000) then
    let s := bump Ctr.pairLapse (modPair (fun p => { p with claim := false, confirmed := false, lapsed := true, releasing := false }) s)
    if s.tcs.running then post7 5 s else s
  else s

/-- Meaning of OWNER_WATCHDOG_LAPSE. -/
def execOwnerWatchdogLapse (s : State) : Out := .next (watchdogLapse s)

/-- HOLDOFF clears 100 ms after a release (R411). -/
def holdoffExpire (s : State) : State :=
  if s.pair.holdoff && decide (s.cycles ≥ s.pair.holdAt + 100000000) then modPair (fun p => { p with holdoff := false }) s else s

/-- Meaning of HOLDOFF_EXPIRE. -/
def execHoldoffExpire (s : State) : Out := .next (holdoffExpire s)

/-! ### Heartbeats and the mirror (R408, R409) -/

/-- A heartbeat is sent every 50 µs while the Rurraso transmitter works (Table 18-3); it carries the owner's latest applied set. -/
def heartbeatSend (s : State) : State :=
  if s.pair.mode = 1 && s.pair.linkTx && decide (s.dev.asserted = 0) then
    modPair (fun p => { p with
      hbSent := p.hbSent + 1, lastSent := some (pairMessage s), sentAt := if p.confirmed then s.cycles else p.sentAt }) s
  else s

/-- Meaning of HEARTBEAT_SEND. -/
def execHeartbeatSend (s : State) : Out := .next (heartbeatSend s)

/-- The standby's output stage drives a set it has received, with every tripped output at its SAFE level. -/
def driveSet (m : PairMsg) (s : State) : State :=
  let s := modPair (fun p => { p with setAt := s.cycles, stale := false }) s
  let s := { s with con := { s.con with applied := (m.levels, m.duties) } }
  if s.con.outEn then
    let s := (List.range 32).foldl (fun s a =>
      let x := actAt s a
      setAct a { x with level := if x.tripped || bit m.tripped a then x.safe else bit m.levels a } s) s
    (List.range 8).foldl (fun s f => setDuty f (m.duties.getD f 0) s) s
  else s

/-- A message that R408 does not discard. -/
def messageOk (m : PairMsg) (s : State) : Bool := m.good && decide (m.epoch ≥ s.pair.epoch)

/-- A heartbeat arrives: a bad CRC counts, a lower epoch is discarded; a device without a claim takes a higher epoch (R407) and drives the
owner's set. After 1 ms of valid heartbeats HB_OK sets (R409). DESIGN CHOICE, log 41. -/
def heartbeatReceive (m : PairMsg) (s : State) : State :=
  if s.pair.mode ≠ 1 then s
  else if !messageOk m s then bumpIf (!m.good) Ctr.pairLinkErr s
  else
    let gap := match s.pair.hbLast with | some t => decide (s.cycles ≥ t + 1000000) | none => true
    let first := if gap then s.cycles else s.pair.hbFirst.getD s.cycles
    let ok := s.pair.hbOk || decide (s.cycles ≥ first + 1000000)
    let fresh := ok && !s.pair.hbOk
    let s := modPair (fun p => { p with
      peer := some m, hbLast := some s.cycles, hbFirst := some first, hbOk := ok, epoch := if p.claim then p.epoch else m.epoch }) s
    let s := if fresh then post7 7 s else s
    if m.owner && !s.pair.confirmed then driveSet m s else s

/-- Meaning of HEARTBEAT_RECEIVE. -/
def execHeartbeatReceive (m : PairMsg) (s : State) : Out := .next (heartbeatReceive m s)

/-- A mirror message arrives. DESIGN CHOICE, log 41. -/
def mirrorReceive (m : PairMsg) (s : State) : State :=
  if s.pair.mode ≠ 1 then s
  else if !messageOk m s then bumpIf (!m.good) Ctr.pairLinkErr s
  else if s.pair.confirmed then s
  else driveSet m s

/-- Meaning of MIRROR_RECEIVE. -/
def execMirrorReceive (m : PairMsg) (s : State) : Out := .next (mirrorReceive m s)

/-- No valid heartbeat for 1 ms (R409). -/
def heartbeatLoss (s : State) : State :=
  match s.pair.hbLast with
  | some t =>
    if s.pair.hbOk && decide (s.cycles ≥ t + 1000000) then
      post7 6 (bump Ctr.pairHbLost (modPair (fun p => { p with hbOk := false, hbFirst := none }) s))
    else s
  | none => s

/-- Meaning of HEARTBEAT_LOSS. -/
def execHeartbeatLoss (s : State) : Out := .next (heartbeatLoss s)

/-- The control period and 30 µs, in cycles (R409). -/
def staleAfter (s : State) : Nat := (trigAt s s.con.cycleTrig).act.period + 30000

/-- The set that the standby drives is older than one control period plus 30 µs (R409). -/
def mirroredStale (s : State) : State :=
  if s.pair.mode = 1 && !s.pair.confirmed && decide (s.cycles > s.pair.setAt + staleAfter s) then modPair (fun p => { p with stale := true }) s else s

/-- Meaning of MIRRORED_SET_STALE. -/
def execMirroredSetStale (s : State) : Out := .next (mirroredStale s)

/-! ### Group mode (R412, R413) -/

/-- One role as this member sees it. -/
def roleOf (s : State) (r : Nat) : RoleState := if r = 0 then s.pair.role0 else s.pair.role1
/-- Replace a role. -/
def setRole (r : Nat) (x : RoleState) (s : State) : State :=
  modPair (fun p => if r = 0 then { p with role0 := x } else { p with role1 := x }) s

/-- Titimus sends a group message. -/
def sendGroup (role epoch : Nat) (k : GroupKind) (s : State) : State :=
  modPair (fun p => { p with sent := p.sent ++ [⟨p.groupId, role, epoch, k⟩] }) s

/-- A lease lasts 100 ms. -/
def leaseNs : Nat := 100000000

/-- This member votes for `m` in an epoch of a role: for one holder in an epoch, and for another only after the lease it last voted for has
expired on its own device time (R413). -/
def mayVote (x : RoleState) (now epoch m : Nat) : Bool :=
  match x.votedFor with
  | some (e, w) => if e = epoch then decide (w = m) else decide (now ≥ x.votedEnd)
  | none => true

/-- The vote is cast. -/
def castVote (x : RoleState) (now epoch m : Nat) : RoleState := { x with votedFor := some (epoch, m), votedEnd := now + leaseNs }

/-- Votes of more than half of the members give or renew the lease (R413). -/
def countVotes (r : Nat) (s : State) : State :=
  let x := roleOf s r
  if 2 * x.votes.length > s.pair.members then
    let gain := !x.hold
    let s := setRole r { x with hold := true, holder := some s.pair.groupId, leaseEnd := timeTotal s + leaseNs, votes := [] } s
    let s := sendGroup r x.epoch .announce s
    if gain then post7 8 (bump Ctr.pairGrpLease s) else s
  else s

/-- The holder seeks renewal in its epoch; while a role is vacant, a member asks for it in an epoch one above the highest it has seen.
DESIGN CHOICE, log 41. -/
def leaseRenew (r : Nat) (s : State) : State :=
  let x := roleOf s r
  let now := timeTotal s
  if s.pair.mode ≠ 2 || !s.tcs.running then s
  else if x.hold then
    countVotes r (sendGroup r x.epoch .renew (setRole r { castVote x now x.epoch s.pair.groupId with votes := [s.pair.groupId] } s))
  else if x.holder.isNone && mayVote x now (x.epoch + 1) s.pair.groupId then
    let e := (x.epoch + 1) % 2 ^ 16
    countVotes r (sendGroup r e .request (setRole r { castVote { x with epoch := e } now e s.pair.groupId with votes := [s.pair.groupId] } s))
  else s

/-- Meaning of LEASE_RENEW. -/
def execLeaseRenew (r : Nat) (s : State) : Out := onUnit (decide (r < 2)) (leaseRenew r s)

/-- A lease expires on device time: the holder stops acting, and the role shows as vacant (R413, R414). -/
def leaseExpire (r : Nat) (s : State) : State :=
  let x := roleOf s r
  if x.holder.isSome && decide (timeTotal s ≥ x.leaseEnd) then
    let s' := setRole r { x with hold := false, holder := none, votes := [] } s
    if x.hold then post7 9 s' else s'
  else s

/-- Meaning of LEASE_EXPIRE. -/
def execLeaseExpire (r : Nat) (s : State) : Out := onUnit (decide (r < 2)) (leaseExpire r s)

/-- The sender of an announcement or a renewal is the holder this member knows. -/
def noteHolder (m now : Nat) (x : RoleState) : RoleState := { x with hold := false, holder := some m, leaseEnd := now + leaseNs }

/-- A message of the highest epoch seen, by kind. -/
def groupAccept (m : GroupMsg) (s : State) : State :=
  let x := roleOf s m.role
  let now := timeTotal s
  match m.kind with
  | .vote =>
    if x.votes.isEmpty || x.votes.contains m.sender then s
    else countVotes m.role (setRole m.role { x with votes := x.votes ++ [m.sender] } s)
  | .announce => setRole m.role (noteHolder m.sender now x) s
  | .request =>
    if mayVote x now m.epoch m.sender then sendGroup m.role m.epoch .vote (setRole m.role (castVote x now m.epoch m.sender) s) else s
  | .renew =>
    let x := noteHolder m.sender now x
    if mayVote x now m.epoch m.sender then sendGroup m.role m.epoch .vote (setRole m.role (castVote x now m.epoch m.sender) s)
    else setRole m.role x s

/-- A group message arrives: one below the highest epoch seen for its role is dropped and counted (R413).
DESIGN CHOICE, log 41. -/
def groupMessage (m : GroupMsg) (s : State) : State :=
  if s.pair.mode ≠ 2 || !s.tcs.running then s
  else
    let x := roleOf s m.role
    if m.epoch < x.epoch then bump Ctr.pairGrpStale s
    else
      let newer := decide (m.epoch > x.epoch)
      let lost := newer && x.hold
      let s := if newer then setRole m.role { x with epoch := m.epoch, hold := false, votes := [], holder := if x.hold then none else x.holder } s else s
      groupAccept m (if lost then post7 9 s else s)

/-- Meaning of GROUP_MESSAGE. -/
def execGroupMessage (m : GroupMsg) (s : State) : Out :=
  onUnit (decide (m.role < 2) && decide (m.sender < 8) && decide (m.epoch < 2 ^ 16)) (groupMessage m s)

/-! ### Commands (Table 17-4) -/

/-- PAIR.CONFIG: MODE, CLAIM_WAIT in µs, SWAP_HOURS (R415). -/
def pairConfigCmd (a : List W32) (s : State) : Ans :=
  let m := arg a 0
  checked [
    (decide (m > 2) || !(decide (10 ≤ arg a 1) && decide (arg a 1 ≤ 100000)) || !(decide (1 ≤ arg a 2) && decide (arg a 2 ≤ 168)), Code.badArg),
    (decide (m ≠ s.pair.mode) && (s.con.outEn || s.pair.claim), Code.conflict)] (fun s =>
      let leave (x : RoleState) : RoleState := if m = 2 then x else { x with hold := false, holder := none, votes := [] }
      ok [] (modPair (fun p => { p with mode := m, claimWait := arg a 1, swapHours := arg a 2, role0 := leave p.role0, role1 := leave p.role1 }) s)) s

/-- Meaning of PAIR_CONFIG. -/
def execPairConfig (v : Via) (a : List W32) (s : State) : Out := tcsCommand 0x0C01 pairConfigCmd v a s

/-- PAIR.GROUP_SET: GROUP_ID, member count, group port mask (16 words), station address (2 words). Entry 7 of each group port takes the
address (R412). -/
def groupSetPairCmd (a : List W32) (s : State) : Ans :=
  let ports := (List.range 16).map fun i => a.getD (2 + i) 0#32
  let inMask (p : Nat) : Bool := bit (wordAt ports (p / 32)) (p % 32)
  let addr := arg a 18 + arg a 19 * 2 ^ 32
  checked [
    (decide (arg a 0 > 7) || !(decide (3 ≤ arg a 1) && decide (arg a 1 ≤ 8)) || decide (arg a 19 ≥ 2 ^ 16)
      || (List.range 512).any (fun p => inMask p && badFront s p), Code.badArg),
    (decide (s.pair.mode ≠ 2), Code.conflict)] (fun s =>
      let s := modPair (fun p => { p with groupId := arg a 0, members := arg a 1, ports := ports, station := addr }) s
      ok [] ((List.range 512).foldl (fun s p =>
        if inMask p then modPort p (fun q => { q with cfg := { q.cfg with stations := tabSet none q.cfg.stations 7 (some addr) } }) s else s) s)) s

/-- Meaning of PAIR_GROUP_SET. -/
def execPairGroupSet (v : Via) (a : List W32) (s : State) : Out := tcsCommand 0x0C02 groupSetPairCmd v a s

/-- STALE on the peer: nothing has been sent to it for a control period and 30 µs. DESIGN CHOICE, log 41. -/
def peerStale (s : State) : Bool := decide (s.cycles > s.pair.sentAt + staleAfter s)

/-- PAIR.RELEASE (R411): the claim drops at the next cycle start, or at once while no cycle is to come. -/
def pairReleaseCmd (_ : List W32) (s : State) : Ans :=
  let peerOn := match s.pair.peer with | some m => m.console | none => false
  checked [(!(s.pair.confirmed && s.pair.hbOk && !peerStale s && peerOn), Code.conflict)] (fun s =>
    let s := modPair (fun p => { p with releasing := true }) s
    ok [] (if s.con.cycleEn then s else releaseClaim s)) s

/-- Meaning of PAIR_RELEASE. -/
def execPairRelease (v : Via) (a : List W32) (s : State) : Out := tcsCommand 0x0C03 pairReleaseCmd v a s

/-- PAIR_STATUS. -/
def pairStatusWord (s : State) : W32 :=
  let p := s.pair
  packW [(0, b2n s.dev.straps.pairId), (1, b2n p.claim), (2, b2n p.peerClaim), (3, b2n p.confirmed), (4, b2n p.lapsed), (5, b2n p.hbOk)
    , (6, b2n p.stale), (7, b2n p.holdoff)]

/-- PAIR_GRP. -/
def pairGrp (s : State) : W32 :=
  let x := s.pair.role0
  let y := s.pair.role1
  packW [(0, s.pair.groupId), (3, b2n x.hold), (4, b2n y.hold), (5, x.holder.getD 0), (8, y.holder.getD 0), (11, b2n x.holder.isNone)
    , (12, b2n y.holder.isNone)]

/-- CCL_STATUS. -/
def cclStatus (s : State) : W32 :=
  packW [(0, s.pair.owner), (1, b2n (standbyOk s)), (2, b2n s.pair.switching), (3, b2n s.tcs.swapBlock)]

/-- The fields of the peer's last heartbeat, in the order of R408; 0 before the first. -/
def peerWords (s : State) : List W32 :=
  match s.pair.peer with
  | some m => [w32 (b2n m.pairId), w32 m.epoch, w32 (b2n m.owner), w32 (b2n m.console), w32 m.levels]
    ++ (List.range 8).map (fun f => w32 (m.duties.getD f 0)) ++ [w32 m.tripped]
  | none => List.replicate 14 0#32

/-- PAIR.STATUS. DESIGN CHOICE, log 41. -/
def pairStatusCmd (_ : List W32) (s : State) : Ans := ok ([pairStatusWord s, w32 s.pair.epoch, pairGrp s] ++ peerWords s) s

/-- Meaning of PAIR_STATUS. -/
def execPairStatus (v : Via) (a : List W32) (s : State) : Out := tcsCommand 0x0C81 pairStatusCmd v a s

end Sys2Proof.Machine
end

