-- ==== Sys2Proof/Machine/UpstreamFam.lean ====
section
/-! DEFINITION. The upstream ring's writes, failed transfers and the resets of the host link and of F1 (chapter 15). -/
namespace Sys2Proof.Machine

/-! ### Writing upstream jobs (R359 to R364) -/

/-- Bytes cut into `n` entry bodies of 28 bytes, the last completed with zeros. -/
def entryBodies : Nat → List Byte → List (List Byte)
  | 0, _ => []
  | n + 1, bs => (bs.take 28 ++ List.replicate (28 - (bs.take 28).length) 0#8) :: entryBodies n (bs.drop 28)

/-- Write the entries of one job of KIND `kind` and advance the producer past it (R360).
DESIGN CHOICE, log 16. -/
def writeEntries (kind : Nat) (bodies : List (List Byte)) (s : State) : State :=
  let h := s.hif
  let size := 2 ^ h.usLog2
  let n := bodies.length
  let seq := tabGet 0 s.up.seqs kind
  let put (s : State) (ib : Nat × List Byte) : State :=
    let idx := (h.usProd + ib.1) % (2 * size)
    let hdr := packW [(0, kind), (8, b2n (decide (ib.1 = 0))), (9, b2n (decide (ib.1 + 1 = n))), (10, idx / size), (16, seq)]
    hostWrite (addr64 h.usBaseLo h.usBaseHi + 32 * (idx % size)) (leBytes 4 hdr.toNat ++ ib.2) s
  let s := ((List.range n).zip bodies).foldl put s
  let prod := (h.usProd + n) % (2 * size)
  let s := { s with
    hif := { h with usProd := prod, sinceIrq := h.sinceIrq + n, irqAt := if h.sinceIrq = 0 then s.cycles else h.irqAt }
    up := { s.up with seqs := tabSet 0 s.up.seqs kind ((seq + 1) % 2 ^ 16) } }
  let s := if h.usWbEn then hostWrite (addr64 h.usWbLo h.usWbHi) (leBytes 4 prod) s else s
  let s := bumpBy Ctr.hifUsEntries n s
  if h.irqTime = 0 || decide (h.sinceIrq + n ≥ h.irqCount) then raise 0 { s with hif := { s.hif with sinceIrq := 0 } } else s

/-- The body of an event entry (R362). -/
def eventBody (e : Event) : List Byte :=
  bytesOf ([packW [(0, e.cls), (16, e.source)], w32 e.count, w32 e.first, w32 e.last]
    ++ [e.data.getD 0 0#32, e.data.getD 1 0#32, e.data.getD 2 0#32])

/-- The body of a learn notice (Table 06-6). -/
def noticeBody (n : Notice) : List Byte :=
  bytesOf [packW [(0, n.port), (10, n.table), (13, b2n n.move), (14, b2n n.held), (16, n.slice)], w32 n.time, w32 n.oldData,
    w32 n.key, w32 (n.key / 2 ^ 32), w32 (n.key / 2 ^ 64), w32 n.tenant]

/-- The body of a punted frame's entry (Table 15-7). -/
def puntBody (p : Punt) : List Byte :=
  bytesOf [packW [(0, p.port), (10, b2n p.tsPin), (11, p.staIdx), (16, p.reason), (24, p.cls)],
    packW [(0, p.len), (14, p.tenant)], w32 p.rxTs, w32 p.start, w32 p.fin, w32 p.segment,
    packW [(0, p.rule), (13, b2n p.ruleHit)]]

/-- A punted frame that had room goes: written, it ends ARENA_FULL when it came after the frame that found no room. -/
def passPunt (written : Bool) (s : State) : State :=
  { s with up := { s.up with arenaFull := s.up.arenaFull && !(written && decide (s.up.arenaOld = 0)), arenaOld := s.up.arenaOld - 1 } }

/-- Write one job. A punted frame's arena data goes first; then it is billed as egress on the host port and its copy ends (R253). -/
def writeJob (j : UpJob) (s : State) : State :=
  match j with
  | .completion e => writeEntries 4 (entryBodies (jobEntries j) e) s
  | .event e => writeEntries 5 [eventBody e] s
  | .notice n => writeEntries 2 [noticeBody n] s
  | .punt p =>
    let s := hostWrite (addr64 s.up.rxaBaseLo s.up.rxaBaseHi + p.start) p.bytes s
    let s := passPunt true (bump Ctr.hifPuntFrames (writeEntries 1 [puntBody p] s))
    let s := match chitAt s p.chit with
      | some c => billCopy (chitSlice p.chit) 512 1 c s
      | none => s
    dropRef p.chit s

/-- Free entries of the upstream ring (R353). -/
def usFree (s : State) : Nat := 2 ^ s.hif.usLog2 - ringUsed s.hif.usLog2 s.hif.usProd s.hif.usCons

/-- The first ready job of rank `r`, and the others. -/
def takeJob (r : Nat) (s : State) : Option (UpJob × State) :=
  (s.up.ready.find? fun j => decide (jobRank j = r)).map fun j =>
    (j, { s with up := { s.up with ready := s.up.ready.eraseP fun j => decide (jobRank j = r) } })

/-- Jobs that waited and find room now take it: completions, then coalesced events by class, then held notices (R362, R363).
DESIGN CHOICE, log 16. -/
def admitWaiting (s : State) : State :=
  match s.up.waiting with
  | e :: es =>
    if usRoom s ≥ jobEntries (.completion e) then
      pushReady (.completion e) { s with up := { s.up with waiting := es, fetchPaused := !es.isEmpty } }
    else s
  | [] =>
    if usRoom s < 1 then s
    else
      match (List.range 10).find? (fun c => (evPendAt s c).isSome) with
      | some c =>
        match evPendAt s c with
        | some e => pushReady (.event e) { s with up := { s.up with evPend := tabSet none s.up.evPend c none } }
        | none => s
      | none =>
        match s.up.hold with
        | n :: ns =>
          if domainWorks s 32 && !s.mem.ddrFail then
            let bad := poisoned s (.notice (holdHead s))
            let s := countPoison 8 bad { s with up := { s.up with hold := ns } }
            if bad then bump Ctr.hifLearnDrop s else pushReady (.notice n) s
          else s
        | [] => s

/-- Ledger records may go: the archive can be read and seven entries are free (R273, R364). -/
def recordReady (s : State) : Bool :=
  domainWorks s 32 && s.mem.ddrReady && !s.mem.ddrFail && decide (usRoom s ≥ 7) && (nextRecord s).isSome

/-- The device writes one job, the first in the order of R364 for which the ring has free entries (R360); none when nothing can.
DESIGN CHOICE, log 16. -/
def postOne (s0 : State) : Option State :=
  let s := admitWaiting s0
  let byRank (r : Nat) : Option State := (takeJob r s).bind fun x => if jobEntries x.1 ≤ usFree s then some (writeJob x.1 x.2) else none
  match byRank 0 with
  | some t => some t
  | none =>
    match byRank 1 with
    | some t => some t
    | none =>
      match byRank 2 with
      | some t => some t
      | none =>
        if recordReady s then (sendRecord s).map fun x => writeEntries 3 (entryBodies 7 x.1) x.2
        else
          match byRank 4 with
          | some t => some t
          | none => if s.up.hold.length < s0.up.hold.length then some s else none

/-- Write jobs until none can go; each takes at least one of the ring's entries, so `n` entries bound it.
DESIGN CHOICE, log 16. -/
def postAll : Nat → State → State
  | 0, s => s
  | n + 1, s =>
    match postOne s with
    | some t => postAll n t
    | none => s

/-- The device may write upstream: the ring is enabled and host memory is within reach (R346, R352). -/
def usMayWrite (s : State) : Bool := s.hif.usEn && canDma s

/-- The ready upstream jobs are written (R360 to R364). -/
def upstreamPost (s : State) : State := if usMayWrite s then postAll (2 ^ s.hif.usLog2) s else s

/-- Meaning of UPSTREAM_POST. -/
def execUpstreamPost (s : State) : Out := .next (upstreamPost s)

/-! ### Failed transfers (R346, R357) -/

/-- The job whose write failed is abandoned; its loss is treated as its kind's drop under Table 15-8 (R357).
DESIGN CHOICE, log 17. -/
def loseJob (j : UpJob) (s : State) : State :=
  match j with
  | .completion e =>
    bumpIf s.up.waiting.isEmpty Ctr.hifCmplWait { s with up := { s.up with waiting := e :: s.up.waiting, fetchPaused := true } }
  | .event e =>
    let old := evPendAt s e.cls
    let new : Event := match old with
      | some x => { e with count := min (e.count + x.count) (2 ^ 32 - 1), last := x.last }
      | none => e
    bumpIf old.isSome Ctr.hifEvtCoalesced { s with up := { s.up with evPend := tabSet none s.up.evPend e.cls (some new) } }
  | .notice _ => bump Ctr.hifLearnDrop s
  | .punt p => dropRef p.chit (dropAdmitted (chitSlice p.chit) 512 p.chit (bump Ctr.hifPuntRingDrop (passPunt false s)))

/-- The upstream job in progress is abandoned: the first in the order of R364; a ledger record stays in the archive.
DESIGN CHOICE, log 17. -/
def abandonJob (s : State) : State :=
  match (List.range 5).findSome? (fun r => takeJob r s) with
  | some (j, t) => if jobRank j = 4 && recordReady s then s else loseJob j t
  | none => s

/-- A device read of host memory fails (halts the downstream ring), or a device write does (abandons its job).
DESIGN CHOICE, log 17. -/
def dmaFail (write : Bool) (s : State) : State :=
  let s := bump Ctr.hifDmaErr s
  if write then abandonJob s
  else if (s.hif.dsEn || s.hif.inject.isSome) && !s.hif.dsHalt then
    raiseFault { s with hif := { s.hif with dsHalt := true, inject := none } }
  else s

/-- Meaning of DMA_ERROR: the device issues transfers only while it may (R346). -/
def execDmaError (write : Bool) (s : State) : Out := .next (if canDma s then dmaFail write s else s)

/-! ### Resets of the host link and of F1 (R347) -/

/-- A mailbox after its reset: idle, its payload undefined (R8). -/
def freshBox (n : Nat) (s : State) : State :=
  setBox n { gen := (boxAt s n).gen + 1 } s

/-- The channel of a mailbox or of the ring at its reset: a request not taken up is gone, a job runs on and answers nobody. -/
def resetChannel (s : State) (v : Via) : State :=
  match channelAt s v with
  | .idle => s
  | .handed _ => setChannel v .idle s
  | .running j => setChannel v (.running { j with orphan := true }) s

/-- The counters of a region from `lo` to `hi` at their reset value. -/
def clearCtrs (lo hi : Nat) (s : State) : State :=
  { s with ctr := s.ctr.filter fun e => !(decide (lo ≤ e.1) && decide (e.1 < hi)) }

/-- A punted frame that took room is not written: it is dropped. -/
def dropPunts (s : State) : State :=
  s.up.ready.foldl (fun s j => match j with
    | .punt p => dropRef p.chit (dropAdmitted (chitSlice p.chit) 512 p.chit s)
    | _ => s) s

/-- An epoch not yet released is sent again from its first record (R273, R347). -/
def rewindArchive (s : State) : State :=
  { s with led := { s.led with arch := s.led.arch.map fun e => { e with sent := 0 } } }

/-- The host interface region, F0's configuration space, both MSI-X tables and the mailboxes take their reset values. -/
def hostInterfaceReset (s : State) : State :=
  let s := allVias.foldl resetChannel (rewindArchive (dropPunts s))
  let s := (List.range 18).foldl (fun s n => freshBox n s) s
  let s := clearCtrs Region.hif (Region.hif + 0x1000) s
  { s with
    latch := []
    hif := {}
    up := { hold := s.up.hold, msgs := s.up.msgs, cfg1 := s.up.cfg1, evHeld := s.up.evHeld }
    tal := { s.tal with streams := s.tal.streams.map fun e => (e.1, { e.2 with prod := 0, cons := 0 }) } }

/-- Meaning of HOST_LINK_RESET. -/
def execHostLinkReset (s : State) : Out := .next (hostInterfaceReset s)

/-- F1's view, its latches among it, MSI-X table and mailboxes take their reset values. -/
def f1Reset (s : State) : State :=
  let s := freshBox 17 (freshBox 16 (resetChannel (resetChannel s (.f1 0)) (.f1 1)))
  { s with
    latch := s.latch.filter fun e => decide (e.1 < 2 ^ 32)
    time := { s.time with now1 := {} }
    up := { s.up with cfg1 := {}, msix := s.up.msix.filter fun e => decide (e.1 < 64) } }

/-- Meaning of F1_FLR. -/
def execF1Flr (s : State) : Out := .next (f1Reset s)

end Sys2Proof.Machine
end

