-- ==== Sys2Proof/Machine/MemFam.lean ====
section
/-! DEFINITION. Memory integrity, the fill engine, the LPDDR5X controller and the memory split (chapter 20, R152, R340), and the MEM commands. -/
namespace Sys2Proof.Machine

/-! ### Classes (R450, Table 20-1) -/

/-- Usable LPDDR5X capacity in GiB (R463). -/
def usableGiB (s : State) : Nat := if s.mem.ddrReady then 7 * 2 ^ s.mem.density else 0

/-- Words of a class. -/
def classWords (s : State) (c : Nat) : Nat :=
  if c = 0 then 32 * cellsTotal s
  else if c = 1 then 32 * buckets s
  else if c = 2 ∨ c = 3 then 1048576
  else if c = 5 then 524288 + 491520
  else if c = 8 then usableGiB s * 2 ^ 27
  else 524288

/-- The word address exists in the class. -/
def classAddr (s : State) (c a : Nat) : Bool := decide (c < 9) && decide (a < classWords s c)

/-- The class can be reached: its domain is on. Classes 0 to 5 lie in the core (R438). -/
def classOn (s : State) (c : Nat) : Bool :=
  if c = 6 then domainOn s 34 else if c = 7 then domainOn s 35 else if c = 8 then domainWorks s 32 else true

/-- A class's scrubber. -/
def scrubAt (s : State) (c : Nat) : Scrub := tabGet {} s.mem.scrubs c
/-- Change a class's scrubber. -/
def modScrub (c : Nat) (f : Scrub → Scrub) (s : State) : State :=
  { s with mem := { s.mem with scrubs := tabSet {} s.mem.scrubs c (f (scrubAt s c)) } }

/-! ### The error log (R454) -/

/-- Titimus takes an entry from the log: it joins the history; an UNCORR entry posts an event of class 4. -/
def takeLog (s : State) (e : MemLog) : State :=
  let a := e.addr % 2 ^ 56
  let s := { s with mem := { s.mem with
    history := (e :: s.mem.history).take 1024
    detect := (e.cls, e.addr, timeTotal s) :: s.mem.detect.filter fun d => decide (timeTotal s < d.2.2 + 86400000000000) } }
  if e.uncorr then postEvent 4 e.cls [w32 (e.synd + 256 * a), w32 ((e.synd + 256 * a) / 2 ^ 32), 0#32] s else s

/-- Titimus, while it runs, moves every entry of the log into its history. DESIGN CHOICE, log 45 and 48. -/
def drainLog (s : State) : State :=
  if s.tcs.running then s.mem.log.foldl takeLog { s with mem := { s.mem with log := [] } } else s

/-- A detection: it becomes the latest one and enters the log, or counts in MEM_LOG_LOST when the log is full. -/
def detection (c : Nat) (unc : Bool) (synd addr : Nat) (s : State) : State :=
  let s := { s with mem := { s.mem with
    lastErr := packW [(0, c), (4, b2n unc), (5, synd)], lastLo := w32 addr, lastHi := w32 (addr / 2 ^ 32 % 4) } }
  let s := if s.mem.log.length ≥ 64 then bump Ctr.memLogLost s
    else { s with mem := { s.mem with log := s.mem.log ++ [⟨c, unc, synd, addr, ns32 s⟩] } }
  drainLog s

/-! ### Scrubbing (R451, R452, R456, R457) -/

/-- A syndrome of odd weight (R450). -/
def oddSyndrome (n : Nat) : Bool := ((List.range 8).filter fun i => bit n i).length % 2 == 1

/-- The lap ends: its duration in ms goes to LAP, and SLOW follows LAP_WARN. -/
def endLap (c : Nat) (s : State) : State :=
  modScrub c (fun x =>
    let ms := min ((s.cycles - x.lapAt) / 1000000) (2 ^ 24 - 1)
    { x with lap := ms, lapAt := s.cycles, pos := 0, slow := decide (x.warn ≠ 0) && decide (ms > x.warn) }) s

/-- The scrubber's place after a read at `a`: a read below its place began a new lap, the read of the last word ends one. -/
def scrubPlace (c a : Nat) (s : State) : State :=
  let s := if a < (scrubAt s c).pos then endLap c s else s
  if a + 1 ≥ classWords s c then endLap c s else modScrub c (fun x => { x with pos := a + 1 }) s

/-- What the scrubber makes of a word read with a syndrome. -/
def scrubWord (c a synd : Nat) (unc : Bool) (s : State) : State :=
  if poisonedAt s c a || decide (synd = 0) || decide (synd = 0xFF) then s
  else if unc || !oddSyndrome synd then
    let s := { s with mem := { s.mem with poison := tabSet false s.mem.poison (c * 2 ^ 36 + a) true } }
    detection c true synd a (bump (Ctr.memUncorr c) s)
  else detection c false synd a (bump (Ctr.memScrubFix c) (bump (Ctr.memCorrected c) s))

/-- A scrub read of an enabled scrubber whose class can be reached. DESIGN CHOICE, log 45. -/
def scrubRead (c a synd : Nat) (unc : Bool) (s : State) : State :=
  if (scrubAt s c).en && classOn s c then scrubWord c a synd unc (scrubPlace c a s) else s

/-- Meaning of SCRUB_READ. -/
def execScrubRead (c a synd : Nat) (unc : Bool) (s : State) : Out :=
  onUnit (classAddr s c a && decide (synd < 256)) (scrubRead c a synd unc s)

/-! ### Voted words (R15, R455) -/

/-- VENDOR, the Vendor ID of both functions and DEV_ID[31:16] (R6, R345). -/
def vendorId : Nat := 0x4B52

/-- DEV_ID: the actual part and the vendor, whatever PERSONA_LOCK is (R6). -/
def devIdWord (s : State) : W32 := packW [(0, s.dev.fuses.partId), (16, vendorId)]

/-- DEV_REV: the die revision (R6, R7). -/
def devRevWord (s : State) : W32 := w32 (s.dev.fuses.rev % 256)

/-- PERSONA: 1 when PERSONA_LOCK was sampled high, else the part's own (R4, R5). -/
def personaWord (s : State) : W32 := w32 (if s.dev.straps.lock then 1 else s.dev.fuses.persona % 256)

/-- TMP_CAPO. -/
def capoWord (s : State) : W32 := packW [(0, s.tmp.capo), (2, s.tmp.reqCapo)]

/-- A critical word (Table 20-3). The layout of words 8 and 43-58 is left open: the sampled straps stand as in DEV_BOOT with PAIR_ID above them, and
the repair map is a free function of the map. DESIGN CHOICE, log 67. -/
def criticalWord (s : State) (w : Nat) : W32 :=
  if w = 0 then w32 s.pair.owner
  else if w = 1 then w32 s.pair.cclEpoch
  else if w = 2 then w32 s.pair.epoch
  else if w = 3 then capoWord s
  else if w = 4 then personaWord s
  else if w = 5 then w32 s.led.epoch
  else if w = 6 then packW ((List.range 32).map fun a => (a, b2n (tabGet {} s.con.acts a).safe))
  else if w = 7 then w32 s.mint.split
  else if w = 8 then packW [(0, b2n s.dev.straps.bootSel), (1, b2n s.dev.straps.lock), (2, b2n s.dev.straps.pairId)]
  else if w = 9 then devIdWord s
  else if w = 10 then devRevWord s
  else if w ≤ 27 then w32 (tabGet 0 s.dev.fuses.base (w - 11))
  else if w = 28 then packW [(0, s.dev.fuses.vt), (10, s.dev.fuses.alpha), (20, s.dev.fuses.kt)]
  else if w ≤ 40 then w32 (s.dev.fuses.keyHash / 2 ^ (32 * (w - 29)))
  else if w ≤ 42 then w32 ((2 ^ s.dev.fuses.minSvn - 1) / 2 ^ (32 * (w - 41)))
  else if w ≤ 58 then Config.repairWord (w - 43) (harpAt s (w - 43)).map
  else 0#32

/-- The bitwise majority of three copies (R455). -/
def majority (a b c : W32) : W32 := (a &&& b) ||| (a &&& c) ||| (b &&& c)

/-- The three copies of a word, one of them (0 to 2) upset in the bits of `bits`. -/
def copiesOf (v : W32) (copy : Nat) (bits : W32) : W32 × W32 × W32 :=
  (if copy = 0 then v ^^^ bits else v, if copy = 1 then v ^^^ bits else v, if copy = 2 then v ^^^ bits else v)

/-- The copies disagree. -/
def disagree (c : W32 × W32 × W32) : Bool := c.1 != c.2.1 || c.1 != c.2.2

/-- What a read of the three copies returns. -/
def votedRead (c : W32 × W32 × W32) : W32 := majority c.1 c.2.1 c.2.2

/-- Meaning of VOTE_REPAIR (R455): a copy of a critical word has been upset. A disagreement counts, and the majority, which is the word that stands,
is written back to all three copies. DESIGN CHOICE, log 67. -/
def execVoteRepair (u : Upset) (s : State) : Out :=
  onUnit (decide (u.word < 64) && decide (u.copy < 3)) (bumpIf (disagree (copiesOf (criticalWord s u.word) u.copy u.bits)) Ctr.memVoteFix s)

/-! ### Remapping (R458, R459) -/

/-- Active entries of a class. -/
def remapUsed (s : State) (c : Nat) : Nat := (s.mem.remaps.filter fun r => decide (r.1 = c)).length

/-- Install an entry and record it in the stored configuration. -/
def installRemap (c a : Nat) (s : State) : State :=
  bump Ctr.memRemapInstall { s with
    mem := { s.mem with remaps := s.mem.remaps ++ [(c, a)] }
    flash := { s.flash with remaps := s.flash.remaps ++ [(c, a)] } }

/-- Detections logged at a class and address within the last 24 h. -/
def detections (s : State) (c a : Nat) : Nat :=
  (s.mem.detect.filter fun d => decide (d.1 = c) && decide (d.2.1 = a) && decide (timeTotal s < d.2.2 + 86400000000000)).length

/-- Titimus installs an entry after REMAP_THRESHOLD detections; a full store sets REMAP_FULL and posts an event of class 4.
DESIGN CHOICE, log 45. -/
def remapInstall (c a : Nat) (s : State) : State :=
  if s.tcs.running && decide (detections s c a ≥ s.mem.thr) && !s.mem.remaps.contains (c, a) then
    if remapUsed s c < 16 then installRemap c a s
    else postEvent 4 c [0#32, 0#32, 0#32] { s with mem := { s.mem with full := s.mem.full ||| 2 ^ c } }
  else s

/-- Meaning of REMAP_INSTALL. -/
def execRemapInstall (c a : Nat) (s : State) : Out := onUnit (classAddr s c a) (remapInstall c a s)

/-- MEM.REMAP_SET: class, address (two words), install (1) or remove (0). -/
def remapSetCmd (a : List W32) (s : State) : Ans :=
  let c := arg a 0
  let adr := arg a 1 + arg a 2 * 2 ^ 32
  let on := decide (arg a 3 = 1)
  let have_ := s.mem.remaps.contains (c, adr)
  checked [
    (!classAddr s c adr || badBool (arg a 3), Code.badArg),
    (on && !have_ && decide (remapUsed s c ≥ 16), Code.conflict),
    (!on && !have_, Code.notFound)] (fun s =>
      ok [] (if on then (if have_ then s else installRemap c adr s)
        else { s with
          mem := { s.mem with remaps := s.mem.remaps.erase (c, adr), full := s.mem.full &&& (511 - 2 ^ c) }
          flash := { s.flash with remaps := s.flash.remaps.erase (c, adr) } })) s

/-- Meaning of MEM_REMAP_SET. -/
def execMemRemapSet (v : Via) (a : List W32) (s : State) : Out := tcsCommand 0x0F01 remapSetCmd v a s

/-- MEM.SCRUB_SET: class mask, EN, LAP_WARN in ms, REMAP_THRESHOLD. -/
def scrubSetCmd (a : List W32) (s : State) : Ans :=
  checked [(decide (arg a 0 ≥ 512) || badBool (arg a 1) || decide (arg a 2 ≥ 2 ^ 24) || decide (arg a 3 < 2) || decide (arg a 3 > 15), Code.badArg)]
    (fun s =>
      let s := (List.range 9).foldl (fun s c =>
        if bit (arg a 0) c then
          modScrub c (fun x => { x with en := arg a 1 == 1, warn := arg a 2, slow := x.slow && decide (arg a 2 ≠ 0) }) s
        else s) s
      ok [] { s with mem := { s.mem with thr := arg a 3 } }) s

/-- Meaning of MEM_SCRUB_SET. -/
def execMemScrubSet (v : Via) (a : List W32) (s : State) : Out := tcsCommand 0x0F02 scrubSetCmd v a s

/-! ### Filling (R427, R461) -/

/-- The words of the classes in `mask` carry fresh check bits; `plain` spares the cells of the Plain service region. -/
def clearPoison (mask : Nat) (plain : Bool) (s : State) : State :=
  { s with mem := { s.mem with poison := s.mem.poison.filter fun e =>
      !(bit mask (e.1 / 2 ^ 36)) || (plain && decide (e.1 < 32 * 131072)) } }

/-- Every byte of a held frame and every escrow of a chit at 0. -/
def zeroChits (f : Chit → Chit) (s : State) : State := { s with chits := s.chits.map fun e => (e.1, e.2.map f) }

/-- Every word of a class becomes 0. DESIGN CHOICE, log 45. -/
def zeroClass (s : State) (c : Nat) : State :=
  match c with
  | 0 => zeroChits (fun x => { x with bytes := List.replicate x.bytes.length 0#8 }) s
  | 1 => { s with tbl := { s.tbl with slots := [] } }
  | 2 => { s with led := { s.led with
      banks := s.led.banks.map fun e => (e.1, { e.2 with rows := [], energy := [], plain := [] })
      caches := [], mapHeld := [], mapAct := [] } }
  | 3 => { s with meters := [], tenants := s.tenants.map fun e => (e.1, { e.2 with treasury := 0, purses := [] }) }
  | 4 => { s with classes := s.classes.map fun e => (e.1, { e.2 with now := {}, olds := e.2.olds.map fun o => (o.1, {}) }) }
  | 5 =>
    let zb (b : Bank) : Bank := { b with words := [], alarm := false }
    let s := zeroChits (fun x => { x with learns := [], hits := [], debits := [], purse := none, mirrorSel := none, tally := [] }) s
    { s with
      harps := s.harps.map fun e => (e.1, { e.2 with bank0 := zb e.2.bank0, bank1 := zb e.2.bank1 })
      groups := s.groups.map fun e => (e.1, { e.2 with buckets := e.2.buckets.map fun _ => 0 }) }
  | 8 => { s with
      up := { s.up with hold := s.up.hold.map fun _ => ⟨0, 0, false, true, 0, 0, 0, 0, 0⟩ }
      tal := { s.tal with streams := s.tal.streams.map fun e =>
        (e.1, { e.2 with store := e.2.store.map fun r => List.replicate r.length 0#8 }) } }
  | _ => s

/-- The fill engine has written every word of the classes in `mask`. DESIGN CHOICE, log 45. -/
def fillClasses (mask : Nat) (s : State) : State :=
  ((List.range 9).filter fun c => bit mask c).foldl zeroClass (clearPoison mask false s)

/-- The classes that Titimus fills after a cold reset (R427): every one but the clusters' own SRAM. -/
def bootFill : Nat := 0x13F

/-- The fill engine finishes. The first fill after a cold reset is Titimus's own, of memories that nothing has used yet; later ones belong to
MEM.FILL or SYS.SPLIT_SET, which complete. DESIGN CHOICE, log 45. -/
def fillDone (s : State) : State :=
  match s.mem.filling with
  | none => s
  | some mask =>
    let s := { s with mem := { s.mem with filling := none } }
    if !s.dev.fillsOk then
      let s := clearPoison mask true s
      { s with dev := { s.dev with fillsOk := true } }
    else
      let split := jobRunning (fun k => match k with | .split _ => true | _ => false) s
      let s := if split then clearPoison mask false s else fillClasses mask s
      settleJobs (fun k => match k with | .fill _ => true | .split _ => true | _ => false) Code.done [] s

/-- Meaning of FILL_DONE. -/
def execFillDone (s : State) : Out := .next (fillDone s)

/-- MEM.FILL: class mask. -/
def memFillCmd (a : List W32) (s : State) : Ans :=
  let m := arg a 0
  let runs (k : Nat) : Bool := if s.pair.owner = k then s.tcs.running else s.tcs.standby.isSome
  checked [
    (decide (m ≥ 512), Code.badArg),
    ((decide (m &&& 0x3F ≠ 0) && decide (s.dev.plain &&& s.dev.fuses.sliceEn ≠ s.dev.fuses.sliceEn))
      || (bit m 6 && runs 0) || (bit m 7 && runs 1)
      || (bit m 8 && (!s.led.arch.isEmpty || decide (s.tal.period ≠ 0))), Code.conflict),
    (s.mem.filling.isSome, Code.busy)] (fun s => .pending (.fill m) { s with mem := { s.mem with filling := some m } }) s

/-- Meaning of MEM_FILL. -/
def execMemFill (v : Via) (a : List W32) (s : State) : Out := tcsCommand 0x0F03 memFillCmd v a s

/-! ### The memory split (R145, R225, R340) -/

/-- The downstream ring holds an inject entry not yet completed: in execution, or before the doorbell. -/
def injectWaits (s : State) : Bool :=
  s.hif.inject.isSome || (s.hif.dsEn &&
    (List.range (ringUsed s.hif.dsLog2 s.hif.dsDb s.hif.dsCons)).any fun i => decide (entryKind (dsEntry s (s.hif.dsCons + i)) = 1))

/-- The data plane is quiesced (R340). -/
def quiesced (s : State) : Bool := !(s.ports.any fun e => e.2.cfg.enabled || (fullOf e.2).cfg.enabled) && s.chits.isEmpty && !injectWaits s

/-- The new split: every logical table is emptied and every walk closed (R145); bitmaps, USED and BORROWED restart, pool entries and port maps
stay (R225). A reclaim sweep in progress goes on over the new cells. -/
def applySplit (k : Nat) (s : State) : State :=
  { s with
    tbl := { s.tbl with slots := [], walks := [], fixup := [], reported := [] }
    mint := { s.mint with
      split := k, cells := []
      pools := s.mint.pools.map fun e => (e.1, { e.2 with used := 0, borrowed := 0, state := 0, contrib := [], stopped := [] }) } }

/-- The SIZEs of pools 1 to 31 in cells. -/
def poolSizes (s : State) : Nat := ((List.range 32).map fun p => if p = 0 then 0 else (poolAt s p).size).sum

/-- SYS.SPLIT_SET: split. -/
def splitSetCmd (a : List W32) (s : State) : Ans :=
  let k := arg a 0
  if k ≤ 2 && s.mem.filling.isSome then .wait
  else
    checked [
      (decide (k > 2), Code.badArg),
      (!quiesced s, Code.busy),
      (decide (poolSizes s + 4096 > splitCells k), Code.conflict)] (fun s =>
        let s := applySplit k (finishWork s)
        .pending (.split k) { s with mem := { s.mem with filling := some 3 } }) s

/-- Meaning of SYS_SPLIT_SET. -/
def execSysSplitSet (v : Via) (a : List W32) (s : State) : Out := tcsCommand 0x0102 splitSetCmd v a s

/-! ### Table repair (R152) -/

/-- The words of an entry in one replica. -/
def entryHeld (q loc : Nat) (e : Entry) : List Config.Held :=
  if e.wide then [.tableSlot q loc, .tableSlot q (loc + 1)] else [.tableSlot q loc]

/-- The table engine repairs an entry that a lookup has reported from a clean replica, or records it lost.
DESIGN CHOICE, log 45. -/
def tablePoisonRepair (loc : Nat) (s : State) : State :=
  if s.tbl.reported.contains loc then
    let s := modTbl (fun t => { t with reported := t.reported.filter (· != loc) }) s
    match slotAt s loc with
    | none => s
    | some e =>
      if !entryPoison s loc e then s
      else if (List.range 4).any (fun q => !entryPoisoned s q loc e) then
        let s := ((List.range 4).map fun q => entryHeld q loc e).flatten.foldl (fun s h => cleanse h s) s
        let e := { e with hit := if e.hit = 0 then 0 else 15 }
        bump Ctr.tblRepair (modTbl (fun t => { t with slots := tabSet none t.slots loc (some e) }) s)
      else detection 1 true 0xFF (Config.wordOf (.tableSlot 0 loc)) (bump Ctr.tblPoisonLost s)
  else s

/-- A location of the space: a slot of a bucket, or a stash slot. -/
def spaceLoc (s : State) (loc : Nat) : Bool := decide (loc < 4 * buckets s) || (decide (stashBase ≤ loc) && decide (loc < stashBase + 64))

/-- Meaning of TABLE_POISON_REPAIR. -/
def execTablePoisonRepair (loc : Nat) (s : State) : Out := onUnit (spaceLoc s loc) (tablePoisonRepair loc s)

/-! ### The LPDDR5X controller (R462) -/

/-- Training ends at a rate, with the channels' common density, or fails. -/
def ddrTrainingDone (rate : Option Nat) (density : Nat) (s : State) : State :=
  if decide (s.dev.asserted = 0) && decide (s.dev.step ≥ 2) && !s.mem.ddrReady && !s.mem.ddrFail then
    match rate with
    | some r => { s with mem := { s.mem with ddrReady := true, rate := r, density := density } }
    | none => { s with mem := { s.mem with ddrFail := true } }
  else s

/-- Meaning of DDR_TRAINING_DONE. -/
def execDdrTrainingDone (rate : Option Nat) (density : Nat) (s : State) : Out :=
  onUnit ((match rate with | some r => decide (r < 3) | none => true) && decide (density < 4)) (ddrTrainingDone rate density s)

/-! ### Registers and queries -/

/-- MEM_STATUS. -/
def memStatus (s : State) : W32 :=
  packW [(0, b2n s.mem.filling.isSome), (1, b2n (s.mem.ddrReady && domainWorks s 32)), (2, b2n s.mem.ddrFail), (3, s.mem.full)]
/-- MEM_DDR_STATUS. -/
def ddrStatus (s : State) : W32 := packW [(0, s.mem.rate), (2, s.mem.density), (5, usableGiB s)]
/-- MEM_SCRUB_LAP of a class. -/
def scrubLap (s : State) (c : Nat) : W32 := let x := scrubAt s c; packW [(0, x.lap), (24, b2n x.slow), (25, b2n x.en)]

/-- MEM.STATUS: the registers of the chapter in ascending offset. -/
def memStatusCmd (_ : List W32) (s : State) : Ans :=
  ok ([memStatus s, ddrStatus s, s.mem.lastErr, s.mem.lastLo, s.mem.lastHi] ++ (List.range 9).map (scrubLap s)
    ++ (List.range 9).map fun c => w32 (remapUsed s c)) s

/-- Meaning of MEM_STATUS. -/
def execMemStatus (v : Via) (a : List W32) (s : State) : Out := tcsCommand 0x0F81 memStatusCmd v a s

/-- An entry of MEM.LOG: class, kind and syndrome as MEM_LAST_ERR places them, the address as two words, and NS32. -/
def logWords (e : MemLog) : List W32 :=
  [packW [(0, e.cls), (4, b2n e.uncorr), (5, e.synd)], w32 e.addr, w32 (e.addr / 2 ^ 32), w32 e.ts]

/-- MEM.LOG: first entry of the history, counted from the oldest, and count. -/
def memLogCmd (a : List W32) (s : State) : Ans :=
  checked [(decide (arg a 1 < 1) || decide (arg a 1 > 64) || decide (arg a 0 ≥ s.mem.history.length), Code.badArg)] (fun s =>
    ok (((s.mem.history.reverse.drop (arg a 0)).take (arg a 1)).map logWords).flatten s) s

/-- Meaning of MEM_LOG. -/
def execMemLog (v : Via) (a : List W32) (s : State) : Out := tcsCommand 0x0F82 memLogCmd v a s

end Sys2Proof.Machine
end

