-- ==== Sys2Proof/Machine/PowerFam.lean ====
section
/-! DEFINITION. Power domains, Doze, pads and wake sources (chapter 19), PORT.ENABLE, and the completion of commands. -/
namespace Sys2Proof.Machine

/-! ### Domains (R438, Table 19-1) -/

/-- The mask of one domain. -/
def domBit (d : Nat) : Nat := 2 ^ d
/-- Every domain of a mask, ascending. -/
def domains (m : Nat) : List Nat := (List.range 38).filter fun d => bit m d
/-- The domains of a fused slice. -/
def fusedDomain (s : State) (d : Nat) : Bool := decide (d < 32) && !bit s.dev.fuses.sliceEn (d % 16)
/-- A mask names a fused slice's domain or a bit above 37. -/
def badDomains (s : State) (m : Nat) : Bool := decide (m ≥ 2 ^ 38) || (domains m).any (fusedDomain s)
/-- `m` without the domains of `k`. -/
def without (m k : Nat) : Nat := m - (m &&& k)
/-- Owner cluster's domain. -/
def ownerDomain (s : State) : Nat := 34 + s.pair.owner
/-- Standby cluster's domain. -/
def standbyDomain (s : State) : Nat := 35 - s.pair.owner
/-- In Doze: the owner cluster is off (R444). -/
def inDoze (s : State) : Bool := !domainOn s (ownerDomain s)
/-- Change the power state. -/
def modPwr (f : PowerState → PowerState) (s : State) : State := { s with pwr := f s.pwr }
/-- Release the pads of domains that are on (R445). -/
def releasePads (m : Nat) (s : State) : State :=
  let free := (domains m).foldl (fun a d => if domainOn s d then a + domBit d else a) 0
  modPwr (fun p => { p with held := without p.held free }) s

/-! ### Requests (R441 to R443, R448) -/

/-- The order of a power-down: port clusters, slice cores, the others, each ascending. -/
def downOrder (ds : List Nat) : List Nat :=
  ds.filter (fun d => decide (16 ≤ d) && decide (d < 32)) ++ ds.filter (fun d => decide (d < 16)) ++ ds.filter (fun d => decide (32 ≤ d))

/-- A power-state request is in progress (R441); one that puts the owner cluster off is so until it is off (R444). -/
def requestBusy (s : State) : Bool := s.pwr.req.isSome || s.pwr.doze.isSome

/-- The commands whose ON or OFF request is done are answered: DONE, or CONFLICT with the first of their clusters refused under R448 in DETAIL.
One OFF request at most is in progress. -/
def settleDomains (on : Bool) (mask : Nat) (conflict : List Nat) (s : State) : State :=
  let mine (k : JobKind) : Bool := match k with | .domains m o => o == on && (!on || decide (without m mask = 0)) | _ => false
  let names (d : Nat) (k : JobKind) : Bool := match k with | .domains m _ => mine k && bit m d | _ => false
  settleJobs mine Code.done [] (conflict.foldl (fun s d => settleJobs (names d) Code.conflict (details d 0) s) s)

/-- A wake by the sources in `m` is reported: an event of class 8 for each (R447). DESIGN CHOICE, log 6 and 68. -/
def reportWake (m : Nat) (s : State) : State := ((List.range 6).filter fun k => bit m k).foldl (fun s k => postOpen 8 k s) s

/-- A request has brought every domain where it goes. A wake by a source is recorded, counted and reported (R447). DESIGN CHOICE, log 44. -/
def finishRequest (r : PwrReq) (s : State) : State :=
  let s := modPwr (fun p => { p with req := none }) s
  let s := if r.on then releasePads r.rel s else s
  let s := settleDomains r.on r.mask r.conflict s
  if r.on && decide (r.sources ≠ 0) then
    reportWake r.sources
      (bump Ctr.devWakeCount (modPwr (fun p => { p with wakeLast := r.sources, wakeTime := ns32 s, wokenAt := some r.began }) s))
  else
    if !r.on && bit r.mask (ownerDomain s) then modPwr (fun p => { p with doze := some s.cycles }) s else s

/-- The port clusters of a mask whose slice core is off and not named: R448 refuses them. -/
def strayClusters (s : State) (m : Nat) : List Nat :=
  (domains m).filter fun d => decide (16 ≤ d) && decide (d < 32) && !domainOn s d && !domainOn s (d - 16) && !bit m (d - 16)

/-- Begin a wake request of the domains in `mask`. -/
def beginWake (mask rel sources : Nat) (command : Bool) (s : State) : State :=
  let stray := strayClusters s mask
  let todo := (downOrder ((domains mask).filter fun d => !domainOn s d && !fusedDomain s d && !stray.contains d)).reverse
  let r : PwrReq :=
    { on := true, todo := todo, mask := mask, rel := rel, conflict := stray, sources := sources, command := command
      began := s.cycles, since := s.cycles }
  if todo.isEmpty then finishRequest r s else modPwr (fun p => { p with req := some r }) s

/-- The latched set, if any, is acted on as one wake request once no request is in progress.
DESIGN CHOICE, log 44. -/
def runLatched (s : State) : State :=
  let p := s.pwr
  if !requestBusy s && (decide (p.latched ≠ 0) || p.latchedCmd || decide (p.latchedSrc ≠ 0)) then
    beginWake p.latched p.latchedRel p.latchedSrc p.latchedCmd
      (modPwr (fun p => { p with latched := 0, latchedRel := 0, latchedSrc := 0, latchedCmd := false }) s)
  else s

/-- A wake request: begun, or latched while a request is in progress. DESIGN CHOICE, log 44. -/
def wakeRequest (mask rel sources : Nat) (command : Bool) (s : State) : State :=
  if requestBusy s then
    modPwr (fun p => { p with
      latched := p.latched ||| mask, latchedRel := p.latchedRel ||| rel, latchedSrc := p.latchedSrc ||| sources
      latchedCmd := p.latchedCmd || command }) s
  else beginWake mask rel sources command s

/-- The next domain of the request in progress, or its end and the latched wake. -/
def advanceRequest (r : PwrReq) (s : State) : State :=
  let rest := r.todo.drop 1
  if rest.isEmpty then runLatched (finishRequest r s) 
  else modPwr (fun p => { p with req := some { r with todo := rest, since := s.cycles } }) s

/-! ### Going off and coming on -/

/-- A slice's monitors do not count: VALID reads 0 (R323). -/
def stopMonitors (k : Nat) (s : State) : State :=
  modTmp (fun t => { t with mons := (List.range 4).foldl (fun m i => tabSet {} m (4 * k + i) { tabGet {} m (4 * k + i) with valid := false }) t.mons }) s

/-- What a slice core does before it goes off (R440): its ledger cache is flushed and its positive purses go to the Treasury, within the cap
of R198. -/
def leaveSlice (k : Nat) (s : State) : State :=
  let s := stopMonitors k (flushCache k (fun _ => true) s)
  (s.tenants.map fun e => e.1).foldl (fun s t =>
    let v := tenantAt s t
    let x : Int := tabGet 0 v.purses k
    if x > 0 then
      let v := { v with purses := tabSet 0 v.purses k 0 }
      setTenant t { v with treasury := min (v.treasury + x) (max v.treasury (8000 * v.actBurst - positivePurses v)) } s
    else s) s

/-- What ends when a domain goes off (Table 19-1). -/
def domainStops (d : Nat) (s : State) : State :=
  if d < 16 then leaveSlice d s
  else if d < 32 then ((List.range 32).map fun i => 32 * (d - 16) + i).foldl (fun s p => linkDown p s) s
  else if d = 33 then { s with hif := { s.hif with tunnelUp := false } }
  else if d = ownerDomain s then
    let s := modPair (fun p => { p with ready := false }) (holdStat s)
    { s with tcs := { s.tcs with running := false, standby := none } }
  else if d = standbyDomain s then modPair (fun p => { p with ready := false }) { s with tcs := { s.tcs with standby := none } }
  else if d = 37 then
    (List.range 4).foldl (fun s k => let g := groupOf s k; if g.en then setGroupOf k { g with run := false, armed := none } s else s) s
  else s

/-! ### Wake sources (R447, Table 19-2) -/

/-- A source's firing is possible now: the host has rung in Doze, an off port cluster is listened to, the trigger has fired, a trip has fired.
What the peer and WAKE_N do is the command itself. -/
def sourceFires (s : State) (k : Nat) : Bool :=
  if k = 0 then inDoze s && s.pwr.bell
  else if k = 1 then (List.range 16).any fun i => bit s.pwr.lsd i && !domainOn s (16 + i)
  else if k = 2 then decide ((trigAt s s.pwr.wakeTrig).fires ≠ s.pwr.seen)
  else if k = 3 then decide (s.con.trips ≠ s.pwr.tripSeen)
  else true

/-- A source's firing has been acted on. -/
def sourceSeen (k : Nat) (s : State) : State :=
  modPwr (fun p =>
    if k = 0 then { p with bell := false }
    else if k = 2 then { p with seen := (trigAt s s.pwr.wakeTrig).fires }
    else if k = 3 then { p with tripSeen := s.con.trips } else p) s

/-- Sources that fire at the same instant are all recorded in one wake (R447): source `k` joins the wake that another source began in this cycle,
in progress or complete. -/
def joinWake (k : Nat) (s : State) : Option State :=
  match s.pwr.req with
  | some r =>
    if r.on = true ∧ r.sources ≠ 0 ∧ r.began = s.cycles then
      some (modPwr (fun p => { p with req := some { r with sources := r.sources ||| 2 ^ k } }) s)
    else none
  | none =>
    if s.pwr.wokenAt = some s.cycles then some (reportWake (2 ^ k) (modPwr (fun p => { p with wakeLast := p.wakeLast ||| 2 ^ k }) s)) else none

/-- An enabled source fires: it wakes the domains of WAKE_DOMAINS. -/
def wake (k : Nat) (s : State) : State :=
  if bit s.pwr.srcEn k && sourceFires s k then
    let s := sourceSeen k s
    match joinWake k s with
    | some t => t
    | none => wakeRequest s.pwr.wakeDomains 0 (2 ^ k) false s
  else s

/-- Meaning of WAKE. -/
def execWake (k : Nat) (s : State) : Out := onUnit (decide (k < 6)) (wake k s)

/-- Meaning of PAD_RELEASE: a write of DEV_PAD_REL_LO, or of DEV_PAD_REL_HI when `high` (R445). -/
def execPadRelease (high : Bool) (val : W32) (s : State) : Out :=
  .next (releasePads (if high then (fld val 5 0) * 2 ^ 32 else val.toNat) s)

/-- Meaning of PEER_WAKE_REQ: a write of DEV_WAKE_CFG whose bit 10 sends a wake request to the peer. -/
def execPeerWakeReq (val : W32) (s : State) : Out :=
  .next (if bit val.toNat 10 then modPwr (fun p => { p with peerWakes := p.peerWakes + 1 }) s else s)

/-! ### POWER commands (Table 19-3) -/

/-- Doze may be entered by a request that names the domains of `m` (R444). -/
def dozeAllowed (s : State) (m : Nat) : Bool :=
  let gone (d : Nat) : Bool := bit m d || !domainOn s d
  let awake (k : Nat) : Bool := bit s.pwr.srcEn k &&
    (if k = 0 then !gone 33 else if k = 1 then (List.range 16).any (fun i => bit s.pwr.lsd i && gone (16 + i))
      else if k = 3 then !gone 37 else true)
  gone (standbyDomain s) && (!s.con.cycleEn || !s.con.everEn) && !s.pair.confirmed
    && !(allVias.any fun v => match channelAt s v with | .running _ => true | _ => false) && (List.range 6).any awake

/-- A power-down of domain `d`, with the domains of `m`, meets the condition that Table 19-1 refuses.
DESIGN CHOICE, log 44. -/
def offRefused (s : State) (m d : Nat) : Bool :=
  if d = 0 then true
  else if d < 16 then domainOn s (16 + d) && !bit m (16 + d)
  else if d < 32 then (List.range 32).any fun i => let p := 32 * (d - 16) + i; (portAt s p).cfg.enabled || (fullAt s p).cfg.enabled
  else if d = 32 then domainOn s 36
  else if d = 33 then inDoze s
  else if d = ownerDomain s then !dozeAllowed s m
  else if d = 37 then (List.range 32).any fun o => (outletAt s o).trip.en
  else false

/-- POWER.DOMAIN_SET: domain mask (two words), ON (1) or OFF (0), HOLD_PADS. DESIGN CHOICE, log 44. -/
def domainSetCmd (a : List W32) (s : State) : Ans :=
  let m := arg a 0 + arg a 1 * 2 ^ 32
  let on := decide (arg a 2 = 1)
  let s := if on then s else wake 3 (wake 2 s)
  checked [
    (badDomains s m || badBool (arg a 2) || badBool (arg a 3), Code.badArg),
    (!on && requestBusy s, Code.busy),
    (!on && ((domains m).filter (domainOn s)).any (offRefused s m), Code.conflict)] (fun s =>
      if on then .pending (.domains m true) (wakeRequest m (if arg a 3 = 0 then m else 0) 0 true s)
      else
        let todo := downOrder ((domains m).filter fun d => domainOn s d && decide (d ≠ ownerDomain s))
        let r : PwrReq := { on := false, todo := todo, mask := (domains m).foldl (fun x d => if domainOn s d then x + domBit d else x) 0,
                              began := s.cycles, since := s.cycles }
        if todo.isEmpty then
          ok [] (if bit r.mask (ownerDomain s) then modPwr (fun p => { p with doze := some s.cycles }) s else s)
        else .pending (.domains m false) (modPwr (fun p => { p with req := some r }) s)) s

/-- A command that begins a request which has nothing to do is complete at once. -/
def domainSetDone (a : List W32) (s : State) : Ans :=
  match domainSetCmd a s with
  | .pending k t =>
    if !requestBusy t then
      match strayClusters s (arg a 0 + arg a 1 * 2 ^ 32) with
      | d :: _ => .reply Code.conflict (details d 0) t
      | [] => .reply Code.done [] t
    else .pending k t
  | x => x

/-- Meaning of POWER_DOMAIN_SET. -/
def execPowerDomainSet (v : Via) (a : List W32) (s : State) : Out := tcsCommand 0x0D01 domainSetDone v a s

/-- POWER.WAKE_SET: SRC_EN, WAKE_TRIG, LSD mask, WAKE_DOMAINS (two words). -/
def wakeSetCmd (a : List W32) (s : State) : Ans :=
  let m := arg a 3 + arg a 4 * 2 ^ 32
  checked [
    (decide (arg a 0 > 63) || decide (arg a 1 > 15) || decide (arg a 2 ≥ 2 ^ 16) || decide (arg a 2 &&& s.dev.fuses.sliceEn ≠ arg a 2)
      || badDomains s m, Code.badArg)] (fun s =>
    ok [] (modPwr (fun p => { p with
      srcEn := arg a 0, wakeTrig := arg a 1, lsd := arg a 2, wakeDomains := m, seen := (trigAt s (arg a 1)).fires }) s)) s

/-- Meaning of POWER_WAKE_SET. -/
def execPowerWakeSet (v : Via) (a : List W32) (s : State) : Out := tcsCommand 0x0D02 wakeSetCmd v a s

/-- DEV_PWR_STATUS. -/
def pwrStatus (s : State) : W32 :=
  packW [(0, b2n (requestBusy s)), (1, b2n (decide (s.pwr.latched ≠ 0) || s.pwr.latchedCmd)), (2, b2n (inDoze s))]
/-- The 38-bit field of domains that are on. -/
def pwrOn (s : State) : Nat := ((List.range 38).map fun d => if domainOn s d then domBit d else 0).sum
/-- DEV_WAKE_CFG. -/
def wakeCfg (s : State) : W32 := packW [(0, s.pwr.srcEn), (6, s.pwr.wakeTrig)]

/-- POWER.STATUS: the registers of the chapter in ascending offset, the LSD mask and WAKE_DOMAINS. -/
def powerStatusCmd (_ : List W32) (s : State) : Ans :=
  ok ([pwrStatus s] ++ two (pwrOn s) ++ two s.pwr.held ++ [0#32, 0#32, wakeCfg s, w32 s.pwr.wakeLast, w32 s.pwr.wakeTime, w32 s.pwr.lsd]
    ++ two s.pwr.wakeDomains) s

/-- Meaning of POWER_STATUS. -/
def execPowerStatus (v : Via) (a : List W32) (s : State) : Out := tcsCommand 0x0D81 powerStatusCmd v a s

/-! ### PORT.ENABLE (Table 02-5) and the completion of commands -/

/-- PORT.ENABLE: port. Its cluster, and its slice core, are woken when they are off. An unconfigured port, one whose lanes another enabled port
has taken, and one whose quad runs at another rate by then are BAD_ARG. DESIGN CHOICE, log 61. -/
def portEnableCmd (a : List W32) (s : State) : Ans :=
  let p := arg a 0
  let k := portSlice p
  checked [
    (badFront s p || decide ((fullAt s p).cfg.speed = 0) || lanesTaken s p (cfgLanes (fullAt s p).cfg)
      || quadClash s p (cfgLanes (fullAt s p).cfg) (fullAt s p).cfg.laneRate,
      Code.badArg),
    ((fullAt s p).cfg.enabled || enabling s p, Code.busy)] (fun s =>
      let s := modFull p (fun q => { q with cfg := { q.cfg with enabled := true, lit := false } }) s
      .pending (.portEnable p) (if domainOn s (16 + k) then s else wakeRequest (domBit k + domBit (16 + k)) 0 0 false s)) s

/-- Meaning of PORT_ENABLE. -/
def execPortEnable (v : Via) (a : List W32) (s : State) : Out := tcsCommand 0x0202 portEnableCmd v a s

/-- SerDes calibration of a port is done: the pads of its cluster are released and its transmitters leave electrical idle (step 3). -/
def portLit (p : Nat) (s : State) : State :=
  modFull p (fun q => { q with cfg := { q.cfg with lit := true } }) (releasePads (domBit (16 + portSlice p)) s)

/-- What a command in this channel waits for has come by the time it completes: the calibration of a port whose cluster is on, the last word of
a staged bank, the last bucket of a group, the last write of the table engine. DESIGN CHOICE, log 10. -/
def lastWork (v : Via) (s : State) : State :=
  match channelAt s v with
  | .running j =>
    let done := setChannel v (.running { j with outcome := some (Code.done, []) })
    match j.kind, j.outcome with
    | .portEnable p, none => if domainOn s (16 + portSlice p) then done (portLit p s) else s
    | .load _, none => done s
    | .members i, none => done (writeBuckets i s)
    | .table, none => finishWork s
    | _, _ => s
  | _ => s

/-- The 1 ms after which the owner cluster goes off counts from the acknowledge of the request that names it (R444). -/
def dozeFrom (v : Via) (s : State) : State :=
  match channelAt s v with
  | .running j => if (match j.kind with | .domains _ on => !on | _ => false) then modPwr (fun p => { p with doze := p.doze.map fun _ => s.cycles }) s else s
  | _ => s

/-- Meaning of COMMAND_COMPLETE (R366, R374, R389). DESIGN CHOICE, log 10. -/
def execCommandComplete (v : Via) (s : State) : Out :=
  if viaOk v then .next (commandComplete v (dozeFrom v (lastWork v s))) else .fault .noSuchUnit

/-! ### The host link (R344) -/

/-- The host's connection manager establishes the PCIe tunnel; `fast`: at 80 Gb/s. -/
def tunnelEstablished (fast : Bool) (s : State) : State :=
  if domainWorks s 33 && decide (s.dev.asserted = 0) && decide (s.dev.step ≥ 3) then
    { s with hif := { s.hif with tunnelUp := true, link80 := fast } }
  else s

/-- Meaning of PCIE_TUNNEL_ESTABLISHED. -/
def execPcieTunnelEstablished (fast : Bool) (s : State) : Out := .next (tunnelEstablished fast s)

end Sys2Proof.Machine
end

