-- ==== Sys2Proof/Machine/SysFam.lean ====
section
/-! DEFINITION. Titimus's own life: booting, the standby, signed firmware, and the SYS commands (chapter 16, R399, R401, R403). -/
namespace Sys2Proof.Machine

/-! ### Signed firmware (R393, R394) -/

/-- A little-endian word of an image header. -/
def hdrWord (img : List Byte) (o n : Nat) : Nat := leNat ((img.drop o).take n)
/-- A big-endian field of an image header. -/
def hdrBig (img : List Byte) (o n : Nat) : Nat := beNat ((img.drop o).take n)

/-- The format check of R394. DESIGN CHOICE, log 46. -/
def formatOk (img : List Byte) (len : Nat) : Bool :=
  let body := hdrWord img 0x10 4
  decide (hdrWord img 0 4 = 0x54494D54) && decide (hdrWord img 4 2 = 1) && decide (body % 16 = 0) && decide (16 ≤ body)
    && decide (body ≤ 3145728) && decide (hdrWord img 0x14 4 < body) && decide (len = 512 + body)

/-- The signature check of R394: SIG under PUBKEY over SHA-384 of header bytes 0x000-0x17F and the body.
DESIGN CHOICE, log 46. -/
def signatureOk (img : List Byte) : Bool :=
  decide (hdrWord img 0x100 1 = 4) &&
    ecdsaOk (sha384 (img.take 0x180 ++ img.drop 512)) (hdrBig img 0x180 48) (hdrBig img 0x1B0 48) (hdrBig img 0x101 48, hdrBig img 0x131 48)

/-- The first check of R394 that an image fails: 1 format, 2 key hash, 3 signature, 4 SVN, 5 level.
DESIGN CHOICE, log 46. -/
def imageFault (s : State) (img : List Byte) (len : Nat) : Option Nat :=
  if !formatOk img len then some 1
  else if sha384 ((img.drop 0x100).take 97) ≠ s.dev.fuses.keyHash then some 2
  else if !signatureOk img then some 3
  else if hdrWord img 0x18 2 < s.dev.fuses.minSvn then some 4
  else if hdrWord img 0x1C 1 < 1 then some 5
  else none

/-- An image slot of the flash. -/
def slotImage (s : State) (k : Nat) : Image := if k = 0 then s.flash.slot0 else s.flash.slot1
/-- Write an image slot of the flash. -/
def setSlot (k : Nat) (i : Image) (s : State) : State :=
  { s with flash := if k = 0 then { s.flash with slot0 := i } else { s.flash with slot1 := i } }
/-- A stored image is valid under R394 now. -/
def imageValid (s : State) (i : Image) : Bool := i.valid && decide (i.svn ≥ s.dev.fuses.minSvn) && decide (i.level ≥ 1)

/-- The preferred slot; slot 0 when the flash header is invalid (R428). -/
def preferredSlot (s : State) : Nat := if s.flash.hdrOk then s.flash.preferred % 2 else 0
/-- The slot that the boot ROM tries first (R394, R429). -/
def firstSlot (s : State) : Nat := if s.dev.straps.bootSel then 1 - preferredSlot s else preferredSlot s
/-- The slot from which a cluster boots, if either holds a valid image. DESIGN CHOICE, log 46. -/
def bootSlot (s : State) : Option Nat :=
  if imageValid s (slotImage s (firstSlot s)) then some (firstSlot s)
  else if imageValid s (slotImage s (1 - firstSlot s)) then some (1 - firstSlot s)
  else none

/-! ### Booting (R401, Table 18-2) -/

/-- What Titimus finds in the flash: an invalid header names no CFG_OFF and TUNE_OFF, so nothing stored is found (R428).
DESIGN CHOICE, log 46. -/
def storedFlash (s : State) : Flash :=
  if s.dev.hdrOk then s.flash else { s.flash with reqCapo := none, split := none, tune := none, record := none, remaps := [] }

/-- What Titimus does when it first runs after a cold reset: it takes the stored configuration and the Tuning record, installs the stored remap
entries, applies the memory split and fills the memories (R335, R340, R391, R427, R459). -/
def firstBoot (s : State) : State :=
  let f := storedFlash s
  let split := match f.split with | some k => k | none => 1
  let s := { s with
    dev := { s.dev with booted := true }
    mem := { s.mem with remaps := f.remaps, filling := some bootFill }
    mint := { s.mint with split := split } }
  let s := match f.tune with
    | some x => modTmp (fun t => { t with interval := x.1, alertEn := x.2 }) s
    | none => s
  let s := modTmp (fun t => { t with reqCapo := f.reqCapo.getD 3 }) s
  match f.record with
  | some r => modTmp (fun t => { t with
      stress := r.stress, recordOk := true, history := r.history
      a := (List.range 17).foldl (fun m i => tabSet 0 m i (sgn 16 (r.a.getD i 0))) [] }) s
  | none => s

/-- A cluster has loaded Titimus from the flash: Titimus runs and CTRL_AVAIL reads 1, unless neither slot holds a valid image (R394). -/
def bootComplete (s : State) : State :=
  if !s.tcs.running && !s.pair.switching && decide (s.dev.asserted = 0) && decide (s.dev.step ≥ 4) && !inDoze s then
    match bootSlot s with
    | none => { s with dev := { s.dev with noImage := true, fallback := false } }
    | some k =>
      let s := runTitimus { s with
        dev := { s.dev with slot := k, fallback := decide (k ≠ firstSlot s), noImage := false }
        tcs := { s.tcs with image := slotImage s k } }
      let s := modPair (fun p => { p with fedAt := s.cycles }) s
      let s := if s.dev.booted then (if s.dev.fillsOk then s else { s with mem := { s.mem with filling := some bootFill } }) else firstBoot s
      drainLog s
  else s

/-- Meaning of TITIMUS_BOOT_COMPLETE. -/
def execTitimusBootComplete (s : State) : Out := .next (bootComplete s)

/-! ### The standby (R396, R397, R399) -/

/-- A firmware load in progress: the image it loads. -/
def loadingImage (s : State) : Option Image :=
  (jobsOf (fun k => match k with | .fwLoad _ _ _ _ => true | _ => false) s).head?.bind fun vj =>
    match vj.2.kind with
    | .fwLoad v b n j => some { version := v, build := b, svn := n, jfmt := j, valid := true }
    | _ => none

/-- The standby runs Titimus and holds a current journal and checkpoint. A load in progress has written its slot and started its image. -/
def standbyReady (s : State) : State :=
  if s.tcs.running && !s.pair.ready && !s.pair.switching && domainOn s (standbyDomain s) && decide (s.dev.asserted = 0) then
    let up (i : Image) (s : State) : State :=
      checkpoint (modPair (fun p => { p with ready := true }) { s with tcs := { s.tcs with standby := some i } })
    match loadingImage s with
    | some i =>
      let s := up i (setSlot (1 - preferredSlot s) i s)
      let s := { s with tcs := { s.tcs with fwBusy := false } }
      settleJobs (fun k => match k with | .fwLoad _ _ _ _ => true | _ => false) Code.done (bytesOf [w32 i.version, w32 i.svn]) s
    | none =>
      let old : Option Image := match s.tcs.standby with
        | some i => some i
        | none => if jobRunning (fun k => decide (k = .fwCommit)) s then some s.tcs.image else (bootSlot s).map (slotImage s)
      match old with
      | some i =>
        let s := up i s
        if jobRunning (fun k => decide (k = .fwCommit)) s then
          settleJobs (fun k => decide (k = .fwCommit)) Code.done [] { s with tcs := { s.tcs with swapBlock := false } }
        else s
      | none => s
  else s

/-- Meaning of STANDBY_READY_SET. -/
def execStandbyReadySet (s : State) : Out := .next (standbyReady s)

/-! ### SYS commands (Table 16-8) -/

/-- SYS.RESET: MODE. The warm reset asserts 1 ms after the first acknowledge (R390). -/
def sysResetCmd (a : List W32) (s : State) : Ans :=
  checked [(decide (arg a 0 ≠ 1), Code.badArg)] (fun s => ok [] { s with tcs := { s.tcs with resetAt := some (s.tcs.resetAt.getD (s.cycles + 1000000)) } }) s

/-- Meaning of SYS_RESET. -/
def execSysReset (v : Via) (a : List W32) (s : State) : Out := tcsCommand 0x0101 sysResetCmd v a s

/-- SYS.CONFIG_STORE: mask (R391). -/
def configStoreCmd (a : List W32) (s : State) : Ans :=
  let m := arg a 0
  checked [(decide (m > 7), Code.badArg), (s.tcs.fwBusy, Code.busy)] (fun s =>
    ok [] { s with flash := { s.flash with
      reqCapo := if bit m 0 then some s.tmp.reqCapo else s.flash.reqCapo
      split := if bit m 1 then some s.mint.split else s.flash.split
      tune := if bit m 2 then some (s.tmp.interval, s.tmp.alertEn) else s.flash.tune } }) s

/-- Meaning of SYS_CONFIG_STORE. -/
def execSysConfigStore (v : Via) (a : List W32) (s : State) : Out := tcsCommand 0x0103 configStoreCmd v a s

/-- A role swap is in progress or asked for. -/
def swapInProgress (s : State) : Bool := s.pair.switching || s.pair.swapping.isSome || jobRunning swapJob s

/-- SYS.FW_LOAD: host address (two words), length (R396). DESIGN CHOICE, log 46. -/
def fwLoadCmd (a : List W32) (s : State) : Ans :=
  let len := arg a 2
  let img := hostRead s (arg a 0 + arg a 1 * 2 ^ 32) len
  if len < 528 || len > 512 + 3145728 then refuse Code.badArg s
  else if handover s || swapInProgress s || s.tcs.fwBusy then refuse Code.busy s
  else if s.tcs.trial then refuse Code.conflict s
  else if !canDma s then refuse Code.hostFault s
  else
    match imageFault s img len with
    | some d => refuseD Code.signature d s
    | none =>
      .pending (.fwLoad (hdrWord img 8 4) (hdrWord img 0xC 4) (hdrWord img 0x18 2) (hdrWord img 0x1A 2))
        (modPair (fun p => { p with ready := false }) { s with tcs := { s.tcs with fwBusy := true, swapBlock := true, standby := none } })

/-- Meaning of SYS_FW_LOAD. -/
def execSysFwLoad (v : Via) (a : List W32) (s : State) : Out := tcsCommand 0x0104 fwLoadCmd v a s

/-- Step 1 of a swap asked for by a command: mailboxes answer BUSY and ring fetch stops (Tables 16-10 and 17-2).
DESIGN CHOICE, log 40. -/
def askSwap (s : State) : State :=
  modPair (fun p => { p with swapping := some s.cycles, handed := false, switching := true }) (holdStat s)

/-- SYS.FW_ACTIVATE (R397, Table 16-10). -/
def fwActivateCmd (_ : List W32) (s : State) : Ans :=
  checked [(swapInProgress s || handover s, Code.busy), (!standbyOk s, Code.conflict)] (fun s => .pending .fwActivate (askSwap s)) s

/-- Meaning of SYS_FW_ACTIVATE. -/
def execSysFwActivate (v : Via) (a : List W32) (s : State) : Out := tcsCommand 0x0105 fwActivateCmd v a s

/-- SYS.FW_COMMIT (R397): the new image's slot becomes preferred and the standby is loaded with it.
DESIGN CHOICE, log 46. -/
def fwCommitCmd (_ : List W32) (s : State) : Ans :=
  checked [(!s.tcs.trial, Code.conflict)] (fun s =>
    .pending .fwCommit (modPair (fun p => { p with ready := false }) { s with
      flash := { s.flash with preferred := 1 - preferredSlot s }
      tcs := { s.tcs with trial := false, standby := none } })) s

/-- Meaning of SYS_FW_COMMIT. -/
def execSysFwCommit (v : Via) (a : List W32) (s : State) : Out := tcsCommand 0x0106 fwCommitCmd v a s

/-- SYS.SWAP (R397, R403). DESIGN CHOICE, log 40. -/
def sysSwapCmd (_ : List W32) (s : State) : Ans :=
  checked [(swapInProgress s || handover s || (s.tcs.swapBlock && !s.tcs.trial), Code.busy), (!standbyOk s, Code.conflict)] (fun s =>
    .pending .swap (askSwap s)) s

/-- Meaning of SYS_SWAP. -/
def execSysSwap (v : Via) (a : List W32) (s : State) : Out := tcsCommand 0x0107 sysSwapCmd v a s

/-- SYS.SVN_LOCK (R395). -/
def svnLockCmd (_ : List W32) (s : State) : Ans :=
  let behind := match s.tcs.standby with | some i => decide (i.svn < s.tcs.image.svn) | none => false
  checked [(s.tcs.trial || behind || decide (s.tcs.image.svn > 64), Code.conflict)] (fun s =>
    let m := max s.dev.fuses.minSvn s.tcs.image.svn
    ok [w32 m] { s with dev := { s.dev with fuses := { s.dev.fuses with minSvn := m } } }) s

/-- Meaning of SYS_SVN_LOCK. -/
def execSysSvnLock (v : Via) (a : List W32) (s : State) : Out := tcsCommand 0x0108 svnLockCmd v a s

/-- SYS.INFO (Table 16-6). -/
def sysInfoCmd (_ : List W32) (s : State) : Ans :=
  ok [packW [(0, 1), (8, (personaWord s).toNat), (16, s.pair.owner), (17, b2n (standbyOk s)), (18, b2n s.tcs.trial)], w32 s.tcs.image.version, w32 s.tcs.image.build,
    w32 (match s.tcs.standby with | some i => i.version | none => 0), packW [(0, s.tcs.image.svn), (16, s.dev.fuses.minSvn)], 0x1FF#32, 0#32] s

/-- Meaning of SYS_INFO. -/
def execSysInfo (v : Via) (a : List W32) (s : State) : Out := tcsCommand 0x0181 sysInfoCmd v a s

/-- SYS.FW_STATUS: version, SVN and validity of each slot, the preferred slot, TRIAL. -/
def fwStatusCmd (_ : List W32) (s : State) : Ans :=
  let one (i : Image) : List W32 := [w32 i.version, w32 i.svn, w32 (b2n (imageValid s i))]
  ok (one s.flash.slot0 ++ one s.flash.slot1 ++ [w32 (preferredSlot s), w32 (b2n s.tcs.trial)]) s

/-- Meaning of SYS_FW_STATUS. -/
def execSysFwStatus (v : Via) (a : List W32) (s : State) : Out := tcsCommand 0x0182 fwStatusCmd v a s

end Sys2Proof.Machine
end

