-- ==== Sys2Proof/Machine/ResetFam.lean ====
section
/-! DEFINITION. Reset sources, assertion and release, block resets, Plain service and the moves between it and full service (chapter 18, R184,
R263). Sources are numbered as the bits of DEV_RST_CAUSE: 0 power-on, 1 RST_COLD_N, 2 RST_WARM_N, 3 SYS.RESET, 4 F0 FLR, 5 peer request. -/
namespace Sys2Proof.Machine

/-! ### Assertion (R417, R421, R422, R424) -/

/-- A source is asserted. -/
def markSource (k : Nat) (s : State) : State :=
  { s with dev := { s.dev with asserted := s.dev.asserted ||| 2 ^ k, since := s.dev.since ||| 2 ^ k } }

/-- A cold source returns the whole device to reset. The fuses, the strap pins, the flash with the Tuning history, host memory and what stands
at the peer's claim pin are not the device's to reset; the queue, the clocks and the count of undefined choices are the model's own.
DESIGN CHOICE, log 42. -/
def coldAssert (k : Nat) (s : State) : State :=
  let s := markSource k s
  (List.range 18).foldl (fun t n => setBox n { gen := (boxAt s n).gen + 1 } t) { State.reset with
    pending := s.pending, cycles := s.cycles, freeCtr := s.freeCtr, hostMem := s.hostMem, flash := s.flash
    dev := { fuses := s.dev.fuses, asserted := s.dev.asserted, since := s.dev.since
             straps := { lockPin := s.dev.straps.lockPin, bootPin := s.dev.straps.bootPin, pairPin := s.dev.straps.pairPin } }
    up := { msgs := s.up.msgs }
    tap := if k = 0 then { trstLow := s.tap.trstLow } else s.tap
    pair := { peerClaim := s.pair.peerClaim, quietAt := s.pair.quietAt } }

/-- A port's transmit side at a warm assertion: a copy on the wire ends without a valid FCS, and whatever had not sent one waits for the
examination at the release (R184). DESIGN CHOICE, log 43. -/
def parkTx (t : TxPort) : TxPort :=
  let back (x : Option Tx) (t : TxPort) : TxPort :=
    match x with
    | some x => if x.fcs.isSome then t else setQueue x.copy.queue (x.copy :: queueAt t x.copy.queue) t
    | none => t
  { back t.susp (back t.tx t) with tx := none, susp := none }

/-- A port at a warm assertion: its full-service settings are kept, its transmitters are at electrical idle, pauses end.
DESIGN CHOICE, log 43. -/
def parkPort (q : PortState) : PortState :=
  let q := unlink (fullOf q)
  { q with
    cfg := { q.cfg with lit := false }, rxFault := false, plainGroup := none, kept := none
    fc := { q.fc with paused := [], pwdActive := [], lastPause := [], xoff := [] } }

/-- PRBS checkers stop with their counts kept. -/
def parkPrbs (s : State) : State :=
  (s.ports.map fun e => e.1).foldl (fun s p => (lanesOf s p).foldl (fun s l => prbsLockLoss p l s) s) s

/-- The console's decimators stop, and no outlet is sampled (R316, R319). -/
def stopDecimators (s : State) : State :=
  (List.range 4).foldl (fun s k => let g := groupOf s k; if g.en then setGroupOf k { g with run := false, armed := none } s else s) (markGaps s)

/-- A slice's Harp stops: no thread runs and none waits. -/
def stopHarp (h : HarpState) : HarpState := { h with threads := [], waiting := [] }

/-- Both clusters stop and every command is abandoned (R388, R425). DESIGN CHOICE, log 43. -/
def stopClusters (s : State) : State :=
  let s := dropTask (abandonCommands (holdStat s))
  let s := modPair (fun p => { p with
    ready := false, linkTx := false, switching := false, swapping := none, handed := false, copy := [], hbOk := false, hbFirst := none, hbLast := none }) s
  { s with
    tcs := { s.tcs with running := false, standby := none, trial := false, swapBlock := false, resetAt := none }
    tmp := { s.tmp with passes := [], stepping := false, goal := s.tmp.target, nextCapo := none
                        mons := s.tmp.mons.map fun e => (e.1, { e.2 with valid := false }) }
    mem := { s.mem with history := [], detect := [] } }

/-- Punted frames that had room and are not written count as the copies that R184 drops. -/
def countPunts (s : State) : State :=
  s.up.ready.foldl (fun s j => match j with | .punt p => bump (Ctr.lkpWarmDrop (chitSlice p.chit)) s | _ => s) s

/-- What a warm assertion ends on the ports is counted: an express copy on the wire in LKP_EXP_OTHER (R181), a link of a group member in
TLR_FAILOVER (R248). DESIGN CHOICE, log 43. -/
def countCutLinks (s : State) : State :=
  let s := s.txs.foldl (fun s e =>
    match e.2.tx with
    | some t => bumpIf (decide (t.copy.kind = .express) && t.fcs.isNone) (Ctr.lkpExpOther (chitSlice t.copy.chit)) s
    | none => s) s
  s.ports.foldl (fun s e => bumpIf (e.2.linkUp && inGroup s e.1) (Ctr.tlrFailover (portSlice e.1)) s) s

/-- A write may be in progress at a warm assertion, and the word it addresses then holds its old value, its new value or an uncorrectable error
(R426). Whether a word turns bad, and which, is a free choice; otherwise it holds what stands. DESIGN CHOICE, log 45. -/
def cutWord (s : State) : State :=
  let c := freeChoice 10 s
  if c.1 < 9 ∧ classWords s c.1 ≠ 0 then
    let a := freeChoice (classWords s c.1) c.2
    { a.2 with mem := { a.2.mem with poison := tabSet false a.2.mem.poison (c.1 * 2 ^ 36 + a.1) true } }
  else c.2

/-- A warm source reaches everything but the keep domain, and keeps every configuration, table, counter, memory, device time and CAPO
(R417, R425). DESIGN CHOICE, log 43. -/
def warmReach (s : State) : State :=
  let s := cutWork (cutWord (countCutLinks (hostInterfaceReset (countPunts s))))
  let s := stopDecimators (parkPrbs (stopClusters s))
  let s := { s with con := { s.con with barred := true } }
  { s with
    dev := { s.dev with blockRst := 0#32, plain := s.dev.fuses.sliceEn, moving := none, mapPorts := 0, skipped := false, step := min s.dev.step 2 }
    up := { s.up with cfg1 := {} }
    mem := { s.mem with filling := none, ddrReady := false, ddrFail := false }
    time := { s.time with tsqs := s.time.tsqs.map fun e => (e.1, { e.2 with entries := [] }) }
    tbl := { s.tbl with walks := [] }
    harps := s.harps.map fun e => (e.1, { stopHarp e.2 with swap := false })
    classes := s.classes.map fun e => (e.1, { e.2 with next := none })
    lkps := (List.range 16).foldl (fun m k => tabSet {} m k { tabGet {} m k with scanned := false }) s.lkps
    mint := { s.mint with reclaim := false }
    ports := s.ports.map fun e => (e.1, parkPort e.2)
    txs := s.txs.map fun e => (e.1, parkTx e.2)
    groups := s.groups.map fun e => (e.1, { e.2 with moves := [], leaving := none })
    recirc := []
    rxs := []
    led := { s.led with merging := true }
    pwr := { s.pwr with off := 0, req := none, latched := 0, latchedSrc := 0, latchedCmd := false, latchedRel := 0, doze := none, bell := false, wokenAt := none,
                         retained := [] } }

/-- A warm source asserts; while another source holds the blocks it adds only itself (R422). -/
def warmAssert (k : Nat) (s : State) : State :=
  if s.dev.asserted = 0 then warmReach (markSource k s) else markSource k s

/-- Meaning of POWER_ON. -/
def execPowerOn (s : State) : Out := .next (coldAssert 0 s)

/-- Meaning of RST_COLD_N. -/
def execRstColdN (s : State) : Out := .next (coldAssert 1 s)

/-- Meaning of RST_WARM_N. -/
def execRstWarmN (s : State) : Out := .next (warmAssert 2 s)

/-- The warm reset of an acknowledged SYS.RESET asserts 1 ms after it (R390). -/
def sysResetAssert (s : State) : State :=
  match s.tcs.resetAt with
  | some t => if s.cycles ≥ t then warmAssert 3 s else s
  | none => s

/-- Meaning of SYS_RESET_ASSERT. -/
def execSysResetAssert (s : State) : Out := .next (sysResetAssert s)

/-- Meaning of F0_FUNCTION_LEVEL_RESET (R347). -/
def execF0FunctionLevelReset (s : State) : Out := .next (warmAssert 4 s)

/-- A cold source is asserted: the keep domain is in reset. -/
def coldHeld (s : State) : Bool := bit s.dev.asserted 0 || bit s.dev.asserted 1

/-- The peer's request: a warm source when PEER_RST_EN is 1 and the pair claim is not confirmed, otherwise counted as ignored (R419). -/
def peerResetRequest (s : State) : State :=
  if coldHeld s then s
  else if s.dev.peerRstEn && !s.pair.confirmed then warmAssert 5 s
  else bump Ctr.devPeerRstIgnored s

/-- Meaning of PEER_RESET_REQUEST. -/
def execPeerResetRequest (s : State) : Out := .next (peerResetRequest s)

/-- PAIR_RST: PEER_RST_EN takes bit 0; a 1 in PEER_RST_REQ sends a request (R419). -/
def writePairRst (val : W32) (s : State) : State :=
  { s with dev := { s.dev with peerRstEn := bit val.toNat 0, peerRsts := s.dev.peerRsts + b2n (bit val.toNat 1) } }

/-- Meaning of PEER_RST_REQ. -/
def execPeerRstReq (val : W32) (s : State) : Out := .next (writePairRst val s)

/-! ### The examination of chits (R184) -/

/-- A copy of a chit under examination ends: a settled frame's forwarding copy counts as dropped after admission. -/
def dropExamined (p : Nat) (c : Copy) (s : State) : State :=
  match chitAt s c.chit with
  | some x =>
    if x.status = .settled then
      let s := match c.kind with | .mirror _ => s | _ => bump (Ctr.lkpWarmDrop (chitSlice c.chit)) s
      dropRef c.chit (loseCopy p c s)
    else s
  | none => s

/-- The copies that a port holds of the chits that `mine` names end. -/
def dropOnPort (mine : Nat → Bool) (p : Nat) (s : State) : State :=
  let t := txAt s p
  let live (x : Option Tx) : List Copy := match x with | some x => if mine x.copy.chit && x.fcs.isNone then [x.copy] else [] | none => []
  let keep (x : Option Tx) : Option Tx := match x with | some y => if mine y.copy.chit then none else x | none => none
  let queued := ((List.range 16).map fun q => (queueAt t q).filter fun c => mine c.chit).flatten
  let s := bumpMac Ctr.macTxStomped p (live t.tx).length s
  let s := modTx p (fun t => { (List.range 16).foldl (fun t q => setQueue q ((queueAt t q).filter fun c => !mine c.chit) t) t with
    tx := keep t.tx, susp := keep t.susp }) s
  (live t.tx ++ live t.susp ++ queued).foldl (fun s c => dropExamined p c s) s

/-- A chit whose copies are all gone is released with its chain. -/
def freeHeld (n : Nat) (s : State) : State := releaseIf n (modChit n (fun c => { c with refs := 0, hold := false }) s)

/-- The lookup unit examines every held chit that `mine` names: a provisional one voids with code 15, the copies of a settled one are dropped,
and every one is released. DESIGN CHOICE, log 43. -/
def examine (mine : Nat → Bool) (s : State) : State :=
  let held := (s.chits.filter fun e => mine e.1).map fun e => e.1
  let s := held.foldl (fun s n => voidChit n 15 s) s
  let s := (s.txs.map fun e => e.1).foldl (fun s p => dropOnPort mine p s) s
  held.foldl (fun s n => freeHeld n s) s

/-- The lookup unit of a slice has finished its examination. -/
def setScanned (v : Bool) (k : Nat) (s : State) : State := modLkp k (fun u => { u with scanned := v }) s

/-! ### The Ledger at a warm release (R263) -/

/-- Before any slice examines its chits: the OPEN bank is marked INTERRUPTED, the instants that fell during the reset are merged into it, and
CLOSED banks are sealed. DESIGN CHOICE, log 43. -/
def ledgerInterrupt (s : State) : State :=
  let b := s.led.open_
  let s := setBank b { bankAt s b with interrupted := true } s
  let s := actDue true { s with led := { s.led with merging := true } }
  let s := (List.range 3).foldl (fun s b => if (bankAt s b).state = 2 then sealBank b s else s) s
  bump Ctr.ldgInterrupted s

/-! ### The plain map (R430) -/

/-- Lanes of an entry. -/
def entryLanes (e : PlainEntry) : Nat := 2 ^ e.lanes
/-- The port that an entry makes, with default equalisation and no training. -/
def plainCfg (e : PlainEntry) : PortCfg :=
  let speed := 2 + e.lanes
  let d := pathDelays speed 1
  { speed := speed, laneRate := 1, reach := e.reach, maxLen := 1518, enabled := true, expMinLen := defaultMinLen speed, dRx := d.1, dTx := d.2 }

/-- An entry is valid after the entries `used` were brought up and the ports `seen` named. -/
def entryOk (s : State) (used : List PlainEntry) (seen : List Nat) (e : PlainEntry) : Bool :=
  decide (e.port < 512) && decide (e.lanes < 4) && decide (e.port % entryLanes e = 0) && sliceEnabled s (e.port / 32) && !seen.contains e.port
    && !(used.any fun u => decide (u.port < e.port + entryLanes e) && decide (e.port < u.port + entryLanes u))

/-- The valid entries of a map, in order, and whether one was skipped. -/
def validEntries (s : State) (m : List PlainEntry) : List PlainEntry × Bool :=
  let r := m.foldl (fun (a : List PlainEntry × List Nat × Bool) e =>
    if entryOk s a.1 a.2.1 e then (a.1 ++ [e], a.2.1 ++ [e.port], a.2.2) else (a.1, a.2.1 ++ [e.port], true)) ([], [], false)
  (r.1, r.2.2)

/-- The plain map in use: empty when the flash header is invalid (R428) and when BOOT_SEL was sampled high (R429). -/
def plainMap (s : State) : List PlainEntry := if s.dev.hdrOk && !s.dev.straps.bootSel then s.flash.plainMap.take 64 else []

/-- A plain port takes its plain settings; its full-service settings are kept: after a cold reset its plain settings, enabled (R435). -/
def makePlain (fresh : Bool) (s : State) (e : PlainEntry) : State :=
  let c := plainCfg e
  modPort e.port (fun q => { q with
    cfg := { c with lit := q.cfg.lit && q.linkUp }, fc := {}, pre := {}, damp := {}, plainGroup := some e.group
    kept := some (if fresh then { cfg := c } else { cfg := q.cfg, fc := q.fc, pre := q.pre, damp := q.damp }) }) s

/-- The bootstrap sequencer begins the calibration of the plain map's ports. -/
def bringUpPlain (s : State) : State :=
  let v := validEntries s (plainMap s)
  v.1.foldl (makePlain (s.dev.cold || !s.dev.booted)) { s with dev := { s.dev with mapPorts := v.1.length, skipped := v.2 } }

/-- Plain ports transmit: LINK_UP follows as each partner allows. -/
def lightPlain (s : State) : State :=
  { s with ports := s.ports.map fun e => (e.1, if e.2.plainGroup.isSome then { e.2 with cfg := { e.2.cfg with lit := true } } else e.2) }

/-! ### Release (R422, R423, Table 18-2) -/

/-- The sampled straps. -/
def sampleStraps (s : State) : State :=
  let p := s.dev.straps
  { s with dev := { s.dev with straps := { p with lock := p.lockPin, bootSel := p.bootPin, pairId := p.pairPin } } }

/-- Slices are released: the bootstrap sequencer fills the Plain service region after a cold reset; after a warm one the Ledger and then the
slices' lookup units act. The engines are checked (R104) and the console's groups restart (R304).
DESIGN CHOICE, log 43. -/
def releaseSlices (s : State) : State :=
  let s := if s.dev.cold then s else { examine (fun _ => true) (ledgerInterrupt s) with txs := s.txs.map fun e => (e.1, { e.2 with queues := [] }) }
  let s := (List.range 16).foldl (fun s k => if sliceEnabled s k then checkEngines k (setScanned true k s) else s) s
  let s := (List.range 4).foldl (fun s k => if (groupOf s k).en then armGroup k s else s) s
  { s with dev := { s.dev with fillDone := true } }

/-- The first Tuning pass after a cold reset is due, for REQ_CAPO (R332, R433). -/
def askFirstPass (s : State) : State :=
  if s.dev.firstPass || s.tmp.passes.contains .bringUp then s
  else modTmp (fun t => { t with passes := t.passes ++ [.bringUp] }) s

/-- What a step of Table 18-2 does. At step 2 the timing clock's PLL is locked and the time block released; step 3 releases the memory
controllers and the router; 10 to 12 report what Titimus has done. -/
def stepEvent (k : Nat) (s : State) : State :=
  if k = 1 then sampleStraps s
  else if k = 2 then { s with time := { s.time with lock := true } }
  else if k = 4 then { s with dev := { s.dev with hdrOk := s.flash.hdrOk } }
  else if k = 5 then releaseSlices s
  else if k = 6 then bringUpPlain s
  else if k = 7 then lightPlain s
  else if k = 9 then askFirstPass s
  else s

/-- A release step completes. Step 8 completes when Titimus runs. DESIGN CHOICE, log 24. -/
def releaseStep (s : State) : State :=
  let k := s.dev.step + 1
  if s.dev.asserted = 0 && decide (k ≤ 12) && (decide (k ≠ 8) || s.tcs.running) then
    let s := stepEvent k s
    { s with dev := { s.dev with step := k } }
  else s

/-- Meaning of RESET_RELEASE_STEP. -/
def execResetReleaseStep (s : State) : Out := .next (releaseStep s)

/-- The last asserted source releases: DEV_RST_CAUSE is written, and a warm release sequence counts (R422, R437).
DESIGN CHOICE, log 42. -/
def releaseBegin (s : State) : State :=
  let cold := bit s.dev.since 0 || bit s.dev.since 1
  let s := { s with dev := { s.dev with cause := s.dev.since, since := 0, cold := cold } }
  if cold then s else bump Ctr.devWarmCount s

/-- A source releases. -/
def sourceRelease (k : Nat) (s : State) : State :=
  if bit s.dev.asserted k then
    let s := { s with dev := { s.dev with asserted := s.dev.asserted - 2 ^ k } }
    if s.dev.asserted = 0 then releaseBegin s else s
  else s

/-- Meaning of RESET_SOURCE_RELEASE. -/
def execResetSourceRelease (k : Nat) (s : State) : Out := onUnit (decide (k < 6)) (sourceRelease k s)

/-! ### Block resets (R420) -/

/-- Slice `k` is held: its links are down and every copy for its ports is discarded as dropped after admission.
DESIGN CHOICE, log 55. -/
def holdSlice (k : Nat) (s : State) : State :=
  let down (s : State) (p : Nat) : State :=
    let s := bumpIf ((portAt s p).linkUp && inGroup s p) (Ctr.tlrFailover k) s
    let s := modPort p (fun q => let q := unlink q; { q with cfg := { q.cfg with lit := false } }) s
    flushPort p s
  let s := ((List.range 32).map fun i => 32 * k + i).foldl down s
  let s := flushPort (513 + k) s
  let s := (((List.range 32).map fun i => 32 * k + i) ++ (513 + k) :: (if k = 0 then [512] else [])).foldl (fun s p => modRx p (fun _ => {}) s) s
  setScanned false k (modHarp k stopHarp { s with recirc := tabSet [] s.recirc (513 + k) [] })

/-- Slice `k` is released: its chits are examined and its enabled ports pass through steps 3 to 6 of Table 02-5.
DESIGN CHOICE, log 55. -/
def releaseSlice (k : Nat) (s : State) : State :=
  let s := setScanned true k (examine (fun n => decide (chitSlice n = k)) s)
  ((List.range 32).map fun i => 32 * k + i).foldl (fun s p =>
    if (portAt s p).cfg.enabled then modPort p (fun q => { q with cfg := { q.cfg with lit := true } }) s else s) s

/-- Some outlet has TRIP_EN set. -/
def anyTrip (s : State) : Bool := (List.range 32).any fun o => (outletAt s o).trip.en

/-- A write of DEV_BLOCK_RST. CONIN_RST stays 0, and the write is logged, while any outlet has TRIP_EN set.
DESIGN CHOICE, log 55. -/
def writeBlockRst (val : W32) (s : State) : State :=
  let refused := bit val.toNat 17 && anyTrip s
  let new := if refused then val.toNat % 2 ^ 17 else val.toNat % 2 ^ 18
  let old := s.dev.blockRst.toNat
  let s := if refused then logAccess .refused false 0x14 val 15#4 s else s
  let s := { s with dev := { s.dev with blockRst := w32 new } }
  let s := (List.range 16).foldl (fun s k =>
    if !sliceEnabled s k then s
    else if bit new k && !bit old k then holdSlice k s
    else if !bit new k && bit old k then releaseSlice k s
    else s) s
  if bit new 17 && !bit old 17 then stopDecimators s
  else if !bit new 17 && bit old 17 then (List.range 4).foldl (fun s k => if (groupOf s k).en then armGroup k s else s) s
  else s

/-- Meaning of BLOCK_RESET_HOLD. -/
def execBlockResetHold (val : W32) (s : State) : Out := .next (writeBlockRst val s)

/-- Meaning of BLOCK_RESET_RELEASE. -/
def execBlockResetRelease (val : W32) (s : State) : Out := .next (writeBlockRst val s)

/-! ### Into full service and back (R433 to R436) -/

/-- Ports of a slice, the recirculation port among them. -/
def portsOf (k : Nat) : List Nat := (List.range 32).map (fun i => 32 * k + i) ++ [513 + k]

/-- No frame of the slice is held, and no copy stands on its ports. -/
def sliceEmpty (s : State) (k : Nat) : Bool :=
  (chitsOf k s).isEmpty && (portsOf k).all fun p => let t := txAt s p; t.tx.isNone && t.susp.isNone && t.queues.isEmpty

/-- Every enabled slice below `k` satisfies `p`. -/
def below (s : State) (k : Nat) (p : Nat → Bool) : Bool := (List.range k).all fun j => !sliceEnabled s j || p j

/-- A port takes its full-service configuration. One whose mode equals its plain mode keeps its link; any other passes through Table 02-5 from
step 3 (R435). Loopback and PRBS tests that it kept take its link down (R76, R77). -/
def enterFull (s : State) (p : Nat) : State :=
  let q := portAt s p
  match q.kept with
  | some c =>
    let same := c.cfg.enabled && decide (c.cfg.speed = q.cfg.speed) && decide (c.cfg.laneRate = q.cfg.laneRate)
    let s := if same then s else linkDown p s
    let s := modPort p (fun q => { q with
      cfg := { c.cfg with lit := if same then q.cfg.lit else c.cfg.enabled }, fc := c.fc, pre := c.pre, damp := c.damp
      plainGroup := none, kept := none }) s
    let s := if (portAt s p).cfg.loopback ≠ 0 || prbsRuns s p then linkDown p s else s
    if (portAt s p).linkUp then startLink p s else s
  | none => if q.cfg.enabled then modPort p (fun q => { q with cfg := { q.cfg with lit := true } }) s else s

/-- The Ledger adds the plain counters into plain records of the OPEN bank and clears them (R275). -/
def mergePlain (s : State) : State :=
  let b := bankAt s s.led.open_
  let rows := s.led.plain.foldl (fun m e => tabSet {} m e.1 (mergeRow e.2 (tabGet {} m e.1))) b.plain
  let s := setBank s.led.open_ { b with plain := rows } s
  { s with led := { s.led with plain := [], plainPending := false } }

/-- Titimus names trigger 15 when nobody has named the ledger trigger: 60 s, from the next whole minute (R272, R276). -/
def nameDefault (s : State) : State :=
  if s.led.trigSet then s
  else
    let c : TrigCfg := { en := true, startSec := (s.time.sec / 60 + 1) * 60, period := 60000000000 }
    let s := setTrig 15 { trigAt s 15 with held := c, dirty := true } s
    nameTrigger 15 { s with led := { s.led with archSize := if s.led.archSize = 0 then 16 else s.led.archSize } }

/-- The move of slice `k` is called off: what it needed no longer holds. -/
def callOff (k : Nat) (s : State) : State := if slicesMove s k then { s with dev := { s.dev with moving := none } } else s

/-- Titimus moves slice `k` to full service (R433, R435). -/
def mayGoFull (s : State) (k : Nat) : Bool :=
  s.tcs.running && s.dev.fillsOk && s.dev.firstPass && decide (s.tmp.capo < 3) && decide (s.dev.asserted = 0) && decide (s.dev.step ≥ 7)
    && plainSlice s k && below s k (fun j => !plainSlice s j) && !bit s.dev.blockRst.toNat k

/-- Slice `k` enters full service (Table 18-5): its move begins with step 1, and ends once its plain copies have ended; the table engine has made
its completion by then (R157). -/
def sliceTransition (k : Nat) (s : State) : State :=
  if !mayGoFull s k then (if plainSlice s k then callOff k s else s)
  else if !sliceEmpty s k then { s with dev := { s.dev with moving := some k } }
  else
    let s := fixTables { s with dev := { s.dev with plain := s.dev.plain - 2 ^ k, moving := none } }
    let s := ((List.range 32).map fun i => 32 * k + i).foldl enterFull s
    if allFull s then nameDefault (mergePlain s) else s

/-- Meaning of SLICE_TRANSITION. -/
def execSliceTransition (k : Nat) (s : State) : Out := onUnit (sliceEnabled s k) (sliceTransition k s)

/-- A port of a slice that returns to Plain service: it becomes the plain port of its map entry when its mode equals the entry's, otherwise it is
disabled as PORT.DISABLE does (R436). -/
def enterPlain (m : List PlainEntry) (s : State) (p : Nat) : State :=
  let q := portAt s p
  match m.find? (fun e => decide (e.port = p)) with
  | some e =>
    let c := plainCfg e
    if q.cfg.enabled && decide (c.speed = q.cfg.speed) && decide (c.laneRate = q.cfg.laneRate) then
      let up := q.linkUp
      modPort p (fun q => if up then { q with damp := { q.damp with txLanes := e.lanes, rxLanes := e.lanes, upAt := s.cycles } } else q) (makePlain false s e)
    else if q.cfg.enabled then disablePort p s else s
  | none => if q.cfg.enabled then disablePort p s else s

/-- Titimus moves slice `k` back to Plain service (R436). -/
def mayGoPlain (s : State) (k : Nat) : Bool :=
  s.tcs.running && decide (s.tmp.capo = 3) && decide (s.dev.asserted = 0) && !plainSlice s k && below s k (plainSlice s)

/-- Slice `k` returns to Plain service after a demotion to Hush; its plain counters start from 0 (R436). It admits no frame while its frames and
copies end. DESIGN CHOICE, log 43. -/
def sliceToPlain (k : Nat) (s : State) : State :=
  if !mayGoPlain s k then (if plainSlice s k then s else callOff k s)
  else if !sliceEmpty s k then { s with dev := { s.dev with moving := some k } }
  else
    let m := (validEntries s (plainMap s)).1
    let s := ((List.range 32).map fun i => 32 * k + i).foldl (enterPlain m) s
    { s with
      dev := { s.dev with plain := s.dev.plain + 2 ^ k, moving := none }
      led := { s.led with plain := s.led.plain.filter fun e => decide (portSlice e.1 ≠ k) } }

/-- Meaning of SLICE_TO_PLAIN. -/
def execSliceToPlain (k : Nat) (s : State) : Out := onUnit (sliceEnabled s k) (sliceToPlain k s)

end Sys2Proof.Machine
end

