-- ==== Sys2Proof/Machine/RegMap.lean ====
section
/-! DEFINITION. Decoding of F0 BAR0 (R475 to R477, Tables 21-1 and 21-2): effective offsets, which of them name a register, which pairs are
counters, and the power domain or block reset that switches a block off (R439, R474). -/
namespace Sys2Proof.Machine

/-- Registers at `base + stride × i`, i < count, each of `words` words; `pair`: free-running counters, two words each. -/
structure Span where
  base   : Nat
  stride : Nat
  count  : Nat
  words  : Nat
  pair   : Bool := false

/-- An offset lies in the span. -/
def Span.has (x : Span) (o : Nat) : Bool :=
  decide (x.base ≤ o) && decide ((o - x.base) / x.stride < x.count) && decide ((o - x.base) % x.stride < 4 * x.words)

/-- `n` words from `base`. -/
def regs (base n : Nat) : Span := ⟨base, 4, n, 1, false⟩
/-- `n` counters from `base`. -/
def ctrs (base n : Nat) : Span := ⟨base, 8, n, 2, true⟩

/-- Device-global region (Table 21-4). -/
def globalSpans : List Span := [regs 0 3, regs 0x10 4, regs 0x20 4, regs 0x40 10, ctrs 0x100 2, ctrs 0x110 3]
/-- Host interface region with F0's MSI-X table and PBA (chapter 15, R480). -/
def hifSpans : List Span :=
  [regs 0 1, regs 0x10 5, regs 0x30 8, regs 0x50 5, regs 0x70 1, regs 0x80 3, ctrs 0x100 17, regs 0x8000 256, regs 0x9000 2]
/-- A slice region (Table 21-2): Harp, lookup, classification, comparators with the meter counters, Teller, MAC and PCS blocks. -/
def sliceSpans : List Span :=
  [regs 0x1000 4, ctrs 0x1100 13, ⟨0x1400, 8, 33, 2, false⟩,
   regs 0x2000 1, regs 0x2010 3, ctrs 0x2100 5, ctrs 0x2400 16, ctrs 0x2488 15,
   regs 0x3000 2, ctrs 0x3100 10, ctrs 0x4100 8, regs 0x4000 64, regs 0x4140 944,
   regs 0x5000 1, ctrs 0x5100 7, ctrs 0x5200 32, regs 0x5400 128, regs 0x6000 512,
   ⟨0x8000, 0x200, 32, 5, false⟩, ⟨0x8100, 0x200, 32, 46, true⟩, ⟨0xC010, 0x40, 32, 6, true⟩]
/-- Mint region (chapter 09). -/
def mintSpans : List Span :=
  [regs 0 1, regs 0x10 1, ctrs 0x100 14, regs 0x400 529, ⟨0x1000, 0x20, 32, 5, false⟩, ⟨0x1018, 0x20, 32, 2, true⟩, regs 0x2000 2116
    , regs 0x8000 8192]
/-- Table engine region (chapter 06). -/
def tableSpans : List Span := [regs 0 1, regs 0x100 16, ctrs 0x200 9]
/-- Treasury region (chapter 08). -/
def treasurySpans : List Span := [regs 0 1, ctrs 0x100 2]
/-- Ledger region (chapter 11). -/
def ledgerSpans : List Span := [regs 0 5, regs 0x100 32, ctrs 0x200 9]
/-- Time region (chapter 12). -/
def timeSpans : List Span :=
  [regs 0 1, regs 8 4, regs 0x20 5, regs 0x40 2, regs 0x4C 1, ⟨0x80, 0x10, 4, 3, false⟩, ⟨0x100, 0x20, 16, 4, false⟩
    , ⟨0x1000, 0x10, 16, 3, false⟩, ctrs 0x2000 6, ctrs 0x2100 16, ctrs 0x2200 16]
/-- Rack console region (chapter 13). -/
def consoleSpans : List Span :=
  [regs 0 2, regs 0x10 4, regs 0x100 64, ⟨0x400, 0x10, 32, 3, false⟩, regs 0x800 32, regs 0x900 8, ctrs 0xA00 8]
/-- Control clusters and pair region (chapter 17, PAIR_RST). -/
def clusterSpans : List Span := [regs 0 3, regs 0x100 4, regs 0x200 2, ctrs 0x800 4, ctrs 0x900 8]
/-- Memory integrity and LPDDR5X region (chapter 20). -/
def memorySpans : List Span := [regs 0 2, regs 0x10 3, regs 0x100 9, regs 0x200 9, ⟨0x400, 0x20, 9, 8, true⟩, ctrs 0x600 3]
/-- Tally and capture region (chapter 22); TAL_CNT is read as a latched pair too. -/
def tallySpans : List Span :=
  [regs 0 2, regs 0x100 9, ⟨0x200, 0x10, 18, 2, false⟩, ctrs 0x800 3, ctrs 0x900 18, ctrs 0x4000 2176, regs 0xA000 2176]
/-- Tempo and Tuning region (chapter 14). -/
def tempoSpans : List Span := [regs 0 7, regs 0x100 68, regs 0x280 17, regs 0x300 19, regs 0x400 18, ctrs 0x800 4]

/-- `o` decoded in a window with first offset `b` and mask `m`. -/
def window (b m o : Nat) : Nat := b + ((o - b) &&& m)

/-- The effective offset in a slice region (Table 21-2); none in its holes. DEDUCED, log 50. -/
def sliceOffset (o : Nat) : Option Nat :=
  if o < 0x1000 then none
  else if o < 0x2000 then some (window 0x1000 0x7FC o)
  else if o < 0x3000 then some (window 0x2000 0x7FC o)
  else if o < 0x4000 then some (window 0x3000 0x1FC o)
  else if o < 0x5000 then some (window 0x4000 0xFFC o)
  else if o < 0x7000 then some (window 0x5000 0x1FFC o)
  else if o < 0x8000 then none
  else if o < 0xC000 then some (window (o / 0x200 * 0x200) 0x1FC o)
  else if o < 0xC800 then some (window (o / 0x40 * 0x40) 0x3C o)
  else none

/-- The registers and the decode mask of the region at MiB `r`, other than a slice's. DEDUCED, log 50. -/
def regionOf (r : Nat) : Option (Nat × List Span) :=
  if r = 0x000 then some (0x1FC, globalSpans)
  else if r = 0x001 then some (0x93FC, hifSpans)
  else if r = 0x020 then some (0xFFFC, mintSpans)
  else if r = 0x021 then some (0x3FC, tableSpans)
  else if r = 0x022 then some (0x1FC, treasurySpans)
  else if r = 0x030 then some (0x3FC, ledgerSpans)
  else if r = 0x040 then some (0x3FFC, timeSpans)
  else if r = 0x050 then some (0xFFC, consoleSpans)
  else if r = 0x060 then some (0xFFC, clusterSpans)
  else if r = 0x070 then some (0x7FC, memorySpans)
  else if r = 0x080 then some (0xFFFC, tallySpans)
  else if r = 0x090 then some (0xFFC, tempoSpans)
  else none

/-- A register as an access reaches it: its F0 BAR0 address without aliases, the offset in its region, and whether it belongs to a counter. -/
structure Reached where
  addr : Nat
  off  : Nat
  pair : Bool

/-- The register of the span list at a region's offset. DEDUCED, log 50. -/
def reachIn (base o : Nat) (spans : List Span) : Option Reached :=
  (spans.find? fun x => x.has o).map fun x => ⟨base + o, o, x.pair⟩

/-- What an F0 BAR0 address reaches; none: a hole (R475). DEDUCED, log 50. -/
def reach (a : Nat) : Option Reached :=
  let r := a / 0x100000
  let o := a % 0x10000 / 4 * 4
  if 0x010 ≤ r ∧ r < 0x020 then (sliceOffset o).bind fun e => reachIn (r * 0x100000) e sliceSpans
  else (regionOf r).bind fun x => reachIn (r * 0x100000) (o &&& x.1) x.2

/-- The switched domain of a register's block: a slice's core or port cluster, the Tally engine, the console's input filters. DEDUCED, log 50. -/
def regDomain (x : Reached) : Option Nat :=
  let r := x.addr / 0x100000
  if 0x010 ≤ r ∧ r < 0x020 then some (if x.off < 0x8000 then r - 0x010 else r)
  else if r = 0x080 then some 36
  else if r = 0x050 ∧ 0x10 ≤ x.off ∧ x.off < 0x800 then some 37
  else none

/-- The block at a register is switched off or held (R439, R474): a slice's core or port cluster, the Tally engine, the console's input
filters. DEDUCED, log 50. -/
def blockOff (s : State) (x : Reached) : Bool :=
  let r := x.addr / 0x100000
  let k := r - 0x010
  if 0x010 ≤ r ∧ r < 0x020 then
    bit s.dev.blockRst.toNat k || (if x.off < 0x8000 then !domainOn s k else !domainOn s (16 + k))
  else if r = 0x080 then !domainOn s 36 || bit s.dev.blockRst.toNat 16
  else if r = 0x050 then (decide (0x10 ≤ x.off) && decide (x.off < 0x800)) && (!domainOn s 37 || bit s.dev.blockRst.toNat 17)
  else false

end Sys2Proof.Machine
end

