-- ==== Sys2Proof/Machine/TallyFam.lean ====
section
/-! DEFINITION. The Tally engine (chapter 22): selections, sweeps, pages, the mirror, stores, exports, and the TALLY commands. -/
namespace Sys2Proof.Machine

/-! ### Instances and events (R481, R482) -/

/-- Instance `n` exists: Table 22-1, fused slices included. -/
def isInstance (n : Nat) : Bool := (decide (n < 256) && decide (n % 16 < 6)) || (decide (256 ≤ n) && decide (n < 268))
/-- The instance lies in a fused slice. -/
def fusedInstance (s : State) (n : Nat) : Bool := decide (n < 256) && !sliceEnabled s (n / 16)
/-- The switched domain of an instance. -/
def instanceDomain (n : Nat) : Option Nat :=
  if n < 256 then some (if n % 16 = 5 then 16 + n / 16 else n / 16) else if n = 266 then some 36 else none
/-- The instance's domain is off. -/
def instanceOff (s : State) (n : Nat) : Bool := match instanceDomain n with | some d => !domainOn s d | none => false

/-- A clockless instance (R21): not a port cluster, the host interface, the time block or the rack console. -/
def clockless (n : Nat) : Bool :=
  if n < 256 then decide (n % 16 ≠ 5) else decide (n ≠ 257) && decide (n ≠ 262) && decide (n ≠ 263)

/-- The instance has the event, with this QUAL (Table 22-2). -/
def eventOk (n ev qual : Nat) : Bool :=
  let kind := if n < 256 then n % 16 else 16
  match ev with
  | 0x00 => decide (qual = 0)
  | 0x01 | 0x02 => decide (kind < 5) && (decide (qual = 0x3FF) || decide (qual ≤ 528))
  | 0x03 => decide (kind = 2) && decide (qual < 8192)
  | 0x04 | 0x05 => decide (kind = 4) && decide (qual < 512)
  | 0x06 => decide (kind = 3) && decide (qual < 3 * 16384)
  | 0x07 => decide (kind = 3) && decide (qual < 16384)
  | 0x08 => decide (kind = 1) && decide (1 ≤ qual) && decide (qual ≤ 15)
  | 0x09 => clockless n && decide (qual = 0)
  | 0x0A => decide (kind = 1) && (decide (qual < 8) || decide (qual = 0xF))
  | _ => false

/-- TALLY.SELECT: instance, counter, EVENT, QUAL, SETTLED. -/
def tallySelectCmd (a : List W32) (s : State) : Ans :=
  let n := arg a 0
  let raw := decide (arg a 2 = 8) || decide (arg a 2 = 9)
  checked [
    (!isInstance n || fusedInstance s n || decide (arg a 1 > 7) || !eventOk n (arg a 2) (arg a 3) || badBool (arg a 4)
      || (raw && decide (arg a 4 = 1)), Code.badArg)] (fun s =>
    let i := 8 * n + arg a 1
    ok [] { s with tal := { s.tal with
      sel := tabSet 0#32 s.tal.sel i (packW [(0, arg a 2), (8, arg a 3), (24, arg a 4)]), cnt := tabSet (0, false) s.tal.cnt i (0, false) } }) s

/-- Meaning of TALLY_SELECT. -/
def execTallySelect (v : Via) (a : List W32) (s : State) : Out := tcsCommand 0x1001 tallySelectCmd v a s

/-! ### Pages (R485, Table 22-3) -/

/-- `n` counters from address `a`. -/
def run8 (a n : Nat) : List Nat := (List.range n).map fun i => a + 8 * i
/-- `n` counters from address `a`, `d` apart. -/
def runBy (d a n : Nat) : List Nat := (List.range n).map fun i => a + d * i

/-- The fixed counters of a global instance, in the order of its counter tables. -/
def globalSlots (g : Nat) : List Nat :=
  match g with
  | 0 => run8 0x100 2 ++ run8 0x110 3
  | 1 => run8 (Region.hif + 0x100) 17
  | 2 => run8 (Region.mint + 0x100) 14 ++ runBy 0x20 (Region.mint + 0x1018) 32
  | 3 => run8 (Region.tableEngine + 0x200) 9
  | 4 => run8 (Region.treasury + 0x100) 2
  | 5 => run8 (Region.ledger + 0x200) 9
  | 6 => run8 (Region.time + 0x2000) 6 ++ run8 (Region.time + 0x2100) 16 ++ run8 (Region.time + 0x2200) 16
  | 7 => run8 (Region.console + 0xA00) 8
  | 8 => run8 (Region.clusters + 0x800) 4 ++ run8 (Region.clusters + 0x900) 8
  | 9 =>
    let m (o : Nat) : List Nat := runBy 0x20 (Region.memory + 0x400 + o) 9
    m 0 ++ m 8 ++ m 16 ++ m 24 ++ run8 (Region.memory + 0x600) 3
  | 10 => run8 (Region.tally + 0x800) 3 ++ run8 (Region.tally + 0x900) 18
  | 11 => run8 (Region.tempo + 0x800) 4
  | _ => []

/-- The fixed counters of instance `n`, by slot; HRP_ILLEGAL, which stands in no table (R128), follows those of Table 03-7. DESIGN CHOICE, log 47. -/
def slotAddrs (n : Nat) : List Nat :=
  let k := n / 16
  let b := Region.slice k
  if n < 256 then
    match n % 16 with
    | 0 => run8 (b + 0x1100) 13
    | 1 => run8 (b + 0x2100) 5 ++ run8 (b + 0x2400) 16 ++ run8 (b + 0x2488) 15
    | 2 => run8 (b + 0x3100) 10
    | 3 => run8 (b + 0x4100) 8
    | 4 => run8 (b + 0x5100) 7 ++ runBy 16 (b + 0x5200) 16 ++ runBy 16 (b + 0x5208) 16
    | 5 => ((List.range 32).map fun i => run8 (Region.mac (32 * k + i) + 0x100) 23).flatten
      ++ ((List.range 32).map fun i => run8 (Region.pcs (32 * k + i) + 0x10) 3).flatten
    | _ => []
  else globalSlots (n - 256)

/-- Words of a page: 2 KiB, a port cluster's 8 KiB. -/
def pageSize (n : Nat) : Nat := if n < 256 ∧ n % 16 = 5 then 2048 else 512

/-- The page of instance `n` in sweep `sweep`. DESIGN CHOICE, log 47. -/
def pageWords (s : State) (ph : Photo) (sweep n : Nat) : List W32 :=
  let two64 (v : Nat) : List W32 := [w32 v, w32 (v / 2 ^ 32)]
  let slots := slotAddrs n
  let head := [packW [(0, 1), (8, pageSize n / 16), (16, 16)], w32 sweep, w32 (ph.at_ % 1000000000), w32 (ph.at_ / 1000000000)
    , packW [(0, n), (16, b2n (ph.off.contains n)), (17, b2n (fusedInstance s n))], w32 slots.length, 0#32] ++ List.replicate 9 0#32
  let cnts := ((List.range 8).map fun k => let c := tabGet (0, false) ph.cnt (8 * n + k); two64 (c.1 + b2n c.2 * 2 ^ 48)).flatten
  let body := head ++ cnts ++ (slots.map fun a => two64 (tabGet 0#64 ph.ctr a).toNat).flatten
  body ++ List.replicate (pageSize n - body.length) 0#32

/-- All instances, ascending. -/
def instances : List Nat := (List.range 268).filter isInstance

/-! ### Sweeps and the mirror (R484, R486, R487) -/

/-- The Tally engine runs. DESIGN CHOICE, log 55. -/
def tallyRuns (s : State) : Bool := domainOn s 36 && !bit s.dev.blockRst.toNat 16 && decide (s.dev.asserted = 0) && decide (s.dev.step ≥ 5)

/-- A sweep: every instance's counters are photographed, the mirror switches, and stream 16 is offered the pages.
DESIGN CHOICE, log 47. -/
def sweep (s : State) : State :=
  let ph : Photo := { ctr := s.ctr, cnt := s.tal.cnt, off := instances.filter (instanceOff s), at_ := timeTotal s }
  let n := (s.tal.sweep + 1) % 2 ^ 32
  let s := { s with tal := { s.tal with mirror := some ph, sweep := n } }
  let s := raise 66 (bump Ctr.talSweeps s)
  if (streamAt s 16).en then (offerRecords 16 (instances.map fun i => bytesOf (pageWords s ph n i)) s).1 else s

/-- The whole multiple of the sweep period that device time has reached. -/
def sweepIndex (s : State) : Nat := timeTotal s / (1000 * s.tal.period)

/-- TALLY_SWEEP: device time has reached another whole multiple of the period. DESIGN CHOICE, log 47. -/
def tallySweep (s : State) : State :=
  if decide (s.tal.period ≠ 0) && decide (sweepIndex s ≠ s.tal.due) then
    let s := { s with tal := { s.tal with due := sweepIndex s } }
    if tallyRuns s then sweep s else s
  else s

/-- Meaning of TALLY_SWEEP. -/
def execTallySweep (s : State) : Out := .next (tallySweep s)

/-- The instance and the offset in its page at an F1 offset of the mirror. -/
def mirrorPlace (a : Nat) : Option (Nat × Nat) :=
  if a < 0x10000 ∨ a ≥ 0x100000 then none
  else if a < 0x90000 then
    let k := (a - 0x10000) / 0x8000
    let o := a % 0x8000
    if o < 0x2800 then some (16 * k + o / 0x800, o % 0x800)
    else if 0x3000 ≤ o ∧ o < 0x5000 then some (16 * k + 5, o - 0x3000)
    else none
  else
    let g := (a - 0x90000) / 0x800
    if g < 12 then some (256 + g, a % 0x800) else none

/-- The word of the mirror at an F1 offset; 0 where nothing is mapped, before the first sweep, and while UNPRIV_COUNTER_EN is 0. -/
def mirrorWord (s : State) (a : Nat) : W32 :=
  match mirrorPlace a, s.tal.mirror with
  | some (n, o), some ph => if bit s.tal.unpriv n then (pageWords s ph s.tal.sweep n).getD (o / 4) 0#32 else 0#32
  | _, _ => 0#32

/-- TALLY.UNPRIV_SET: instance mask, nine words. -/
def tallyUnprivCmd (a : List W32) (s : State) : Ans :=
  let m := ((List.range 9).map fun i => arg a i * 2 ^ (32 * i)).sum
  checked [(decide (m ≥ 2 ^ 272), Code.badArg)] (fun s => ok [] { s with tal := { s.tal with unpriv := m } }) s

/-- Meaning of TALLY_UNPRIV_SET. -/
def execTallyUnprivSet (v : Via) (a : List W32) (s : State) : Out := tcsCommand 0x1003 tallyUnprivCmd v a s

/-! ### Streams (R488, R491) -/

/-- Bytes of LPDDR5X that the stores may take: usable capacity less the archive and the hold table. -/
def storeSpace (s : State) : Nat := usableGiB s * 2 ^ 30 - s.led.archSize * 2 ^ 26 - 4096 * 32

/-- Bytes of the stores of the enabled streams other than `k`. -/
def otherStores (s : State) (k : Nat) : Nat :=
  ((List.range 18).map fun i => if i = k ∨ !(streamAt s i).en then 0 else (streamAt s i).mib * 2 ^ 20).sum

/-- A stream's new settings: disabling discards the stored records as lost; enabling starts it anew.
DESIGN CHOICE, log 47. -/
def configStream (k : Nat) (en : Bool) (mib base ulog2 wb : Nat) (s : State) : State :=
  let st := streamAt s k
  let s := if st.en && !en then bumpBy (Ctr.talLost k) st.store.length s else s
  let new : Stream := { en := en, mib := mib, base := base, ulog2 := ulog2, wb := wb }
  setStream k (if st.en && en then { st with mib := mib, base := base, ulog2 := ulog2, wb := wb } else new) s

/-- The refusals of R491 for stream `k`. -/
def streamChecks (k : Nat) (en : Bool) (mib base ulog2 : Nat) (bad : Bool) (s : State) : List (Bool × Nat) :=
  let st := streamAt s k
  [(bad || decide (ulog2 < 10) || decide (ulog2 > 24) || (en && decide (otherStores s k + mib * 2 ^ 20 > storeSpace s)), Code.badArg),
   (st.en && en && decide ((mib, base, ulog2) ≠ (st.mib, st.base, st.ulog2)), Code.conflict)]

/-- A 64-bit argument. -/
def arg64 (a : List W32) (i : Nat) : Nat := arg a i + arg a (i + 1) * 2 ^ 32

/-- TALLY.SWEEP_SET: SWEEP_PERIOD, STORE_MIB, ring base (two words), ULOG2, write-back address (two words). A period that is not 0 enables
stream 16. -/
def tallySweepSetCmd (a : List W32) (s : State) : Ans :=
  let p := arg a 0
  let en := decide (p ≠ 0)
  checked (streamChecks 16 en (arg a 1) (arg64 a 2) (arg a 4) (en && (decide (p < 10) || decide (p > 10000000))) s) (fun s =>
    let s := configStream 16 en (arg a 1) (arg64 a 2) (arg a 4) (arg64 a 5) s
    let s := if p = s.tal.period then s else { s with tal := { s.tal with period := p, due := if p = 0 then 0 else timeTotal s / (1000 * p) } }
    ok [] s) s

/-- Meaning of TALLY_SWEEP_SET. -/
def execTallySweepSet (v : Via) (a : List W32) (s : State) : Out := tcsCommand 0x1002 tallySweepSetCmd v a s

/-- TALLY.CAPTURE_SET: stream, enable, STORE_MIB, ring base (two words), ULOG2, write-back address (two words). -/
def tallyCaptureCmd (a : List W32) (s : State) : Ans :=
  let k := arg a 0
  let en := arg a 1 == 1
  checked (streamChecks k en (arg a 2) (arg64 a 3) (arg a 5) (decide (k > 17) || decide (k = 16) || badBool (arg a 1)) s) (fun s =>
    ok [] (configStream k en (arg a 2) (arg64 a 3) (arg a 5) (arg64 a 6) s)) s

/-- Meaning of TALLY_CAPTURE_SET. -/
def execTallyCaptureSet (v : Via) (a : List W32) (s : State) : Out := tcsCommand 0x1004 tallyCaptureCmd v a s

/-- TAL_STATUS. -/
def talStatus (s : State) : W32 :=
  packW [(0, b2n (decide (s.tal.period ≠ 0))), (2, ((List.range 18).map fun k => b2n (streamAt s k).en * 2 ^ k).sum), (20, b2n (!canStore s))]

/-- TALLY.STATUS: the status registers of the region below its counters. -/
def tallyStatusCmd (_ : List W32) (s : State) : Ans :=
  ok ([talStatus s, w32 s.tal.sweep] ++ (List.range 9).map (fun w => w32 (s.tal.unpriv / 2 ^ (32 * w)))
    ++ ((List.range 18).map fun k => [w32 (streamAt s k).prod, w32 (streamAt s k).cons]).flatten) s

/-- Meaning of TALLY_STATUS. -/
def execTallyStatus (v : Via) (a : List W32) (s : State) : Out := tcsCommand 0x1081 tallyStatusCmd v a s

/-! ### Export (R488, R489) -/

/-- A pad of `n` units: KIND 0, UNITS and STREAM; its other bytes are undefined. DESIGN CHOICE, log 47. -/
def padRecord (k n : Nat) (s : State) : List Byte × State :=
  (bytesOf [packW [(0, 0), (8, n), (16, k)]] ++ (List.range (64 * n - 4)).map (Config.freeByte s.freeCtr), { s with freeCtr := s.freeCtr + 1 })

/-- A record, read from the store with poison in the words `ws`, as it is exported: POISON is set in its header (R489), and a page's poisoned
fixed-counter slots read all ones and are counted in POISONED (R485). -/
def markPoisoned (ws : List Nat) (r : List Byte) : List Byte :=
  let marked := r.take 2 ++ [(r.getD 2 0#8) ||| 0x20#8] ++ r.drop 3
  let slots := ws.filter fun w => decide (16 ≤ w) && decide (w < 16 + arg (wordsOf (r.take 0x18)) 5)
  if r.getD 0 0#8 = 1#8 then
    (slots.foldl (fun r w => r.take (8 * w) ++ List.replicate 8 0xFF#8 ++ r.drop (8 * w + 8)) (marked.take 0x18 ++ leBytes 4 slots.length ++ marked.drop 0x1C))
  else marked

/-- Write `bs` at the producer of stream `k`, and advance it past them. -/
def putUnits (k : Nat) (bs : List Byte) (s : State) : State :=
  let st := streamAt s k
  let u := 2 ^ st.ulog2
  let s := hostWrite (st.base + 64 * (st.prod % u)) bs s
  let p := (st.prod + bs.length / 64) % (2 * u)
  let s := setStream k { st with prod := p } s
  if st.wb ≠ 0 then hostWrite st.wb (leBytes 4 p) s else s

/-- The next record of stream `k` goes to its ring, behind a pad where it would cross the ring's end; none when there is no record or no room. -/
def exportOne (k : Nat) (s : State) : Option State :=
  let st := streamAt s k
  let u := 2 ^ st.ulog2
  let room := u - ringUsed st.ulog2 st.prod st.cons
  let pos := st.prod % u
  match st.store with
  | [] => none
  | r :: rest =>
    let n := r.length / 64
    if pos + n > u then
      if u - pos ≤ room then (let x := padRecord k (u - pos) s; some (putUnits k x.1 x.2)) else none
    else if n ≤ room then
      let ws := if s.mem.poison.isEmpty then []
        else (List.range (r.length / 8)).filter fun w => poisoned s (.stored k ((st.seq + 2 ^ 32 - st.store.length) % 2 ^ 32) w)
      let s := bumpBy (Ctr.memPoisonRead 8) ws.length (setStream k { st with store := rest } s)
      some (putUnits k (if ws.isEmpty then r else markPoisoned ws r) s)
    else none

/-- Up to `n` records or pads. -/
def exportAll : Nat → Nat → State → State
  | 0, _, s => s
  | n + 1, k, s =>
    match exportOne k s with
    | some t => exportAll n k t
    | none => s

/-- TALLY_EXPORT: the records of a stream go to its export ring as room allows, while host memory and the store are within reach. -/
def tallyExport (k : Nat) (s : State) : State :=
  if (streamAt s k).en && canDma s && canStore s && tallyRuns s then exportAll (2 * (streamAt s k).store.length) k s else s

/-- Meaning of TALLY_EXPORT. -/
def execTallyExport (k : Nat) (s : State) : Out := onUnit (decide (k < 18)) (tallyExport k s)

/-- A write of TAL_EXP_CONS (R488). -/
def writeExpCons (k : Nat) (val : W32) (s : State) : State :=
  let st := streamAt s k
  let c := fld val 24 0
  if ringUsed st.ulog2 c st.cons ≤ ringUsed st.ulog2 st.prod st.cons then setStream k { st with cons := c } s
  else bump Ctr.talConsReject s

end Sys2Proof.Machine
end

