-- ==== Sys2Proof/WellFormed.lean ====
section
/-! DEFINITION. Which commands are well-formed: the units that their operands name are units of the HL1024, each check once. Whether a
fuse disables the slice of a unit, and how large a memory is, the state says (`Machine/Safety`). -/
namespace Sys2Proof

/-- The channel is one of the sixteen F0 mailboxes, the two F1 mailboxes or the ring (R371). -/
def Via.wf : Via → Bool
  | .f0 m => decide (m < 16)
  | .f1 m => decide (m < 2)
  | .ring => true
/-- The channel is a mailbox. -/
def Via.isBox : Via → Bool
  | .ring => false
  | _ => true
/-- The thread is one of the eight of an engine of a slice (R81, R84). -/
def Thr.wf (h : Thr) : Bool := decide (h.slice < 16) && decide (h.engine < 64) && decide (h.thread < 8)
/-- A chit number: 16,384 in each of sixteen slices (R24). -/
def chitWf (n : Nat) : Bool := decide (n < 262144)
/-- A slice (R1). -/
def sliceWf (k : Nat) : Bool := decide (k < 16)
/-- A port (R1). -/
def portWf (p : Nat) : Bool := decide (p ≤ 528)
/-- A front port (R1). -/
def frontWf (p : Nat) : Bool := decide (p < 512)
/-- Bytes of a space that a host write may address (Table 15-1; configuration space is 4 KiB). -/
def Space.size : Space → Nat
  | .bar0 => 2 ^ 28
  | .bar2 => 0x10000
  | .f1 => 2 ^ 20
  | .cfg _ => 4096

/-- The operands of a command name units that exist. -/
def Instr.wf : Instr → Bool
  | .sysReset v _ | .sysSplitSet v _ | .sysConfigStore v _ | .sysFwLoad v _ | .sysFwActivate v _ | .sysFwCommit v _ | .sysSwap v _
  | .sysSvnLock v _ | .sysInfo v _ | .sysFwStatus v _ | .portConfig v _ | .portEnable v _ | .portDisable v _ | .portLaneMap v _
  | .portStationSet v _ | .portFlowctlSet v _ | .portPreemptSet v _ | .portDampSet v _ | .portLpiSet v _ | .portExpressSet v _
  | .portStatus v _ | .harpLoad v _ | .harpCommit v _ | .harpRaSet v _ | .harpRaTpid v _ | .harpEngineCheck v _ | .harpHashSeed v _
  | .harpStatus v _ | .classRangeSet v _ | .classRulesSet v _ | .classTmapSet v _ | .classRulesGet v _ | .classStatus v _
  | .tableConfig v _ | .tableSeedSet v _ | .tableInsert v _ | .tableDelete v _ | .tableSearch v _ | .tableNext v _ | .tableHits v _
  | .tableWalkClose v _ | .tableFlushPort v _ | .tableFlushTable v _ | .tableInsertBulk v _ | .tableDeleteBulk v _ | .tableSearchBulk v _
  | .tableStatus v _ | .meterSet v _ | .meterProfileSet v _ | .meterTenantSet v _ | .meterGet v _ | .meterTenantGet v _
  | .tellerQueueSet v _ | .tellerGroupSet v _ | .tellerPortSet v _ | .tellerClassMap v _ | .tellerGateSet v _ | .tellerLagSet v _
  | .tellerEcmpSet v _ | .tellerMemberAdd v _ | .tellerMemberRemove v _ | .tellerMirrorSet v _ | .tellerTelemetrySet v _
  | .tellerGateStatus v _ | .tellerGroupGet v _ | .mintPoolSet v _ | .mintPortMap v _ | .mintColorSet v _ | .mintEcnSet v _
  | .mintReclaim v _ | .mintStatus v _ | .ledgerConfig v _ | .ledgerKeySet v _ | .ledgerAck v _ | .ledgerReplay v _ | .ledgerRowGet v _
  | .ledgerStatus v _ | .timeTriggerSet v _ | .timeStatus v _ | .consoleClockSet v _ | .consoleFrameSet v _ | .consoleInputSet v _
  | .consoleOutletSet v _ | .consoleOutletGet v _ | .consoleCycleSet v _ | .consoleOutputSet v _ | .consoleFanSet v _ | .consoleTripSet v _
  | .consoleTripClear v _ | .consoleEnable v _ | .consoleDisable v _ | .consoleStatus v _ | .pairConfig v _ | .pairGroupSet v _
  | .pairRelease v _ | .pairStatus v _ | .powerDomainSet v _ | .powerWakeSet v _ | .powerStatus v _ | .tuneRun v _ | .tuneCapoSet v _
  | .tuneIntervalSet v _ | .tuneStatus v _ | .tuneHistory v _ | .memRemapSet v _ | .memScrubSet v _ | .memFill v _ | .memStatus v _
  | .memLog v _ | .tallySelect v _ | .tallySweepSet v _ | .tallyUnprivSet v _ | .tallyCaptureSet v _ | .tallyStatus v _ | .diagLoopback v _
  | .diagPrbs v _ | .diagPrbsGet v _ | .diagEcho v _ => v.wf
  | .commandComplete v => v.wf
  | .mailboxDoorbell v _ _ => v.wf && v.isBox
  | .nop h | .add h _ _ _ | .sub h _ _ _ | .andR h _ _ _ | .orR h _ _ _ | .xorR h _ _ _ | .shl h _ _ _ | .shr h _ _ _ | .addi h _ _ _
  | .andi h _ _ _ | .ori h _ _ _ | .xori h _ _ _ | .shli h _ _ _ | .shri h _ _ _ | .movi h _ _ | .xtr h _ _ _ _ _ _ _ | .dep h _ _ _ _ _ _
  | .jmp h _ | .beq h _ _ _ _ _ | .bne h _ _ _ _ _ | .bltu h _ _ _ _ _ | .bgeu h _ _ _ _ _ | .bbs h _ _ _ | .bbc h _ _ _ | .bmiss h _ _
  | .lkp h _ _ _ _ _ _ | .rng h _ _ | .rds h _ _ _ | .hsh h _ _ _ | .emit h _ _ _ _ | .done h | .drop h | .trap h _ => h.wf
  | .rangeResult n | .preDecode n | .runAheadResult n | .expressDecision n | .cellAllocate n _ | .classify n | .police n
  | .enqueueRequest n | .tellerEnqueue n | .trapAccept n | .injectFrame n => chitWf n
  | .harpDispatch n e t => chitWf n && decide (e < 64) && decide (t < 8)
  | .lookupResult n i => chitWf n && decide (i < 2)
  | .frameStart p n _ _ => portWf p && chitWf n
  | .egressFcs p | .copyEnd p | .frameEnd ⟨p, _⟩ _ => portWf p
  | .tellerSelect p _ _ => portWf p && decide (p ≠ 512)
  | .fragmentReceive p _ | .txUnderrun p | .verifyTimeout p | .verifyReceive p | .respondReceive p | .dampCapabilitySend p
  | .dampCapabilityReceive p _ _ | .dampWindowEnd p | .shedRequestReceive p _ | .shedGrantReceive p _ | .shedGrantTimeout p
  | .switchMarkerReceive p _ | .realignTimeout p | .lockReportReceive p | .lpiEntry ⟨p, _⟩ | .lpiWakeDone ⟨p, _⟩ | .pauseReceive p | .linkUp p | .linkDown p
  | .gateCycleStart p | .gateEntryEnd p => frontWf p
  | .pauseExpire p k | .xoffRefresh p k | .pwdFire p k | .pwdRestore p k => frontWf p && decide (k < 8)
  | .shaperRefill p i => frontWf p && decide (i ≤ 20)
  | .prbsLock p l | .prbsLockLoss p l => frontWf p && decide (l < 512)
  | .harpSwap k | .classUpdateBoundary k | .telemetrySample k | .learnFilterExpire k | .sliceTransition k | .sliceToPlain k | .hwmClr k _ => sliceWf k
  | .engineFault k e | .engineCheckDone k e _ => sliceWf k && decide (e < 64)
  | .meterRefresh k m => sliceWf k && decide (m < 16384)
  | .scrubRead c _ y _ => decide (c < 9) && decide (y < 256)
  | .remapInstall c _ => decide (c < 9)
  | .tablePoisonRepair l => decide (l < 2 ^ 32)
  | .voteRepair ⟨w, c, _⟩ => decide (w < 64) && decide (c < 3)
  | .ddrTrainingDone r d => r.all (· < 3) && decide (d < 4)
  | .domainDrainDone d | .domainDrainTimeout d | .domainWakeDone d => decide (d < 38)
  | .wake k => decide (k < 6)
  | .resetSourceRelease k => decide (k < 6)
  | .triggerFire t => decide (t < 16)
  | .tsqMetaRead k => decide (k < 16)
  | .evMetaRead i => decide (i < 4)
  | .eventInputEdge i _ => decide (i < 4)
  | .decimatorStart g | .decimatorOutput g _ => decide (g < 4)
  | .inputFaultOnset c | .inputFaultEnd c => decide (c < 64)
  | .tachEdge f | .tachStall f => decide (f < 8)
  | .tempoWindowEnd m _ => decide (m < 68)
  | .leaseRenew r | .leaseExpire r => decide (r < 2)
  | .groupMessage m => decide (m.role < 2) && decide (m.sender < 8) && decide (m.epoch < 2 ^ 16)
  | .tallyExport k | .exportConsWrite k _ => decide (k < 18)
  | .counterLowRead f a => match f with | .f0 => decide (a < 2 ^ 28) && decide (a % 4 = 0) | .f1 => decide (a < 2 ^ 20) && decide (a % 4 = 0)
  | .registerWrite x a _ _ => decide (a < x.size)
  | .dsDoorbell _ _ | .usConsWrite _ _ | .arenaRelease _ _ | .ringEnable _ _ | .ringDisable _ _ | .arenaEnable _ | .arenaDisable _
  | .timeNowRead _ | .ppsInRead | .incrCommit _ | .stepArm _ | .peerRstReq _ | .peerWakeReq _ | .padRelease _ _ | .blockResetHold _
  | .blockResetRelease _ | .treasurySweep | .walkTimeout _ | .mintReclaimDone | .ledgerEpochBoundary | .graceWindowEnd | .bankSeal
  | .drainStart | .drainResume | .drainDone | .tick | .ppsWidthEnd | .ppsInEdge | .pllLock | .consoleFrameCheck | .consoleCycleStart
  | .controlTaskCommit | .avsWrite _ | .avsReadback _ _ _ _ | .tuningPass | .stressUpdate | .hostLinkReset | .f1Flr | .dsChainFetch
  | .fence | .dmaError _ | .upstreamPost | .usIrqTimer | .clusterWatchdogExpire | .switchOver | .switchOverDone | .standbyReadySet
  | .checkpoint | .roleSwap | .roleSwapDone | .roleSwapFail | .claimRequest | .claimConfirm | .peerClaimEdge _ | .ownerWatchdogLapse
  | .heartbeatSend | .heartbeatReceive _ | .mirrorReceive _ | .heartbeatLoss | .holdoffExpire | .peerResetRequest | .powerOn | .rstColdN
  | .rstWarmN | .resetReleaseStep | .fillDone | .dozeEntry | .tallySweep | .f0FunctionLevelReset | .pcieTunnelEstablished _
  | .sysResetAssert | .titimusBootComplete | .clusterWatchdogFeed | .ownerWatchdogFeed | .mirroredSetStale => true

end Sys2Proof
end

