-- ==== Sys2Proof/Machine/RegFam.lean ====
section
/-! DEFINITION. Host accesses to registers that have no family of their own (chapter 21): field writes, latched counter reads, the summary
and ALERT_N, MSI-X tables, configuration space, and the tick with what Titimus does at it. -/
namespace Sys2Proof.Machine

/-! ### DEV_SUMMARY and ALERT_N (R479) -/

/-- DEV_SUMMARY. DESIGN CHOICE, log 48. -/
def devSummary (s : State) : W32 :=
  let anySlice (f : Nat → Bool) : Bool := (List.range 16).any fun k => sliceEnabled s k && f k
  let classes (f : Nat → Bool) : Bool := (List.range 9).any f
  packW [(0, b2n (anySlice fun k => bit (hrpStatus s k).toNat 13 || bit (hrpStatus s k).toNat 14)),
    (1, b2n (decide (s.tmp.capo > s.tmp.reqCapo))), (2, b2n s.tmp.headLow), (3, b2n s.tmp.slow), (4, b2n s.tmp.avsFault),
    (5, b2n (s.mem.ddrFail || decide (s.mem.full ≠ 0))), (6, b2n (classes fun c => (scrubAt s c).slow)),
    (7, b2n (bit (conStatus s).toNat 6)), (8, b2n (decide (s.pair.mode = 1) && !s.pair.hbOk)),
    (9, b2n (ctrlAvail s && !standbyOk s)), (10, b2n s.hif.dsHalt), (11, b2n (anySlice fun k => bit s.dev.plain k)),
    (12, b2n (bit (ldgStatus s).toNat 12)), (13, b2n (inDoze s))]

/-- Some condition asks for ALERT_N: a summary bit whose mask bit is 1, or a Tuning alarm with ALERT_EN (R336). -/
def alertWanted (s : State) : Bool :=
  decide (devSummary s &&& s.dev.alertMask ≠ 0#32)
    || (s.tmp.alertEn && (decide (s.tmp.capo > s.tmp.reqCapo) || s.tmp.headLow || s.tmp.slow || s.tmp.avsFault))

/-- Titimus, while available, drives ALERT_N; its assertion raises F0 vector 18 (Table 15-3). Otherwise the pin keeps its level (R402).
DESIGN CHOICE, log 48. -/
def alertUpdate (s : State) : State :=
  if ctrlAvail s then
    let want := alertWanted s
    let up := want && !s.dev.alertN
    let s := { s with dev := { s.dev with alertN := want } }
    if up then raiseFault s else s
  else s

/-- Meaning of TICK. What Titimus does within 1 ms, it does at the tick: the error log and ALERT_N.
DESIGN CHOICE, log 48. -/
def execTick (s : State) : Out := .next (alertUpdate (drainLog (tick s)))

/-- What the block does while no command waits: one cycle of the timing clock (R278), with ALERT_N after a tick, one bucket write of each group whose
members change (R247), and one write of the table engine (R154, R157).
DESIGN CHOICE, log 5 and 48. -/
def idle (s : State) : State :=
  let t := idleCycle s
  let t : State := { t with groups := t.groups.map fun e => (e.1, writeBucket e.2) }
  let t := if t.dev.asserted = 0 then (if t.tbl.fixup.isEmpty then engineStep t else fixTables t) else t
  if t.time.nextTick = s.time.nextTick then t else alertUpdate (drainLog t)

/-! ### Latched counter reads (R469) -/

/-- A lane that a wider configured port occupies, other than the port's first lane, and that is no configured port itself (R74).
DESIGN CHOICE, log 63. -/
def laneInner (s : State) (l : Nat) : Bool :=
  decide ((fullAt s l).cfg.speed = 0)
    && s.ports.any fun e => decide (e.1 < l) && decide (l < e.1 + cfgLanes (fullOf e.2).cfg)

/-- The register lies in a block of such a lane: its MAC block, or its PCS block but for PCS_SYM_ERR, which every lane counts (R75).
DESIGN CHOICE, log 63. -/
def innerBlock (s : State) (k o : Nat) : Bool :=
  (decide (0x8000 ≤ o) && decide (o < 0xC000) && laneInner s (32 * k + (o - 0x8000) / 0x200))
    || (decide (0xC000 ≤ o) && decide (o < 0xC800) && decide (o % 0x40 ≥ 0x18) && laneInner s (32 * k + (o - 0xC000) / 0x40))

/-- A counter as F0 reads it: a configurable Tally counter has its WRAPPED flag above 48 bits; in the block of a wider port's inner lane
stands what was written. -/
def counterValue (s : State) (x : Reached) : Nat :=
  if Region.tally + 0x4000 ≤ x.addr ∧ x.addr < Region.tally + 0xA000 then
    let c := tabGet (0, false) s.tal.cnt ((x.addr - (Region.tally + 0x4000)) / 8)
    c.1 % 2 ^ 48 + b2n c.2 * 2 ^ 48
  else if 0x010 ≤ x.addr / 0x100000 ∧ x.addr / 0x100000 < 0x020 ∧ innerBlock s (x.addr / 0x100000 - 0x010) x.off then
    (tabGet 0#32 s.laneWords x.addr).toNat + (tabGet 0#32 s.laneWords (x.addr + 4)).toNat * 2 ^ 32
  else (ctrAt s x.addr).toNat

/-! ### Writes with an effect of their own -/

/-- A write to LKP_SPEC_CFG: SPEC_DEPTH is held for the frame boundary; a 1 in HWM_CLR sets PROV_HWM to PROV_NOW (R15). -/
def writeSpecCfg (k : Nat) (val : W32) (s : State) : State :=
  let now := provNow s k
  modLkp k (fun u => { u with spec := w32 (fld val 1 0), hwm := if bit val.toNat 2 then now else u.hwm }) s

/-- A write that reaches a block that is switched off or held is discarded and logged (R474). -/
def unlessOff (a : Nat) (val : W32) (f : State → State) (s : State) : State :=
  match reach a with
  | some x => if blockOff s x then logAccess .domain false x.addr val 15#4 s else f s
  | none => s

/-- Meaning of HWM_CLR: a write of LKP_SPEC_CFG of the slice. -/
def execHwmClr (k : Nat) (val : W32) (s : State) : Out :=
  onUnit (decide (k < 16)) (unlessOff (Region.slice k + 0x2010) val (writeSpecCfg k val) s)

/-- Meaning of EXPORT_CONS_WRITE. -/
def execExportConsWrite (k : Nat) (val : W32) (s : State) : Out :=
  onUnit (decide (k < 18)) (unlessOff (Region.tally + 0x204 + 0x10 * k) val (writeExpCons k val) s)

/-! ### Host interface registers -/

/-- A base address register (R352): locked while EN is 1. -/
def lockedBase (en : Bool) (off : Nat) (old new : W32) (val : W32) (f : W32 → State → State) (s : State) : State :=
  if en then (if old ≠ new then logAccess .ringCfg false off val 15#4 s else s) else f new s

/-- A write of HIF_US_IRQ: a US_IRQ_COUNT outside 1 to 4,096 leaves that field unchanged and is logged (R11, R351).
DESIGN CHOICE, log 51. -/
def writeUsIrq (val : W32) (s : State) : State :=
  let n := fld val 12 0
  let ok := decide (1 ≤ n) && decide (n ≤ 4096)
  let s := { s with hif := { s.hif with irqCount := if ok then n else s.hif.irqCount, irqTime := fld val 22 13 } }
  if ok then s else logAccess .reserved false (hifOff 0x4C) val 15#4 s

/-- An address aligned to 2^n bytes: the low n bits read 0. -/
def alignedLow (n : Nat) (val : W32) : W32 := w32 (val.toNat / 2 ^ n * 2 ^ n)

/-- A write of dword `d` of MSI-X vector `v`'s entry; unmasking sends a pending message (R350). -/
def writeMsix (v d : Nat) (val : W32) (s : State) : State :=
  let e := msixAt s v
  let put (e : MsixEntry) : State := { s with up := { s.up with msix := tabSet {} s.up.msix v e } }
  match d with
  | 0 => put { e with addrLo := alignedLow 2 val }
  | 1 => put { e with addrHi := val }
  | 2 => put { e with data := val }
  | _ => unpend v (put { e with masked := bit val.toNat 0 })

/-- A write of a register of the host interface region. -/
def writeHif (o : Nat) (val : W32) (s : State) : State :=
  let h := s.hif
  let u := s.up
  match o with
  | 0x10 => writeDsCfg val s
  | 0x14 => lockedBase h.dsEn (hifOff o) h.dsBaseLo (alignedLow 12 val) val (fun w s => { s with hif := { s.hif with dsBaseLo := w } }) s
  | 0x18 => lockedBase h.dsEn (hifOff o) h.dsBaseHi val val (fun w s => { s with hif := { s.hif with dsBaseHi := w } }) s
  | 0x1C => writeDsDb val s
  | 0x30 => writeUsCfg val s
  | 0x34 => lockedBase h.usEn (hifOff o) h.usBaseLo (alignedLow 12 val) val (fun w s => { s with hif := { s.hif with usBaseLo := w } }) s
  | 0x38 => lockedBase h.usEn (hifOff o) h.usBaseHi val val (fun w s => { s with hif := { s.hif with usBaseHi := w } }) s
  | 0x40 => writeUsCons val s
  | 0x44 => { s with hif := { h with usWbLo := val } }
  | 0x48 => { s with hif := { h with usWbHi := val } }
  | 0x4C => writeUsIrq val s
  | 0x50 => writeRxaCfg val s
  | 0x54 => lockedBase u.rxaEn (hifOff o) u.rxaBaseLo val val (fun w s => { s with up := { s.up with rxaBaseLo := w } }) s
  | 0x58 => lockedBase u.rxaEn (hifOff o) u.rxaBaseHi val val (fun w s => { s with up := { s.up with rxaBaseHi := w } }) s
  | 0x60 => writeRxaRel val s
  | _ => if 0x8000 ≤ o ∧ o < 0x8400 then writeMsix ((o - 0x8000) / 16) (o % 16 / 4) val s else s

/-! ### The other regions -/

/-- Ask the peer to wake (bit 10 of DEV_WAKE_CFG). -/
def writeWakeCfg (val : W32) (s : State) : State :=
  if bit val.toNat 10 then modPwr (fun p => { p with peerWakes := p.peerWakes + 1 }) s else s

/-- A write of a device-global register. -/
def writeGlobal (o : Nat) (val : W32) (s : State) : State :=
  match o with
  | 0x14 => writeBlockRst val s
  | 0x24 => { s with dev := { s.dev with alertMask := val &&& 0x3FE1#32 } }
  | 0x2C => { s with dev := { s.dev with scratch := val } }
  | 0x54 => releasePads val.toNat s
  | 0x58 => releasePads (fld val 5 0 * 2 ^ 32) s
  | 0x5C => writeWakeCfg val s
  | _ => s

/-- A write of a register of slice `k`'s region: LKP_CFG, LKP_SPEC_CFG, MAC_PTP; the blocks of a wider port's inner lanes keep what is written,
without effect (R74). -/
def writeSlice (k o : Nat) (val : W32) (s : State) : State :=
  if innerBlock s k o then { s with laneWords := tabSet 0#32 s.laneWords (Region.slice k + o) val }
  else if o = 0x2000 then modLkp k (fun u => { u with cfg := val &&& 0x1F#32 }) s
  else if o = 0x2010 then writeSpecCfg k val s
  else if 0x8000 ≤ o ∧ o < 0xC000 ∧ o % 0x200 = 0xC then
    modFull (32 * k + (o - 0x8000) / 0x200) (fun q => { q with cfg := { q.cfg with ptp := val } }) s
  else s

/-- A word of a trigger's configuration, held for the tick (R295). -/
def writeTrig (t w : Nat) (val : W32) (s : State) : State :=
  let g := trigAt s t
  let c := g.held
  let c : TrigCfg := match w with
    | 0 => { c with en := bit val.toNat 0, startSec := fld val 16 1 * 2 ^ 32 + c.startSec % 2 ^ 32, period := fld val 26 17 * 2 ^ 32 + c.period % 2 ^ 32 }
    | 1 => { c with startNs := fld val 29 0 }
    | 2 => { c with startSec := c.startSec / 2 ^ 32 * 2 ^ 32 + val.toNat }
    | _ => { c with period := c.period / 2 ^ 32 * 2 ^ 32 + val.toNat }
  setTrig t { g with held := c, dirty := true } s

/-- A write of a register of the time region. -/
def writeTime (o : Nat) (val : W32) (s : State) : State :=
  let t := s.time
  match o with
  | 0x00 => stepArm val s
  | 0x08 => { s with time := { t with incrLo := val } }
  | 0x0C => incrCommit val s
  | 0x10 => { s with time := { t with stepLo := val } }
  | 0x14 => { s with time := { t with stepHi := val } }
  | 0x4C => { s with time := { t with ppsHeld := val &&& 0xFFFFF#32 } }
  | _ =>
    if 0x80 ≤ o ∧ o < 0xC0 then
      if o % 16 = 0 then (let i := (o - 0x80) / 16; setEv i { evAt s i with held := val &&& 0xFF#32 } s) else s
    else if 0x100 ≤ o ∧ o < 0x300 then writeTrig ((o - 0x100) / 0x20) (o % 0x20 / 4) val s
    else s

/-- A write of a register of the Tally region: TAL_EXP_CONS. -/
def writeTally (o : Nat) (val : W32) (s : State) : State :=
  if 0x200 ≤ o ∧ o < 0x320 ∧ o % 16 = 4 then writeExpCons ((o - 0x200) / 16) val s else s

/-- A write that reaches a register: each field by its access code; a register without a writable field ignores it (R472). -/
def writeReg (x : Reached) (val : W32) (s : State) : State :=
  let r := x.addr / 0x100000
  if r = 0 then writeGlobal x.off val s
  else if r = 1 then writeHif x.off val s
  else if 0x010 ≤ r ∧ r < 0x020 then writeSlice (r - 0x010) x.off val s
  else if r = 0x030 then
    if 0x100 ≤ x.off ∧ x.off < 0x180 then
      let o := (x.off - 0x100) / 4
      cleanse (.outletMap o) { s with led := { s.led with mapHeld := tabSet 0#32 s.led.mapHeld o (val &&& 0x7FFF#32) } }
    else s
  else if r = 0x040 then writeTime x.off val s
  else if r = 0x060 then (if x.off = 0x10C then writePairRst val s else s)
  else if r = 0x080 then writeTally x.off val s
  else s

/-- A write at address `a`, whose record in the access log, if it made one, names the address as written (R480). -/
def loggedAt (a : Nat) (s t : State) : State :=
  if fld t.up.accErr 31 16 = fld s.up.accErr 31 16 then t else { t with up := { t.up with accAddr := w32 (a % 2 ^ 28 / 4 * 4) } }

/-- A write to F0 BAR0 (R467, R472, R474, R475). DEDUCED, log 50. -/
def bar0Write (a : Nat) (val : W32) (be : BitVec 4) (s : State) : State :=
  if be ≠ 15#4 then logAccess .byteEn false a val be s
  else
    match reach a with
    | none => logAccess .hole false a val be s
    | some x => if blockOff s x then logAccess .domain false a val be s else loggedAt a s (writeReg x val s)

/-- A write to the F1 view: mailboxes and the MSI-X table; every other write is discarded and counted (R349, R478).
DESIGN CHOICE, log 15. -/
def f1Write (a : Nat) (val : W32) (be : BitVec 4) (s : State) : State :=
  if 0x2000 ≤ a ∧ a < 0x3000 then mailboxWrite (.f1 ((a - 0x2000) / 0x800)) (a % 0x800 / 4 * 4) val be s
  else if 0x3000 ≤ a ∧ a < 0x3080 then
    if be = 15#4 then writeMsix (64 + (a - 0x3000) / 16) (a % 16 / 4) val s else s
  else bump Ctr.hifF1WriteDrop s

/-- The vectors of a function. -/
def vectorsOf : Fn → List Nat
  | .f0 => List.range 64
  | .f1 => (List.range 8).map (64 + ·)

/-- A function's configuration space. -/
def cfgOf (fn : Fn) (s : State) : CfgSpace := match fn with | .f0 => s.up.cfg0 | .f1 => s.up.cfg1

/-- A function's configuration space replaced, and the messages sent that nothing masks any more. -/
def setCfg (fn : Fn) (c : CfgSpace) (s : State) : State :=
  let s := { s with up := match fn with | .f0 => { s.up with cfg0 := c } | .f1 => { s.up with cfg1 := c } }
  (vectorsOf fn).foldl (fun s v => unpend v s) s

/-- Device ID of a function (Table 15-1). -/
def deviceId (fn : Fn) : Nat := match fn with | .f0 => 0x1024 | .f1 => 0x1025

/-- Size of a function's BAR0 as a power of two (Table 15-1). -/
def bar0Log2 (fn : Fn) : Nat := match fn with | .f0 => 28 | .f1 => 20

/-- The bytes of one function's configuration space, by doubleword (R345): Vendor and Device ID, class code 0x02_8000, the BARs, the Subsystem IDs
of the flash header, Interrupt Pin 0; then Power Management, MSI-X (64 or 8 vectors), the PCI Express capability with a supported
Max_Payload_Size of 256 bytes, and AER. PRESUMED, log 13. -/
def cfgRead (fn : Fn) (a : Nat) (s : State) : W32 :=
  let c := match fn with | .f0 => s.up.cfg0 | .f1 => s.up.cfg1
  let f0 : Bool := match fn with | .f0 => true | .f1 => false
  match a / 4 * 4 with
  | 0x00 => packW [(0, vendorId), (16, deviceId fn)]
  | 0x04 => packW [(1, b2n c.mse), (2, b2n c.bme), (20, 1)]
  | 0x08 => packW [(0, s.dev.fuses.rev % 256), (8, 0x028000)]
  | 0x0C => packW [(23, 1)]
  | 0x10 => w32 (c.bar0 + 4)
  | 0x14 => w32 (c.bar0 / 2 ^ 32)
  | 0x18 => if f0 then w32 (c.bar2 + 4) else 0#32
  | 0x1C => if f0 then w32 (c.bar2 / 2 ^ 32) else 0#32
  | 0x2C => packW [(0, if s.dev.hdrOk then s.flash.ssvid else 0), (16, if s.dev.hdrOk then s.flash.ssid else 0)]
  | 0x34 => 0x40#32
  | 0x40 => packW [(0, 1), (8, 0x50), (16, 3)]
  | 0x44 => packW [(0, if c.d3hot then 3 else 0)]
  | 0x50 => packW [(0, 0x11), (8, 0x60), (16, if f0 then 63 else 7), (30, b2n c.functionMask), (31, b2n c.msixEnable)]
  | 0x54 => if f0 then 0x00108000#32 else 0x00003000#32
  | 0x58 => if f0 then 0x00109000#32 else 0x00003800#32
  | 0x60 => packW [(0, 0x10), (16, 2)]
  | 0x64 => 1#32
  | 0x68 => packW [(5, c.mps), (12, c.mrrs)]
  | 0x100 => packW [(0, 1), (16, 2)]
  | 0x108 => c.aerMask
  | 0x10C => c.aerSev
  | 0x114 => c.aerCorrMask
  | _ => 0#32

/-- A 64-bit base address with one of its words replaced, aligned to 2^`lg`. -/
def baseWrite (old lg : Nat) (high : Bool) (val : W32) : Nat :=
  (if high then old % 2 ^ 32 + val.toNat * 2 ^ 32 else old / 2 ^ 32 * 2 ^ 32 + val.toNat) / 2 ^ lg * 2 ^ lg

/-- A configuration write (R345, R346, R350), by byte enables for the fields of one byte and as a whole word otherwise; what PCIe defines as
read-only keeps its value. PRESUMED, log 13. -/
def cfgWrite (fn : Fn) (a : Nat) (val : W32) (be : BitVec 4) (s : State) : State :=
  let c := cfgOf fn s
  let f0 : Bool := match fn with | .f0 => true | .f1 => false
  let whole (new : CfgSpace) : State := if be = 15#4 then setCfg fn new s else s
  match a / 4 * 4 with
  | 0x04 => if be.getLsbD 0 then setCfg fn { c with mse := bit val.toNat 1, bme := bit val.toNat 2 } s else s
  | 0x10 => whole { c with bar0 := baseWrite c.bar0 (bar0Log2 fn) false val }
  | 0x14 => whole { c with bar0 := baseWrite c.bar0 (bar0Log2 fn) true val }
  | 0x18 => if f0 then whole { c with bar2 := baseWrite c.bar2 16 false val } else s
  | 0x1C => if f0 then whole { c with bar2 := baseWrite c.bar2 16 true val } else s
  | 0x44 => if be.getLsbD 0 && (decide (fld val 1 0 = 0) || decide (fld val 1 0 = 3)) then setCfg fn { c with d3hot := decide (fld val 1 0 = 3) } s else s
  | 0x50 => if be.getLsbD 3 then setCfg fn { c with msixEnable := bit val.toNat 31, functionMask := bit val.toNat 30 } s else s
  | 0x68 => whole { c with mps := fld val 7 5, mrrs := fld val 14 12 }
  | 0x108 => whole { c with aerMask := val }
  | 0x10C => whole { c with aerSev := val }
  | 0x114 => whole { c with aerCorrMask := val }
  | _ => s

/-- Bytes that one read request of a function may name: 512, and never more than its Max_Read_Request_Size (R345). -/
def readRequest (s : State) : Nat := min 512 (128 * 2 ^ s.up.cfg0.mrrs)

/-- A host write of one doubleword. DESIGN CHOICE, log 14. -/
def registerWrite (sp : Space) (a : Nat) (val : W32) (be : BitVec 4) (s : State) : State :=
  match sp with
  | .bar0 => bar0Write (a / 4 * 4) val be s
  | .bar2 => mailboxWrite (.f0 (a / 0x1000)) (a % 0x1000 / 4 * 4) val be s
  | .f1 => f1Write (a / 4 * 4) val be s
  | .cfg fn => cfgWrite fn a val be s

/-- Meaning of REGISTER_WRITE. -/
def execRegisterWrite (sp : Space) (a : Nat) (val : W32) (be : BitVec 4) (s : State) : Out :=
  onUnit (decide (a < sp.size)) (registerWrite sp a val be s)

end Sys2Proof.Machine
end

