-- ==== Sys2Proof/Machine/RegRead.lean ====
section
/-! DEFINITION. What a read of each register returns: the words of the field tables of chapters 02 to 22, in F0 BAR0 and in the F1 view. -/
namespace Sys2Proof.Machine

/-! ### F0: region by region -/

/-- A register of the device-global region (Table 21-4). -/
def globalWord (s : State) (o : Nat) : W32 :=
  let d := s.dev
  match o with
  | 0x00 => criticalWord s 9
  | 0x04 => criticalWord s 10
  | 0x08 => criticalWord s 4
  | 0x10 => w32 d.cause
  | 0x14 => d.blockRst
  | 0x18 => packW [(0, b2n d.straps.bootSel), (1, b2n d.straps.lock), (2, d.slot), (3, b2n d.fallback), (4, b2n d.noImage), (5, b2n d.hdrOk)]
  | 0x1C => packW [(0, d.plain), (16, d.mapPorts), (23, b2n d.skipped), (24, b2n d.fillDone)]
  | 0x20 => devSummary s
  | 0x24 => d.alertMask
  | 0x28 => w32 d.fuses.sliceEn
  | 0x2C => d.scratch
  | 0x40 => pwrStatus s
  | 0x44 => w32 (pwrOn s)
  | 0x48 => w32 (pwrOn s / 2 ^ 32)
  | 0x4C => w32 s.pwr.held
  | 0x50 => w32 (s.pwr.held / 2 ^ 32)
  | 0x5C => wakeCfg s
  | 0x60 => w32 s.pwr.wakeLast
  | 0x64 => w32 s.pwr.wakeTime
  | _ => 0#32

/-- HIF_STATUS. DESIGN CHOICE, log 69. -/
def hifStatus (s : State) : W32 :=
  let h := s.hif
  packW [(0, b2n (h.dsEn && !h.dsHalt && !s.up.fetchPaused)), (1, b2n h.dsHalt), (2, b2n s.up.fetchPaused)
    , (3, b2n (h.usEn && decide (ringUsed h.usLog2 h.usProd h.usCons ≥ 2 ^ h.usLog2))), (4, b2n s.up.arenaFull), (5, b2n h.tunnelUp)
    , (6, b2n h.link80), (7, b2n (ctrlAvail s)), (8, s.up.hold.length)]

/-- A doubleword of an MSI-X table entry (R350). -/
def msixWord (s : State) (v d : Nat) : W32 :=
  let e := msixAt s v
  match d with
  | 0 => e.addrLo
  | 1 => e.addrHi
  | 2 => e.data
  | _ => w32 (b2n e.masked)

/-- A word of the pending bit array, 32 vectors from `v` on. -/
def pbaWord (s : State) (v n : Nat) : W32 := packW ((List.range n).map fun i => (i, b2n (msixAt s (v + i)).pending))

/-- A register of the host interface region. -/
def hifWord (s : State) (o : Nat) : W32 :=
  let h := s.hif
  let u := s.up
  match o with
  | 0x00 => hifStatus s
  | 0x10 => packW [(0, b2n h.dsEn), (1, h.dsLog2), (6, h.dsNotify)]
  | 0x14 => h.dsBaseLo
  | 0x18 => h.dsBaseHi
  | 0x1C => w32 h.dsDb
  | 0x20 => w32 h.dsCons
  | 0x30 => packW [(0, b2n h.usEn), (1, h.usLog2), (6, b2n h.usWbEn)]
  | 0x34 => h.usBaseLo
  | 0x38 => h.usBaseHi
  | 0x3C => w32 h.usProd
  | 0x40 => w32 h.usCons
  | 0x44 => h.usWbLo
  | 0x48 => h.usWbHi
  | 0x4C => packW [(0, h.irqCount), (13, h.irqTime)]
  | 0x50 => packW [(0, b2n u.rxaEn), (1, u.rxaLog2)]
  | 0x54 => u.rxaBaseLo
  | 0x58 => u.rxaBaseHi
  | 0x5C => w32 u.rxaW
  | 0x60 => w32 u.rxaRel
  | 0x70 => packW ((List.range 10).map fun c => (c, b2n (evPendAt s c).isSome))
  | 0x80 => u.accErr
  | 0x84 => u.accAddr
  | 0x88 => u.accData
  | _ =>
    if 0x8000 ≤ o ∧ o < 0x8400 then msixWord s ((o - 0x8000) / 16) (o % 16 / 4)
    else if o = 0x9000 ∨ o = 0x9004 then pbaWord s (8 * (o - 0x9000)) 32
    else 0#32

/-- TLR_STATUS of a slice. -/
def tlrStatus (s : State) (k : Nat) : W32 :=
  let ps := (List.range 32).map fun i => txAt s (32 * k + i)
  let v : Telemetry := tabGet {} s.tele k
  packW [(0, (ps.filter fun t => t.gate.oper.isSome).length), (6, b2n (ps.any fun t => t.gate.pending.isSome)), (7, b2n v.on)]

/-- TLR_CLASS_MAP: the queues of eight classes from `c` on. -/
def classMapWord (t : TxPort) (c : Nat) : W32 := packW ((List.range 8).map fun i => (4 * i, t.classMap.getD (c + i) 0))

/-- A word of the Harp block. -/
def harpWord (s : State) (k o : Nat) : W32 :=
  match o with
  | 0x1000 => hrpStatus s k
  | 0x1004 => w32 (harpAt s k).raTpid
  | 0x1008 => (harpAt s k).seed
  | 0x100C => hrpBuildId s k
  | _ =>
    let i := (o - 0x1400) / 8
    let ra : RaCfg := tabGet {} s.ras (if i < 32 then 32 * k + i else 513 + k)
    if o % 8 = 0 then packW [(0, ra.defSeg), (24, ra.defClass), (28, b2n ra.raEn), (29, ra.raTable)] else ra.pcpMap

/-- A word of a MAC block: its port's own, or what was written where a wider port takes the lane (R74). -/
def macWord (s : State) (k o : Nat) : W32 :=
  let p := 32 * k + (o - 0x8000) / 0x200
  if innerBlock s k o then tabGet 0#32 s.laneWords (Region.slice k + o)
  else
    match o % 0x200 with
    | 0x00 => macCfg s p
    | 0x04 => macStatus s p
    | 0x08 => macExpress s p
    | 0x0C => (fullAt s p).cfg.ptp
    | _ => macPtpDly s p

/-- A register of slice `k`'s region (Table 21-2). -/
def sliceWord (s : State) (k o : Nat) : W32 :=
  if o < 0x2000 then harpWord s k o
  else if o = 0x2000 then (lkpAt s k).cfg
  else if o = 0x2010 then (lkpAt s k).spec
  else if o = 0x2014 then packW [(0, provNow s k), (14, (lkpAt s k).hwm)]
  else if o = 0x2018 then packW [(0, (chitsOf k s).length), (15, b2n !(lkpAt s k).scanned)]
  else if o = 0x3000 then clsStatus s k
  else if o = 0x3004 then clsTmap s k
  else if o < 0x5000 then
    let w := tabGet (0#32, 0#32) (classAt s k).now.ranges ((o - 0x4000) / 8)
    if o % 8 = 0 then w.1 else w.2
  else if o = 0x5000 then tlrStatus s k
  else if o < 0x6000 then
    let p := 32 * k + (o - 0x5400) / 16
    match o % 16 with
    | 0 => classMapWord (txAt s p) 0
    | 4 => classMapWord (txAt s p) 8
    | 8 => tlrGate s p
    | _ => w32 (gatesNow (txAt s p))
  else if o < 0x8000 then
    let n := (o - 0x6000) / 4
    w32 (depthOf (txAt s (32 * k + n / 16)) (n % 16))
  else macWord s k o

/-- MNT_STOP of a port: the priorities of it that some pool stops (R216). -/
def mntStop (s : State) (p : Nat) : W32 :=
  packW ((List.range 8).map fun k => (k, b2n (s.mint.pools.any fun e => e.2.stopped.contains (8 * p + k))))

/-- A register of the Mint region (chapter 09). -/
def mintWord (s : State) (o : Nat) : W32 :=
  if o = 0 then mntStatus s
  else if o = 0x10 then packW [(0, s.mint.yelFloor), (16, s.mint.redFloor)]
  else if o < 0x1000 then mntStop s ((o - 0x400) / 4)
  else if o < 0x2000 then (poolWords s ((o - 0x1000) / 0x20)).getD (o % 0x20 / 4) 0#32
  else if o < 0x8000 then
    let m := tabGet [] s.mint.portMap ((o - 0x2000) / 16)
    packW ((List.range 4).map fun j => (8 * j, m.getD (o % 16 + j) 0))
  else w32 (tabGet 0 s.mint.marks ((o - 0x8000) / 4))

/-- A register of the table engine region (chapter 06). -/
def tableWord (s : State) (o : Nat) : W32 :=
  if o = 0 then tblStatus s
  else
    let t := (o - 0x100) / 8
    if o % 8 = 0 then ltabCfg s t else w32 (usedSlots s t)

/-- TRS_STATUS. A sweep of the Treasury is one step of the model, so PASS_RUNNING reads 0. DESIGN CHOICE, log 69. -/
def trsStatus (s : State) : W32 := w32 (s.tenants.filter fun e => e.2.en).length

/-- A register of the Ledger region (chapter 11). -/
def ledgerWord (s : State) (o : Nat) : W32 :=
  match o with
  | 0x00 => ldgStatus s
  | 0x04 => criticalWord s 5
  | 0x08 => ldgCfg s
  | 0x0C => w32 s.led.arch.length
  | 0x10 => ldgOldest s
  | _ => tabGet 0#32 s.led.mapHeld ((o - 0x100) / 4)

/-- TIM_TSQ_STATUS of a slice. -/
def tsqStatus (s : State) (k : Nat) : W32 :=
  let q := tsqAt s k
  packW [(0, q.entries.length), (7, b2n (decide (q.entries.length ≥ 64))), (16, q.lost % 2 ^ 16)]

/-- A register of the time region (chapter 12) whose read has no effect of its own. -/
def timeWord (s : State) (o : Nat) : W32 :=
  let t := s.time
  match o with
  | 0x00 => timCtrl s
  | 0x08 => t.incrLo
  | 0x0C => t.incrHi
  | 0x10 => t.stepLo
  | 0x14 => t.stepHi
  | 0x24 => t.now0.secLo
  | 0x28 => t.now0.secHi
  | 0x2C => t.now0.frac
  | 0x30 => t.now0.ns32
  | 0x44 => t.ppsLatch
  | 0x4C => t.ppsHeld
  | _ =>
    if o < 0x100 then
      let e := evAt s ((o - 0x80) / 16)
      if o % 16 = 0 then setFld e.held 11 8 e.queue.length else w32 e.latch
    else if o < 0x1000 then
      let c := (trigAt s ((o - 0x100) / 0x20)).held
      match o % 0x20 with
      | 0x00 => trigCfgWord c
      | 0x04 => w32 c.startNs
      | 0x08 => w32 c.startSec
      | _ => w32 c.period
    else
      let k := (o - 0x1000) / 16
      if o % 16 = 4 then w32 (tsqAt s k).latch else tsqStatus s k

/-- A register of the rack console region (chapter 13). -/
def consoleWord (s : State) (o : Nat) : W32 :=
  if o = 0 then conStatus s
  else if o = 4 then conCycle s
  else if o < 0x100 then conClk s ((o - 0x10) / 4)
  else if o < 0x400 then
    let i := inputAt s ((o - 0x100) / 4)
    packW [(0, i.clk), (2, b2n i.invert), (3, b2n i.en), (4, b2n i.fault)]
  else if o < 0x800 then (conMeas s ((o - 0x400) / 16)).getD (o % 16 / 4) 0#32
  else if o < 0x900 then
    let x := actAt s ((o - 0x800) / 4)
    packW [(0, b2n x.level), (1, b2n x.drive), (2, b2n x.safe), (3, b2n x.tripped)]
  else
    let f := (o - 0x900) / 4
    let x := fanAt s f
    packW [(0, dutyNow s f), (10, b2n x.pol), (11, b2n x.stall), (12, x.tachUs)]

/-- A register of the control clusters and pair region (chapter 17, PAIR_RST). -/
def clusterWord (s : State) (o : Nat) : W32 :=
  match o with
  | 0x000 => cclStatus s
  | 0x004 => criticalWord s 1
  | 0x008 => w32 s.pair.swapHours
  | 0x100 => pairStatusWord s
  | 0x104 => criticalWord s 2
  | 0x108 => packW [(0, s.pair.mode), (2, s.pair.claimWait)]
  | 0x10C => packW [(0, b2n s.dev.peerRstEn)]
  | 0x200 => pairGrp s
  | _ => packW [(0, s.pair.role0.epoch % 2 ^ 16), (16, s.pair.role1.epoch % 2 ^ 16)]

/-- A register of the memory integrity region (chapter 20). -/
def memoryWord (s : State) (o : Nat) : W32 :=
  match o with
  | 0x00 => memStatus s
  | 0x04 => ddrStatus s
  | 0x10 => s.mem.lastErr
  | 0x14 => s.mem.lastLo
  | 0x18 => s.mem.lastHi
  | _ => if o < 0x200 then scrubLap s ((o - 0x100) / 4) else w32 (remapUsed s ((o - 0x200) / 4))

/-- A register of the Tally and capture region (chapter 22). -/
def tallyWord (s : State) (o : Nat) : W32 :=
  if o = 0 then talStatus s
  else if o = 4 then w32 s.tal.sweep
  else if o < 0x200 then w32 (s.tal.unpriv / 2 ^ (32 * ((o - 0x100) / 4)))
  else if o < 0x800 then
    let x := streamAt s ((o - 0x200) / 16)
    if o % 16 = 0 then w32 x.prod else w32 x.cons
  else tabGet 0#32 s.tal.sel ((o - 0xA000) / 4)

/-- TMP_STATUS. -/
def tmpStatus (s : State) : W32 :=
  packW [(0, b2n !s.tmp.passes.isEmpty), (1, b2n s.tmp.headLow), (2, b2n (decide (s.tmp.capo > s.tmp.reqCapo))), (3, b2n s.tmp.slow)
    , (4, b2n s.tmp.avsFault), (5, b2n (voltChanging s)), (6, b2n s.tmp.recordOk)]

/-- A register of the Tempo and Tuning region (chapter 14). -/
def tempoWord (s : State) (o : Nat) : W32 :=
  let t := s.tmp
  match o with
  | 0x00 => tmpStatus s
  | 0x04 => criticalWord s 3
  | 0x08 => packW [(0, targetWord t), (11, t.measured), (21, t.current)]
  | 0x0C => packW [(0, unsgn 16 t.age), (16, unsgn 16 t.headroom)]
  | 0x10 => w32 t.horizon
  | 0x14 => w32 (t.stress / 2 ^ 20)
  | 0x18 => packW [(0, t.interval), (8, b2n t.alertEn)]
  | _ =>
    if o < 0x280 then
      let m : Monitor := tabGet {} t.mons ((o - 0x100) / 4)
      packW [(0, m.tempo), (12, b2n m.valid)]
    else if o < 0x300 then w32 (unsgn 16 (ageIndex s ((o - 0x280) / 4)))
    else if o < 0x400 then w32 (unsgn 8 (tabGet 0 t.tj ((o - 0x300) / 4)))
    else criticalWord s (11 + (o - 0x400) / 4)

/-- A register's fields as their values stand, whatever state its block is in. -/
def heldWord (s : State) (x : Reached) : W32 :=
  let r := x.addr / 0x100000
  if r = 0 then globalWord s x.off
  else if r = 1 then hifWord s x.off
  else if 0x010 ≤ r ∧ r < 0x020 then sliceWord s (r - 0x010) x.off
  else if r = 0x020 then mintWord s x.off
  else if r = 0x021 then tableWord s x.off
  else if r = 0x022 then trsStatus s
  else if r = 0x030 then ledgerWord s x.off
  else if r = 0x040 then timeWord s x.off
  else if r = 0x050 then consoleWord s x.off
  else if r = 0x060 then clusterWord s x.off
  else if r = 0x070 then memoryWord s x.off
  else if r = 0x080 then tallyWord s x.off
  else tempoWord s x.off

/-- The RL fields of a register of a block that can be switched off or held. -/
def liveMask (x : Reached) : W32 :=
  let r := x.addr / 0x100000
  let o := x.off
  if 0x010 ≤ r ∧ r < 0x020 then
    if o = 0x1000 ∨ o = 0x100C ∨ o = 0x2018 ∨ o = 0x3000 ∨ o = 0x5000 then 0xFFFFFFFF#32
    else if o = 0x2014 then 0x3FFF#32
    else if 0x5400 ≤ o ∧ o < 0x6000 then (if o % 16 = 8 then 0x7FE0#32 else if o % 16 = 12 then 0xFFFFFFFF#32 else 0#32)
    else if 0x6000 ≤ o ∧ o < 0x8000 then 0xFFFFFFFF#32
    else if 0x8000 ≤ o ∧ o < 0xC000 ∧ o % 0x200 = 4 then 0xFFFFFFFF#32
    else 0#32
  else if r = 0x080 then
    if o < 0x100 ∨ (0x200 ≤ o ∧ o < 0x320 ∧ o % 16 = 0) ∨ (0x4000 ≤ o ∧ o < 0xA000) then 0xFFFFFFFF#32 else 0#32
  else if r = 0x050 then
    if 0x100 ≤ o ∧ o < 0x200 then 0x10#32 else if 0x400 ≤ o ∧ o < 0x800 then 0xFFFFFFFF#32 else 0#32
  else 0#32

/-- The register's domain has been switched off. -/
def retains (s : State) (x : Reached) : Bool := match regDomain x with | some d => bit s.pwr.off d | none => false

/-- What a read of a register returns: a switched-off domain returns the values it retained when it went off, a held block its own, each with the
RL fields 0 (R439, R474). -/
def regWord (s : State) (x : Reached) : W32 :=
  if blockOff s x then (if retains s x then tabGet 0#32 s.pwr.retained x.addr else heldWord s x) &&& ~~~(liveMask x) else heldWord s x

/-! ### Reads -/

/-- The address reaches the low word of a counter. -/
def lowWord (x : Reached) : Bool := x.pair && decide (x.addr % 8 = 0)

/-- A counter's value as a read finds it; a configurable counter of the switched-off Tally engine is an RL field. -/
def counterNow (s : State) (x : Reached) : Nat := if blockOff s x && liveMask x != 0#32 then 0 else counterValue s x

/-- An F0 read of a register: a counter's low word is returned and its high word copied into F0's latch, which the high word's address returns
(R469); the registers whose read latches or removes act so (R286, R293, R298, R299). DESIGN CHOICE, log 49 and 69. -/
def f0Read (a : Nat) (s : State) : State :=
  match reach a with
  | none => { s with rsp := 0#32 }
  | some x =>
    if lowWord x then
      let v := counterNow s x
      { s with rsp := w32 v, latch := tabSet 0#32 s.latch x.addr (w32 (v / 2 ^ 32)) }
    else if x.pair then { s with rsp := tabGet 0#32 s.latch (x.addr - 4) }
    else if x.addr / 0x100000 = 0x040 then
      if x.off = 0x20 then timeNowRead .f0 s
      else if x.off = 0x40 then ppsInRead s
      else if 0x80 ≤ x.off ∧ x.off < 0xC0 ∧ x.off % 16 = 4 then evMetaRead ((x.off - 0x80) / 16) s
      else if 0x1000 ≤ x.off ∧ x.off < 0x1100 ∧ x.off % 16 = 0 then tsqMetaRead ((x.off - 0x1000) / 16) s
      else { s with rsp := regWord s x }
    else { s with rsp := regWord s x }

/-- A word of mailbox `n` (Table 15-9). -/
def boxWord (s : State) (n o : Nat) : W32 :=
  let b := boxAt s n
  match o with
  | 0x00 => w32 b.seq
  | 0x04 => b.command
  | 0x08 => w32 b.length
  | 0x0C => packW [(0, b.rseq), (16, b.status)]
  | 0x10 => w32 b.error
  | 0x14 => w32 b.rlength
  | _ => if o < 0x40 then 0#32 else (wordsOf ((List.range 4).map fun i => payloadByte b (o - 0x40 + i))).getD 0 0#32

/-- A register of the F1 view below its mirror pages (Table 21-3). -/
def f1Word (s : State) (a : Nat) : W32 :=
  if a < 0x1000 then
    (match a % 16 with | 0 => criticalWord s 9 | 4 => criticalWord s 10 | 8 => criticalWord s 4 | _ => 0#32)
  else if a < 0x2000 then
    (match a % 64 with | 0x24 => s.time.now1.secLo | 0x28 => s.time.now1.secHi | 0x2C => s.time.now1.frac | 0x30 => s.time.now1.ns32 | _ => 0#32)
  else if a < 0x3000 then boxWord s (16 + (a - 0x2000) / 0x800) (a % 0x800)
  else if 0x3000 ≤ a ∧ a < 0x3080 then msixWord s (64 + (a - 0x3000) / 16) (a % 16 / 4)
  else if a = 0x3800 then pbaWord s 64 8
  else 0#32

/-- An F1 read: the words of a mirror page's header stand alone, and the low word of a mirrored pair latches its high word for F1 (R469), and a read of TIM_NOW_NS latches the time for F1 (R286).
DESIGN CHOICE, log 49 and 69. -/
def f1Read (a : Nat) (s : State) : State :=
  if 0x10000 ≤ a then
    if (match mirrorPlace a with | some (_, o) => decide (o < 64) | none => true) then { s with rsp := mirrorWord s a }
    else if a % 8 = 0 then { s with rsp := mirrorWord s a, latch := tabSet 0#32 s.latch (2 ^ 32 + a) (mirrorWord s (a + 4)) }
    else { s with rsp := tabGet 0#32 s.latch (2 ^ 32 + a - 4) }
  else if 0x1000 ≤ a ∧ a < 0x2000 ∧ a % 64 = 0x20 then timeNowRead .f1 s
  else { s with rsp := f1Word s a }

/-- Meaning of COUNTER_LOW_READ: an F0 BAR0 address or an F1 offset. The table's one row for a read of a register by its address, it reads
whichever register the address reaches. DESIGN CHOICE, log 49 and 69. -/
def execCounterLowRead (fn : Fn) (a : Nat) (s : State) : Out :=
  match fn with
  | .f0 => onUnit (decide (a < 2 ^ 28) && decide (a % 4 = 0)) (f0Read a s)
  | .f1 => onUnit (decide (a < 2 ^ 20) && decide (a % 4 = 0)) (f1Read a s)

end Sys2Proof.Machine
end

