-- ==== Sys2Proof/Machine/Domains.lean ====
section
/-! DEFINITION. Domains going off and coming on (chapter 19): retention, drains, and the entry into Doze. -/
namespace Sys2Proof.Machine

/-! ### Retention (R439) -/

/-- The addresses of the registers, other than counters, of a span list at a region's base. -/
def spanAddrs (base : Nat) (spans : List Span) : List Nat :=
  (spans.filter fun x => !x.pair).flatMap fun x =>
    (List.range x.count).flatMap fun i => (List.range x.words).map fun j => base + x.base + x.stride * i + 4 * j

/-- The register addresses that a domain's block may hold. -/
def domainAddrs (d : Nat) : List Nat :=
  if d < 32 then spanAddrs ((0x010 + d % 16) * 0x100000) sliceSpans
  else if d = 36 then spanAddrs 0x08000000 tallySpans
  else if d = 37 then spanAddrs 0x05000000 consoleSpans
  else []

/-- The register words of a domain as they stand; words of 0 are not listed. -/
def domainWords (d : Nat) (s : State) : Tab W32 :=
  (domainAddrs d).foldl (fun m a =>
    match reach a with
    | some x => if regDomain x = some d then tabSet 0#32 m a (heldWord s x) else m
    | none => m) []

/-- A domain's registers retain their words while it is off: reads of them return these. DESIGN CHOICE, log 44. -/
def retain (d : Nat) (s : State) : State :=
  modPwr (fun p => { p with retained := (domainWords d s).foldl (fun m e => tabSet 0#32 m e.1 e.2) p.retained }) s

/-- A domain that powers up takes what commands configured meanwhile. -/
def unretain (d : Nat) (s : State) : State :=
  modPwr (fun p => { p with retained := p.retained.filter fun e => match reach e.1 with | some x => regDomain x ≠ some d | none => false }) s

/-! ### Going off and coming on -/

/-- A domain goes off: its registers are retained, its pads held and DEV_PWR_DOWN counts (R439, R445, R449); without the input filters no outlet is
sampled (R267). -/
def domainOff (d : Nat) (s : State) : State :=
  let s := modPwr (fun p => { p with off := p.off ||| domBit d, held := p.held ||| domBit d }) (retain d (domainStops d s))
  bump Ctr.devPwrDown (if d = 37 then markGaps s else s)

/-- A domain comes on (R438, R439). The owner's Titimus runs again (R444); the console's groups prime again (R304). -/
def domainUp (d : Nat) (s : State) : State :=
  let s := modPwr (fun p => { p with off := without p.off (domBit d) }) (unretain d s)
  if d = ownerDomain s then modPair (fun p => { p with fedAt := s.cycles }) (runTitimus (modPwr (fun p => { p with bell := false }) s))
  else if d = 37 then (List.range 4).foldl (fun s k => if (groupOf s k).en then armGroup k s else s) s
  else s

/-! ### Drains (R442) -/

/-- The drain condition of a domain (R442), as far as it is not met within one command.
DESIGN CHOICE, log 44. -/
def drained (s : State) (d : Nat) : Bool :=
  if d < 16 then
    (chitsOf d s).isEmpty && (portIdle s (513 + d)) && ((List.range 32).all fun i => portIdle s (32 * d + i))
  else if d < 32 then (List.range 32).all fun i => (txAt s (32 * (d - 16) + i)).tx.isNone
  else if d = 33 then s.hif.inject.isNone
  else true

/-- The drain condition of a domain may be unmet where the state does not show it: what is outstanding at the LPDDR5X controller and in a cluster
is done within one command. DESIGN CHOICE, log 44. -/
def drainHidden (d : Nat) : Bool := decide (d ≥ 32) && decide (d ≠ 33)

/-- 1 ms in cycles (R442, R444). -/
def drainLimit : Nat := 1000000

/-- The first domain of the request in progress, in the given direction. -/
def requestHead (on : Bool) (d : Nat) (s : State) : Option PwrReq :=
  match s.pwr.req with
  | some r => if r.on = on ∧ r.todo.head? = some d then some r else none
  | none => none

/-- A domain has drained: it is switched off. DESIGN CHOICE, log 8. -/
def domainDrainDone (d : Nat) (s : State) : State :=
  match requestHead false d s with
  | some r => if drained s d then advanceRequest r (domainOff d s) else s
  | none => s

/-- Meaning of DOMAIN_DRAIN_DONE. -/
def execDomainDrainDone (d : Nat) (s : State) : Out := onUnit (decide (d < 38)) (domainDrainDone d s)

/-- A domain has not drained within 1 ms: it and the rest stay on (R442). DESIGN CHOICE, log 44. -/
def domainDrainTimeout (d : Nat) (s : State) : State :=
  match requestHead false d s with
  | some r =>
    if s.cycles ≥ r.since + drainLimit ∧ (drainHidden d = true ∨ drained s d = false) then
      let s := bump Ctr.devDrainTimeout (modPwr (fun p => { p with req := none }) s)
      runLatched (settleJobs (fun k => match k with | .domains _ on => !on | _ => false) Code.drainTimeout (details d 0) s)
    else s
  | none => s

/-- Meaning of DOMAIN_DRAIN_TIMEOUT. -/
def execDomainDrainTimeout (d : Nat) (s : State) : Out := onUnit (decide (d < 38)) (domainDrainTimeout d s)

/-- A woken domain accepts work. -/
def domainWakeDone (d : Nat) (s : State) : State :=
  match requestHead true d s with
  | some r => advanceRequest r (domainUp d s)
  | none => s

/-- Meaning of DOMAIN_WAKE_DONE. -/
def execDomainWakeDone (d : Nat) (s : State) : Out := onUnit (decide (d < 38)) (domainWakeDone d s)

/-! ### Doze (R444) -/

/-- The request that names the owner cluster has been acknowledged. -/
def jobEnded (s : State) : Bool :=
  !allVias.any fun v => match channelAt s v with
    | .running j => (match j.kind with | .domains _ on => !on | _ => false)
    | _ => false

/-- The owner cluster goes off 1 ms after the acknowledge (R444). DESIGN CHOICE, log 44. -/
def dozeEntry (s : State) : State :=
  match s.pwr.doze with
  | some t =>
    if s.cycles ≥ t + drainLimit ∧ jobEnded s = true then runLatched (domainOff (ownerDomain s) (modPwr (fun p => { p with doze := none }) s)) else s
  | none => s

/-- Meaning of DOZE_ENTRY. -/
def execDozeEntry (s : State) : Out := .next (dozeEntry s)

end Sys2Proof.Machine
end

