-- ==== Sys2Proof/Machine/Tap.lean ====
section
/-! DEFINITION. Test access (R506), the status outputs, and what the console's balls carry. The command table has no row for a test access pin: these
operations stand for them. -/
namespace Sys2Proof.Machine

/-! ### The TAP controller -/

/-- The next state of the TAP controller at a rising edge of TCK with this level of TMS (IEEE 1149.1, which R506 names). -/
def TapState.next : TapState → Bool → TapState
  | .testLogicReset, tms => if tms then .testLogicReset else .runTestIdle
  | .runTestIdle, tms => if tms then .selectDr else .runTestIdle
  | .selectDr, tms => if tms then .selectIr else .captureDr
  | .captureDr, tms => if tms then .exit1Dr else .shiftDr
  | .shiftDr, tms => if tms then .exit1Dr else .shiftDr
  | .exit1Dr, tms => if tms then .updateDr else .pauseDr
  | .pauseDr, tms => if tms then .exit2Dr else .pauseDr
  | .exit2Dr, tms => if tms then .updateDr else .shiftDr
  | .updateDr, tms => if tms then .selectDr else .runTestIdle
  | .selectIr, tms => if tms then .testLogicReset else .captureIr
  | .captureIr, tms => if tms then .exit1Ir else .shiftIr
  | .shiftIr, tms => if tms then .exit1Ir else .shiftIr
  | .exit1Ir, tms => if tms then .updateIr else .pauseIr
  | .pauseIr, tms => if tms then .exit2Ir else .pauseIr
  | .exit2Ir, tms => if tms then .updateIr else .shiftIr
  | .updateIr, tms => if tms then .selectDr else .runTestIdle

/-- The data register that an instruction selects is the one-bit bypass register (R506, IEEE 1149.1). -/
def TapInstr.bypasses : TapInstr → Bool
  | .bypass | .clamp | .highz => true
  | .sample | .preload | .extest | .extestPulse | .extestTrain => false

/-- The pins are driven from the boundary register (R506, its Caution). -/
def TapInstr.drives : TapInstr → Bool
  | .extest | .clamp | .extestPulse | .extestTrain => true
  | .bypass | .sample | .preload | .highz => false

/-- Test-Logic-Reset selects BYPASS: the device has no IDCODE register (R506). -/
def Tap.settle (t : Tap) : Tap := if t.state = .testLogicReset then { t with instr := .bypass } else t

/-- A rising edge of TCK. While TRST_N is low the TAP stays in Test-Logic-Reset (R506). `ir` is the instruction shifted in, taken at Update-IR,
and `dr` the boundary register's contents shifted in, taken at Update-DR. The instruction codes and the boundary register's length are left open:
both operands are decoded values. DESIGN CHOICE, log 66. -/
def Tap.edge (tms tdi : Bool) (ir : TapInstr) (dr : Tab Bool) (t : Tap) : Tap :=
  if t.trstLow then t
  else
    let bypass := if t.state = .captureDr then false else if t.state = .shiftDr && t.instr.bypasses then tdi else t.bypassBit
    let t := { t with state := t.state.next tms, bypassBit := bypass }
    match t.state with
    | .updateIr => { t with instr := ir }
    | .updateDr => if t.instr.bypasses then t else { t with cells := dr }
    | _ => t.settle

/-- TRST_N changes level: while it is low the TAP is held in Test-Logic-Reset (R506). -/
def Tap.trst (low : Bool) (t : Tap) : Tap :=
  if low then { t with trstLow := true, state := .testLogicReset, instr := .bypass } else { t with trstLow := false }

/-- A TCK edge at the machine. The TAP works in every reset except power-on (R506). -/
def tapEdge (tms tdi : Bool) (ir : TapInstr) (dr : Tab Bool) (s : State) : State :=
  if bit s.dev.asserted 0 then s else { s with tap := s.tap.edge tms tdi ir dr }

/-- TRST_N at the machine. -/
def tapTrst (low : Bool) (s : State) : State := { s with tap := s.tap.trst low }

/-! ### Balls -/

/-- A ball: what the test access port drives there in place of the device's own level (`none` is high-impedance). -/
def Tap.ball (t : Tap) (cell : Nat) (own : Option Bool) : Option Bool :=
  if t.instr.drives then some (tabGet false t.cells cell)
  else if t.instr = .highz then none
  else own

/-- What the output stage drives on ACTa: nothing before CONSOLE.ENABLE and after CONSOLE.DISABLE, and nothing for level 1 of an open-drain
output (R317, R318, R321). -/
def actOwn (s : State) (a : Nat) : Option Bool :=
  if !s.con.outEn then none
  else
    let x := actAt s a
    if x.driveAct && x.level then none else some x.level

/-- What the PWM generator drives on FAN_PWMf at this cycle: 25 kHz, DUTY tenths of a percent of the 40 µs period, inverted by POL (R317). -/
def fanOwn (s : State) (f : Nat) : Option Bool :=
  if !s.con.outEn then none
  else some (decide (s.cycles % 40000 < 40 * dutyNow s f) != (fanAt s f).polAct)

/-- The ball ACTa. EXTEST and CLAMP drive it from the boundary register, whatever its console state (R506); the number of its cell is open.
DESIGN CHOICE, log 66. -/
def actBall (s : State) (a : Nat) : Option Bool := s.tap.ball a (actOwn s a)

/-- The ball FAN_PWMf, as `actBall`. DESIGN CHOICE, log 66. -/
def fanBall (s : State) (f : Nat) : Option Bool := s.tap.ball (32 + f) (fanOwn s f)

/-- The ball STATk, an open-drain output that drives only low, while asserted (R496, R500). DESIGN CHOICE, log 66. -/
def statBall (s : State) (k : Nat) : Option Bool := s.tap.ball (40 + k) (if statPin s k then some false else none)

/-- The ball ALERT_N, an open-drain output that drives only low, while asserted (R479, R500). DESIGN CHOICE, log 66. -/
def alertBall (s : State) : Option Bool := s.tap.ball 44 (if s.dev.alertN then some false else none)

end Sys2Proof.Machine
end

