-- ==== Sys2Proof/Machine/Dispatch.lean ====
section
/-! DEFINITION. What each command does: one arm per constructor of Instr. -/
namespace Sys2Proof.Machine

/-- The effect of a command on everything but the queue. -/
def exec (i : Instr) (s : State) : Host.Outcome State Fault Refusal :=
  match i with
  | .sysReset x0 x1 => Sys2Proof.Machine.execSysReset x0 x1 s
  | .sysSplitSet x0 x1 => Sys2Proof.Machine.execSysSplitSet x0 x1 s
  | .sysConfigStore x0 x1 => Sys2Proof.Machine.execSysConfigStore x0 x1 s
  | .sysFwLoad x0 x1 => Sys2Proof.Machine.execSysFwLoad x0 x1 s
  | .sysFwActivate x0 x1 => Sys2Proof.Machine.execSysFwActivate x0 x1 s
  | .sysFwCommit x0 x1 => Sys2Proof.Machine.execSysFwCommit x0 x1 s
  | .sysSwap x0 x1 => Sys2Proof.Machine.execSysSwap x0 x1 s
  | .sysSvnLock x0 x1 => Sys2Proof.Machine.execSysSvnLock x0 x1 s
  | .sysInfo x0 x1 => Sys2Proof.Machine.execSysInfo x0 x1 s
  | .sysFwStatus x0 x1 => Sys2Proof.Machine.execSysFwStatus x0 x1 s
  | .portConfig x0 x1 => Sys2Proof.Machine.execPortConfig x0 x1 s
  | .portEnable x0 x1 => Sys2Proof.Machine.execPortEnable x0 x1 s
  | .portDisable x0 x1 => Sys2Proof.Machine.execPortDisable x0 x1 s
  | .portLaneMap x0 x1 => Sys2Proof.Machine.execPortLaneMap x0 x1 s
  | .portStationSet x0 x1 => Sys2Proof.Machine.execPortStationSet x0 x1 s
  | .portFlowctlSet x0 x1 => Sys2Proof.Machine.execPortFlowctlSet x0 x1 s
  | .portPreemptSet x0 x1 => Sys2Proof.Machine.execPortPreemptSet x0 x1 s
  | .portDampSet x0 x1 => Sys2Proof.Machine.execPortDampSet x0 x1 s
  | .portLpiSet x0 x1 => Sys2Proof.Machine.execPortLpiSet x0 x1 s
  | .portExpressSet x0 x1 => Sys2Proof.Machine.execPortExpressSet x0 x1 s
  | .portStatus x0 x1 => Sys2Proof.Machine.execPortStatus x0 x1 s
  | .harpLoad x0 x1 => Sys2Proof.Machine.execHarpLoad x0 x1 s
  | .harpCommit x0 x1 => Sys2Proof.Machine.execHarpCommit x0 x1 s
  | .harpRaSet x0 x1 => Sys2Proof.Machine.execHarpRaSet x0 x1 s
  | .harpRaTpid x0 x1 => Sys2Proof.Machine.execHarpRaTpid x0 x1 s
  | .harpEngineCheck x0 x1 => Sys2Proof.Machine.execHarpEngineCheck x0 x1 s
  | .harpHashSeed x0 x1 => Sys2Proof.Machine.execHarpHashSeed x0 x1 s
  | .harpStatus x0 x1 => Sys2Proof.Machine.execHarpStatus x0 x1 s
  | .classRangeSet x0 x1 => Sys2Proof.Machine.execClassRangeSet x0 x1 s
  | .classRulesSet x0 x1 => Sys2Proof.Machine.execClassRulesSet x0 x1 s
  | .classTmapSet x0 x1 => Sys2Proof.Machine.execClassTmapSet x0 x1 s
  | .classRulesGet x0 x1 => Sys2Proof.Machine.execClassRulesGet x0 x1 s
  | .classStatus x0 x1 => Sys2Proof.Machine.execClassStatus x0 x1 s
  | .tableConfig x0 x1 => Sys2Proof.Machine.execTableConfig x0 x1 s
  | .tableSeedSet x0 x1 => Sys2Proof.Machine.execTableSeedSet x0 x1 s
  | .tableInsert x0 x1 => Sys2Proof.Machine.execTableInsert x0 x1 s
  | .tableDelete x0 x1 => Sys2Proof.Machine.execTableDelete x0 x1 s
  | .tableSearch x0 x1 => Sys2Proof.Machine.execTableSearch x0 x1 s
  | .tableNext x0 x1 => Sys2Proof.Machine.execTableNext x0 x1 s
  | .tableHits x0 x1 => Sys2Proof.Machine.execTableHits x0 x1 s
  | .tableWalkClose x0 x1 => Sys2Proof.Machine.execTableWalkClose x0 x1 s
  | .tableFlushPort x0 x1 => Sys2Proof.Machine.execTableFlushPort x0 x1 s
  | .tableFlushTable x0 x1 => Sys2Proof.Machine.execTableFlushTable x0 x1 s
  | .tableInsertBulk x0 x1 => Sys2Proof.Machine.execTableInsertBulk x0 x1 s
  | .tableDeleteBulk x0 x1 => Sys2Proof.Machine.execTableDeleteBulk x0 x1 s
  | .tableSearchBulk x0 x1 => Sys2Proof.Machine.execTableSearchBulk x0 x1 s
  | .tableStatus x0 x1 => Sys2Proof.Machine.execTableStatus x0 x1 s
  | .meterSet x0 x1 => Sys2Proof.Machine.execMeterSet x0 x1 s
  | .meterProfileSet x0 x1 => Sys2Proof.Machine.execMeterProfileSet x0 x1 s
  | .meterTenantSet x0 x1 => Sys2Proof.Machine.execMeterTenantSet x0 x1 s
  | .meterGet x0 x1 => Sys2Proof.Machine.execMeterGet x0 x1 s
  | .meterTenantGet x0 x1 => Sys2Proof.Machine.execMeterTenantGet x0 x1 s
  | .tellerQueueSet x0 x1 => Sys2Proof.Machine.execTellerQueueSet x0 x1 s
  | .tellerGroupSet x0 x1 => Sys2Proof.Machine.execTellerGroupSet x0 x1 s
  | .tellerPortSet x0 x1 => Sys2Proof.Machine.execTellerPortSet x0 x1 s
  | .tellerClassMap x0 x1 => Sys2Proof.Machine.execTellerClassMap x0 x1 s
  | .tellerGateSet x0 x1 => Sys2Proof.Machine.execTellerGateSet x0 x1 s
  | .tellerLagSet x0 x1 => Sys2Proof.Machine.execTellerLagSet x0 x1 s
  | .tellerEcmpSet x0 x1 => Sys2Proof.Machine.execTellerEcmpSet x0 x1 s
  | .tellerMemberAdd x0 x1 => Sys2Proof.Machine.execTellerMemberAdd x0 x1 s
  | .tellerMemberRemove x0 x1 => Sys2Proof.Machine.execTellerMemberRemove x0 x1 s
  | .tellerMirrorSet x0 x1 => Sys2Proof.Machine.execTellerMirrorSet x0 x1 s
  | .tellerTelemetrySet x0 x1 => Sys2Proof.Machine.execTellerTelemetrySet x0 x1 s
  | .tellerGateStatus x0 x1 => Sys2Proof.Machine.execTellerGateStatus x0 x1 s
  | .tellerGroupGet x0 x1 => Sys2Proof.Machine.execTellerGroupGet x0 x1 s
  | .mintPoolSet x0 x1 => Sys2Proof.Machine.execMintPoolSet x0 x1 s
  | .mintPortMap x0 x1 => Sys2Proof.Machine.execMintPortMap x0 x1 s
  | .mintColorSet x0 x1 => Sys2Proof.Machine.execMintColorSet x0 x1 s
  | .mintEcnSet x0 x1 => Sys2Proof.Machine.execMintEcnSet x0 x1 s
  | .mintReclaim x0 x1 => Sys2Proof.Machine.execMintReclaim x0 x1 s
  | .mintStatus x0 x1 => Sys2Proof.Machine.execMintStatus x0 x1 s
  | .ledgerConfig x0 x1 => Sys2Proof.Machine.execLedgerConfig x0 x1 s
  | .ledgerKeySet x0 x1 => Sys2Proof.Machine.execLedgerKeySet x0 x1 s
  | .ledgerAck x0 x1 => Sys2Proof.Machine.execLedgerAck x0 x1 s
  | .ledgerReplay x0 x1 => Sys2Proof.Machine.execLedgerReplay x0 x1 s
  | .ledgerRowGet x0 x1 => Sys2Proof.Machine.execLedgerRowGet x0 x1 s
  | .ledgerStatus x0 x1 => Sys2Proof.Machine.execLedgerStatus x0 x1 s
  | .timeTriggerSet x0 x1 => Sys2Proof.Machine.execTimeTriggerSet x0 x1 s
  | .timeStatus x0 x1 => Sys2Proof.Machine.execTimeStatus x0 x1 s
  | .consoleClockSet x0 x1 => Sys2Proof.Machine.execConsoleClockSet x0 x1 s
  | .consoleFrameSet x0 x1 => Sys2Proof.Machine.execConsoleFrameSet x0 x1 s
  | .consoleInputSet x0 x1 => Sys2Proof.Machine.execConsoleInputSet x0 x1 s
  | .consoleOutletSet x0 x1 => Sys2Proof.Machine.execConsoleOutletSet x0 x1 s
  | .consoleOutletGet x0 x1 => Sys2Proof.Machine.execConsoleOutletGet x0 x1 s
  | .consoleCycleSet x0 x1 => Sys2Proof.Machine.execConsoleCycleSet x0 x1 s
  | .consoleOutputSet x0 x1 => Sys2Proof.Machine.execConsoleOutputSet x0 x1 s
  | .consoleFanSet x0 x1 => Sys2Proof.Machine.execConsoleFanSet x0 x1 s
  | .consoleTripSet x0 x1 => Sys2Proof.Machine.execConsoleTripSet x0 x1 s
  | .consoleTripClear x0 x1 => Sys2Proof.Machine.execConsoleTripClear x0 x1 s
  | .consoleEnable x0 x1 => Sys2Proof.Machine.execConsoleEnable x0 x1 s
  | .consoleDisable x0 x1 => Sys2Proof.Machine.execConsoleDisable x0 x1 s
  | .consoleStatus x0 x1 => Sys2Proof.Machine.execConsoleStatus x0 x1 s
  | .pairConfig x0 x1 => Sys2Proof.Machine.execPairConfig x0 x1 s
  | .pairGroupSet x0 x1 => Sys2Proof.Machine.execPairGroupSet x0 x1 s
  | .pairRelease x0 x1 => Sys2Proof.Machine.execPairRelease x0 x1 s
  | .pairStatus x0 x1 => Sys2Proof.Machine.execPairStatus x0 x1 s
  | .powerDomainSet x0 x1 => Sys2Proof.Machine.execPowerDomainSet x0 x1 s
  | .powerWakeSet x0 x1 => Sys2Proof.Machine.execPowerWakeSet x0 x1 s
  | .powerStatus x0 x1 => Sys2Proof.Machine.execPowerStatus x0 x1 s
  | .tuneRun x0 x1 => Sys2Proof.Machine.execTuneRun x0 x1 s
  | .tuneCapoSet x0 x1 => Sys2Proof.Machine.execTuneCapoSet x0 x1 s
  | .tuneIntervalSet x0 x1 => Sys2Proof.Machine.execTuneIntervalSet x0 x1 s
  | .tuneStatus x0 x1 => Sys2Proof.Machine.execTuneStatus x0 x1 s
  | .tuneHistory x0 x1 => Sys2Proof.Machine.execTuneHistory x0 x1 s
  | .memRemapSet x0 x1 => Sys2Proof.Machine.execMemRemapSet x0 x1 s
  | .memScrubSet x0 x1 => Sys2Proof.Machine.execMemScrubSet x0 x1 s
  | .memFill x0 x1 => Sys2Proof.Machine.execMemFill x0 x1 s
  | .memStatus x0 x1 => Sys2Proof.Machine.execMemStatus x0 x1 s
  | .memLog x0 x1 => Sys2Proof.Machine.execMemLog x0 x1 s
  | .tallySelect x0 x1 => Sys2Proof.Machine.execTallySelect x0 x1 s
  | .tallySweepSet x0 x1 => Sys2Proof.Machine.execTallySweepSet x0 x1 s
  | .tallyUnprivSet x0 x1 => Sys2Proof.Machine.execTallyUnprivSet x0 x1 s
  | .tallyCaptureSet x0 x1 => Sys2Proof.Machine.execTallyCaptureSet x0 x1 s
  | .tallyStatus x0 x1 => Sys2Proof.Machine.execTallyStatus x0 x1 s
  | .diagLoopback x0 x1 => Sys2Proof.Machine.execDiagLoopback x0 x1 s
  | .diagPrbs x0 x1 => Sys2Proof.Machine.execDiagPrbs x0 x1 s
  | .diagPrbsGet x0 x1 => Sys2Proof.Machine.execDiagPrbsGet x0 x1 s
  | .diagEcho x0 x1 => Sys2Proof.Machine.execDiagEcho x0 x1 s
  | .commandComplete x0 => Sys2Proof.Machine.execCommandComplete x0 s
  | .mailboxDoorbell x0 x1 x2 => Sys2Proof.Machine.execMailboxDoorbell x0 x1 x2 s
  | .dsDoorbell x0 x1 => Sys2Proof.Machine.execDsDoorbell x0 x1 s
  | .usConsWrite x0 x1 => Sys2Proof.Machine.execUsConsWrite x0 x1 s
  | .arenaRelease x0 x1 => Sys2Proof.Machine.execArenaRelease x0 x1 s
  | .ringEnable x0 x1 => Sys2Proof.Machine.execRingEnable x0 x1 s
  | .ringDisable x0 x1 => Sys2Proof.Machine.execRingDisable x0 x1 s
  | .arenaEnable x0 => Sys2Proof.Machine.execArenaEnable x0 s
  | .arenaDisable x0 => Sys2Proof.Machine.execArenaDisable x0 s
  | .exportConsWrite x0 x1 => Sys2Proof.Machine.execExportConsWrite x0 x1 s
  | .timeNowRead x0 => Sys2Proof.Machine.execTimeNowRead x0 s
  | .tsqMetaRead x0 => Sys2Proof.Machine.execTsqMetaRead x0 s
  | .evMetaRead x0 => Sys2Proof.Machine.execEvMetaRead x0 s
  | .ppsInRead => Sys2Proof.Machine.execPpsInRead s
  | .counterLowRead x0 x1 => Sys2Proof.Machine.execCounterLowRead x0 x1 s
  | .incrCommit x0 => Sys2Proof.Machine.execIncrCommit x0 s
  | .stepArm x0 => Sys2Proof.Machine.execStepArm x0 s
  | .hwmClr x0 x1 => Sys2Proof.Machine.execHwmClr x0 x1 s
  | .peerRstReq x0 => Sys2Proof.Machine.execPeerRstReq x0 s
  | .peerWakeReq x0 => Sys2Proof.Machine.execPeerWakeReq x0 s
  | .padRelease x0 x1 => Sys2Proof.Machine.execPadRelease x0 x1 s
  | .blockResetHold x0 => Sys2Proof.Machine.execBlockResetHold x0 s
  | .blockResetRelease x0 => Sys2Proof.Machine.execBlockResetRelease x0 s
  | .registerWrite x0 x1 x2 x3 => Sys2Proof.Machine.execRegisterWrite x0 x1 x2 x3 s
  | .nop x0 => Sys2Proof.Machine.execNop x0 s
  | .add x0 x1 x2 x3 => Sys2Proof.Machine.execAdd x0 x1 x2 x3 s
  | .sub x0 x1 x2 x3 => Sys2Proof.Machine.execSub x0 x1 x2 x3 s
  | .andR x0 x1 x2 x3 => Sys2Proof.Machine.execAndR x0 x1 x2 x3 s
  | .orR x0 x1 x2 x3 => Sys2Proof.Machine.execOrR x0 x1 x2 x3 s
  | .xorR x0 x1 x2 x3 => Sys2Proof.Machine.execXorR x0 x1 x2 x3 s
  | .shl x0 x1 x2 x3 => Sys2Proof.Machine.execShl x0 x1 x2 x3 s
  | .shr x0 x1 x2 x3 => Sys2Proof.Machine.execShr x0 x1 x2 x3 s
  | .addi x0 x1 x2 x3 => Sys2Proof.Machine.execAddi x0 x1 x2 x3 s
  | .andi x0 x1 x2 x3 => Sys2Proof.Machine.execAndi x0 x1 x2 x3 s
  | .ori x0 x1 x2 x3 => Sys2Proof.Machine.execOri x0 x1 x2 x3 s
  | .xori x0 x1 x2 x3 => Sys2Proof.Machine.execXori x0 x1 x2 x3 s
  | .shli x0 x1 x2 x3 => Sys2Proof.Machine.execShli x0 x1 x2 x3 s
  | .shri x0 x1 x2 x3 => Sys2Proof.Machine.execShri x0 x1 x2 x3 s
  | .movi x0 x1 x2 => Sys2Proof.Machine.execMovi x0 x1 x2 s
  | .xtr x0 x1 x2 x3 x4 x5 x6 x7 => Sys2Proof.Machine.execXtr x0 x1 x2 x3 x4 x5 x6 x7 s
  | .dep x0 x1 x2 x3 x4 x5 x6 => Sys2Proof.Machine.execDep x0 x1 x2 x3 x4 x5 x6 s
  | .jmp x0 x1 => Sys2Proof.Machine.execJmp x0 x1 s
  | .beq x0 x1 x2 x3 x4 x5 => Sys2Proof.Machine.execBeq x0 x1 x2 x3 x4 x5 s
  | .bne x0 x1 x2 x3 x4 x5 => Sys2Proof.Machine.execBne x0 x1 x2 x3 x4 x5 s
  | .bltu x0 x1 x2 x3 x4 x5 => Sys2Proof.Machine.execBltu x0 x1 x2 x3 x4 x5 s
  | .bgeu x0 x1 x2 x3 x4 x5 => Sys2Proof.Machine.execBgeu x0 x1 x2 x3 x4 x5 s
  | .bbs x0 x1 x2 x3 => Sys2Proof.Machine.execBbs x0 x1 x2 x3 s
  | .bbc x0 x1 x2 x3 => Sys2Proof.Machine.execBbc x0 x1 x2 x3 s
  | .bmiss x0 x1 x2 => Sys2Proof.Machine.execBmiss x0 x1 x2 s
  | .lkp x0 x1 x2 x3 x4 x5 x6 => Sys2Proof.Machine.execLkp x0 x1 x2 x3 x4 x5 x6 s
  | .rng x0 x1 x2 => Sys2Proof.Machine.execRng x0 x1 x2 s
  | .rds x0 x1 x2 x3 => Sys2Proof.Machine.execRds x0 x1 x2 x3 s
  | .hsh x0 x1 x2 x3 => Sys2Proof.Machine.execHsh x0 x1 x2 x3 s
  | .emit x0 x1 x2 x3 x4 => Sys2Proof.Machine.execEmit x0 x1 x2 x3 x4 s
  | .done x0 => Sys2Proof.Machine.execDone x0 s
  | .drop x0 => Sys2Proof.Machine.execDrop x0 s
  | .trap x0 x1 => Sys2Proof.Machine.execTrap x0 x1 s
  | .lookupResult x0 x1 => Sys2Proof.Machine.execLookupResult x0 x1 s
  | .rangeResult x0 => Sys2Proof.Machine.execRangeResult x0 s
  | .frameStart x0 x1 x2 x3 => Sys2Proof.Machine.execFrameStart x0 x1 x2 x3 s
  | .preDecode x0 => Sys2Proof.Machine.execPreDecode x0 s
  | .runAheadResult x0 => Sys2Proof.Machine.execRunAheadResult x0 s
  | .expressDecision x0 => Sys2Proof.Machine.execExpressDecision x0 s
  | .cellAllocate x0 x1 => Sys2Proof.Machine.execCellAllocate x0 x1 s
  | .frameEnd x0 x1 => Sys2Proof.Machine.execFrameEnd x0 x1 s
  | .fragmentReceive x0 x1 => Sys2Proof.Machine.execFragmentReceive x0 x1 s
  | .harpDispatch x0 x1 x2 => Sys2Proof.Machine.execHarpDispatch x0 x1 x2 s
  | .harpSwap x0 => Sys2Proof.Machine.execHarpSwap x0 s
  | .classUpdateBoundary x0 => Sys2Proof.Machine.execClassUpdateBoundary x0 s
  | .engineFault x0 x1 => Sys2Proof.Machine.execEngineFault x0 x1 s
  | .engineCheckDone x0 x1 x2 => Sys2Proof.Machine.execEngineCheckDone x0 x1 x2 s
  | .classify x0 => Sys2Proof.Machine.execClassify x0 s
  | .police x0 => Sys2Proof.Machine.execPolice x0 s
  | .enqueueRequest x0 => Sys2Proof.Machine.execEnqueueRequest x0 s
  | .tellerEnqueue x0 => Sys2Proof.Machine.execTellerEnqueue x0 s
  | .trapAccept x0 => Sys2Proof.Machine.execTrapAccept x0 s
  | .tellerSelect x0 x1 x2 => Sys2Proof.Machine.execTellerSelect x0 x1 x2 s
  | .egressFcs x0 => Sys2Proof.Machine.execEgressFcs x0 s
  | .copyEnd x0 => Sys2Proof.Machine.execCopyEnd x0 s
  | .txUnderrun x0 => Sys2Proof.Machine.execTxUnderrun x0 s
  | .injectFrame x0 => Sys2Proof.Machine.execInjectFrame x0 s
  | .pauseReceive x0 => Sys2Proof.Machine.execPauseReceive x0 s
  | .pauseExpire x0 x1 => Sys2Proof.Machine.execPauseExpire x0 x1 s
  | .xoffRefresh x0 x1 => Sys2Proof.Machine.execXoffRefresh x0 x1 s
  | .pwdFire x0 x1 => Sys2Proof.Machine.execPwdFire x0 x1 s
  | .pwdRestore x0 x1 => Sys2Proof.Machine.execPwdRestore x0 x1 s
  | .verifyTimeout x0 => Sys2Proof.Machine.execVerifyTimeout x0 s
  | .verifyReceive x0 => Sys2Proof.Machine.execVerifyReceive x0 s
  | .respondReceive x0 => Sys2Proof.Machine.execRespondReceive x0 s
  | .dampCapabilitySend x0 => Sys2Proof.Machine.execDampCapabilitySend x0 s
  | .dampCapabilityReceive x0 x1 x2 => Sys2Proof.Machine.execDampCapabilityReceive x0 x1 x2 s
  | .dampWindowEnd x0 => Sys2Proof.Machine.execDampWindowEnd x0 s
  | .shedRequestReceive x0 x1 => Sys2Proof.Machine.execShedRequestReceive x0 x1 s
  | .shedGrantReceive x0 x1 => Sys2Proof.Machine.execShedGrantReceive x0 x1 s
  | .shedGrantTimeout x0 => Sys2Proof.Machine.execShedGrantTimeout x0 s
  | .switchMarkerReceive x0 x1 => Sys2Proof.Machine.execSwitchMarkerReceive x0 x1 s
  | .realignTimeout x0 => Sys2Proof.Machine.execRealignTimeout x0 s
  | .lockReportReceive x0 => Sys2Proof.Machine.execLockReportReceive x0 s
  | .lpiEntry x0 => Sys2Proof.Machine.execLpiEntry x0 s
  | .lpiWakeDone x0 => Sys2Proof.Machine.execLpiWakeDone x0 s
  | .linkUp x0 => Sys2Proof.Machine.execLinkUp x0 s
  | .linkDown x0 => Sys2Proof.Machine.execLinkDown x0 s
  | .prbsLock x0 x1 => Sys2Proof.Machine.execPrbsLock x0 x1 s
  | .prbsLockLoss x0 x1 => Sys2Proof.Machine.execPrbsLockLoss x0 x1 s
  | .gateCycleStart x0 => Sys2Proof.Machine.execGateCycleStart x0 s
  | .gateEntryEnd x0 => Sys2Proof.Machine.execGateEntryEnd x0 s
  | .telemetrySample x0 => Sys2Proof.Machine.execTelemetrySample x0 s
  | .treasurySweep => Sys2Proof.Machine.execTreasurySweep s
  | .meterRefresh x0 x1 => Sys2Proof.Machine.execMeterRefresh x0 x1 s
  | .learnFilterExpire x0 => Sys2Proof.Machine.execLearnFilterExpire x0 s
  | .walkTimeout x0 => Sys2Proof.Machine.execWalkTimeout x0 s
  | .tablePoisonRepair x0 => Sys2Proof.Machine.execTablePoisonRepair x0 s
  | .mintReclaimDone => Sys2Proof.Machine.execMintReclaimDone s
  | .ledgerEpochBoundary => Sys2Proof.Machine.execLedgerEpochBoundary s
  | .graceWindowEnd => Sys2Proof.Machine.execGraceWindowEnd s
  | .bankSeal => Sys2Proof.Machine.execBankSeal s
  | .drainStart => Sys2Proof.Machine.execDrainStart s
  | .drainResume => Sys2Proof.Machine.execDrainResume s
  | .drainDone => Sys2Proof.Machine.execDrainDone s
  | .tick => Sys2Proof.Machine.execTick s
  | .triggerFire x0 => Sys2Proof.Machine.execTriggerFire x0 s
  | .ppsWidthEnd => Sys2Proof.Machine.execPpsWidthEnd s
  | .ppsInEdge => Sys2Proof.Machine.execPpsInEdge s
  | .eventInputEdge x0 x1 => Sys2Proof.Machine.execEventInputEdge x0 x1 s
  | .pllLock => Sys2Proof.Machine.execPllLock s
  | .decimatorStart x0 => Sys2Proof.Machine.execDecimatorStart x0 s
  | .decimatorOutput x0 x1 => Sys2Proof.Machine.execDecimatorOutput x0 x1 s
  | .consoleFrameCheck => Sys2Proof.Machine.execConsoleFrameCheck s
  | .consoleCycleStart => Sys2Proof.Machine.execConsoleCycleStart s
  | .controlTaskCommit => Sys2Proof.Machine.execControlTaskCommit s
  | .inputFaultOnset x0 => Sys2Proof.Machine.execInputFaultOnset x0 s
  | .inputFaultEnd x0 => Sys2Proof.Machine.execInputFaultEnd x0 s
  | .tachEdge x0 => Sys2Proof.Machine.execTachEdge x0 s
  | .tachStall x0 => Sys2Proof.Machine.execTachStall x0 s
  | .tempoWindowEnd x0 x1 => Sys2Proof.Machine.execTempoWindowEnd x0 x1 s
  | .avsWrite x0 => Sys2Proof.Machine.execAvsWrite x0 s
  | .avsReadback x0 x1 x2 x3 => Sys2Proof.Machine.execAvsReadback x0 x1 x2 x3 s
  | .tuningPass => Sys2Proof.Machine.execTuningPass s
  | .stressUpdate => Sys2Proof.Machine.execStressUpdate s
  | .hostLinkReset => Sys2Proof.Machine.execHostLinkReset s
  | .f1Flr => Sys2Proof.Machine.execF1Flr s
  | .dsChainFetch => Sys2Proof.Machine.execDsChainFetch s
  | .fence => Sys2Proof.Machine.execFence s
  | .dmaError x0 => Sys2Proof.Machine.execDmaError x0 s
  | .upstreamPost => Sys2Proof.Machine.execUpstreamPost s
  | .usIrqTimer => Sys2Proof.Machine.execUsIrqTimer s
  | .clusterWatchdogExpire => Sys2Proof.Machine.execClusterWatchdogExpire s
  | .switchOver => Sys2Proof.Machine.execSwitchOver s
  | .switchOverDone => Sys2Proof.Machine.execSwitchOverDone s
  | .standbyReadySet => Sys2Proof.Machine.execStandbyReadySet s
  | .checkpoint => Sys2Proof.Machine.execCheckpoint s
  | .roleSwap => Sys2Proof.Machine.execRoleSwap s
  | .roleSwapDone => Sys2Proof.Machine.execRoleSwapDone s
  | .roleSwapFail => Sys2Proof.Machine.execRoleSwapFail s
  | .claimRequest => Sys2Proof.Machine.execClaimRequest s
  | .claimConfirm => Sys2Proof.Machine.execClaimConfirm s
  | .peerClaimEdge x0 => Sys2Proof.Machine.execPeerClaimEdge x0 s
  | .ownerWatchdogLapse => Sys2Proof.Machine.execOwnerWatchdogLapse s
  | .heartbeatSend => Sys2Proof.Machine.execHeartbeatSend s
  | .heartbeatReceive x0 => Sys2Proof.Machine.execHeartbeatReceive x0 s
  | .mirrorReceive x0 => Sys2Proof.Machine.execMirrorReceive x0 s
  | .heartbeatLoss => Sys2Proof.Machine.execHeartbeatLoss s
  | .holdoffExpire => Sys2Proof.Machine.execHoldoffExpire s
  | .peerResetRequest => Sys2Proof.Machine.execPeerResetRequest s
  | .groupMessage x0 => Sys2Proof.Machine.execGroupMessage x0 s
  | .leaseRenew x0 => Sys2Proof.Machine.execLeaseRenew x0 s
  | .leaseExpire x0 => Sys2Proof.Machine.execLeaseExpire x0 s
  | .powerOn => Sys2Proof.Machine.execPowerOn s
  | .rstColdN => Sys2Proof.Machine.execRstColdN s
  | .rstWarmN => Sys2Proof.Machine.execRstWarmN s
  | .resetReleaseStep => Sys2Proof.Machine.execResetReleaseStep s
  | .ddrTrainingDone x0 x1 => Sys2Proof.Machine.execDdrTrainingDone x0 x1 s
  | .fillDone => Sys2Proof.Machine.execFillDone s
  | .sliceTransition x0 => Sys2Proof.Machine.execSliceTransition x0 s
  | .sliceToPlain x0 => Sys2Proof.Machine.execSliceToPlain x0 s
  | .domainDrainDone x0 => Sys2Proof.Machine.execDomainDrainDone x0 s
  | .domainDrainTimeout x0 => Sys2Proof.Machine.execDomainDrainTimeout x0 s
  | .domainWakeDone x0 => Sys2Proof.Machine.execDomainWakeDone x0 s
  | .wake x0 => Sys2Proof.Machine.execWake x0 s
  | .dozeEntry => Sys2Proof.Machine.execDozeEntry s
  | .scrubRead x0 x1 x2 x3 => Sys2Proof.Machine.execScrubRead x0 x1 x2 x3 s
  | .voteRepair x0 => Sys2Proof.Machine.execVoteRepair x0 s
  | .remapInstall x0 x1 => Sys2Proof.Machine.execRemapInstall x0 x1 s
  | .tallySweep => Sys2Proof.Machine.execTallySweep s
  | .tallyExport x0 => Sys2Proof.Machine.execTallyExport x0 s
  | .f0FunctionLevelReset => Sys2Proof.Machine.execF0FunctionLevelReset s
  | .pcieTunnelEstablished x0 => Sys2Proof.Machine.execPcieTunnelEstablished x0 s
  | .resetSourceRelease x0 => Sys2Proof.Machine.execResetSourceRelease x0 s
  | .sysResetAssert => Sys2Proof.Machine.execSysResetAssert s
  | .titimusBootComplete => Sys2Proof.Machine.execTitimusBootComplete s
  | .clusterWatchdogFeed => Sys2Proof.Machine.execClusterWatchdogFeed s
  | .ownerWatchdogFeed => Sys2Proof.Machine.execOwnerWatchdogFeed s
  | .shaperRefill x0 x1 => Sys2Proof.Machine.execShaperRefill x0 x1 s
  | .mirroredSetStale => Sys2Proof.Machine.execMirroredSetStale s

end Sys2Proof.Machine
end

