-- ==== Sys2Proof/Machine/Step.lean ====
section
/-! DEFINITION. One step of the block: the command at the front of the queue takes effect; on an empty queue the timing clock runs one
cycle. -/
namespace Sys2Proof.Machine

/-- The command at the front of the queue runs with the rest of the queue. With none waiting, the block idles for one cycle of its timing
clock (device time goes on, and with it ticks and triggers). Commands take effect in the queue's order and bring no latency with them.
DESIGN CHOICE, log 1, 5 and 54. -/
def step (s : State) : Out :=
  match s.pending with
  | [] => .next (idle s)
  | c :: rest => exec c { s with pending := rest }

/-- The command that a word spells put at the front of the queue; no word spells one.
DESIGN CHOICE, log 24. -/
def State.withFetchWord (s : State) (nbits w : Nat) : State :=
  match decodeTableWord nbits w with
  | some c => { s with pending := c :: s.pending }
  | none => s

end Sys2Proof.Machine
end

