-- ==== Sys2Proof/Safety.lean ====
section
/-! DEFINITION. What a safe step is: the command's unit is there, so that the command has its effect. -/
namespace Sys2Proof.Machine

/-- The unit that a command names is there: the command is well-formed, no fuse disables the slice of the unit (R2, R3), and a memory word
lies in its memory as the split and the fitted devices size it. DESIGN CHOICE, log 7. -/
def unitThere (s : State) (i : Instr) : Bool :=
  i.wf && match i with
  | .frameStart p _ _ _ | .frameEnd ⟨p, _⟩ _ => sliceEnabled s (portSlice p)
  | .fragmentReceive p _ | .txUnderrun p | .verifyTimeout p | .verifyReceive p | .respondReceive p | .dampCapabilitySend p
  | .dampCapabilityReceive p _ _ | .dampWindowEnd p | .shedRequestReceive p _ | .shedGrantReceive p _ | .shedGrantTimeout p
  | .switchMarkerReceive p _ | .pauseReceive p | .realignTimeout p | .lockReportReceive p | .lpiEntry ⟨p, _⟩ | .lpiWakeDone ⟨p, _⟩ | .linkUp p | .linkDown p
  | .gateCycleStart p | .gateEntryEnd p | .pauseExpire p _ | .xoffRefresh p _ | .pwdFire p _ | .pwdRestore p _ | .shaperRefill p _
  | .prbsLock p _ | .prbsLockLoss p _ | .tellerSelect p _ _ | .egressFcs p | .copyEnd p => portEnabledByFuse s p
  | .harpSwap k | .classUpdateBoundary k | .telemetrySample k | .learnFilterExpire k | .sliceTransition k | .sliceToPlain k
  | .engineFault k _ | .engineCheckDone k _ _ | .meterRefresh k _ => sliceEnabled s k
  | .scrubRead c a _ _ | .remapInstall c a => classAddr s c a
  | .tablePoisonRepair loc => spaceLoc s loc
  | _ => true

/-- A step is safe when it answers a next state. -/
def safeStep (s : State) : Prop := ∃ t, step s = .next t

/-- Titimus runs and may now take the request in channel `v`, for the command with this code and these argument words (R366, R369, R380). -/
abbrev Handed (s : State) (v : Via) (code : Nat) (args : List W32) (r : Request) : Prop :=
  viaOk v = true ∧ mayTake s v = true ∧ channelAt s v = .handed r ∧ cmdCode r.cmd = code ∧ argWords r = args

/-- Host memory, the counters and the counter latches are tables in canonical form. -/
abbrev canonical (s : State) : Prop :=
  tabWf 0#8 s.hostMem = true ∧ tabWf 0#64 s.ctr = true ∧ tabWf 0#32 s.latch = true

/-- The thread that a Harp instruction names; none for every other command. -/
def harpThr : Instr → Option Thr
  | .nop h | .add h _ _ _ | .sub h _ _ _ | .andR h _ _ _ | .orR h _ _ _ | .xorR h _ _ _ | .shl h _ _ _ | .shr h _ _ _ | .addi h _ _ _
  | .andi h _ _ _ | .ori h _ _ _ | .xori h _ _ _ | .shli h _ _ _ | .shri h _ _ _ | .movi h _ _ | .xtr h _ _ _ _ _ _ _
  | .dep h _ _ _ _ _ _ | .jmp h _ | .beq h _ _ _ _ _ | .bne h _ _ _ _ _ | .bltu h _ _ _ _ _ | .bgeu h _ _ _ _ _ | .bbs h _ _ _
  | .bbc h _ _ _ | .bmiss h _ _ | .lkp h _ _ _ _ _ _ | .rng h _ _ | .rds h _ _ _ | .hsh h _ _ _ | .emit h _ _ _ _ | .done h | .drop h
  | .trap h _ => some h
  | _ => none

/-- A thread of chit `n` is about to issue instruction `i`: the next issue slot is the thread's, its word is not poisoned and spells it, the frame has had fewer than 256 issues, no
third lookup and no second range request (R95, R96, R110). -/
abbrev Fetches (s : State) (th : Thr) (n : Nat) (c : Chit) (t : Thread) (i : Instr) : Prop :=
  thrOk th = true ∧ threadOf s th = some (n, c, t) ∧ hasTurn s th = true ∧ poisoned s (.harpWord th.slice t.bank t.pc) = false
    ∧ harpDecode th (fetchWord s th.slice t) = some i ∧ overrun i t = false

/-- The parse after an issue: one issue more, at the next instruction word. -/
def issued (t : Thread) : Thread := { t with issues := t.issues + 1, pc := (t.pc + 1) % 8192 }

/-- The state once the thread of chit `n` has issued and its parse has become `t`. -/
def afterIssue (th : Thr) (n : Nat) (t : Thread) (s : State) : State := setThread n t (noteIssue th s)

/-- The state with a port's run-ahead settings replaced. -/
def setRa (p : Nat) (v : RaCfg) (s : State) : State := { s with ras := tabSet {} s.ras p v }

end Sys2Proof.Machine
end

