-- ==== Sys2Proof/Certificates/Slice0/Obligations.lean ====
section
/-! DEFINITION. The statements for the provers. -/
open Sys2Proof Sys2Proof.Machine

/-- For every command and state, a step with the command at the front of the queue is exec of the command on the state with the queue's rest. On an empty queue a step answers a next state; while device time does not run yet (before step 2 of the release sequence) and neither a group nor the table engine has a write to make, only one clock cycle passes: that the idle block runs a clock cycle is the model's choice (log entry 5). (21_registers.md R470, 12_time.md R278, 12_time.md R279) -/
def Obligations.StepRunsFrontCommand : Prop :=
  (∀ (c : Instr) (rest : List Instr) (s : State), step { s with pending := c :: rest } = exec c { s with pending := rest })
  ∧ ∀ s : State, s.pending = [] →
    (∃ t, step s = .next t) ∧ (s.dev.step < 2 → (∀ e ∈ s.groups, e.2.moves = [] ∧ e.2.leaving = none) → s.tbl.fixup = [] → s.tbl.work = none →
      step s = .next { s with cycles := s.cycles + 1 })

/-- For every command and state: exec answers a next state exactly when the unit that the operands name is there (well-formed operands, a slice no fuse disables, a word inside its memory); otherwise it stops with the fault noSuchUnit. No command is ever refused. (00_scope.md R1, 00_scope.md R2, 00_scope.md R3) -/
def Obligations.EveryCommandCompletesWhereItsUnitIs : Prop :=
  ∀ (i : Instr) (s : State),
    ((∃ t, exec i s = .next t) ↔ unitThere s i = true)
    ∧ (unitThere s i = false → exec i s = .fault .noSuchUnit)
    ∧ ∀ r : Refusal, exec i s ≠ .refused r

/-- At reset no command waits, Titimus does not run, every slice is in Plain service, device time is 0 with INCR 1 ns, every trigger is disabled, US_IRQ_COUNT is 1, the rings are disabled, CAPO and REQ_CAPO are Hush, ALERT_N is not asserted with its mask and the scratch register 0, every scrubber is enabled, and counters, chits, queues and tables are empty. (17_redundancy.md R415, 17_redundancy.md R416, 12_time.md R278, 15_host.md R347, 15_host.md R351, 14_tempo.md TMP_CAPO, 20_integrity.md R456, 21_registers.md R479) -/
def Obligations.ResetHoldsTheSpecifiedValues : Prop :=
  State.reset.pending = [] ∧ State.reset.tcs.running = false ∧ State.reset.dev.cause = 1 ∧ State.reset.dev.blockRst = 0#32
    ∧ State.reset.dev.plain = 0xFFFF ∧ timeTotal State.reset = 0 ∧ State.reset.time.frac = 0 ∧ State.reset.time.incr = 2 ^ 32
    ∧ (∀ t, (trigAt State.reset t).act.en = false) ∧ State.reset.hif.irqCount = 1 ∧ State.reset.hif.dsEn = false
    ∧ State.reset.hif.usEn = false ∧ State.reset.up.rxaEn = false ∧ State.reset.up.accErr = 0#32 ∧ State.reset.tmp.capo = 3
    ∧ State.reset.tmp.reqCapo = 3 ∧ State.reset.dev.alertN = false ∧ State.reset.dev.alertMask = 0#32 ∧ State.reset.dev.scratch = 0#32
    ∧ (∀ c, (scrubAt State.reset c).en = true) ∧ (∀ a, ctrAt State.reset a = 0#64) ∧ (∀ n, chitAt State.reset n = none)
    ∧ (∀ p, (portAt State.reset p).linkUp = false) ∧ (∀ t, tabCfgAt State.reset t = none)

/-- At reset host memory, the counters and the counter latches are tables in canonical form: keys strictly rising and no entry equal to what an unlisted key holds. (21_registers.md R469, 15_host.md R346) -/
def Obligations.CanonicalAtReset : Prop :=
  canonical State.reset

/-- For every state whose host memory, counters and counter latches are in canonical form, whatever command stands at the front of the queue: if a step answers a next state, its host memory, counters and latches are in canonical form, so that equal memories stay equal data. (21_registers.md R469, 15_host.md R346) -/
def Obligations.EveryStepKeepsCanonicalForm : Prop :=
  ∀ s t : State, canonical s → step s = .next t → canonical t

/-- For every thread and every legal Harp instruction of that thread, with every operand at every value its field admits, the encoder gives a word that fits 64 bits and the decoder gives the same instruction back from it. (04_harp_instructions.md R109, 04_harp_instructions.md R110) -/
def Obligations.HarpDecodeOfEncode : Prop :=
  ∀ (th : Thr) (i : Instr), harpLegal i = true → (∀ h, harpThr i = some h → h = th) →
    ∃ w, harpEncode i = some w ∧ w < 2 ^ 64 ∧ harpDecode th (BitVec.ofNat 64 w) = some i

/-- For every thread and every 64-bit word: when the word decodes to an instruction, that instruction is legal, belongs to that thread, and its encoding is the word, so that no two words spell one instruction and no bit of a word is ignored. (04_harp_instructions.md R109, 04_harp_instructions.md R110) -/
def Obligations.HarpEncodeOfDecode : Prop :=
  ∀ (th : Thr) (w : W64) (i : Instr), harpDecode th w = some i →
    harpLegal i = true ∧ harpEncode i = some w.toNat ∧ harpThr i = some th

/-- Words written out field by field from Tables 04-1 to 04-3, one of each format (the XTR word is the manual's own worked encoding), decode to the instruction they stand for; the all-zero word, a word with an unused bit set, and an opcode the table does not list are illegal. (04_harp_instructions.md R109, 04_harp_instructions.md R110) -/
def Obligations.HarpWordsDecodeAsTheTablesSay : Prop :=
  ∀ th : Thr,
    harpDecode th 0x10C4800000000000#64 = some (.add th 3#4 1#4 2#4)
    ∧ harpDecode th 0x4880000000001234#64 = some (.movi th 2#4 0x1234#32)
    ∧ harpDecode th 0x618003A2E0000000#64 = some (.xtr th 6#4 0#4 116#11 11#5 16#5 0#1 0#1)
    ∧ harpDecode th 0x64480041E1000000#64 = some (.dep th 1#4 2#4 8#5 7#5 16#5 1#1)
    ∧ harpDecode th 0x8000000A00000000#64 = some (.jmp th 5#13)
    ∧ harpDecode th 0x840400070008DD00#64 = some (.beq th 1#4 0#4 3#13 1#1 0x08DD#24)
    ∧ harpDecode th 0xA0080A8000000000#64 = some (.lkp th 2#4 0#4 1#3 2#3 1#1 0#1)
    ∧ harpDecode th 0xA900000000000001#64 = some (.rds th 4#4 0#4 1#3)
    ∧ harpDecode th 0xB148000000000004#64 = some (.hsh th 5#4 2#4 4#3)
    ∧ harpDecode th 0xC0203F4000000100#64 = some (.emit th 8#4 0x3F#6 1#2 0x0100#16)
    ∧ harpDecode th 0xCC00000000000040#64 = some (.trap th 0x40#8)
    ∧ harpDecode th 0#64 = none ∧ harpDecode th 0x0400000000000001#64 = none ∧ harpDecode th 0xFC00000000000000#64 = none

/-- NOP, ADD, SUB, AND, OR, XOR, SHL, SHR, ADDI, ANDI, ORI, XORI, SHLI, SHRI and MOVI complete whenever their thread fetches them: the issue is counted, the next word is next, and RD takes the result of Table 04-3 modulo 2^32 from the registers before the issue (shift counts are bits [4:0]); NOP writes no register. Exec answers a next state, the own effect, under conditions on state and operands alone, for: nop, add, sub, andR, orR, xorR, shl, shr, addi, andi, ori, xori, shli, shri, movi. (04_harp_instructions.md R109, 04_harp_instructions.md R111, 03_harp_engines.md R95) -/
def Obligations.HarpArithmeticWritesItsRegister : Prop :=
  ∀ (s : State) (th : Thr) (n : Nat) (c : Chit) (t : Thread) (d a b : BitVec 4) (i : W32),
    let writes (op : Instr) (v : W32) : Prop :=
      Fetches s th n c t op → exec op s = .next (afterIssue th n (setReg (issued t) d v) s)
    (Fetches s th n c t (.nop th) → exec (.nop th) s = .next (afterIssue th n (issued t) s))
    ∧ writes (.add th d a b) (reg t a + reg t b) ∧ writes (.sub th d a b) (reg t a - reg t b)
    ∧ writes (.andR th d a b) (reg t a &&& reg t b) ∧ writes (.orR th d a b) (reg t a ||| reg t b)
    ∧ writes (.xorR th d a b) (reg t a ^^^ reg t b)
    ∧ writes (.shl th d a b) (reg t a <<< (fld (reg t b) 4 0)) ∧ writes (.shr th d a b) (reg t a >>> (fld (reg t b) 4 0))
    ∧ writes (.addi th d a i) (reg t a + i) ∧ writes (.andi th d a i) (reg t a &&& i) ∧ writes (.ori th d a i) (reg t a ||| i)
    ∧ writes (.xori th d a i) (reg t a ^^^ i) ∧ writes (.shli th d a i) (reg t a <<< (fld i 4 0))
    ∧ writes (.shri th d a i) (reg t a >>> (fld i 4 0)) ∧ writes (.movi th d i) i

/-- XTR completes whenever its thread fetches it and no poisoned word lies under the window bits it reads: RD takes the window field of LENM1 + 1 bits at BITOFF, plus 8 times g[RA][8:0] with IDX, at bits [DPOS + LENM1 : DPOS], the other bits kept with MERGE 1 and 0 otherwise. DEP does the same with bits [SPOS + LENM1 : SPOS] of g[RA]. Exec answers a next state, the own effect, under conditions on state and operands alone, for: xtr, dep. (04_harp_instructions.md R114) -/
def Obligations.HarpFieldInstructionsDepositTheField : Prop :=
  ∀ (s : State) (th : Thr) (n : Nat) (c : Chit) (t : Thread) (d a : BitVec 4) (o : BitVec 11) (q l p : BitVec 5) (m x : BitVec 1),
    let e := o.toNat + (if x = 1#1 then 8 * fld (reg t a) 8 0 else 0)
    let place (v : Nat) : W32 := setFld (if m = 1#1 then reg t d else 0#32) (p.toNat + l.toNat) p.toNat v
    (Fetches s th n c t (.xtr th d a o l p m x) → windowPoison s c e (l.toNat + 1) = false →
      exec (.xtr th d a o l p m x) s =
        .next (afterIssue th n (setReg (issued t) d (place (windowField c e (l.toNat + 1)))) s))
    ∧ (Fetches s th n c t (.dep th d a q l p m) →
      exec (.dep th d a q l p m) s =
        .next (afterIssue th n (setReg (issued t) d (place (fld (reg t a) (q.toNat + l.toNat) q.toNat))) s))

/-- JMP, BEQ, BNE, BLTU, BGEU, BBS and BBC complete whenever their thread fetches them, BMISS once the slot it names holds a result or was never asked for: the issue is counted and the next word is at TARGET when the condition holds (always; g[RA] equal, not equal, unsigned below, not below the immediate with IMMF 1 or g[RB] with IMMF 0; bit BIT of g[RA] 1 or 0; no hit in the slot, poisoned or not, and at once when the slot was never asked for), otherwise the word after the branch. BMISS waits, with nothing changed, while its slot has no result yet. No register changes. Exec answers a next state, the own effect, under conditions on state and operands alone, for: jmp, beq, bne, bltu, bgeu, bbs, bbc, bmiss. (04_harp_instructions.md R121) -/
def Obligations.HarpBranchesSetTheNextWord : Prop :=
  ∀ (s : State) (th : Thr) (n : Nat) (c : Chit) (t : Thread) (a b : BitVec 4) (g : BitVec 13) (f : BitVec 1) (i : BitVec 24)
    (k : BitVec 5) (e : BitVec 3),
    let branches (op : Instr) (cond : Prop) : Prop :=
      (cond → exec op s = .next (afterIssue th n { issued t with pc := g.toNat } s))
      ∧ (¬ cond → exec op s = .next (afterIssue th n (issued t) s))
    let rhs := if f = 1#1 then i.toNat else (reg t b).toNat
    (Fetches s th n c t (.jmp th g) → branches (.jmp th g) True)
    ∧ (Fetches s th n c t (.beq th a b g f i) → branches (.beq th a b g f i) ((reg t a).toNat = rhs))
    ∧ (Fetches s th n c t (.bne th a b g f i) → branches (.bne th a b g f i) ((reg t a).toNat ≠ rhs))
    ∧ (Fetches s th n c t (.bltu th a b g f i) → branches (.bltu th a b g f i) ((reg t a).toNat < rhs))
    ∧ (Fetches s th n c t (.bgeu th a b g f i) → branches (.bgeu th a b g f i) ((reg t a).toNat ≥ rhs))
    ∧ (Fetches s th n c t (.bbs th a g k) → branches (.bbs th a g k) ((reg t a).getLsbD k.toNat = true))
    ∧ (Fetches s th n c t (.bbc th a g k) → branches (.bbc th a g k) ((reg t a).getLsbD k.toNat = false))
    ∧ (Fetches s th n c t (.bmiss th g e) → landed (slotOf t e.toNat) = true →
        branches (.bmiss th g e) (slotHit (slotOf t e.toNat) = false))
    ∧ (Fetches s th n c t (.bmiss th g e) → landed (slotOf t e.toNat) = false → exec (.bmiss th g e) s = .next s)
    ∧ (slotOf t e.toNat = .empty → landed (slotOf t e.toNat) = true ∧ slotHit (slotOf t e.toNat) = false)
    ∧ (∀ table key src r, slotOf t e.toNat = .got table key src r →
        landed (slotOf t e.toNat) = true ∧ slotHit (slotOf t e.toNat) = r.hit)

/-- LKP completes whenever its thread fetches it: the request, with the key of R117 and the source flag, enters slot L0 when it is the frame's first lookup and slot L1 when it is the second. RNG enters its eight fields and the inverted absent mask in the range slot. RANGE_RESULT then puts what every comparator of the frame's set reports for the vector in the range slot, and LOOKUP_RESULT a result with the key cut to the table's width in the lookup slot. Exec answers a next state, the own effect, under conditions on state and operands alone, for: lkp, rng, lookupResult, rangeResult. (04_harp_instructions.md R117, 04_harp_instructions.md R118, 04_harp_instructions.md R119, 03_harp_engines.md R89) -/
def Obligations.HarpRequestsEnterTheirSlots : Prop :=
  ∀ (s : State) (th : Thr) (n : Nat) (c : Chit) (t : Thread) (a b : BitVec 4) (tb nm : BitVec 3) (sr tw : BitVec 1),
    let q : Slot := .asked tb.toNat (lkpKey t a b nm.toNat tw) (sr == 1#1)
    (Fetches s th n c t (.lkp th a b tb nm sr tw) →
      exec (.lkp th a b tb nm sr tw) s = .next (afterIssue th n
        (if t.lkps = 0 then { issued t with slot0 := q, lkps := 1 } else { issued t with slot1 := q, lkps := t.lkps + 1 }) s))
    ∧ (Fetches s th n c t (.rng th a b) →
      exec (.rng th a b) s = .next (afterIssue th n
        { issued t with
          range := .asked (((List.range 4).map fun j =>
            [fld (t.regs.getD (a.toNat + j) 0#32) 15 0, fld (t.regs.getD (a.toNat + j) 0#32) 31 16]).flatten) (255 - fld (reg t b) 7 0)
          rngs := t.rngs + 1 } s))
    ∧ (∀ fs pr, n < 262144 → coreRuns s (chitSlice n) = true → chitAt s n = some c → c.parse = some t → t.range = .asked fs pr →
        s.mem.poison = [] →
        exec (.rangeResult n) s = .next (setThread n { t with range := .got (reports s (chitSlice n) c.setVer fs pr) } (bumpBy (Ctr.memPoisonRead 4) 0 s)))
    ∧ (∀ k ver fs pr i, s.mem.poison = [] → i < 512 →
        (reports s k ver fs pr).getD i none = comparator (tabGet (0#32, 0#32) (setFor s k ver).ranges i) fs pr)
    ∧ (∀ table key src, n < 262144 → chitAt s n = some c → c.parse = some t → t.slot0 = .asked table key src →
        ∃ u c' t' r, exec (.lookupResult n 0) s = .next u ∧ chitAt u n = some c' ∧ c'.parse = some t'
          ∧ t'.slot0 = .got table (key % 2 ^ (((tabCfgAt s table).map TabCfg.width).getD 0)) src r ∧ t'.regs = t.regs ∧ t'.slot1 = t.slot1)

/-- RDS completes once the value it selects has arrived and writes the value of Table 04-5: the status word (HIT, POISON, WIDE) or the data word (0 without a hit) of lookup slot 0 or 1, 32 comparator reports from 32 times g[RA][3:0] (true 1, false and field absent 0), or the frame's length in bytes, which arrives with the frame's last byte. A slot never asked for reads 0 at once. Before its value has arrived RDS does not issue and the state does not change. HSH writes the CRC-32C of its NM1 + 1 fields from the seed of the frame's dispatch. Exec answers a next state, the own effect, under conditions on state and operands alone, for: rds, hsh. (04_harp_instructions.md R120) -/
def Obligations.HarpReadsAndHashesWriteTheirRegister : Prop :=
  ∀ (s : State) (th : Thr) (n : Nat) (c : Chit) (t : Thread) (d a : BitVec 4) (e m : BitVec 3),
    (Fetches s th n c t (.rds th d a e) → rdsReady e.toNat c t = true →
      exec (.rds th d a e) s = .next (afterIssue th n (setReg (issued t) d (rdsValue e.toNat c t a)) s))
    ∧ (Fetches s th n c t (.rds th d a e) → rdsReady e.toNat c t = false → exec (.rds th d a e) s = .next s)
    ∧ (e.toNat ≤ 5 → (rdsReady e.toNat c t = true ↔
        (e.toNat = 0 ∨ e.toNat = 1 → landed t.slot0 = true) ∧ (e.toNat = 2 ∨ e.toNat = 3 → landed t.slot1 = true)
        ∧ (e.toNat = 4 → ∀ fs p, t.range ≠ .asked fs p) ∧ (e.toNat = 5 → c.ended = true)))
    ∧ (∀ i table key src r, i < 2 → slotOf t i = .got table key src r →
        let w := rdsValue (2 * i) c t a
        rdsValue (2 * i + 1) c t a = (if r.hit then w32 r.data else 0#32)
        ∧ fld w 0 0 = b2n r.hit ∧ fld w 1 1 = b2n r.poison ∧ fld w 31 3 = 0
        ∧ fld w 2 2 = b2n r.wide)
    ∧ (∀ i, i < 2 → slotOf t i = .empty → rdsValue (2 * i) c t a = 0#32 ∧ rdsValue (2 * i + 1) c t a = 0#32)
    ∧ (t.range = .empty → rdsValue 4 c t a = 0#32)
    ∧ (∀ i, i < 32 → (rdsValue 4 c t a).getLsbD i =
        (report t.range (32 * fld (reg t a) 3 0 + i) == some true))
    ∧ rdsValue 5 c t a = w32 c.bytes.length
    ∧ (Fetches s th n c t (.hsh th d a m) →
      exec (.hsh th d a m) s = .next (afterIssue th n (setReg (issued t) d (w32 (crc32c c.seed.toNat
        (((List.range (m.toNat + 1)).map fun i => beBytes 4 (t.regs.getD (a.toNat + i) 0#32).toNat).flatten)))) s))

/-- EMIT completes once the slot that DSRC names has landed and stores the record of R123 in the thread. DONE with a record ends the thread with that record. TRAP ends it with the record it has, or eight zero words, with ACTION 2 and the trap reason set. DROP voids the frame with cause 6, and so does DONE without a record, which also counts in HRP_NO_EMIT. Exec answers a next state, the own effect, under conditions on state and operands alone, for: emit, done, drop, trap. (04_harp_instructions.md R123, 04_harp_instructions.md R124, 03_harp_engines.md R94) -/
def Obligations.HarpEndsHandTheRecordOn : Prop :=
  ∀ (s : State) (th : Thr) (n : Nat) (c : Chit) (t : Thread) (a : BitVec 4) (wm : BitVec 6) (ds : BitVec 2) (w0 : BitVec 16) (rs : BitVec 8),
    (Fetches s th n c t (.emit th a wm ds w0) → (ds = 1#2 → landed t.slot0 = true) → (ds = 2#2 → landed t.slot1 = true) →
      exec (.emit th a wm ds w0) s = .next (afterIssue th n { issued t with record := some (emitRecord t a wm ds w0) } s))
    ∧ (∀ r, Fetches s th n c t (.done th) → t.record = some r →
        exec (.done th) s = .next (endThread th.slice n r (issued t) (afterIssue th n (issued t) s)))
    ∧ (Fetches s th n c t (.done th) → t.record = none →
        exec (.done th) s = .next (voidChit n 6 (bump (Ctr.hrpNoEmit th.slice) (afterIssue th n (issued t) s))))
    ∧ (Fetches s th n c t (.drop th) → exec (.drop th) s = .next (voidChit n 6 (afterIssue th n (issued t) s)))
    ∧ (Fetches s th n c t (.trap th rs) →
        exec (.trap th rs) s = .next (endThread th.slice n (trapRecord (t.record.getD (List.replicate 8 0#32)) rs.toNat) (issued t)
          (afterIssue th n (issued t) s)))
    ∧ (∀ r : List W32, r.length = 8 → fld ((trapRecord r rs.toNat).getD 0 0#32) 9 8 = 2 ∧ fld ((trapRecord r rs.toNat).getD 1 0#32) 31 24 = rs.toNat)

/-- Whatever Harp instruction a thread whose turn it is would issue: when its word carries poison the frame voids with cause 8, the alarm of its bank sets and the abort is counted; otherwise, when the word is illegal, it voids with cause 9 and counts in HRP_ILLEGAL; otherwise, when the instruction would be the 257th issue, a third lookup or a second range request, it voids with cause 7 and counts in HRP_OVERRUN without executing, and the thread is free. Up to 256 issues are allowed. (03_harp_engines.md R95) -/
def Obligations.HarpStopsVoidTheFrame : Prop :=
  ∀ (s : State) (th : Thr) (n : Nat) (c : Chit) (t : Thread) (op : Instr),
    let third := (∃ a b tb nm sr tw, op = .lkp th a b tb nm sr tw) ∧ 2 ≤ t.lkps
    let second := (∃ a b, op = .rng th a b) ∧ 1 ≤ t.rngs
    harpThr op = some th → thrOk th = true → threadOf s th = some (n, c, t) → hasTurn s th = true →
    (poisoned s (.harpWord th.slice t.bank t.pc) = true →
      exec op s = .next (voidChit n 8 (modHarp th.slice (fun h => setBankOf t.bank { bankOf h t.bank with alarm := true } h)
        (bump (Ctr.memPoisonRead 5) (bump (Ctr.hrpPoisonAbort th.slice) s)))))
    ∧ (poisoned s (.harpWord th.slice t.bank t.pc) = false → harpDecode th (fetchWord s th.slice t) = none →
      exec op s = .next (voidChit n 9 (bump (Region.slice th.slice + 0x1160) s)))
    ∧ (poisoned s (.harpWord th.slice t.bank t.pc) = false → harpDecode th (fetchWord s th.slice t) = some op →
      256 ≤ t.issues ∨ third ∨ second → exec op s = .next (voidChit n 7 (bump (Ctr.hrpOverrun th.slice) s)))
    ∧ (t.issues < 256 → ¬ third → ¬ second → overrun op t = false)
    ∧ (c.status = .provisional → tabWf none s.chits = true → tabWf none (harpAt s th.slice).threads = true →
      threadOf (voidChit n 7 (bump (Ctr.hrpOverrun th.slice) s)) th = none)

/-- For every Harp instruction other than DONE, DROP and TRAP, issued with no poisoned word in any memory: every other chit, every counter but HRP_ISSUES of the slice, every other slice's Harp, and every other piece of state keeps its value; of the chit only the parse changes, and of the slice's Harp only which thread of the engine issued last. (04_harp_instructions.md R111, 03_harp_engines.md R86) -/
def Obligations.HarpIssueFrame : Prop :=
  ∀ (s u : State) (th : Thr) (n : Nat) (c : Chit) (t : Thread) (i : Instr),
    Fetches s th n c t i → s.mem.poison = [] → (∀ h, i ≠ .done h) → (∀ h, i ≠ .drop h) → (∀ h r, i ≠ .trap h r) →
    exec i s = .next u →
    u = { s with chits := u.chits, ctr := u.ctr, harps := u.harps } ∧ (∀ m, m ≠ n → chitAt u m = chitAt s m)
    ∧ (∀ k, k ≠ th.slice → harpAt u k = harpAt s k)
    ∧ (tabWf {} s.harps = true → harpAt u th.slice = { harpAt s th.slice with issued := tabSet 0 (harpAt s th.slice).issued th.engine (th.thread + 1) })
    ∧ (∀ x, x ≠ Ctr.hrpIssues th.slice → ctrAt u x = ctrAt s x)
    ∧ ∃ t', chitAt u n = some { c with parse := some t' }

/-- Handed to a running Titimus, SYS.RESET with MODE 1 arms the warm reset 1 ms after the first acknowledge; SYS.CONFIG_STORE with a mask of at most 7, no firmware write in progress, stores exactly the named items; SYS.SVN_LOCK outside a trial, with a standby not behind and an SVN of at most 64, raises MIN_SVN to the owner image's SVN and never lowers it; SYS.INFO and SYS.FW_STATUS return their words and change nothing; DIAG.ECHO returns its bytes. Exec answers a next state, the own effect, under conditions on state and operands alone, for: sysReset, sysConfigStore, sysSvnLock, sysInfo, sysFwStatus, diagEcho. (16_titimus.md R382, 16_titimus.md R390, 16_titimus.md R391, 16_titimus.md R393, 16_titimus.md R395) -/
def Obligations.SysCommandsTakeEffect : Prop :=
  ∀ (v : Via) (r : Request) (s : State) (m : W32) (bs : List Byte),
    (Handed s v 0x0101 [1#32] r →
      exec (.sysReset v [1#32]) s =
        .next (answer v r Code.done [] { s with tcs := { s.tcs with resetAt := some (s.tcs.resetAt.getD (s.cycles + 1000000)) } }))
    ∧ (Handed s v 0x0103 [m] r → m.toNat ≤ 7 → s.tcs.fwBusy = false →
      exec (.sysConfigStore v [m]) s =
        .next (answer v r Code.done [] { s with flash := { s.flash with
          reqCapo := if bit m.toNat 0 then some s.tmp.reqCapo else s.flash.reqCapo
          split := if bit m.toNat 1 then some s.mint.split else s.flash.split
          tune := if bit m.toNat 2 then some (s.tmp.interval, s.tmp.alertEn) else s.flash.tune } }))
    ∧ (Handed s v 0x0108 [] r → s.tcs.trial = false → (∀ i, s.tcs.standby = some i → s.tcs.image.svn ≤ i.svn) → s.tcs.image.svn ≤ 64 →
      ∃ t, exec (.sysSvnLock v []) s =
          .next (answer v r Code.done (leBytes 4 (max s.dev.fuses.minSvn s.tcs.image.svn % 2 ^ 32)) t)
        ∧ t = { s with dev := { s.dev with fuses := { s.dev.fuses with minSvn := max s.dev.fuses.minSvn s.tcs.image.svn } } })
    ∧ (Handed s v 0x0181 [] r → ∃ ws : List W32, ws.length = 7 ∧ exec (.sysInfo v []) s = .next (answer v r Code.done (bytesOf ws) s)
        ∧ fld (ws.getD 0 0#32) 7 0 = 1 ∧ fld (ws.getD 0 0#32) 15 8 = (personaWord s).toNat ∧ ws.getD 1 0#32 = w32 s.tcs.image.version)
    ∧ (Handed s v 0x0182 [] r → ∃ ws : List W32, ws.length = 8 ∧ exec (.sysFwStatus v []) s = .next (answer v r Code.done (bytesOf ws) s)
        ∧ ws.getD 0 0#32 = w32 s.flash.slot0.version ∧ ws.getD 3 0#32 = w32 s.flash.slot1.version ∧ ws.getD 7 0#32 = w32 (b2n s.tcs.trial))
    ∧ (viaOk v = true → mayTake s v = true → channelAt s v = .handed r → cmdCode r.cmd = 0x1181 → r.bytes.take r.len = bs →
      exec (.diagEcho v bs) s = .next (answer v r Code.done bs s))

/-- Handed to a running Titimus outside a handover or swap: SYS.FW_LOAD of an image in host memory that passes every check of R394 starts the load, with the standby taken down and swaps blocked; SYS.FW_ACTIVATE and SYS.SWAP with a ready standby hold STAT0-STAT3 and start the role swap; SYS.FW_COMMIT in a trial ends it and prefers the other slot; SYS.SPLIT_SET on a quiesced device whose pools fit ends the table engine's write in progress, applies the split and starts the fill of classes 0 and 1. Exec answers a next state, the own effect, under conditions on state and operands alone, for: sysSplitSet, sysFwLoad, sysFwActivate, sysFwCommit, sysSwap. (16_titimus.md R394, 16_titimus.md R396, 16_titimus.md R397, 17_redundancy.md R403, 14_tempo.md R340) -/
def Obligations.FirmwareSwapAndSplitCommandsStartTheirJobs : Prop :=
  ∀ (v : Via) (r : Request) (s : State) (a : List W32) (k : W32),
    let img := hostRead s (arg a 0 + arg a 1 * 2 ^ 32) (arg a 2)
    (Handed s v 0x0104 a r → 528 ≤ arg a 2 → arg a 2 ≤ 512 + 3145728 → handover s = false → swapInProgress s = false →
      s.tcs.fwBusy = false → s.tcs.trial = false → canDma s = true → imageFault s img (arg a 2) = none →
      exec (.sysFwLoad v a) s = .next (startJob v r (.fwLoad (hdrWord img 8 4) (hdrWord img 0xC 4) (hdrWord img 0x18 2) (hdrWord img 0x1A 2))
        { s with tcs := { s.tcs with fwBusy := true, swapBlock := true, standby := none }, pair := { s.pair with ready := false } }))
    ∧ (Handed s v 0x0105 [] r → swapInProgress s = false → handover s = false → standbyOk s = true →
      exec (.sysFwActivate v []) s = .next (startJob v r .fwActivate
        { holdStat s with pair := { s.pair with swapping := some s.cycles, handed := false, switching := true } }))
    ∧ (Handed s v 0x0106 [] r → s.tcs.trial = true →
      exec (.sysFwCommit v []) s = .next (startJob v r .fwCommit { s with
        flash := { s.flash with preferred := 1 - preferredSlot s }
        tcs := { s.tcs with trial := false, standby := none }
        pair := { s.pair with ready := false } }))
    ∧ (Handed s v 0x0107 [] r → swapInProgress s = false → handover s = false → s.tcs.swapBlock = false ∨ s.tcs.trial = true → standbyOk s = true →
      exec (.sysSwap v []) s = .next (startJob v r .swap
        { holdStat s with pair := { s.pair with swapping := some s.cycles, handed := false, switching := true } }))
    ∧ (Handed s v 0x0102 [k] r → k.toNat ≤ 2 → s.mem.filling = none → quiesced s = true → poolSizes s + 4096 ≤ splitCells k.toNat →
      (let t := applySplit k.toNat (finishWork s)
      exec (.sysSplitSet v [k]) s = .next (startJob v r (.split k.toNat) { t with mem := { t.mem with filling := some 3 } })))

/-- When a mailbox command that is answered PENDING has its outcome and Titimus runs, COMMAND_COMPLETE answers it in that channel, with the class-9 event when a previous owner had taken it, and its journal entry is removed (a request that puts the owner cluster into Doze counts its 1 ms from then). An answer in a mailbox sets RSEQ to the request's SEQ, STATUS to DONE or ERROR, ERROR to the outcome code of an error, RLENGTH to the result's length and the payload to the outcome word and results, unlocks the mailbox and frees the channel. Exec answers a next state, the own effect, under conditions on state and operands alone, for: commandComplete. (16_titimus.md R389) -/
def Obligations.CommandAnswersReachTheirChannel : Prop :=
  ∀ (v : Via) (j : Job) (code : Nat) (res : List Byte) (s : State),
    (viaOk v = true → channelAt s v = .running j → j.outcome = some (code, res) → s.tcs.running = true → j.orphan = false →
      (j.byPrevious = false ∨ v = .ring ∧ j.kind ≠ .fwActivate →
        exec (.commandComplete v) s = .next (answer v j.req code res (dropJournal v (dozeFrom v s))))
      ∧ (j.byPrevious = true → ∀ m, v = .f0 m ∨ v = .f1 m → exec (.commandComplete v) s = .next (answer v j.req code res
          (postEvent 9 (fld j.req.cmd 15 0) [w32 m, 0#32, 0#32] (dropJournal v (dozeFrom v s))))))
    ∧ (∀ m, v = .f0 m →
        let b := boxAt (answer v j.req code res s) m
        b.rseq = j.req.token ∧ b.status = (if code < 0x40 then 2 else 3) ∧ b.error = (if code < 0x40 then 0 else code)
        ∧ b.rlength = (resultBytes code res).length ∧ b.payload = payloadOf (resultBytes code res) ∧ b.locked = false)

/-- POWER.DOMAIN_SET OFF of one powered domain that may go off starts that request with the domain first, after any wake by a fired trigger or trip of the same instant (R441); ON with no request in progress of one switched-off domain starts waking it. POWER.WAKE_SET stores sources, trigger, LSD mask and domains; POWER.STATUS returns 13 words and changes nothing. PAD_RELEASE releases exactly the held pads of the named domains that are on, and a 1 in PEER_WAKE_REQ sends one request to the peer. Exec answers a next state, the own effect, under conditions on state and operands alone, for: powerDomainSet, powerWakeSet, powerStatus, peerWakeReq, padRelease. (19_power.md R441, 19_power.md R444, 19_power.md R445, 19_power.md R447) -/
def Obligations.PowerCommandsSetDomainsAndSources : Prop :=
  ∀ (v : Via) (r : Request) (s : State) (a : List W32) (d : Nat) (hi : Bool) (val : W32),
    let u := wake 3 (wake 2 s)
    (Handed s v 0x0D01 a r → d < 34 → arg a 0 + arg a 1 * 2 ^ 32 = 2 ^ d → arg a 2 = 0 → arg a 3 ≤ 1 → requestBusy u = false →
      domainOn u d = true → offRefused u (2 ^ d) d = false →
      exec (.powerDomainSet v a) s = .next (startJob v r (.domains (2 ^ d) false)
        { u with pwr := { u.pwr with req := some { on := false, todo := [d], mask := 2 ^ d, began := u.cycles, since := u.cycles } } }))
    ∧ (bit s.pwr.srcEn 2 = false → bit s.pwr.srcEn 3 = false → u = s)
    ∧ (Handed s v 0x0D01 a r → 32 ≤ d → d < 38 → arg a 0 + arg a 1 * 2 ^ 32 = 2 ^ d → arg a 2 = 1 → arg a 3 ≤ 1 → requestBusy s = false →
      domainOn s d = false →
      exec (.powerDomainSet v a) s = .next (startJob v r (.domains (2 ^ d) true)
        { s with pwr := { s.pwr with req := some { on := true, todo := [d], mask := 2 ^ d, rel := if arg a 3 = 0 then 2 ^ d else 0, command := true, began := s.cycles, since := s.cycles } } }))
    ∧ (Handed s v 0x0D02 a r → arg a 0 ≤ 63 → arg a 1 ≤ 15 → arg a 2 < 2 ^ 16 → arg a 2 &&& s.dev.fuses.sliceEn = arg a 2 →
      badDomains s (arg a 3 + arg a 4 * 2 ^ 32) = false →
      exec (.powerWakeSet v a) s = .next (answer v r Code.done [] { s with pwr := { s.pwr with
        srcEn := arg a 0, wakeTrig := arg a 1, lsd := arg a 2, wakeDomains := arg a 3 + arg a 4 * 2 ^ 32, seen := (trigAt s (arg a 1)).fires } }))
    ∧ (Handed s v 0x0D81 [] r → ∃ ws : List W32, ws.length = 13 ∧ exec (.powerStatus v []) s = .next (answer v r Code.done (bytesOf ws) s))
    ∧ (∃ t, exec (.padRelease hi val) s = .next t ∧ t = { s with pwr := { s.pwr with held := t.pwr.held } }
        ∧ (s.pwr.held < 2 ^ 38 → ∀ d, d < 38 → (bit t.pwr.held d = true ↔
            bit s.pwr.held d = true ∧ ¬ (bit (if hi then fld val 5 0 * 2 ^ 32 else val.toNat) d = true ∧ domainOn s d = true))))
    ∧ exec (.peerWakeReq val) s = .next { s with pwr := { s.pwr with peerWakes := s.pwr.peerWakes + b2n (bit val.toNat 10) } }

/-- When the domain at the front of a power-down request with more domains to go has drained, it goes off, its pads are held and DEV_PWR_DOWN counts; the next domain of the request is then at its front. A woken domain at the front of a wake request comes on. A drain timeout 1 ms after the start of a drain not met ends the request, counts, and leaves the domain on. An enabled wake source that fires while no request is in progress begins the wake of WAKE_DOMAINS; one that fires at the instant at which another began a wake joins it. DOZE_ENTRY, 1 ms after the request that names the owner cluster has been acknowledged, turns that cluster off. Exec answers a next state, the own effect, under conditions on state and operands alone, for: domainDrainDone, domainDrainTimeout, domainWakeDone, wake, dozeEntry. (19_power.md R442, 19_power.md R443, 19_power.md R444, 19_power.md R445, 19_power.md R447, 19_power.md R449) -/
def Obligations.DomainEventsSwitchDomains : Prop :=
  ∀ (s : State) (d e : Nat) (r : PwrReq) (rest : List Nat),
    (d < 38 → s.pwr.req = some r → r.on = false → r.todo = d :: e :: rest → drained s d = true →
      exec (.domainDrainDone d) s =
        .next (modPwr (fun p => { p with req := some { r with todo := e :: rest, since := (domainOff d s).cycles } }) (domainOff d s)))
    ∧ (d < 38 → bit (domainOff d s).pwr.off d = true ∧ bit (domainOff d s).pwr.held d = true)
    ∧ (d < 38 → s.pwr.req = some r → r.on = true → r.todo = d :: e :: rest →
      exec (.domainWakeDone d) s =
        .next (modPwr (fun p => { p with req := some { r with todo := e :: rest, since := (domainUp d s).cycles } }) (domainUp d s)))
    ∧ (d < 38 → s.pwr.req = some r → r.on = false → r.todo = d :: e :: rest → s.pwr.latched = 0 → s.pwr.latchedSrc = 0 → s.pwr.latchedCmd = false →
      s.cycles ≥ r.since + 1000000 → drainHidden d = true ∨ drained s d = false →
      ∃ t, exec (.domainDrainTimeout d) s = .next t ∧ t.pwr.req = none ∧ t.pwr.off = s.pwr.off ∧ t.pwr.held = s.pwr.held)
    ∧ (d < 6 → bit s.pwr.srcEn d = true → sourceFires s d = true → s.pwr.req = none → s.pwr.doze = none → s.pwr.wokenAt ≠ some s.cycles →
      exec (.wake d) s = .next (beginWake s.pwr.wakeDomains 0 (2 ^ d) false (sourceSeen d s)))
    ∧ (d < 6 → bit s.pwr.srcEn d = true → sourceFires s d = true → s.pwr.req = some r → r.on = true → r.sources ≠ 0 → r.began = s.cycles →
      exec (.wake d) s = .next (modPwr (fun p => { p with req := some { r with sources := r.sources ||| 2 ^ d } }) (sourceSeen d s)))
    ∧ (∀ t, s.pwr.doze = some t → s.cycles ≥ t + 1000000 → jobEnded s = true →
      exec .dozeEntry s = .next (runLatched (domainOff (ownerDomain s) { s with pwr := { s.pwr with doze := none } })))

/-- MEM.REMAP_SET installs a new entry at an address of the class while fewer than 16 are in use, counts the installation, and removes an entry it names; MEM.SCRUB_SET sets the threshold of remaps and the named classes' scrubbers and no others; MEM.FILL of classes that may be filled, with no fill in progress, starts the fill; MEM.STATUS returns 23 words and MEM.LOG the named entries from the oldest, four words each, and neither changes anything. Exec answers a next state, the own effect, under conditions on state and operands alone, for: memRemapSet, memScrubSet, memFill, memStatus, memLog. (20_integrity.md R454, 20_integrity.md R456, 20_integrity.md R457, 20_integrity.md R458, 20_integrity.md R459, 20_integrity.md R461) -/
def Obligations.MemoryCommandsSetTheirMachinery : Prop :=
  ∀ (v : Via) (r : Request) (s : State) (a : List W32),
    let c := arg a 0
    let adr := arg a 1 + arg a 2 * 2 ^ 32
    (Handed s v 0x0F01 a r → classAddr s c adr = true → arg a 3 = 1 → s.mem.remaps.contains (c, adr) = false → remapUsed s c < 16 →
      exec (.memRemapSet v a) s = .next (answer v r Code.done [] (installRemap c adr s)))
    ∧ (Handed s v 0x0F01 a r → classAddr s c adr = true → arg a 3 = 0 → s.mem.remaps.contains (c, adr) = true →
      ∃ t, exec (.memRemapSet v a) s = .next (answer v r Code.done [] t) ∧ t.mem.remaps = s.mem.remaps.erase (c, adr))
    ∧ (Handed s v 0x0F02 a r → arg a 0 < 512 → arg a 1 ≤ 1 → arg a 2 < 2 ^ 24 → 2 ≤ arg a 3 → arg a 3 ≤ 15 → tabWf {} s.mem.scrubs = true →
      ∃ t, exec (.memScrubSet v a) s = .next (answer v r Code.done [] t) ∧ t.mem.thr = arg a 3
        ∧ (∀ k, k < 9 → bit (arg a 0) k = true → (scrubAt t k).en = (arg a 1 == 1) ∧ (scrubAt t k).warn = arg a 2)
        ∧ (∀ k, bit (arg a 0) k = false → scrubAt t k = scrubAt s k))
    ∧ (Handed s v 0x0F03 a r → arg a 0 < 512 → bit (arg a 0) 6 = false → bit (arg a 0) 7 = false → arg a 0 &&& 0x3F = 0 → s.led.arch = [] →
      s.tal.period = 0 → s.mem.filling = none →
      exec (.memFill v a) s = .next (startJob v r (.fill (arg a 0)) { s with mem := { s.mem with filling := some (arg a 0) } }))
    ∧ (Handed s v 0x0F81 [] r → ∃ ws : List W32, ws.length = 23 ∧ ws.getD 2 0#32 = s.mem.lastErr
        ∧ exec (.memStatus v []) s = .next (answer v r Code.done (bytesOf ws) s))
    ∧ (Handed s v 0x0F82 a r → 1 ≤ arg a 1 → arg a 1 ≤ 64 → arg a 0 < s.mem.history.length →
      exec (.memLog v a) s =
        .next (answer v r Code.done (bytesOf (((s.mem.history.reverse.drop (arg a 0)).take (arg a 1)).map logWords).flatten) s))

/-- A scrub read with an odd syndrome of a reachable, enabled class counts a corrected word and poisons nothing; with an uncorrectable one it marks the word poison. A copy of a voted word upset in some bits counts one repair, and the majority is still the word. A remap is installed after REMAP_THRESHOLD detections while the class has room. The first fill after a cold reset sets the fills' completion. Training ends with LPDDR5X ready at its rate and density, or failed. A poisoned table entry that a lookup has reported with no clean replica is counted lost. Exec answers a next state, the own effect, under conditions on state and operands alone, for: tablePoisonRepair, ddrTrainingDone, fillDone, scrubRead, voteRepair, remapInstall. (20_integrity.md R451, 20_integrity.md R452, 20_integrity.md R454, 20_integrity.md R455, 20_integrity.md R458, 20_integrity.md R462, 06_exact_match.md R152) -/
def Obligations.MemoryEventsCorrectPoisonAndRemap : Prop :=
  ∀ (s : State) (c a y w x loc rate dens : Nat) (bits : W32) (e : Entry),
    (c < 9 → classAddr s c a = true → y < 256 → (scrubAt s c).en = true → classOn s c = true → poisonedAt s c a = false → y ≠ 0 → y ≠ 0xFF →
      oddSyndrome y = true →
      exec (.scrubRead c a y false) s =
        .next (detection c false y a (bump (Ctr.memScrubFix c) (bump (Ctr.memCorrected c) (scrubPlace c a s)))))
    ∧ (c < 9 → classAddr s c a = true → y < 256 → (scrubAt s c).en = true → classOn s c = true → poisonedAt s c a = false → y ≠ 0 → y ≠ 0xFF →
      ∃ t, exec (.scrubRead c a y true) s = .next t ∧ poisonedAt t c a = true)
    ∧ (w < 64 → x < 3 → exec (.voteRepair ⟨w, x, bits⟩) s = .next (if bits = 0#32 then s else bump Ctr.memVoteFix s)
        ∧ votedRead (copiesOf (criticalWord s w) x bits) = criticalWord s w)
    ∧ (classAddr s c a = true → s.tcs.running = true → detections s c a ≥ s.mem.thr → s.mem.remaps.contains (c, a) = false → remapUsed s c < 16 →
      exec (.remapInstall c a) s = .next (installRemap c a s))
    ∧ (s.mem.filling = some w → s.dev.fillsOk = false →
      ∃ t, exec .fillDone s = .next t ∧ t.mem.filling = none ∧ t.dev.fillsOk = true)
    ∧ (rate < 3 → dens < 4 → s.dev.asserted = 0 → s.dev.step ≥ 2 → s.mem.ddrReady = false → s.mem.ddrFail = false →
      exec (.ddrTrainingDone (some rate) dens) s = .next { s with mem := { s.mem with ddrReady := true, rate := rate, density := dens } }
      ∧ exec (.ddrTrainingDone none dens) s = .next { s with mem := { s.mem with ddrFail := true } })
    ∧ (spaceLoc s loc = true → s.tbl.reported.contains loc = true → slotAt s loc = some e → entryPoison s loc e = true →
        (∀ q, q < 4 → entryPoisoned s q loc e = true) →
        ∃ t, exec (.tablePoisonRepair loc) s = .next t ∧ t.mem.lastErr = packW [(0, 1), (4, 1), (5, 0xFF)])

/-- Handed with arguments in range to a running Titimus, PORT.CONFIG, LANE_MAP, STATION_SET, FLOWCTL_SET, DAMP_SET (enabling), LPI_SET (a mode with LPI, no gates) and EXPRESS_SET complete DONE and set exactly their fields of the port's full-service settings (LPI_SET also drops a waiting shed and restores full width; FLOWCTL_SET dates the watchdog's watch anew); PREEMPT_SET sets enable, queue mask, fragment size and verify settings; PORT.STATUS returns the five words of R510 and changes nothing. Exec answers a next state, the own effect, under conditions on state and operands alone, for: portConfig, portLaneMap, portStationSet, portFlowctlSet, portPreemptSet, portDampSet, portLpiSet, portExpressSet, portStatus. (01_architecture.md R35, 02_ports_mac.md R41, 02_ports_mac.md R47, 02_ports_mac.md R49, 02_ports_mac.md R59, 02_ports_mac.md R64, 02_ports_mac.md R70, 02_ports_mac.md R72, 07_settlement.md R174, 02_ports_mac.md R510) -/
def Obligations.PortSettingCommandsSetThePort : Prop :=
  ∀ (v : Via) (r : Request) (s : State) (a : List W32) (n : Nat),
    let p := arg a 0
    (Handed s v 0x0201 a r → badFront s p = false → modeLanes (arg a 1) (arg a 2) = some n → p % n = 0 → 0 < n → arg a 3 ≤ 1 →
      64 ≤ arg a 4 → arg a 4 ≤ 16352 → arg a 5 ≤ 1 → lanesTaken s p n = false → quadClash s p n (arg a 2) = false →
      (fullAt s p).cfg.enabled = false →
      exec (.portConfig v a) s = .next (answer v r Code.done [] (modFull p (fun q => { q with
        cfg := { q.cfg with
          speed := arg a 1, laneRate := arg a 2, reach := arg a 3, maxLen := arg a 4, training := arg a 5 == 1
          expMinLen := defaultMinLen (arg a 1), dRx := (pathDelays (arg a 1) (arg a 2)).1, dTx := (pathDelays (arg a 1) (arg a 2)).2 }
        damp := { q.damp with txLanes := lanesLog n, rxLanes := lanesLog n } }) s)))
    ∧ (Handed s v 0x0204 a r → p < 64 → badFront s (8 * p) = false → arg a 9 < 2 ^ 16 →
      (∀ i, i < 8 → i ∈ (List.range 8).map fun j => arg a (1 + j)) → (∀ e ∈ s.ports, (fullOf e.2).cfg.enabled = false) →
      exec (.portLaneMap v a) s = .next (answer v r Code.done []
        { s with lanes := tabSet {} s.lanes p { phys := (List.range 8).map fun i => arg a (1 + i), polarity := arg a 9 } }))
    ∧ (Handed s v 0x0205 a r → badFront s p = false → arg a 1 ≤ 7 → arg a 3 < 2 ^ 16 → arg a 4 ≤ 1 →
      exec (.portStationSet v a) s = .next (answer v r Code.done [] (modFull p (fun q => { q with cfg := { q.cfg with
        stations := tabSet none q.cfg.stations (arg a 1) (if arg a 4 = 1 then some (arg a 2 + arg a 3 * 2 ^ 32) else none) } }) s)))
    ∧ (Handed s v 0x0206 a r → badFront s p = false → arg a 1 ≤ 2 → arg a 2 < 2 ^ 16 → (∀ i, i < 16 → arg a (3 + i) ≤ 15) → arg a 19 ≤ 1000 →
      arg a 20 ≤ 1 → 1 ≤ arg a 21 → arg a 21 ≤ 1000 →
      exec (.portFlowctlSet v a) s = .next (answer v r Code.done [] (modFull p (fun q => { q with fc := { q.fc with
        mode := arg a 1, quanta := arg a 2, prioOf := ((List.range 16).map fun i => arg a (3 + i)).map (min 8), pwdTime := arg a 19
        pwdIgnore := arg a 20 == 0, pwdRestore := arg a 21
        heldAt := (List.range 8).foldl (fun m k => tabSet 0 m k s.cycles) q.fc.heldAt
        paused := if q.fc.mode = arg a 1 then q.fc.paused else [], pwdActive := if q.fc.mode = arg a 1 then q.fc.pwdActive else [] } }) s)))
    ∧ (Handed s v 0x0207 a r → badFront s p = false → arg a 1 ≤ 1 → (∀ i, i < 16 → arg a (2 + i) ≤ 1) → arg a 18 ≤ 3 → arg a 19 ≤ 1 →
      1 ≤ arg a 20 → arg a 20 ≤ 128 →
      ∃ f : PortState → PortState, exec (.portPreemptSet v a) s = .next (answer v r Code.done [] (modFull p f s))
        ∧ ∀ q, (f q).cfg = q.cfg ∧ (f q).fc = q.fc ∧ (f q).damp = q.damp ∧ (f q).linkUp = q.linkUp ∧ (f q).pre.en = (arg a 1 == 1)
          ∧ (f q).pre.addFrag = arg a 18 ∧ (f q).pre.verifyDis = (arg a 19 == 1) ∧ (f q).pre.verifyTime = arg a 20
          ∧ ∀ i, i < 16 → bit (f q).pre.pmacMask i = (arg a (2 + i) == 1))
    ∧ (Handed s v 0x0208 a r → badFront s p = false → arg a 1 = 1 → 10 ≤ arg a 2 → arg a 2 ≤ 1000 → gated s p = false →
      (fullAt s p).damp.lpiEn = false →
      exec (.portDampSet v a) s = .next (answer v r Code.done [] (modFull p (fun q => { q with damp := { q.damp with
        en := true, window := arg a 2, wake := arg a 3, shed := q.damp.shed } }) s)))
    ∧ (Handed s v 0x0209 a r → badFront s p = false → arg a 1 = 1 → 1 ≤ arg a 2 → arg a 2 ≤ 10000 → lpiCapOf s p = true → gated s p = false →
      exec (.portLpiSet v a) s = .next (answer v r Code.done [] (startRestore p (modFull p (fun q => { q with damp := { q.damp with
        lpiEn := true, lpiIdle := arg a 2, shed := none, waking := q.damp.waking } }) s))))
    ∧ (Handed s v 0x020A a r → badFront s p = false → arg a 1 < 2 ^ 16 → 64 ≤ arg a 2 → arg a 2 ≤ 16352 →
      exec (.portExpressSet v a) s = .next (answer v r Code.done [] (modFull p (fun q =>
        { q with cfg := { q.cfg with expClass := arg a 1, expMinLen := arg a 2 } }) s)))
    ∧ (Handed s v 0x0281 a r → badFront s p = false →
      exec (.portStatus v a) s =
        .next (answer v r Code.done (bytesOf [macCfg s p, macStatus s p, macExpress s p, (fullAt s p).cfg.ptp, macPtpDly s p]) s))

/-- PORT.ENABLE of a configured, free port whose cluster is on is answered PENDING with the port enabled and dark until calibration; COMMAND_COMPLETE then completes it DONE and lights the port. PORT.DISABLE completes DONE with the port disabled, dark and out of loopback. DIAG.LOOPBACK of a new mode takes the link down (a plain port's only at its transition) and sets the mode. DIAG.PRBS starts the first lane of a port in no loopback, and DIAG.PRBS_GET returns four words of every lane of the port and changes nothing but the lanes' test records. Exec answers a next state, the own effect, under conditions on state and operands alone, for: portEnable, portDisable, diagLoopback, diagPrbs, diagPrbsGet, commandComplete. (02_ports_mac.md R72, 02_ports_mac.md R73, 02_ports_mac.md R76, 02_ports_mac.md R77, 02_ports_mac.md R78) -/
def Obligations.PortLifeCommandsTakeEffect : Prop :=
  ∀ (v : Via) (r : Request) (s : State) (a : List W32),
    let p := arg a 0
    (Handed s v 0x0202 a r → badFront s p = false → (fullAt s p).cfg.speed ≠ 0 → lanesTaken s p (cfgLanes (fullAt s p).cfg) = false →
      quadClash s p (cfgLanes (fullAt s p).cfg) (fullAt s p).cfg.laneRate = false → (fullAt s p).cfg.enabled = false → enabling s p = false →
      domainOn s (16 + portSlice p) = true →
      exec (.portEnable v a) s =
        .next (startJob v r (.portEnable p) (modFull p (fun q => { q with cfg := { q.cfg with enabled := true, lit := false } }) s)))
    ∧ (∀ j : Job, viaOk v = true → channelAt s v = .running j → j.kind = .portEnable p → j.outcome = none → j.orphan = false →
        j.byPrevious = false → s.tcs.running = true → domainOn s (16 + portSlice p) = true →
        ∃ t, exec (.commandComplete v) s = .next (answer v j.req Code.done [] t)
          ∧ (∀ w, viaOk w = true → w ≠ v → channelAt t w = channelAt s w) ∧ t.ports = (portLit p s).ports)
    ∧ (Handed s v 0x0203 a r → badFront s p = false → enabling s p = false →
      exec (.portDisable v a) s = .next (answer v r Code.done [] (disablePort p s)))
    ∧ ((portAt s p).kept = none → (portAt (linkDown p s) p).kept = none → tabWf {} (linkDown p s).ports = true →
        (portAt (disablePort p s) p).cfg = { (portAt (linkDown p s) p).cfg with enabled := false, lit := false, loopback := 0 })
    ∧ (Handed s v 0x1101 a r → badFront s p = false → arg a 1 ≤ 2 → (fullAt s p).cfg.enabled = true → (fullAt s p).damp.en = false →
      prbsRuns s p = false → (fullAt s p).cfg.loopback ≠ arg a 1 →
      exec (.diagLoopback v a) s =
        .next (answer v r Code.done [] (modFull p (fun q => { q with cfg := { q.cfg with loopback := arg a 1 } })
          (if (portAt s p).kept.isSome then s else linkDown p s))))
    ∧ (Handed s v 0x1102 a r → badFront s p = false → arg a 1 = 1 → 1 ≤ arg a 2 → arg a 2 ≤ 3 → 1 ≤ arg a 3 → arg a 3 ≤ 3 →
      (fullAt s p).cfg.enabled = true → (fullAt s p).cfg.loopback = 0 → 1 ≤ fullLanes s p →
      ∃ t, exec (.diagPrbs v a) s = .next (answer v r Code.done [] t) ∧ prbsAt t p = { pattern := arg a 2, dir := arg a 3 })
    ∧ (Handed s v 0x1182 a r → badFront s p = false →
      ∃ (ws : List W32) (q : Tab Prbs), ws.length = 4 * fullLanes s p
        ∧ exec (.diagPrbsGet v a) s = .next (answer v r Code.done (bytesOf ws) { s with prbs := q }))

/-- A lit, enabled port without a link and with neither far-end loopback nor a PRBS test (on a plain port they wait for its transition), in a powered and released slice that serves it, comes up: LINK_UP sets, verify and damping start and a link event is posted. A port with a link that goes down clears LINK_UP and everything it knew of the link, voids what it was receiving and discards what it held, and a group member counts as failed over. A checking PRBS lane locks and keeps its counts when it loses lock. Exec answers a next state, the own effect, under conditions on state and operands alone, for: linkUp, linkDown, prbsLock, prbsLockLoss. (02_ports_mac.md R72, 02_ports_mac.md R73, 02_ports_mac.md R77, 10_teller.md R248) -/
def Obligations.LinkEventsRaiseAndDropLinks : Prop :=
  ∀ (s : State) (p l : Nat),
    (p < 512 → portEnabledByFuse s p = true → (portAt s p).cfg.enabled = true → (portAt s p).cfg.lit = true → (portAt s p).linkUp = false →
      lineFree s p = true → sliceOn s (16 + portSlice p) = true →
      bit s.dev.blockRst.toNat (portSlice p) = false → s.dev.asserted = 0 → served s p = true →
      exec (.linkUp p) s =
        .next (postOpen 0 p (startLink p (modPort p (fun q => { q with linkUp := true, pcsLock := true }) s))))
    ∧ (p < 512 → portEnabledByFuse s p = true → (portAt s p).linkUp = true →
      exec (.linkDown p) s = .next (flushPort p (voidReceiving p (modRx p (fun x => { x with emac := none, pmac := none, loop := [] })
        (modPort p unlink (bumpIf (inGroup s p) (Ctr.tlrFailover (portSlice p)) s))))))
    ∧ (∀ q : PortState, (unlink q).linkUp = false ∧ (unlink q).pcsLock = false ∧ (unlink q).pre.active = false ∧ (unlink q).damp.agreed = false
        ∧ (unlink q).cfg = q.cfg ∧ (unlink q).fc = { q.fc with xoff := [] })
    ∧ (p < 512 → portEnabledByFuse s p = true → l < 512 → checks s p l = true → (prbsAt s l).lock = false →
      exec (.prbsLock p l) s = .next (setPrbs l { prbsAt s l with lock := true, lockAt := s.cycles, errAt := s.cycles, newErrs := 0 } s))
    ∧ (p < 512 → portEnabledByFuse s p = true → l < 512 → (lanesOf s p).contains l = true → (prbsAt s l).lock = true →
      exec (.prbsLockLoss p l) s = .next (setPrbs l (prbsUnlock s p l) s))
    ∧ (prbsUnlock s p l).lock = false ∧ ((prbsUnlock s p l).errors, (prbsUnlock s p l).bits) = prbsCounts s p (prbsNow s p l)

/-- A received MAC control frame is consumed, whatever has become of its chit: it counts, a link pause time replaces what remains, and its frame voids with cause 4 while its chit is provisional. A pause ends when its time has passed. While the stop of a priority (PFC) or of the port (link pause) persists, XOFF is sent again with PAUSE_QUANTA. After PWD_TIME of uninterrupted pause with a frame waiting all that time, the watchdog fires, counts and posts its event; after PWD_RESTORE without a pause it releases the priority. Exec answers a next state, the own effect, under conditions on state and operands alone, for: pauseReceive, pauseExpire, xoffRefresh, pwdFire, pwdRestore. (02_ports_mac.md R50, 02_ports_mac.md R51, 02_ports_mac.md R54, 02_ports_mac.md R56, 02_ports_mac.md R57, 02_ports_mac.md R58) -/
def Obligations.PauseEventsStopAndReleasePriorities : Prop :=
  ∀ (s : State) (p k n : Nat),
    (∀ f rest, p < 512 → portEnabledByFuse s p = true → (rxAt s p).ctls = f :: rest →
      exec (.pauseReceive p) s = .next (voidRx f 4 (actPause p f.bytes (bumpMac Ctr.macRxPause p 1
        (modRx p (fun x => { x with ctls := rest }) s)))))
    ∧ (∀ bs, (portAt s p).fc.mode = 1 → half bs 15 = 1 → actPause p bs s = setPause p 0 (half bs 17) s)
    ∧ (tabWf {} s.ports = true → k < 8 → tabWf none (portAt s p).fc.paused = true →
        (tabGet none (portAt (setPause p k n s) p).fc.paused k).map (fun x => x.till) =
          if n = 0 then none else some (s.cycles + quantaCycles s p n))
    ∧ (∀ x, portPrio s p k = true → tabGet none (portAt s p).fc.paused k = some x → x.till ≤ s.cycles →
      exec (.pauseExpire p k) s =
        .next (modPort p (fun q => { q with fc := { q.fc with paused := tabSet none q.fc.paused k none } }) s))
    ∧ (portPrio s p k = true → (portAt s p).fc.mode = 2 ∧ bit (stopMask s p) k = true ∨ (portAt s p).fc.mode = 1 ∧ k = 0 ∧ stopMask s p ≠ 0 →
      exec (.xoffRefresh p k) s = .next (sendPause p k (portAt s p).fc.quanta s))
    ∧ (∀ x, portPrio s p k = true → tabGet none (portAt s p).fc.paused k = some x → (portAt s p).fc.pwdTime ≠ 0 →
      max x.since (tabGet 0 (portAt s p).fc.heldAt k) + (portAt s p).fc.pwdTime * 1000000 ≤ min s.cycles x.till → prioHolds s p k = true → tabGet false (portAt s p).fc.pwdActive k = false →
      exec (.pwdFire p k) s = .next (postOpen 1 p (bumpMac Ctr.macPwdFire p 1
        (modPort p (fun q => { q with fc := { q.fc with pwdActive := tabSet false q.fc.pwdActive k true } }) s))))
    ∧ (portPrio s p k = true → tabGet false (portAt s p).fc.pwdActive k = true →
      tabGet 0 (portAt s p).fc.lastPause k + (portAt s p).fc.pwdRestore * 1000000 ≤ s.cycles →
      exec (.pwdRestore p k) s =
        .next (modPort p (fun q => { q with fc := { q.fc with pwdActive := tabSet false q.fc.pwdActive k false } }) s))

/-- Verify repeats up to three times and then fails; a respond makes it succeed and preemption active; a received verify is answered. Capability sets are sent at most ten times and agreed within 10 ms of link up. A damping window resets its load count; a grant of the proposed width shifts the transmitter, a marker the receiver; a missing grant drops the proposal; a realign failure turns damping off and restarts the link; a lock report restores full width. A transmitter idle for LPI_IDLE enters LPI and leaves it at the end of its wake time; the receiver's RX_LPI follows the partner. Exec answers a next state, the own effect, under conditions on state and operands alone, for: verifyTimeout, verifyReceive, respondReceive, dampCapabilitySend, dampCapabilityReceive, dampWindowEnd, shedRequestReceive, shedGrantReceive, shedGrantTimeout, switchMarkerReceive, realignTimeout, lockReportReceive, lpiEntry, lpiWakeDone. (02_ports_mac.md R60, 02_ports_mac.md R64, 02_ports_mac.md R65, 02_ports_mac.md R66, 02_ports_mac.md R67, 02_ports_mac.md R68, 02_ports_mac.md R69, 02_ports_mac.md R71) -/
def Obligations.VerifyDampingAndIdleEventsMoveTheirPort : Prop :=
  ∀ (s : State) (p lanes : Nat) (caps : BitVec 4), p < 512 → portEnabledByFuse s p = true →
    let q := portAt s p
    (q.pre.verify = 2 → q.pre.attempts < 3 →
      exec (.verifyTimeout p) s = .next (modPort p (fun q => { q with pre := { q.pre with attempts := q.pre.attempts + 1 } }) s))
    ∧ (q.pre.verify = 2 → q.pre.attempts ≥ 3 →
      exec (.verifyTimeout p) s = .next (modPort p (fun q => { q with pre := { q.pre with verify := 4 } }) s))
    ∧ (q.pre.en = true → q.linkUp = true →
      exec (.verifyReceive p) s = .next (modPort p (fun q => { q with pre := { q.pre with responds := q.pre.responds + 1 } }) s))
    ∧ (q.pre.verify = 2 →
      exec (.respondReceive p) s = .next (modPort p (fun q => { q with pre := { q.pre with verify := 3, active := true } }) s))
    ∧ (q.linkUp = true → q.damp.en = true → q.damp.capsSent < 10 →
      exec (.dampCapabilitySend p) s = .next (modDamp p (fun d => { d with capsSent := d.capsSent + 1 }) s))
    ∧ (q.linkUp = true → q.damp.en = true → s.cycles ≤ q.damp.upAt + 10000000 →
      exec (.dampCapabilityReceive p caps true) s = .next (modDamp p (fun d => { d with agreed := true }) s))
    ∧ (dampable s p = false →
      exec (.dampWindowEnd p) s = .next (modDamp p (fun d => { d with winBits := 0, winDeep := (List.range 16).any fun k => decide (depthOf (txAt s p) k > 16) }) s))
    ∧ (dampable s p = true → lanes < q.damp.rxLanes →
      exec (.shedRequestReceive p lanes) s = .next (modDamp p (fun d => { d with rxMarker := some lanes }) s))
    ∧ (dampable s p = true → q.damp.shed = some lanes →
      exec (.shedGrantReceive p lanes) s = .next (bump (Ctr.macDampShift p) (modDamp p (fun d => { d with txLanes := lanes, shed := none }) s)))
    ∧ exec (.shedGrantTimeout p) s = .next (modDamp p (fun d => { d with shed := none }) s)
    ∧ (dampable s p = true → q.damp.rxMarker = some lanes →
      exec (.switchMarkerReceive p lanes) s = .next (modDamp p (fun d => { d with rxLanes := lanes, rxMarker := none }) s))
    ∧ (q.linkUp = true → q.damp.agreed = true → 2 ≤ portLanes s p →
      exec (.realignTimeout p) s = .next (linkDown p (bump (Ctr.macDampFail p) (modDamp p (fun d => { d with en := false }) s))))
    ∧ (q.damp.restoring = true →
      exec (.lockReportReceive p) s = .next (bump (Ctr.macDampShift p)
        (modDamp p (fun d => { d with txLanes := lanesLog (portLanes s p), restoring := false }) s)))
    ∧ (q.damp.lpiEn = true → q.linkUp = true → q.damp.agreed = false → lpiCapOf s p = true → q.damp.txLpi = false → portIdle s p = true →
      q.damp.idleAt + q.damp.lpiIdle * 1000 ≤ s.cycles →
      exec (.lpiEntry ⟨p, false⟩) s = .next (bump (Ctr.macLpiEntry p) (modDamp p (fun d => { d with txLpi := true }) s)))
    ∧ (q.linkUp = true → q.damp.agreed = false → lpiCapOf s p = true →
      exec (.lpiEntry ⟨p, true⟩) s = .next (modDamp p (fun d => { d with rxLpi := true }) s))
    ∧ (q.damp.waking = true →
      exec (.lpiWakeDone ⟨p, false⟩) s = .next (modDamp p (fun d => { d with txLpi := false, waking := false }) s))
    ∧ exec (.lpiWakeDone ⟨p, true⟩) s = .next (modDamp p (fun d => { d with rxLpi := false }) s)

/-- Handed with good arguments to a running Titimus: HARP.LOAD of an image that passes R126 for idle staged banks that no load is writing is answered PENDING and writes it into every named slice; the words beyond the image are 0. HARP.COMMIT of slices that no load is writing, with a defined staged image and no swap waiting, is answered PENDING, each slice outside Plain service waiting for its frame boundary. RA_SET, RA_TPID and HASH_SEED set exactly their registers. ENGINE_CHECK of a mapped engine with no thread is answered PENDING with the engine under check, and counts the frames that wait for it. HARP.STATUS returns its four words and changes nothing. Exec answers a next state, the own effect, under conditions on state and operands alone, for: harpLoad, harpCommit, harpRaSet, harpRaTpid, harpEngineCheck, harpHashSeed, harpStatus. (03_harp_engines.md R99, 03_harp_engines.md R100, 03_harp_engines.md R105, 03_harp_engines.md R107, 04_harp_instructions.md R122, 04_harp_instructions.md R126, 04_harp_instructions.md R127) -/
def Obligations.HarpCommandsTakeEffect : Prop :=
  ∀ (v : Via) (r : Request) (s : State) (a : List W32),
    let k := arg a 0
    let img := hostRead s (arg a 1 + arg a 2 * 2 ^ 32) (max 64 (min (arg a 3) imageMax))
    (Handed s v 0x0301 a r → badMask s k = false → loading s k = false → canDma s = true → imageRefusal s img (arg a 3) = none → stagedBusy s k = false →
      exec (.harpLoad v a) s = .next (startJob v r (.load k) ((maskSlices k).foldl (fun s j => writeImage img j s) s)))
    ∧ (∀ (bs : List Byte) (n i : Nat), n ≤ 8192 → tabGet 0#64 (tabWrite 0#64 [] 0 (imageWords bs n)) i =
        if i < n then BitVec.ofNat 64 (imageWord bs (64 + 8 * i) 8) else 0)
    ∧ (Handed s v 0x0302 a r → badMask s k = false → loading s k = false → (∀ j ∈ maskSlices k, (harpAt s j).swap = false ∧ plainSlice s j = false
          ∧ (bankOf (harpAt s j) (1 - (harpAt s j).active)).undefinedImage = false) →
      exec (.harpCommit v a) s = .next (startJob v r (.commit ((maskSlices k).map fun j => 2 ^ j).sum)
        ((maskSlices k).foldl (fun s j => if plainSlice s j then swapBank j s else modHarp j (fun h => { h with swap := true }) s) s)))
    ∧ (Handed s v 0x0303 a r → k ≠ 512 → badPort s k = false → arg a 1 < 2 ^ 24 → arg a 2 ≤ 15 → (∀ i, i < 8 → arg a (3 + i) ≤ 15) → arg a 11 ≤ 1 →
      arg a 12 ≤ 7 →
      ∃ pcp, exec (.harpRaSet v a) s = .next (answer v r Code.done [] (setRa k { defSeg := arg a 1, defClass := arg a 2, raEn := arg a 11 == 1, raTable := arg a 12, pcpMap := pcp } s))
        ∧ ∀ i, i < 8 → fld pcp (4 * i + 3) (4 * i) = arg a (3 + i))
    ∧ (Handed s v 0x0304 a r → badSlice s k = false → arg a 1 < 2 ^ 16 →
      exec (.harpRaTpid v a) s = .next (answer v r Code.done [] (modHarp k (fun h => { h with raTpid := arg a 1 }) s)))
    ∧ (∀ x, Handed s v 0x0305 a r → badSlice s k = false → arg a 1 ≤ 63 → physEngine (harpAt s k) (arg a 1) = some x →
      engineCond (harpAt s k) (arg a 1) ≠ .checking → engineCond (harpAt s k) (arg a 1) ≠ .draining → onEngine s k (arg a 1) = [] →
      exec (.harpEngineCheck v a) s = .next (startJob v r (.engineCheck k (arg a 1)) (countWaits k (modHarp k (setCond x .checking) s))))
    ∧ (Handed s v 0x0306 a r →
      ∃ t, exec (.harpHashSeed v a) s = .next (answer v r Code.done [] t) ∧ t = { s with harps := t.harps }
        ∧ (tabWf {} s.harps = true → ∀ j, harpAt t j = if j < 16 then { harpAt s j with seed := a.getD 0 0#32 } else harpAt s j))
    ∧ (Handed s v 0x0381 a r → badSlice s k = false →
      exec (.harpStatus v a) s =
        .next (answer v r Code.done (bytesOf [hrpStatus s k, w32 (harpAt s k).raTpid, (harpAt s k).seed, hrpBuildId s k]) s))

/-- Handed with good arguments: CLASS.RANGE_SET and RULES_SET with no change waiting are answered PENDING and stage the entries in every named slice, with what is in force unchanged; TMAP_SET sets exactly TMAP_EN and TMAP_TABLE; METER.SET hands each meter its new entry without touching its buckets; PROFILE_SET and TENANT_SET set exactly their row or settings, and tokens do not change. RULES_GET, CLASS.STATUS, METER.GET and TENANT_GET return their words and change nothing. Exec answers a next state, the own effect, under conditions on state and operands alone, for: classRangeSet, classRulesSet, classTmapSet, classRulesGet, classStatus, meterSet, meterProfileSet, meterTenantSet, meterGet, meterTenantGet. (05_classification.md R131, 05_classification.md R133, 05_classification.md R139, 05_classification.md R142, 05_classification.md R143, 08_policing.md R192, 08_policing.md R196, 08_policing.md R197, 08_policing.md R201, 08_policing.md R202) -/
def Obligations.ClassAndMeterCommandsTakeEffect : Prop :=
  ∀ (v : Via) (r : Request) (s : State) (a : List W32),
    let m := arg a 0
    let ranges := (List.range (arg a 2)).map fun i => (a.getD (3 + 2 * i) 0#32 &&& 0x1F#32, a.getD (4 + 2 * i) 0#32)
    let stored := fun w => if cleanRule w = noRule then [] else cleanRule w
    let rules := (List.range (arg a 2)).map fun i => (a.drop (3 + 8 * i)).take 8
    (Handed s v 0x0401 a r → badMask s m = false → 1 ≤ arg a 2 → arg a 2 ≤ 64 → arg a 1 + arg a 2 ≤ 512 →
      (∀ e ∈ ranges, fld e.2 15 0 ≤ fld e.2 31 16) → setWaits s m = false →
      ∃ p, exec (.classRangeSet v a) s = .next (startJob v r (.classUpdate m)
        { stageSet m (fun x => { x with ranges := tabWrite (0#32, 0#32) x.ranges (arg a 1) ranges }) s with mem := { s.mem with poison := p } }))
    ∧ (Handed s v 0x0402 a r → badMask s m = false → 1 ≤ arg a 2 → arg a 2 ≤ 64 → arg a 1 + arg a 2 ≤ 8192 →
      (∀ w ∈ rules, badRule w = false) → setWaits s m = false →
      ∃ p, exec (.classRulesSet v a) s = .next (startJob v r (.classUpdate m)
        { stageSet m (fun x => { x with rules := tabWrite [] x.rules (arg a 1) (rules.map stored) }) s with mem := { s.mem with poison := p } }))
    ∧ (∀ f, tabWf {} s.classes = true → ∀ k, (classAt (stageSet m f s) k).now = (classAt s k).now
        ∧ (classAt (stageSet m f s) k).next = if k < 16 ∧ bit m k = true then some (f (classAt s k).now) else (classAt s k).next)
    ∧ (Handed s v 0x0403 a r → badMask s m = false → arg a 1 ≤ 1 →
      (arg a 1 = 1 → arg a 2 ≤ 7 ∧ ∃ c, tabCfgAt s (arg a 2) = some c ∧ 34 ≤ c.width) →
      exec (.classTmapSet v a) s = .next (answer v r Code.done []
        ((maskSlices m).foldl (fun s k => modClass k (fun c => { c with tmapEn := arg a 1 == 1, tmapTab := arg a 2 }) s) s)))
    ∧ (Handed s v 0x0481 a r → badSlice s m = false → 1 ≤ arg a 2 → arg a 2 ≤ 64 → arg a 1 + arg a 2 ≤ 8192 →
      exec (.classRulesGet v a) s =
        .next (answer v r Code.done (bytesOf ((List.range (arg a 2)).map fun i => ruleAt s m (arg a 1 + i)).flatten) s))
    ∧ (Handed s v 0x0482 a r → badSlice s m = false →
      exec (.classStatus v a) s = .next (answer v r Code.done (bytesOf [clsStatus s m, clsTmap s m]) s))
    ∧ (Handed s v 0x0601 a r → badMask s m = false → 1 ≤ arg a 2 → arg a 2 ≤ 64 → arg a 1 + arg a 2 ≤ 16384 → arg a 3 ≤ 1 →
      (∀ i, i < arg a 2 → badMeter ((a.drop (4 + 5 * i)).take 5) = false) →
      ∃ t, exec (.meterSet v a) s = .next (answer v r Code.done [] t) ∧ t = { s with meters := t.meters }
        ∧ (tabWf {} s.meters = true → ∀ k x, k < 16 → x < 16384 →
            let w := meterAt s k x
            let e := meterOf ((a.drop (4 + 5 * (x - arg a 1))).take 5)
            meterAt t k x = if bit m k = true ∧ arg a 1 ≤ x ∧ x < arg a 1 + arg a 2
              then { w with next := some (e, arg a 3 == 1 || w.next.any (fun p => p.2)) } else w))
    ∧ (Handed s v 0x0602 a r → badMask s m = false → arg a 1 ≤ 15 →
      ∃ t, exec (.meterProfileSet v a) s = .next (answer v r Code.done [] t) ∧ t = { s with profiles := t.profiles }
        ∧ (tabWf 0 s.profiles = true → ∀ k c, k < 16 → c < 3 → bit m k = true →
            tabGet 0 t.profiles (k * 64 + arg a 1 * 4 + c) = arg a (2 + c) % 2 ^ 11))
    ∧ (Handed s v 0x0603 a r → m < 16384 → arg a 1 ≤ 1 → (arg a 1 = 1 → 1 ≤ arg a 2) → arg a 2 ≤ 1600000 → arg a 3 ≤ 16777215 →
      exec (.meterTenantSet v a) s = .next (answer v r Code.done []
        (setTenant m { tenantAt s m with en := arg a 1 == 1, rate := arg a 2, burst := arg a 3 } s)))
    ∧ (Handed s v 0x0681 a r → badSlice s m = false → arg a 1 < 16384 →
      exec (.meterGet v a) s = .next (answer v r Code.done (bytesOf (meterWords (((meterAt s m (arg a 1)).next.map fun e => e.1).getD
          (meterAt s m (arg a 1)).cfg) ++ two (meterAt s m (arg a 1)).t1 ++ two (meterAt s m (arg a 1)).t2
          ++ [w32 (meterAt s m (arg a 1)).last])) s))
    ∧ (Handed s v 0x0682 a r → m < 16384 →
      ∃ ws : List W32, ws.length = 37 ∧ exec (.meterTenantGet v a) s = .next (answer v r Code.done (bytesOf ws) s))

/-- When it is their turn (no TABLE command accepted earlier is still to be executed), for a configured table and allowed data: INSERT of a new key within quota, with a free place in its buckets, completes INSERTED with the entry in a free place of bucket A or B and every other location unchanged; INSERT of a present key without its NEW bit completes REPLACED with the new data in its place; INSERT of a present key with it completes EXIST. An INSERT that needs more than one write starts as a job with these writes. DELETE of a present key empties its location only and takes the key from every walk's list; it completes DONE when no stash entry can return, and makes that return first otherwise. SEARCH returns the record of the key's entry. DELETE and SEARCH of an absent key complete NOT_FOUND; nothing changes. Exec answers a next state, the own effect, under conditions on state and operands alone, for: tableInsert, tableDelete, tableSearch. (06_exact_match.md R148, 06_exact_match.md R153, 06_exact_match.md R154, 06_exact_match.md R155, 06_exact_match.md R156, 06_exact_match.md R161) -/
def Obligations.TableEntryCommandsChangeOneEntry : Prop :=
  ∀ (v : Via) (r : Request) (s : State) (a : List W32) (c : TabCfg), tabCfgAt s (recTable a) = some c →
    let t := recTable a
    let data := (a.getD 1 0#32).toNat
    let key := recKey a c.width
    let wide := decide (c.width > 96)
    let ab := bucketsOf s t c.width key
    let ready := fun code : Nat => Handed s v code a r ∧ tableTurn s v = true
    (ready 0x0503 → badData s c.kind data = false → findEntry s t c.width key = none →
      (c.quota = 0 ∨ usedSlots s t + 1 + b2n wide ≤ c.quota) → places s wide ab.1 ++ places s wide ab.2 ≠ [] →
      ∃ loc u, loc ∈ places s wide ab.1 ++ places s wide ab.2
        ∧ exec (.tableInsert v a) s = .next (answer v r Code.inserted [] u)
        ∧ (∀ l, slotAt u l = if l = loc then some (entryAt s loc { tid := t, wide := wide, data := data, key := key }) else slotAt s l)
        ∧ u.tbl.walks = s.tbl.walks ∧ ctrAt u Ctr.tblInsert = ctrAt (bump Ctr.tblInsert s) Ctr.tblInsert)
    ∧ (∀ loc e, ready 0x0503 → badData s c.kind data = false → findEntry s t c.width key = some (loc, e) →
      (bit (a.getD 0 0#32).toNat 8 = false →
        ∃ u, exec (.tableInsert v a) s = .next (answer v r Code.replaced [] u)
          ∧ ∀ l, slotAt u l = if l = loc then some (entryAt s loc { e with data := data }) else slotAt s l)
      ∧ (bit (a.getD 0 0#32).toNat 8 = true →
        exec (.tableInsert v a) s = .next (answer v r Code.exist (details 0 0) s)))
    ∧ (∀ x y ws u, ready 0x0503 → insertPlan a s = (Code.inserted, x :: y :: ws, u) →
      exec (.tableInsert v a) s = .next (startJob v r .table (modTbl (fun t => { t with work := some { writes := x :: y :: ws, code := Code.inserted } }) u)))
    ∧ (∀ loc e, ready 0x0504 → findEntry s t c.width key = some (loc, e) → tabWf none s.tbl.slots = true →
      let u := removeEntry loc e s
      (stashReturn u = [] → exec (.tableDelete v a) s = .next (answer v r Code.done [] u))
      ∧ (stashReturn u ≠ [] → exec (.tableDelete v a) s = .next (startJob v r .table
          (modTbl (fun t => { t with work := some { writes := stashReturn u, code := Code.done } }) u)))
      ∧ (∀ l, slotAt u l = if l = loc then none else slotAt s l) ∧ u.tbl.walks = s.tbl.walks.map (unmark e.tid e.key))
    ∧ (∀ loc e, ready 0x0581 → findEntry s t c.width key = some (loc, e) →
      exec (.tableSearch v a) s = .next (answer v r Code.done (bytesOf (entryRecord s loc e false)) s))
    ∧ (findEntry s t c.width key = none →
      (ready 0x0504 → exec (.tableDelete v a) s = .next (answer v r Code.notFound (details 0 0) s))
      ∧ (ready 0x0581 → exec (.tableSearch v a) s = .next (answer v r Code.notFound (details 0 0) s)))
    ∧ (∀ loc e, findEntry s t c.width key = some (loc, e) → slotAt s loc = some e ∨ loc ≥ stashBase)

/-- When it is their turn (no TABLE command accepted earlier is still to be executed): TABLE.CONFIG of an empty table and SEED_SET of an empty space set exactly the table or the seeds. A new walk whose tables hold at most the asked count returns every entry in location order and ends, opening nothing; TABLE.HITS with CLEAR also clears HIT of every entry of its table. WALK_CLOSE and a 10 s silence close exactly their walk. A flush removes exactly the entries it names and answers their number: at once when it is at most one, else as a job with these removals. Bulk commands with reachable host memory start as jobs over their records; a job left to finish makes every record and gets the counts of their outcomes. TABLE.STATUS returns 25 words. A learn filter loses only entries held for 999 ms or more. Exec answers a next state, the own effect, under conditions on state and operands alone, for: tableConfig, tableSeedSet, tableNext, tableHits, tableWalkClose, tableFlushPort, tableFlushTable, tableInsertBulk, tableDeleteBulk, tableSearchBulk, tableStatus, learnFilterExpire, walkTimeout. (06_exact_match.md R146, 06_exact_match.md R150, 06_exact_match.md R158, 06_exact_match.md R159, 06_exact_match.md R163, 06_exact_match.md R165, 06_exact_match.md R168, 06_exact_match.md R169, 06_exact_match.md R513) -/
def Obligations.TableSetupWalkAndFlushCommands : Prop :=
  ∀ (v : Via) (r : Request) (s : State) (a : List W32) (w : Walk) (k : Nat),
    let t := arg a 0
    let ready := fun code : Nat => Handed s v code a r ∧ tableTurn s v = true
    let listed := fun m : Nat => s.tbl.slots.filterMap fun x =>
      match x.2 with | some e => if bit m e.tid then some (x.1, e) else none | none => none
    let flushes := fun (i : Instr) (p : Entry → Bool) =>
      let ws := (flushLocs p s).map TblWrite.remove
      exec i s = .next (if ws.length ≤ 1 then answer v r Code.done (bytesOf [w32 ws.length]) (doWrites ws s)
        else startJob v r .table (modTbl (fun x => { x with work := some { writes := ws, code := Code.done, res := bytesOf [w32 ws.length] } }) s))
    (ready 0x0501 → t ≤ 7 → arg a 1 ≤ 3 → widthOk (arg a 1) (arg a 2) = true → usedSlots s t = 0 →
      exec (.tableConfig v a) s =
        .next (answer v r Code.done [] (modTbl (fun x => { x with cfgs := tabSet none x.cfgs t (some ⟨arg a 1, arg a 2, arg a 3⟩) }) s)))
    ∧ (ready 0x0502 → s.tbl.slots = [] →
      exec (.tableSeedSet v a) s = .next (answer v r Code.done []
        (modTbl (fun x => { x with seedA := arg a 0 + arg a 1 * 2 ^ 32, seedB := arg a 2 + arg a 3 * 2 ^ 32, seedSet := true }) s)))
    ∧ (ready 0x0505 → arg a 0 = 0 → 1 ≤ arg a 1 → arg a 1 ≤ 255 → 1 ≤ arg a 2 → arg a 2 ≤ 96 → s.tbl.walks = [] →
      (listed (arg a 1)).length ≤ arg a 2 →
      exec (.tableNext v a) s = .next (answer v r Code.walkEnd
        (bytesOf ([w32 (s.tbl.cursors + 1), 1] ++ ((listed (arg a 1)).map fun x => entryRecord s x.1 x.2 false).flatten))
        (modTbl (fun x => { x with cursors := s.tbl.cursors + 1 }) s)))
    ∧ (ready 0x0506 → arg a 0 = 0 → arg a 1 ≤ 7 → 1 ≤ arg a 2 → arg a 2 ≤ 96 → arg a 3 ≤ 2 → arg a 4 = 1 → s.tbl.walks = [] →
      (listed (2 ^ arg a 1)).length ≤ arg a 2 → (∀ x ∈ s.tbl.slots, x.1 < 2 ^ 32) →
      ∃ ws u, exec (.tableHits v a) s = .next (answer v r Code.walkEnd (bytesOf ws) u)
        ∧ ∀ x ∈ u.tbl.slots, ∀ e, x.2 = some e → e.tid = arg a 1 → e.hit = 0)
    ∧ (ready 0x0507 → (walkAt s t).isSome = true →
      exec (.tableWalkClose v a) s = .next (answer v r Code.done [] (closeWalk t s)))
    ∧ (walkAt s t = some w → w.last + 10000000000 ≤ s.cycles → exec (.walkTimeout t) s = .next (closeWalk t s))
    ∧ (∀ x, x ∈ (closeWalk t s).tbl.walks ↔ x ∈ s.tbl.walks ∧ x.cursor ≠ t)
    ∧ (ready 0x0508 → 1 ≤ t → t ≤ 255 →
      (∀ i, i < 8 → bit t i = true → ∃ c, tabCfgAt s i = some c ∧ (c.kind = 1 ∨ c.kind = 3)) →
      (arg a 1 = 0 ∧ badPort s (arg a 2) = false ∨ arg a 1 = 1 ∧ arg a 2 ≤ 255) →
      flushes (.tableFlushPort v a) fun e => bit t e.tid && decide (bits e.data 11 10 = arg a 1) && decide (bits e.data 9 0 = arg a 2))
    ∧ (ready 0x0509 → t ≤ 7 → (tabCfgAt s t).isSome = true →
      flushes (.tableFlushTable v a) fun e => decide (e.tid = t))
    ∧ (∀ p : Entry → Bool, tabWf none s.tbl.slots = true →
        ∀ l, slotAt (doWrites ((flushLocs p s).map .remove) s) l = (slotAt s l).filter fun e => !p e)
    ∧ (1 ≤ arg a 2 → arg a 2 ≤ 65536 → canDma s = true →
      let bulk := fun n : Nat => startJob v r .table (modTbl (fun x => { x with
        work := some { writes := [], bulk := some { op := n, at_ := arg a 0 + arg a 1 * 2 ^ 32, left := arg a 2 } } }) s)
      (ready 0x050A → exec (.tableInsertBulk v a) s = .next (bulk 0))
      ∧ (ready 0x050B → exec (.tableDeleteBulk v a) s = .next (bulk 1))
      ∧ (ready 0x050C → exec (.tableSearchBulk v a) s = .next (bulk 2)))
    ∧ (∀ n i op at_, s.tbl.work = some { writes := [], bulk := some { op := op, at_ := at_, left := n } } → jobsOf (fun j => decide (j = .table)) s = [(v, i)] →
      viaOk v = true → ∃ cs : List Nat, cs.length = n ∧ channelAt (finishWork s) v =
        .running { i with outcome := some (0, bytesOf ((bulkKinds op).map fun c => w32 (cs.count c))) })
    ∧ (ready 0x0582 →
      ∃ ws : List W32, ws.length = 25 ∧ exec (.tableStatus v a) s = .next (answer v r Code.done (bytesOf ws) s))
    ∧ (sliceEnabled s k = true → exec (.learnFilterExpire k) s =
        .next (modLkp k (fun u => { u with filter := u.filter.filter fun e => decide (timeTotal s < e.2.2 + 999000000) }) s))

/-- Handed with arguments in range: POOL_SET of a pool whose KIND does not change and whose size leaves pool 0 its 4,096 cells sets exactly the pool's settings; PORT_MAP onto pools in use, COLOR_SET and ECN_SET set exactly their entries; RECLAIM with no sweep running is answered PENDING, and the end of the sweep frees what it found. MINT.STATUS returns eight words and changes nothing. Exec answers a next state, the own effect, under conditions on state and operands alone, for: mintPoolSet, mintPortMap, mintColorSet, mintEcnSet, mintReclaim, mintStatus, mintReclaimDone. (09_mint.md R210, 09_mint.md R211, 09_mint.md R217, 09_mint.md R218, 09_mint.md R224, 09_mint.md R227, 09_mint.md R514) -/
def Obligations.MintCommandsSetPoolsAndMaps : Prop :=
  ∀ (v : Via) (r : Request) (s : State) (a : List W32),
    let p := arg a 0
    let entries := (List.range 16).map fun i => arg a (1 + i)
    (Handed s v 0x0801 a r → 1 ≤ p → p ≤ 31 → kindOk p (arg a 1) = true → arg a 2 < 2 ^ 20 → badUnits (arg a 3) = false →
      badUnits (arg a 4) = false → badUnits (arg a 5) = false → badUnits (arg a 6) = false →
      (arg a 1 = 2 → arg a 5 < arg a 3 ∧ arg a 3 ≤ arg a 4 ∧ arg a 4 < arg a 2) → arg a 1 = (poolAt s p).kind →
      ((List.range 32).map fun i => if i = 0 then 0 else
        max (if i = p then arg a 2 else (poolAt s i).size) ((poolAt s i).used - (poolAt s i).borrowed)).sum + 4096 ≤ cellsTotal s →
      exec (.mintPoolSet v a) s = .next (answer v r Code.done [] (changePool p (fun q => { q with
        kind := arg a 1, size := arg a 2, warn := arg a 3 / 16, stop := arg a 4 / 16, resume := arg a 5 / 16, fair := arg a 6 / 16 }) s)))
    ∧ (Handed s v 0x0802 a r → badPort s p = false →
      (∀ i, i < 16 → arg a (1 + i) ≤ 255 ∧ arg a (1 + i) % 32 ≠ 31 ∧ (poolAt s (arg a (1 + i) % 32)).kind ≠ 0) →
      exec (.mintPortMap v a) s = .next (answer v r Code.done []
        { s with mint := { s.mint with portMap := tabSet [] s.mint.portMap p (if entries.all (· == 0) then [] else entries) } }))
    ∧ (Handed s v 0x0803 a r → badUnits p = false → badUnits (arg a 1) = false →
      exec (.mintColorSet v a) s =
        .next (answer v r Code.done [] { s with mint := { s.mint with yelFloor := p / 16, redFloor := arg a 1 / 16 } }))
    ∧ (Handed s v 0x0804 a r → badFront s p = false → arg a 1 < 2 ^ 16 → arg a 2 < 2 ^ 20 →
      ∃ t, exec (.mintEcnSet v a) s = .next (answer v r Code.done [] { s with mint := { s.mint with marks := t } })
        ∧ (tabWf 0 s.mint.marks = true → ∀ i, tabGet 0 t i =
            if i / 16 = p ∧ bit (arg a 1) (i % 16) = true then arg a 2 else tabGet 0 s.mint.marks i))
    ∧ (Handed s v 0x0805 a r → s.mint.reclaim = false →
      exec (.mintReclaim v a) s = .next (startJob v r .reclaim { s with mint := { s.mint with reclaim := true } }))
    ∧ (s.mint.reclaim = true →
      exec .mintReclaimDone s = .next (settleJobs (fun j => decide (j = .reclaim)) Code.done []
        { reclaimSweep s with mint := { (reclaimSweep s).mint with reclaim := false } }))
    ∧ (Handed s v 0x0881 a r → p ≤ 31 →
      exec (.mintStatus v a) s =
        .next (answer v r Code.done (bytesOf ([mntStatus s] ++ poolWords s p ++ two (ctrAt s (Ctr.mntPoolDrop p)).toNat)) s))

/-- Handed with arguments in range: QUEUE_SET, GROUP_SET and PORT_SET set group, order, quantum and shaper of exactly their nodes; CLASS_MAP the sixteen queue numbers; GATE_SET of a port without damping or LPI stores a list that waits for its trigger; LAG_SET and ECMP_SET of a group with no change in writing replace the members with bucket b at member b mod n; MEMBER_ADD and MEMBER_REMOVE on such a group start the bucket writes of R247 as a job; MIRROR_SET sets the session and clears its counts; TELEMETRY_SET stores the list that the next instant takes. GATE_STATUS and GROUP_GET return their words and change nothing. Exec answers a next state, the own effect, under conditions on state and operands alone, for: tellerQueueSet, tellerGroupSet, tellerPortSet, tellerClassMap, tellerGateSet, tellerLagSet, tellerEcmpSet, tellerMemberAdd, tellerMemberRemove, tellerMirrorSet, tellerTelemetrySet, tellerGateStatus, tellerGroupGet. (10_teller.md R230, 10_teller.md R232, 10_teller.md R235, 10_teller.md R238, 10_teller.md R239, 10_teller.md R247, 10_teller.md R248, 10_teller.md R249, 10_teller.md R250, 10_teller.md R515) -/
def Obligations.TellerCommandsSetTheirUnits : Prop :=
  ∀ (v : Via) (r : Request) (s : State) (a : List W32) (i : Nat),
    let p := arg a 0
    let newQueue : Node → Node := fun n => { n with
      group := arg a 2, strict := arg a 3 == 1, quantum := arg a 4, shaper := reshape s.cycles (arg a 5) (arg a 6) n.shaper }
    let next := some (arg a 1, (a.drop 2).take 16, (trigAt s (arg a 1)).fires)
    let newGroup : Node → Node := fun n =>
      { n with strict := arg a 2 == 1, quantum := arg a 3, shaper := reshape s.cycles (arg a 4) (arg a 5) n.shaper }
    (Handed s v 0x0701 a r → badFront s p = false → i < 16 → arg a 1 = 2 ^ i → arg a 2 ≤ 3 → arg a 3 ≤ 1 → quantumOk (arg a 4) = true →
      shapeOk (arg a 5) (arg a 6) = true →
      exec (.tellerQueueSet v a) s = .next (answer v r Code.done [] (modTx p (fun t => setNode i (newQueue (nodeAt t i)) t) s)))
    ∧ (Handed s v 0x0702 a r → badFront s p = false → arg a 1 ≤ 3 → arg a 2 ≤ 1 → quantumOk (arg a 3) = true → shapeOk (arg a 4) (arg a 5) = true →
      exec (.tellerGroupSet v a) s =
        .next (answer v r Code.done [] (modTx p (fun t => setNode (16 + arg a 1) (newGroup (nodeAt t (16 + arg a 1))) t) s)))
    ∧ (Handed s v 0x0703 a r → badFront s p = false → shapeOk (arg a 1) (arg a 2) = true →
      exec (.tellerPortSet v a) s =
        .next (answer v r Code.done [] (modTx p (fun t => { t with shaper := reshape s.cycles (arg a 1) (arg a 2) t.shaper }) s)))
    ∧ (Handed s v 0x0704 a r → badFront s p = false → (∀ j, j < 16 → arg a (1 + j) ≤ 15) →
      exec (.tellerClassMap v a) s =
        .next (answer v r Code.done [] (modTx p (fun t => { t with classMap := (List.range 16).map fun j => arg a (1 + j) }) s)))
    ∧ (Handed s v 0x0705 a r → badFront s p = false → arg a 1 ≤ 15 → arg a 3 = 1 → gateListOk s (arg a 1) (arg a 2) (gateEntries a (arg a 2)) = true →
      (fullAt s p).damp.en = false → (fullAt s p).damp.lpiEn = false → (txAt s p).gate.pending = none →
      exec (.tellerGateSet v a) s = .next (answer v r Code.done [] (modTx p (fun x => { x with gate := { x.gate with
        pending := some (some { trigger := arg a 1, entries := gateEntries a (arg a 2) }), pendSeen := (trigAt s (arg a 1)).fires } }) s)))
    ∧ (Handed s v 0x0706 a r → p < 256 → arg a 1 ≤ 64 → (∀ m ∈ memberList a, badMember s true m = false) → (memberList a).Nodup → changing s p = false →
      exec (.tellerLagSet v a) s = .next (answer v r Code.done [] (setGroup p (memberList a) s)))
    ∧ (Handed s v 0x0707 a r → p < 1024 → arg a 1 ≤ 64 → (∀ m ∈ memberList a, badMember s false m = false) → (memberList a).Nodup → changing s (256 + p) = false →
      exec (.tellerEcmpSet v a) s = .next (answer v r Code.done [] (setGroup (256 + p) (memberList a) s)))
    ∧ (groupIndex p (arg a 1) = some i → changing s i = false →
      (Handed s v 0x0708 a r → badMember s (decide (p = 1)) (arg a 2) = false → arg a 2 ∉ (groupAt s i).members →
          (groupAt s i).members.length < 64 →
        exec (.tellerMemberAdd v a) s =
          .next (startJob v r (.members i) { s with groups := tabSet {} s.groups i (addMember (groupAt s i) (arg a 2)) }))
      ∧ (Handed s v 0x0709 a r → badMember s (decide (p = 1)) (arg a 2) = false → arg a 2 ∈ (groupAt s i).members →
          1 < (groupAt s i).members.length →
        exec (.tellerMemberRemove v a) s = .next (startJob v r (.members i)
          { s with groups := tabSet {} s.groups i (removeMember (groupAt s i) ((groupAt s i).members.idxOf (arg a 2))) }))
      ) ∧ (groupIndex p (arg a 1) = some i →
      (Handed s v 0x0782 a r → exec (.tellerGroupGet v a) s =
          .next (answer v r Code.done (bytesOf (w32 (groupAt s i).members.length :: (groupAt s i).members.map w32)) s)))
    ∧ (Handed s v 0x070A a r → p ≤ 15 → badMirror s (arg a 1) = false → 1 ≤ arg a 2 → arg a 2 ≤ 65536 →
      ∃ t, exec (.tellerMirrorSet v a) s = .next (answer v r Code.done [] t)
        ∧ t = { s with mirrors := tabSet {} s.mirrors p ⟨bits (arg a 1) 15 14, bits (arg a 1) 9 0, bits (arg a 1) 13 10, arg a 2⟩, lkps := t.lkps })
    ∧ (Handed s v 0x070B a r → badSlice s p = false → arg a 1 ≤ 15 → 1000 ≤ trigPeriod s (arg a 1) → trigPeriod s (arg a 1) ≤ 1000000 →
      exec (.tellerTelemetrySet v a) s = .next (answer v r Code.done [] { s with tele := tabSet {} s.tele p { tabGet {} s.tele p with next := next } }))
    ∧ (Handed s v 0x0781 a r → badFront s p = false →
      exec (.tellerGateStatus v a) s = .next (answer v r Code.done (bytesOf [tlrGate s p, w32 (gatesNow (txAt s p))]) s))

/-- A frame that starts on a front port of a running slice whose eMAC is idle, with a free chit, gets that chit, provisional, with its bytes, port and station match; with no chit left the eMAC receives it without one and it is counted. A due cell of a frame not too long, with room in the receive bridge, joins the chain when the Mint grants it, and a refused first cell withdraws the frame. A pMAC fragment in sequence is appended. When a port's frame ends, the decoder's report is counted; a good FCS and an allowed length count it and it may settle; a bad FCS or a byte in an uncorrectable codeword voids it with cause 1, an oversized frame with cause 2, an overrun of the bridge with cause 3. An inject chain that R358 refuses counts; a good one that is not DIRECT enters S0 on port 512. Exec answers a next state, the own effect, under conditions on state and operands alone, for: frameStart, cellAllocate, frameEnd, fragmentReceive, injectFrame. (01_architecture.md R24, 01_architecture.md R25, 02_ports_mac.md R40, 02_ports_mac.md R46, 02_ports_mac.md R63, 09_mint.md R207, 09_mint.md R212, 15_host.md R358) -/
def Obligations.FramesEnterThroughTheirEvents : Prop :=
  ∀ (s : State) (p n : Nat) (bs : List Byte) (f : Frag) (c : Chit) (g : RxFrame),
    let k := portSlice p
    let u := frameBoundary p s
    (p < 512 → sliceEnabled s k = true → receives s p = true → bs ≠ [] → n < 262144 → (portAt s p).cfg.loopback ≠ 1 → (rxAt s p).emac = none →
        s.dev.moving ≠ some k →
      (exhausted s k = false → freeChit s k n = true →
        ∃ d, exec (.frameStart p n false bs) s =
            .next (setRx p false (some { chit := some (n, u.chitSeq), bytes := bs }) (allocate p n false bs none u))
          ∧ chitAt (allocate p n false bs none u) n = some d ∧ d.status = .provisional ∧ d.port = p ∧ d.bytes = bs
          ∧ d.station = stationMatch u p bs ∧ d.rxAt = timeTotal s ∧ d.hold = true)
      ∧ (exhausted s k = true →
        exec (.frameStart p n false bs) s = .next (bump (Ctr.lkpChitExh k) (setRx p false (some { chit := none, bytes := bs }) u))))
    ∧ (n < 262144 → coreRuns s (chitSlice n) = true → chitAt s n = some c → cellDue c = true → c.chain = [] →
        (isFront c.port && cellTooLong (portAt s c.port).cfg.maxLen 0 c) = false →
      (∀ borrow cell, grant s (framePool s n c).1 = some borrow →
        findCell s (if c.plain then 131072 else cellsTotal s) (chitIndex n % 16) = some cell →
        exec (.cellAllocate n true) s = .next (bridgeFeed n (plainFinish n (joinLine n
          (modChit n (fun c => { c with chain := c.chain ++ [(cell, borrow)], pool := (framePool s n c).1, pri := (framePool s n c).2 })
            (cleanseCell cell (if c.pmac && !c.ended then 32 else cellWords c.bytes.length 0)
              (takeCell cell n (tabGet 0 s.gens n) (framePool s n c).1 (c.port * 8 + (framePool s n c).2) borrow s)))))))
      ∧ (grant s (framePool s n c).1 = none → exec (.cellAllocate n true) s = .next (refuseCell n (framePool s n c).1 c s)))
    ∧ (p < 512 → portEnabledByFuse s p = true → receives s p = true → f.start = false → (rxAt s p).pmac = some g → rxChit s g = some n →
      f.fragCnt = ((rxAt s p).frag + 1) % 4 → f.last = true →
      exec (.fragmentReceive p f) s =
        .next (modRx p (fun x => { x with frag := f.fragCnt, pmac := some { g with bytes := g.bytes ++ f.bytes } })
          (modChit n (fun c => { c with bytes := c.bytes ++ f.bytes }) (bumpMac Ctr.macRxFrag p 1 s))))
    ∧ (∀ pm r, p < 512 → portEnabledByFuse s p = true → coreRuns s k = true → rxFrame s p pm = some g → g.cut = false → rxChit s g = some n →
      64 ≤ g.bytes.length →
      let e := bridgeFeed n (modChit n (fun c => { c with ended := true }) (setRx p pm none (countPcs p r s)))
      let l := g.bytes.length
      (l ≤ (portAt s p).cfg.maxLen → r.hit = false → goodFcs g.bytes = true → isMacControl g.bytes = false →
        exec (.frameEnd ⟨p, pm⟩ ⟨true, r⟩) s = .next (plainFinish n (settleSpec n (modChit n (fun c => { c with fcsGood := true })
          (bumpMac Ctr.macRxOctets p l (bumpMac Ctr.macRxFrames p 1 e))))))
      ∧ (l ≤ (portAt s p).cfg.maxLen → r.hit = true ∨ goodFcs g.bytes = false →
        exec (.frameEnd ⟨p, pm⟩ ⟨true, r⟩) s = .next (voidChit n 1 (bumpMac Ctr.macRxFcsErr p 1 e)))
      ∧ ((portAt s p).cfg.maxLen < l → exec (.frameEnd ⟨p, pm⟩ ⟨true, r⟩) s = .next (voidChit n 2 (bumpMac Ctr.macRxOversize p 1 e)))
      ∧ exec (.frameEnd ⟨p, pm⟩ ⟨false, r⟩) s = .next (voidChit n 3 (bumpMac Ctr.macRxBridgeOvr p 1 e)))
    ∧ (∀ j, n < 16384 → coreRuns s 0 = true → canDma s = true → s.hif.inject = some j →
      let w1 := j.words.getD 1 0#32
      let w3 := j.words.getD 3 0#32
      let body := (j.buffers.map fun b => hostRead s b.1 b.2).flatten
      let bytes := body ++ fcsOf body
      let info : InjectInfo := ⟨bit w1.toNat 14, bit w1.toNat 15, fld w3 31 16, false, fld (j.words.getD 2 0#32) 23 0, fld w1 20 17, bit w1.toNat 16⟩
      (fld w1 13 0 < 64 ∨ fld w1 13 0 > 16352 ∨ (j.buffers.map fun b => b.2).sum ≠ fld w1 13 0 - 4 →
        exec (.injectFrame n) s = .next (endInject j (bump Ctr.hifInjBad s)))
      ∧ (64 ≤ fld w1 13 0 → fld w1 13 0 ≤ 16352 → (j.buffers.map fun b => b.2).sum = fld w1 13 0 - 4 → bit w1.toNat 21 = false →
        exhausted s 0 = false → freeChit s 0 n = true → receives s 512 = true → (rxAt s 512).emac = none →
        exec (.injectFrame n) s = .next (endInject j (bump Ctr.hifInjFrames
          (setRx 512 false (some { chit := some (n, s.chitSeq), bytes := bytes })
            (allocate 512 n false bytes (some info) (frameBoundary 512 s)))))))

/-- Once 64 bytes of a provisional frame have come, PRE_DECODE records tag and provisional class from the default or the PCP map, and launches the run-ahead lookup exactly when the frame's conditions hold. A hit whose entry names a port decides port and queue, another hit is deferred, a miss is counted. At its decision instant a depth-2 frame decides once, and goes express exactly when every condition of Table 07-2 holds and it has had no speculative copy; a decision that is already known to be wrong is stomped. Exec answers a next state, the own effect, under conditions on state and operands alone, for: preDecode, runAheadResult, expressDecision. (03_harp_engines.md R79, 03_harp_engines.md R80, 03_harp_engines.md R81, 03_harp_engines.md R82, 07_settlement.md R172) -/
def Obligations.RunAheadAndExpressDecideEarly : Prop :=
  ∀ (s : State) (n p q : Nat) (c : Chit), n < 262144 → coreRuns s (chitSlice n) = true → chitAt s n = some c →
    let k := chitSlice n
    let tag := outerTag s k c.bytes
    let tci := half c.bytes 15
    let key := runAheadKey c.bytes (if tag then tci % 4096 else 0) c.ra.defSeg
    (c.preDone = false → 64 ≤ c.bytes.length → c.status = .provisional → c.inject = none →
      exec (.preDecode n) s = .next (bumpIf (launches c) (Ctr.hrpRaLaunch k) (modChit n (fun c => { c with
        preDone := true, tagged := tag, raLaunched := launches c, raAsked := if launches c then some (c.ra.raTable, key) else none
        provCls := if tag then fld c.ra.pcpMap (4 * bits tci 15 13 + 3) (4 * bits tci 15 13) else c.ra.defClass }) s)))
    ∧ (∀ t x, c.raAsked = some (t, x) →
      let r := lookupIn s (k / 4) t x
      let u := modChit n (fun c => { c with raAsked := none }) (countLookup k t (some n) r s)
      (r.hit = false → exec (.runAheadResult n) s = .next (bump (Ctr.hrpRaMiss k) u))
      ∧ (r.hit = true → bits r.data 11 10 ≠ 0 → exec (.runAheadResult n) s = .next (bump (Ctr.hrpRaDefer k) u))
      ∧ (r.hit = true → bits r.data 11 10 = 0 → exec (.runAheadResult n) s = .next (bump (Ctr.hrpRaHit k)
          (modChit n (fun c => { c with raDec := some (bits r.data 9 0, queueFor u (bits r.data 9 0) c.provCls) }) u))))
    ∧ (c.raDec = some (p, q) → c.decided = false → c.status = .provisional → c.depth = 2 → (portAt s p).cfg.expMinLen ≤ c.bytes.length →
      let u := catchUp p (modChit n (fun c => { c with decided := true }) s)
      (expressOk u n c p q = true → c.specPort = none → exec (.expressDecision n) s =
        .next (settleSpec n (if expressWrong c then stompSpec n .wrong false (startSpec .express n p q u) else startSpec .express n p q u)))
      ∧ (expressOk u n c p q = false → exec (.expressDecision n) s = .next u))
    ∧ (expressOk s n c p q = true → c.depth = 2 ∧ c.station = none ∧ isFront c.port = true ∧ isFront p = true
        ∧ (txAt s p).tx = none ∧ queueAt (txAt s p) q = [] ∧ bit (portAt s p).cfg.expClass c.provCls = true)

/-- The frame at the head of the dispatcher's line gets the free thread of a good engine, starts at the active bank's entry with the dispatch registers, and takes the next dispatch number. HARP_SWAP with a swap waiting makes the staged bank active. CLASS_UPDATE_BOUNDARY puts the waiting set in force. A mapped engine that faults has its frames voided and is repaired from the spares, which ends a check of it when no spare is left; a check that ends good makes the engine good and completes HARP.ENGINE_CHECK. Exec answers a next state, the own effect, under conditions on state and operands alone, for: harpDispatch, harpSwap, classUpdateBoundary, engineFault, engineCheckDone. (03_harp_engines.md R83, 03_harp_engines.md R84, 03_harp_engines.md R100, 03_harp_engines.md R101, 03_harp_engines.md R104, 03_harp_engines.md R105, 03_harp_engines.md R106, 05_classification.md R142) -/
def Obligations.DispatchSwapAndEngineEvents : Prop :=
  ∀ (s : State) (n e t k : Nat) (c : Chit) (good : Bool),
    (n < 262144 → e < 64 → t < 8 → chitAt s n = some c → (harpAt s (chitSlice n)).waiting.head? = some n →
      tabGet none (harpAt s (chitSlice n)).threads (8 * e + t) = none → engineCond (harpAt s (chitSlice n)) e = .good → coreRuns s (chitSlice n) = true →
      let h := harpAt s (chitSlice n)
      ∃ u d, exec (.harpDispatch n e t) s = .next u ∧ chitAt u n = some d
        ∧ d.parse = some { th := 8 * e + t, bank := h.active, pc := (bankOf h h.active).entry, regs := dispatchRegs n c }
        ∧ d.disp = some (lkpAt s (chitSlice n)).dispSeq ∧ d.setVer = (classAt s (chitSlice n)).ver ∧ d.bytes = c.bytes
        ∧ (harpAt u (chitSlice n)).waiting = h.waiting.tail ∧ tabGet none (harpAt u (chitSlice n)).threads (8 * e + t) = some n
        ∧ (∀ m, m ≠ n → chitAt u m = chitAt s m))
    ∧ (sliceEnabled s k = true → (harpAt s k).swap = true → exec (.harpSwap k) s = .next (leaveJobs k true (swapBank k s)))
    ∧ (tabWf {} s.harps = true → (harpAt (swapBank k s) k).active = 1 - (harpAt s k).active ∧ (harpAt (swapBank k s) k).swap = false
        ∧ ∀ j, j ≠ k → harpAt (swapBank k s) j = harpAt s j)
    ∧ (∀ v, sliceEnabled s k = true → (classAt s k).next = some v →
      exec (.classUpdateBoundary k) s = .next (leaveJobs k false (applySet k s))
        ∧ (classAt (applySet k s) k).now = v ∧ (classAt (applySet k s) k).next = none ∧ (classAt (applySet k s) k).ver = (classAt s k).ver + 1)
    ∧ (sliceEnabled s k = true → e < 64 → (physEngine (harpAt s k) e).isSome = true →
      exec (.engineFault k e) s =
        .next (countWaits k (engineChecked k e
          (repairEngine k e ((onEngine s k e).foldl (fun s n => voidChit n 9 (bump (Ctr.hrpFaultVoid k) s)) s)))))
    ∧ (∀ x, sliceEnabled s k = true → e < 64 → engineCond (harpAt s k) e = .checking → physEngine (harpAt s k) e = some x →
      exec (.engineCheckDone k e true) s = .next (settleJobs (fun j => decide (j = .engineCheck k e)) Code.done []
        (modHarp k (fun h => match physEngine h e with | some x => setCond x .good h | none => h) s)))
    ∧ (∀ x, sliceEnabled s k = true → e < 64 → engineCond (harpAt s k) e = .checking → physEngine (harpAt s k) e = some x →
      spares (setCond x .bad (harpAt s k)) = [] → exec (.engineCheckDone k e good) s =
        .next (settleJobs (fun j => decide (j = .engineCheck k e)) Code.done []
          (if good then modHarp k (fun h => match physEngine h e with | some x => setCond x .good h | none => h) s else repairEngine k e s)))

/-- With no poisoned rule the winning rule is the first valid one in ascending order that matches the key and the reports. A record that leaves the Harp, with all its requests returned and its earlier frames of the port classified, is classified once; the chit then holds the classified record. A dropped record voids the frame with cause 6. A frame with a station match that is not dropped is trapped for the station reason; a segment miss follows R167. Exec answers a next state, the own effect, under conditions on state and operands alone, for: classify. (05_classification.md R134, 05_classification.md R135, 05_classification.md R136, 05_classification.md R140, 05_classification.md R144, 06_exact_match.md R167, 10_teller.md R249) -/
def Obligations.ClassificationAppliesTheFirstMatchingRule : Prop :=
  ∀ (s : State) (n : Nat) (c : Chit) (ws : List W32),
    let k := chitSlice n
    let x := classified n k c ws s
    let u := countClass k n c (recOf ws) x.2.1 x.2.2
    let m := sampleMirror k x.1 u
    let v := pruneSets k (modChit n (fun c => { c with cls := some x.1, mirrorSel := m.1, learns := if x.1.learnEn then c.learns else [] }) m.2)
    (n < 262144 → coreRuns s k = true → chitAt s n = some c → c.record = some ws → c.cls = none → c.status = .provisional →
      returned c = true → inOrder s n c (fun d => d.cls.isSome) = true →
      (x.1.action = 1 → exec (.classify n) s = .next (voidChit n 6 v))
      ∧ (x.1.action ≠ 1 → x.1.raConfirm = true → ptpEvent x.1 c.bytes = false → exec (.classify n) s = .next v)
      ∧ (x.1.action ≠ 1 → (x.1.raConfirm = false ∨ ptpEvent x.1 c.bytes = true) → exec (.classify n) s = .next (stompSpec n .wrong false v))
      ∧ ∃ d, chitAt v n = some d ∧ d.cls = some x.1 ∧ d.status = .provisional)
    ∧ (∀ rules : Tab (List W32), (∀ i, poisoned s (.rule k i) = false) → winningRule s k c (recOf ws) rules =
        (rules.find? fun e => ruleMatches (ruleReport s k c (recOf ws)) (ruleKey c (recOf ws)) e.2, 0))
    ∧ (c.station ≠ none → x.1.action = 1 ∨ x.1.action = 2 ∧ x.1.trapReason = reasonStation)
    ∧ (∀ rep key w, ruleMatches rep key w = true ↔ bit (ruleWord w 3).toNat 27 = true ∧ key &&& ruleKeyM w = ruleKeyV w
        ∧ ∀ t ∈ ruleTerms w, termHolds rep t = true)

/-- A classified frame whose earlier frames of the port are admitted, a pMAC frame once it has ended, is policed once: both meters run, a meter's drop voids it with cause 10, an overdrawn purse with cause 11, else it is admitted. A debit never exceeds its bucket and red takes nothing; a refreshed meter's buckets stay within their caps. METER_REFRESH refreshes a meter in use. TREASURY_SWEEP passes every tenant, keeps what the pass leaves for METER.TENANT_GET, and counts one sweep; a normal pass leaves no debt in the Treasury and creates no token beyond its rate. Exec answers a next state, the own effect, under conditions on state and operands alone, for: police, treasurySweep, meterRefresh. (08_policing.md R187, 08_policing.md R188, 08_policing.md R190, 08_policing.md R193, 08_policing.md R194, 08_policing.md R197, 08_policing.md R198, 08_policing.md R201, 08_policing.md R202) -/
def Obligations.PolicingChargesMetersAndPurses : Prop :=
  ∀ (s : State) (n k m : Nat) (c : Chit) (r : Rec),
    (n < 262144 → coreRuns s (chitSlice n) = true → chitAt s n = some c → c.cls = some r → c.status = .provisional → c.admitted = false → (c.pmac = false ∨ c.ended = true) →
      r.action ≠ 1 → inOrder s n c (fun d => d.admitted) = true →
      let k := chitSlice n
      let x := runMeters n k c.bytes.length r s
      let g := x.1
      let color := if g.color = 3 then 0 else g.color
      let u := bumpIf (g.pcpDei.isSome || g.dscp.isSome) (Ctr.mtrRemark k)
        (modChit n (fun c => { c with color := color, debits := g.debits, pcpDei := g.pcpDei, dscp := g.dscp })
          (tallyFrame (16 * k + 3) c.port c.bytes.length n (countColor k color x.2)))
      let y := spend k r.tenant c.bytes.length u
      (g.drop = true → exec (.police n) s = .next (voidChit n 10 (bump (Ctr.mtrDrop k) u)))
      ∧ (g.drop = false → y.1 = true → exec (.police n) s = .next (admitFrame n g y.2.1 y.2.2))
      ∧ (g.drop = false → y.1 = false → exec (.police n) s =
          .next (voidChit n 11 (tallyEvent (16 * k + 3) 7 1 (fun q => decide (q = r.tenant)) (some n) y.2.2))))
    ∧ (∀ mode input t1 t2 b, let d := decideColor mode input t1 t2 b
        d.2.1 ≤ t1 ∧ d.2.2 ≤ t2 ∧ d.1 ≤ 2 ∧ (d.1 = 2 → d.2.1 = 0 ∧ d.2.2 = 0) ∧ (input ≤ d.1 ∨ input > 2))
    ∧ (∀ now (w : Meter), (refreshed now w).cfg.mode ≠ 0 → (refreshed now w).t1 ≤ cap1 (refreshed now w).cfg
        ∧ (refreshed now w).t2 ≤ cap2 (refreshed now w).cfg)
    ∧ (sliceEnabled s k = true → m < 16384 → (meterAt s k m).cfg.mode ≠ 0 → poisoned s (.meter k m) = false →
      exec (.meterRefresh k m) s = .next (setMeter k m (refreshed (ns32 s) (meterAt s k m)) s))
    ∧ (tabWf {} s.tenants = true → s.mem.poison = [] →
      ∃ t, exec .treasurySweep s = .next t ∧ (∀ i, let w := (tenantPass (sliceOn s) (tenantAt s i)).1
          tenantAt t i = { w with passTreasury := w.treasury, passPurses := w.purses })
        ∧ t = { s with tenants := t.tenants, ctr := t.ctr })
    ∧ (∀ v : Tenant, tabWf 0 v.purses = true → (∀ e ∈ v.purses, e.1 < 16) → 0 ≤ v.treasury →
      let w := (normalPass (fun _ => true) v).1
      0 ≤ w.treasury ∧ w.demand = []
        ∧ w.treasury + (w.purses.map fun e => e.2).sum ≤ v.treasury + v.actRate * 500 + (v.purses.map fun e => e.2).sum)

/-- An admitted frame with a good FCS and a whole chain that is not for the host requests its enqueue once; the Teller, once no earlier frame of its port is on the way to its queue, voids it with cause 13 when its colour is refused, else it settles with its copy. A trapped frame voids with cause 13 when pool 31 is full, else it settles and its punt is offered. An idle front port in full service without a preempting choice brings its gates up to date, discards the heads that may not go, and starts the copy its selection gives; a port in Plain service serves queue 0. The highest-numbered eligible strict child wins. A shaper refills to at most its cap. Exec answers a next state, the own effect, under conditions on state and operands alone, for: enqueueRequest, tellerEnqueue, trapAccept, tellerSelect, shaperRefill. (07_settlement.md R176, 09_mint.md R213, 09_mint.md R214, 10_teller.md R231, 10_teller.md R232, 10_teller.md R235, 18_reset_bringup.md R431, 02_ports_mac.md R61) -/
def Obligations.EnqueueTrapAndSelection : Prop :=
  ∀ (s : State) (n p i : Nat) (c : Chit) (r : Rec),
    (n < 262144 → coreRuns s (chitSlice n) = true → chitAt s n = some c → c.cls = some r → c.status = .provisional →
      (c.admitted = true → c.fcsGood = true → c.requested = false → chainWhole c = true → forHost r = false → specServes s n c r = false →
        exec (.enqueueRequest n) s = .next (modChit n (fun c => { c with requested := true }) s))
      ∧ (c.requested = true → overtakes s n c r = false → colorRefuses s c = true → exec (.tellerEnqueue n) s = .next (voidChit n 13 (bump Ctr.mntColorRefuse s)))
      ∧ (∀ e, c.requested = true → overtakes s n c r = false → colorRefuses s c = false → (finalDest s r).map (fun x => portSlice x.1) = some e →
        exec (.tellerEnqueue n) s = .next (settleWith (dispatchCopy n) n
          (modChit n (fun c => { c with enqueued := true }) (tallyFrame (16 * e + 4) c.port c.bytes.length n s))))
      ∧ (c.admitted = true → c.fcsGood = true → chainWhole c = true → forHost r = true →
        let move := (c.chain.filter fun e => match tabGet none s.mint.cells e.1 with | some x => decide (x.pool ≠ 31) | none => false).length
        ((poolAt s 31).used + move ≤ (poolAt s 31).size → exec (.trapAccept n) s =
          .next (settleWith (fun s => match addRef n s with | some s => offerPunt n c r s | none => dropAdmitted (chitSlice n) 512 n (bump Ctr.mntRefLimit s)) n
            (if move = 0 then s else chargeTrap n c s)))
        ∧ ((poolAt s 31).size < (poolAt s 31).used + move → exec (.trapAccept n) s = .next (voidChit n 13 (bump Ctr.mntP31Drop s)))))
    ∧ (p < 512 → portEnabledByFuse s p = true → mayStart s p = true →
      (plainSlice s (portSlice p) = true → (txAt s p).tx = none → exec (.tellerSelect p false 0) s = .next (startCopy p 0 s))
      ∧ (let u := pruneHeads p (catchUp p s)
        ∀ q t, plainSlice s (portSlice p) = false → (portAt u p).pre.active = false → (txAt u p).tx = none →
        (txAt u p).susp = none → selectQueue u p (fun _ => true) = some (q, t) →
        exec (.tellerSelect p false 0) s = .next (startCopy p q (modTx p (fun _ => t) u))))
    ∧ (∀ (cs : List Child) (d : Dwrr) (x : Child), (cs.filter fun x => x.strict && x.elig).getLast? = some x →
        selectChild cs d = some (x.id, d))
    ∧ (∀ (cs : List Child) (d d' : Dwrr) (j : Nat), selectChild cs d = some (j, d') → ∃ x ∈ cs, x.id = j ∧ x.elig = true)
    ∧ (p < 512 → portEnabledByFuse s p = true → i ≤ 20 → exec (.shaperRefill p i) s = .next (modTx p (fun t =>
        if i < 20 then setNode i { nodeAt t i with shaper := refill s.cycles (nodeAt t i).shaper } t
        else { t with shaper := refill s.cycles t.shaper }) s))
    ∧ (∀ (now : Nat) (h : Shaper), h.rate ≠ 0 → (refill now h).s ≤ 8000 * h.burst ∧ (refill now h).at_ = now
        ∧ (h.s + h.rate * ((now : Int) - h.at_) ≤ 8000 * h.burst → (refill now h).s = h.s + h.rate * ((now : Int) - h.at_)))

/-- A buffer copy of an unpoisoned chain, or a speculative copy of a settled frame, goes out with its good FCS; a speculative copy of a frame that voided is stomped. A copy whose FCS has gone out ends: its bits count toward damping, and it releases its chit reference. An underrun of a copy that has begun stomps it; a first buffer copy is queued again at the head, a speculative one is re-dispatched if its frame has settled. A gate cycle puts a waiting list in force at a new instant of its trigger; an entry whose interval has passed gives way to the next. At a new instant telemetry samples its ports. Exec answers a next state, the own effect, under conditions on state and operands alone, for: egressFcs, copyEnd, txUnderrun, gateCycleStart, gateEntryEnd, telemetrySample. (01_architecture.md R30, 01_architecture.md R32, 02_ports_mac.md R45, 07_settlement.md R181, 09_mint.md R219, 09_mint.md R223, 10_teller.md R238, 10_teller.md R239, 10_teller.md R245) -/
def Obligations.CopiesEndAndGatesTurn : Prop :=
  ∀ (s : State) (p k : Nat) (c : Chit) (t : Tx) (l : GateList),
    (p < 512 → portEnabledByFuse s p = true → (txAt s p).tx = some t →
      (t.fcs = none → t.began = true → t.closeAt = none → chitAt s t.copy.chit = some c →
        let u := bumpMac Ctr.macTxUnderrun p 1 s
        ((∀ m, t.copy.kind = .forward ∨ t.copy.kind = .mirror m → chainPoisoned s c = (none, false) →
            exec (.egressFcs p) s = .next (sendGood p t c s))
        ∧ (t.copy.kind = .express ∨ t.copy.kind = .cut →
          (c.status = .settled → exec (.egressFcs p) s = .next (sendGood p t c s))
          ∧ (c.status = .voided → c.ended = true → exec (.egressFcs p) s = .next (stompSpec t.copy.chit .void true s))
          ∧ exec (.txUnderrun p) s = .next (redispatch t.copy.chit (failSpec p t u)))
        ∧ (t.copy.kind = .forward → t.copy.again = false → c.refs < 1023 → exec (.txUnderrun p) s = .next (stompTx p t t.copy.len
            (modTx p (fun x => setQueue t.copy.queue ({ t.copy with again := true } :: queueAt x t.copy.queue) x)
              (modChit t.copy.chit (fun c => { c with refs := c.refs + 1 }) u))))
        ∧ (t.copy.kind = .forward → t.copy.again = true → exec (.txUnderrun p) s = .next (stompTx p t t.copy.len (loseCopy p t.copy u)))))
      ∧ (t.fcs ≠ none →
        let e := modPort p (fun q => { q with damp := { q.damp with idleAt := s.cycles } }) (modTx p (fun x => { x with tx := none }) s)
        exec (.copyEnd p) s = .next (dropRef t.copy.chit (if t.bytes.isEmpty then e
          else loopBack p (isPmac e p t.copy.queue) t.bytes (noteSent p (8 * (t.bytes.length + 20)) e)))))
    ∧ (p < 512 → portEnabledByFuse s p = true → (txAt s p).gate.pending = some (some l) → (trigAt s l.trigger).fires ≠ (txAt s p).gate.pendSeen →
      let a := (trigAt s l.trigger).lastAt
      exec (.gateCycleStart p) s = .next (gateHold p (modTx p (fun x => { x with gate := { x.gate with
        oper := some l, entry := 0, entryAt := a, cycleAt := a, pending := none, seen := (trigAt s l.trigger).fires } }) s)))
    ∧ (p < 512 → portEnabledByFuse s p = true → (txAt s p).gate.oper = some l → (txAt s p).gate.entry + 1 < l.entries.length →
      (txAt s p).gate.entryAt + (l.entries.getD (txAt s p).gate.entry (0, 0)).2 ≤ timeTotal s →
      let a := (txAt s p).gate.entryAt + (l.entries.getD (txAt s p).gate.entry (0, 0)).2
      let e := (txAt s p).gate.entry + 1
      exec (.gateEntryEnd p) s = .next (gateHold p (modTx p (fun x => { x with gate := { x.gate with entry := e, entryAt := a } }) s)))
    ∧ (∀ v : Telemetry, sliceEnabled s k = true → tabGet {} s.tele k = v → v.next = none → v.on = true → (trigAt s v.trigger).fires ≠ v.seen →
      exec (.telemetrySample k) s = .next ((List.range 32).foldl (samplePort k (trigAt s v.trigger).lastAt v.mask)
        { s with tele := tabSet {} s.tele k { v with seen := (trigAt s v.trigger).fires } }))
    ∧ (∀ x : TxPort, gatesNow x = match x.gate.oper with | some l => (l.entries.getD x.gate.entry (0xFFFF, 0)).1 | none => 0xFFFF)

/-- At a due instant of the ledger trigger on a running device whose first epoch may end a boundary is taken; when the next bank is FREE and nothing merges, the OPEN bank becomes CLOSED with its grace window open and its outlet map, and the next becomes OPEN with the next epoch; otherwise the instants merge into the OPEN bank. Either way the outlet map and a newly named trigger take effect. A grace window ends after 100 us; a CLOSED bank without one and with no energy to come is sealed; a drain takes the oldest SEALED bank, zeroes its rows, writes while the archive has room, resumes when paused, and its end frees the bank and archives its epoch. Exec answers a next state, the own effect, under conditions on state and operands alone, for: ledgerEpochBoundary, graceWindowEnd, bankSeal, drainStart, drainResume, drainDone. (11_ledger.md R258, 11_ledger.md R259, 11_ledger.md R260, 11_ledger.md R261, 11_ledger.md R262, 11_ledger.md R264, 11_ledger.md R268) -/
def Obligations.LedgerEpochsCloseSealAndDrain : Prop :=
  ∀ (s : State) (d : Drain) (b : Nat) (rest : List Nat),
    (∀ x : Instant, s.led.due = [x] → x.trig = s.led.trigger → s.dev.asserted = 0 → 5 ≤ s.dev.step →
        (s.led.zero = false ∨ s.led.merging = true ∨ allFull s = true) →
      let u := { s with led := { s.led with due := [] } }
      let next := (bankAt s ((s.led.open_ + 1) % 3)).state
      (mustMerge s = false → next = 0 → x.n = 1 → exec .ledgerEpochBoundary s = .next (takeBuffered (swapBanks x.at_ x.cycle u)))
      ∧ (mustMerge s = true ∨ next ≠ 0 → exec .ledgerEpochBoundary s = .next (takeBuffered (mergeEpochs x.n u))))
    ∧ (∀ at_ cycle, s.led.open_ < 3 → tabWf {} s.led.banks = true →
      let t := swapBanks at_ cycle s
      let o := s.led.open_
      t.led.open_ = (o + 1) % 3 ∧ t.led.epoch = (s.led.epoch + 1) % 2 ^ 32 ∧ (bankAt t o).state = 2 ∧ (bankAt t o).grace = true
        ∧ (bankAt t o).endAt = at_ ∧ (bankAt t o).closedAt = cycle ∧ (bankAt t o).map = s.led.mapAct ∧ (bankAt t o).rows = (bankAt s o).rows ∧ (bankAt t ((o + 1) % 3)).state = 1
        ∧ (bankAt t ((o + 1) % 3)).epoch = (s.led.epoch + 1) % 2 ^ 32 ∧ (bankAt t ((o + 1) % 3)).rows = []
        ∧ bankAt t ((o + 2) % 3) = bankAt s ((o + 2) % 3))
    ∧ (∀ n, (bankAt s s.led.open_).state = 1 →
      let t := mergeEpochs n s
      t.led.open_ = s.led.open_ ∧ t.led.epoch = (s.led.epoch + n) % 2 ^ 32 ∧ (bankAt t s.led.open_).span = (bankAt s s.led.open_).span + n)
    ∧ (∃ t, exec .graceWindowEnd s = .next t ∧ t = { s with led := { s.led with banks := t.led.banks } }
        ∧ (tabWf {} s.led.banks = true → ∀ i, i < 3 → bankAt t i =
          if (bankAt s i).state = 2 ∧ (bankAt s i).closedAt + 100000 ≤ s.cycles then { bankAt s i with grace := false } else bankAt s i))
    ∧ ((∀ i, i < 3 → i ≠ b → (bankAt s i).state ≠ 2 ∨ (bankAt s i).grace = true) → b < 3 → (bankAt s b).state = 2 → (bankAt s b).grace = false → energyDue s (bankAt s b) = false →
      exec .bankSeal s = .next (sealBank b s) ∧ (bankAt (sealBank b s) b).state = 3 ∧ (sealBank b s).led.sealed = s.led.sealed ++ [b])
    ∧ (s.led.drain = none → s.led.sealed = b :: rest → s.mem.poison = [] →
      exec .drainStart s = .next (runDrain ⟨b, bankRecords s (bankAt s b), [], false⟩
        (setBank b { bankAt s b with state := 4, rows := [], plain := [] } { s with led := { s.led with sealed := rest } })))
    ∧ (s.led.drain = some d → d.paused = true → exec .drainResume s = .next (runDrain d s))
    ∧ (s.led.drain = some d → d.todo = [] → exec .drainDone s = .next (setBank d.bank {} { s with led := { s.led with
        drain := none, arch := s.led.arch ++ [{ epoch := (bankAt s d.bank).epoch, records := d.done }] } }))
    ∧ (∃ e, (runDrain d s).led.drain = some e ∧ e.done ++ e.todo = d.done ++ d.todo ∧ e.bank = d.bank ∧ (e.paused = true ↔ e.todo ≠ []))

/-- LEDGER.CONFIG of a trigger whose period is whole seconds from 1 to 3,600, with an archive size of at most 256 units that changes only while the archive is empty, names it and sets the size (0 leaves it, or 16 units at first). KEY_SET of a nonzero KEY_ID installs id, key and source. ACK of an epoch whose records have all been sent once, older than every bank in use, releases every epoch up to it and no other. REPLAY makes every archived epoch from the given one on due again from its first record. ROW_GET returns 144 bytes, STATUS eight words; they change nothing. Exec answers a next state, the own effect, under conditions on state and operands alone, for: ledgerConfig, ledgerKeySet, ledgerAck, ledgerReplay, ledgerRowGet, ledgerStatus. (11_ledger.md R266, 11_ledger.md R271, 11_ledger.md R273, 11_ledger.md R276, 11_ledger.md R516) -/
def Obligations.LedgerCommandsSetAndReport : Prop :=
  ∀ (v : Via) (r : Request) (s : State) (a : List W32),
    let e := arg a 0
    (Handed s v 0x0901 a r → e ≤ 15 → arg a 1 ≤ 256 → ledgerPeriod (trigAt s e).act.period = true →
      (arg a 1 = 0 ∨ arg a 1 = s.led.archSize ∨ s.led.arch = [] ∧ s.led.drain = none) →
      exec (.ledgerConfig v a) s = .next (answer v r Code.done [] (nameTrigger e { s with led := { s.led with
        archSize := if arg a 1 ≠ 0 then arg a 1 else if s.led.archSize = 0 then 16 else s.led.archSize } })))
    ∧ ((s.led.trigSet = false → (nameTrigger e s).led.trigger = e ∧ (nameTrigger e s).led.trigSet = true)
        ∧ (s.led.trigSet = true → (nameTrigger e s).led.trigger = s.led.trigger
          ∧ (nameTrigger e s).led.trigNext = if e = s.led.trigger then none else some e))
    ∧ (Handed s v 0x0902 a r → 1 ≤ e → e ≤ 255 →
      exec (.ledgerKeySet v a) s = .next (answer v r Code.done [] { s with led := { s.led with
        keyId := e, key := beBytes 16 (arg a 1 + arg a 2 * 2 ^ 32 + arg a 3 * 2 ^ 64 + arg a 4 * 2 ^ 96), source := arg a 5 + arg a 6 * 2 ^ 32 } }))
    ∧ (Handed s v 0x0903 a r → (∀ x ∈ s.led.arch, x.epoch ≤ e → x.once = true) →
      (∀ b, b < 3 → (bankAt s b).state = 0 ∨ e < (bankAt s b).epoch) →
      exec (.ledgerAck v a) s = .next (answer v r Code.done []
        { s with led := { s.led with arch := s.led.arch.filter fun x => decide (e < x.epoch) } }))
    ∧ (Handed s v 0x0904 a r → oldestEpoch s ≤ e →
      ∃ t, exec (.ledgerReplay v a) s = .next (answer v r Code.done [] { s with led := { s.led with arch := t } })
        ∧ t.length = s.led.arch.length ∧ ∀ (i : Nat) (x : ArchEpoch), s.led.arch[i]? = some x →
          t[i]? = some { x with sent := if e ≤ x.epoch then 0 else x.sent })
    ∧ (Handed s v 0x0981 a r → e < 16384 →
      exec (.ledgerRowGet v a) s = .next (answer v r Code.done (rowBytes (openRow s e)) s) ∧ (rowBytes (openRow s e)).length = 144)
    ∧ (Handed s v 0x0982 a r →
      ∃ ws : List W32, ws.length = 8 ∧ exec (.ledgerStatus v a) s = .next (answer v r Code.done (bytesOf ws) s) ∧ ws.getD 0 0#32 = ldgStatus s)

/-- On a running time block with no trigger due before it, TICK advances device time, by whole cycles of INCR each, to the first cycle that reaches the tick, and applies what waits for it; waiting error-log records then enter the log and ALERT_N follows. TRIGGER_FIRE advances so to the trigger's next instant and fires it once, with the count, the instant and the next instant of its grid. A full-width 1PPS output falls; a 1PPS edge is stamped and counted; a qualifying event edge is stamped into its queue, or counted lost when eight wait; the PLL locks. A read of TIM_TSQ_META or TIM_EV_META returns and removes the head and latches its timestamp; one of TIM_PPS_IN_NS latches the seconds. Exec answers a next state, the own effect, under conditions on state and operands alone, for: tsqMetaRead, evMetaRead, ppsInRead, tick, triggerFire, ppsWidthEnd, ppsInEdge, eventInputEdge, pllLock. (12_time.md R279, 12_time.md R284, 12_time.md R285, 12_time.md R293, 12_time.md R295, 12_time.md R297, 12_time.md R298, 12_time.md R299) -/
def Obligations.TimeEventsAdvanceFireAndCapture : Prop :=
  ∀ (s : State) (t n i : Nat) (rising : Bool) (e : TsqEntry) (rest : List TsqEntry) (x : Nat) (xs : List Nat),
    (timeRuns s = true → dueBefore s s.time.nextTick = false → exec .tick s = .next (alertUpdate (drainLog (tickNow s))))
    ∧ (t < 16 → (trigAt s t).next = some n → timeRuns s = true → n < s.time.nextTick → dueBefore s n = false →
      ∃ u, exec (.triggerFire t) s = .next u ∧ u = fire t (advanceTo n s))
    ∧ (timeTotal s < n → s.time.frac < 2 ^ 32 → s.time.incr ≠ 0 → n * 2 ^ 32 + s.time.incr ≤ 1000000000 * 2 ^ 80 →
      n ≤ timeTotal (advanceTo n s) ∧ timeExact (advanceTo n s) < n * 2 ^ 32 + s.time.incr
        ∧ timeExact (advanceTo n s) = timeExact s + ((advanceTo n s).cycles - s.cycles) * s.time.incr)
    ∧ ((trigAt s t).next = some n →
      let g := trigAt (fire t s) t
      g.fires = (trigAt s t).fires + 1 ∧ g.next = nextAfter (trigAt s t).act (timeTotal s)
        ∧ g.lastN = (passed (trigAt s t).act n (timeTotal s)).1 ∧ g.lastAt = (passed (trigAt s t).act n (timeTotal s)).2)
    ∧ (∀ c now m, nextAfter c now = some m → now < m ∧ (m = c.start ∨ c.period ≠ 0 ∧ m = c.start + (m - c.start) / c.period * c.period))
    ∧ (s.time.ppsOut = true → s.time.ppsAt + 1000 * ppsWidth s ≤ s.cycles →
      exec .ppsWidthEnd s = .next { s with time := { s.time with ppsOut := false } })
    ∧ (timeRuns s = true → exec .ppsInEdge s =
        .next (bump Ctr.ppsInCount { s with time := { s.time with ppsInNs := s.time.ns, ppsInSec := s.time.sec } }))
    ∧ (i < 4 → evQualifies (evAt s i) rising = true →
      ((evAt s i).queue.length < 8 → exec (.eventInputEdge i rising) s =
        .next (setEv i { evAt s i with armed := false, queue := (evAt s i).queue ++ [ns32 s] } s))
      ∧ (8 ≤ (evAt s i).queue.length → ∃ u, exec (.eventInputEdge i rising) s = .next u ∧ evAt u i = { evAt s i with armed := false }
          ∧ (tabWf 0#64 s.ctr = true → (ctrAt u (Ctr.evLost i)).toNat = ((ctrAt s (Ctr.evLost i)).toNat + 1) % 2 ^ 16)))
    ∧ (timeRuns s = true → exec .pllLock s = .next { s with time := { s.time with lock := true } })
    ∧ (t < 16 → (tsqAt s t).entries = e :: rest →
      let q : Tsq := { tsqAt s t with entries := rest, latch := e.ts }
      exec (.tsqMetaRead t) s = .next { s with
        rsp := packW [(0, e.tsId), (16, e.port), (26, 1)], time := { s.time with tsqs := tabSet {} s.time.tsqs t q } })
    ∧ (i < 4 → (evAt s i).queue = x :: xs →
      exec (.evMetaRead i) s = .next (setEv i { evAt s i with queue := xs, latch := x } { s with rsp := packW [(26, 1)] }))
    ∧ exec .ppsInRead s = .next { s with rsp := w32 s.time.ppsInNs, time := { s.time with ppsLatch := w32 s.time.ppsInSec } }

/-- TIME.TRIGGER_SET of a trigger not under change, with a period that R295 and every consumer of the trigger accept, is answered PENDING with the trigger disabled and its change waiting for ticks. TIME.STATUS returns 113 words and changes nothing. A write of TIM_INCR_HI commits it with TIM_INCR_LO for the next tick; a write of TIM_CTRL holds CLK_SRC, and a 1 in STEP_ARM arms a step; nothing else changes. A tick adopts a committed INCR in range and refuses another, keeping what was in force. Exec answers a next state, the own effect, under conditions on state and operands alone, for: timeTriggerSet, timeStatus, incrCommit, stepArm. (12_time.md R282, 12_time.md R283, 12_time.md R296, 16_titimus.md R392, 16_titimus.md R517) -/
def Obligations.TimeCommandsAndArming : Prop :=
  ∀ (v : Via) (r : Request) (s : State) (a : List W32) (val : W32),
    let t := arg a 0
    let p := arg a 5 + arg a 6 * 2 ^ 32
    (Handed s v 0x0A01 a r → t ≤ 15 → arg a 1 ≤ 1 → arg a 2 < 1000000000 → arg a 4 < 2 ^ 16 → badPeriod p = false → periodFits s t p = true →
      jobRunning (fun k => match k with | .trigger u .. => decide (u = t) | _ => false) s = false →
      exec (.timeTriggerSet v a) s =
        .next (startJob v r (.trigger t (arg a 1 == 1) (arg a 2) (arg a 3) (arg a 4) (arg a 5) (arg a 6) 0)
          (setTrig t { trigAt s t with held := { (trigAt s t).held with en := false }, dirty := true } s)))
    ∧ (Handed s v 0x0A81 a r →
      ∃ ws : List W32, ws.length = 113 ∧ exec (.timeStatus v a) s = .next (answer v r Code.done (bytesOf ws) s) ∧ ws.getD 0 0#32 = timCtrl s)
    ∧ exec (.incrCommit val) s = .next { s with time := { s.time with incrHi := val, incrCommit := some (s.time.incrLo, val) } }
    ∧ exec (.stepArm val) s =
        .next { s with time := { s.time with clkSrc := fld val 0 0, stepPending := s.time.stepPending || bit val.toNat 1 } }
    ∧ (∀ lo hi : W32, s.time.incrCommit = some (lo, hi) →
      let w := lo.toNat + hi.toNat * 2 ^ 32
      (0x0F0000000 ≤ w → w ≤ 0x110000000 → (tickIncr s).time.incr = w ∧ (tickIncr s).time.incrLo = s.time.incrLo)
      ∧ (w < 0x0F0000000 ∨ 0x110000000 < w → (tickIncr s).time.incr = s.time.incr ∧ (tickIncr s).time.incrHi = s.time.incrOld.2
          ∧ (tickIncr s).time.incrLo = if s.time.incrLo = lo then s.time.incrOld.1 else s.time.incrLo))

/-- Handed with arguments in range: CLOCK_SET and FRAME_SET set the group or frame trigger and start the decimators R304 names anew; INPUT_SET, OUTLET_SET, CYCLE_SET, FAN_SET and TRIP_SET store their settings, in force from the next cycle start, or at once while no cycle is to come; OUTPUT_SET sets masked levels and all duties; TRIP_CLEAR of outputs that no outlet still trips marks them; ENABLE with every output given drives the commanded set; DISABLE waits for the cycle start. OUTLET_GET and STATUS return their words and change nothing. Exec answers a next state, the own effect, under conditions on state and operands alone, for: consoleClockSet, consoleFrameSet, consoleInputSet, consoleOutletSet, consoleOutletGet, consoleCycleSet, consoleOutputSet, consoleFanSet, consoleTripSet, consoleTripClear, consoleEnable, consoleDisable, consoleStatus. (13_rack_console.md R301, 13_rack_console.md R304, 13_rack_console.md R306, 13_rack_console.md R308, 13_rack_console.md R311, 13_rack_console.md R313, 13_rack_console.md R314, 13_rack_console.md R315, 13_rack_console.md R318, 13_rack_console.md R321) -/
def Obligations.ConsoleCommandsSetTheConsole : Prop :=
  ∀ (v : Via) (r : Request) (s : State) (a : List W32),
    let n := arg a 0
    let on := arg a 1 == 1
    (∀ g : ConGroup, g = { groupOf s n with en := on, div := arg a 2, osr := arg a 3 } → Handed s v 0x0B01 a r → n ≤ 3 → arg a 1 ≤ 1 →
      40 ≤ arg a 2 → arg a 2 ≤ 100 → 64 ≤ arg a 3 → arg a 3 ≤ 1024 →
      (s.con.frameEn = true → framePeriod ((conGroups s).set n g) (trigAt s s.con.frameTrig).act.period = true) →
      (g = groupOf s n → exec (.consoleClockSet v a) s = .next (answer v r Code.done [] (setGroupOf n g s)))
      ∧ (g ≠ groupOf s n → exec (.consoleClockSet v a) s = .next (answer v r Code.done [] (armGroup n (setGroupOf n g s)))))
    ∧ (Handed s v 0x0B02 a r → n ≤ 15 → arg a 1 = 1 → s.con.frameEn = true → framePeriod (conGroups s) (trigAt s n).act.period = true →
      (∀ k, k < 4 → (groupOf s k).armed = none) →
      exec (.consoleFrameSet v a) s = .next (answer v r Code.done []
        { s with con := { s.con with frameTrig := n, frameEn := true, frameSeen := (trigAt s n).fires } }))
    ∧ (Handed s v 0x0B03 a r → n ≤ 63 → arg a 1 ≤ 1 → arg a 2 ≤ 3 → arg a 3 ≤ 1 →
      exec (.consoleInputSet v a) s = .next (answer v r Code.done []
        (conSettle (setInput n { inputAt s n with en := on, clk := arg a 2, invert := arg a 3 == 1 } s))))
    ∧ (∀ c : OutletCfg, c = ⟨on, arg a 2, arg a 3, arg a 4, arg a 5, sgn 16 (arg a 6), sgn 16 (arg a 7)⟩ → Handed s v 0x0B04 a r → n ≤ 31 →
      arg a 1 ≤ 1 → arg a 2 ≤ 63 → arg a 3 ≤ 63 → 1 ≤ arg a 4 → arg a 4 ≤ 4000000 → 1 ≤ arg a 5 → arg a 5 ≤ 4000000 → arg a 6 < 2 ^ 16 →
      arg a 7 < 2 ^ 16 → (inputAt s (arg a 2)).clk = (inputAt s (arg a 3)).clk →
      exec (.consoleOutletSet v a) s = .next (answer v r Code.done [] (conSettle (setOutlet n { outletAt s n with cfg := c } s))))
    ∧ (Handed s v 0x0B81 a r → n ≤ 31 →
      exec (.consoleOutletGet v a) s = .next (answer v r Code.done (bytesOf (conMeas s n)) s) ∧ (conMeas s n).length = 3)
    ∧ (Handed s v 0x0B05 a r → n ≤ 15 → arg a 1 ≤ 1 →
      (arg a 1 = 1 → 50000 ≤ (trigAt s n).act.period ∧ (trigAt s n).act.period ≤ 100000000) →
      exec (.consoleCycleSet v a) s = .next (answer v r Code.done []
        (conSettle { s with con := { s.con with cycleTrig := n, cycleEn := on, cycleSeen := (trigAt s n).fires } })))
    ∧ (Handed s v 0x0B06 a r → (∀ f, f < 8 → arg a (3 + f) ≤ 1000) → arg a 11 < 256 → noClaim s = false →
      ∃ t, exec (.consoleOutputSet v a) s = .next (answer v r Code.done [] (conSettle (showCommanded t)))
        ∧ t.con.duties = ((List.range 8).map fun f => arg a (3 + f))
        ∧ ∀ i, i < 32 → bit t.con.levels i = if bit n i = true then bit (arg a 1) i else bit s.con.levels i)
    ∧ (∀ c : FanCfg, c = ⟨on, arg a 2, sgn 8 (arg a 3), sgn 8 (arg a 4), arg a 5⟩ → Handed s v 0x0B07 a r → n ≤ 7 → arg a 1 ≤ 1 → arg a 2 ≤ 1000 →
      arg a 3 < 256 → arg a 4 < 256 → 1 ≤ arg a 5 → arg a 5 ≤ 4 →
      exec (.consoleFanSet v a) s = .next (answer v r Code.done [] (conSettle (setFan n { fanAt s n with cfg := c } s))))
    ∧ (Handed s v 0x0B08 a r → n ≤ 31 → arg a 1 ≤ 1 → 1 ≤ arg a 2 → arg a 2 ≤ 4000000 → 1 ≤ arg a 3 → arg a 3 ≤ 16 →
      ∃ t, exec (.consoleTripSet v a) s = .next (answer v r Code.done []
          (conSettle (setOutlet n { outletAt s n with trip := ⟨on, arg a 2, arg a 3, arg a 4⟩ } t)))
        ∧ t = { s with con := { s.con with acts := t.con.acts } }
        ∧ (tabWf {} s.con.acts = true → ∀ i, i < 32 → actAt t i =
            if bit (arg a 4) i = true then { actAt s i with safe := bit (arg a 5) i } else actAt s i))
    ∧ (Handed s v 0x0B09 a r → noClaim s = false → (∀ i, i < 32 → bit n i = true → tripHolds s i = false) →
      ∃ t, exec (.consoleTripClear v a) s = .next (answer v r Code.done [] t)
        ∧ (tabWf {} s.con.acts = true → ∀ i, i < 32 → actAt t i =
            if bit n i = true ∧ (actAt s i).tripped = true then { actAt s i with clearing := true } else actAt s i))
    ∧ (Handed s v 0x0B0A a r → (∀ i, i < 32 → (actAt s i).given = true) → (∀ f, f < 8 → (fanAt s f).given = true) → s.pair.mode ≠ 2 →
      s.con.outEn = false → exec (.consoleEnable v a) s = .next (answer v r Code.done []
        (applySetNow (s.con.levels, s.con.duties) { s with con := { s.con with everEn := true, outEn := true, disabling := false } })))
    ∧ (Handed s v 0x0B0B a r → s.pair.confirmed = false →
      exec (.consoleDisable v a) s =
        .next (answer v r Code.done [] { s with con := { s.con with disabling := s.con.outEn } }))
    ∧ (Handed s v 0x0B82 a r →
      ∃ ws : List W32, ws.length = 22 ∧ exec (.consoleStatus v a) s = .next (answer v r Code.done (bytesOf ws) s) ∧ ws.getD 0 0#32 = conStatus s)

/-- An armed, enabled group starts priming two outputs; a running group takes an output period. A frame instant is checked once. A fault marks an enabled input and counts, and its end primes it twice. A new instant of the control trigger starts one cycle and counts it. Before the next cycle start is due the control task commits its set, feeds the owner watchdog, and in MODE pair without a claim is late instead. A set applied leaves tripped outputs latched; a trip latches its outputs at SAFE. A tachometer edge clears STALL, a second without one sets it. Delivered energy is conserved to the fraction. Exec answers a next state, the own effect, under conditions on state and operands alone, for: decimatorStart, decimatorOutput, consoleFrameCheck, consoleCycleStart, controlTaskCommit, inputFaultOnset, inputFaultEnd, tachEdge, tachStall. (13_rack_console.md R303, 13_rack_console.md R304, 13_rack_console.md R307, 13_rack_console.md R310, 13_rack_console.md R312, 13_rack_console.md R313, 13_rack_console.md R314, 13_rack_console.md R315, 13_rack_console.md R317) -/
def Obligations.ConsoleEventsSampleTripAndCycle : Prop :=
  ∀ (s : State) (k c f n m : Nat) (st : List (Nat × List Bool)) (set : Nat × List Nat),
    (k < 4 → (groupOf s k).armed = some m → (groupOf s k).en = true → filterOn s = true → (trigAt s s.con.frameTrig).fires ≠ m →
      ∃ t, exec (.decimatorStart k) s = .next t
        ∧ groupOf t k = { groupOf s k with armed := none, run := true, priming := 2, runts := 0, fresh := true, periodAt := timeTotal s })
    ∧ (k < 4 → (groupOf s k).run = true → filterOn s = true →
      ∃ t, exec (.decimatorOutput k st) s = .next t ∧ t = decimatorOutput k st s ∧ (tabWf {} s.con.groups = true →
        groupOf t k = { groupOf s k with
          fresh := (groupOf s k).fresh && decide ((groupOf s k).priming > 0), priming := (groupOf s k).priming - 1
          runts := (groupOf s k).runts - 1, periodAt := timeTotal s }))
    ∧ (∀ (g : ConGroup) (i : ConInput) (raw : List Bool), (periodBits g i raw).length = g.osr)
    ∧ (s.con.frameEn = true → (trigAt s s.con.frameTrig).fires ≠ s.con.frameSeen → filterOn s = true → (∀ k, k < 4 → (groupOf s k).run = false) →
      exec .consoleFrameCheck s = .next { s with con := { s.con with frameSeen := (trigAt s s.con.frameTrig).fires } })
    ∧ (c < 64 → (inputAt s c).actEn = true → (inputAt s c).fault = false →
      exec (.inputFaultOnset c) s = .next (markGaps (bump Ctr.conInFault (setInput c { inputAt s c with fault := true } s))))
    ∧ (c < 64 → (inputAt s c).fault = true → (groupOf s (inputAt s c).actClk).en = true →
      exec (.inputFaultEnd c) s = .next (setInput c { inputAt s c with fault := false, priming := 2 } s))
    ∧ (s.con.cycleEn = true → (trigAt s s.con.cycleTrig).fires ≠ s.con.cycleSeen →
      ∃ t, exec .consoleCycleStart s = .next t ∧ t = cycleStart { s with con := { s.con with cycleSeen := (trigAt s s.con.cycleTrig).fires } }
        ∧ t.con.committed = none ∧ t.con.cycleAt = timeTotal s ∧ (t.con.taskRun = true ↔ t.con.task ≠ none))
    ∧ (s.con.task = some set → cycleDue s = false →
      (s.pair.mode ≠ 1 ∨ s.pair.confirmed = true → ∃ t d, exec .controlTaskCommit s = .next t ∧ t.con.task = none
        ∧ t.con.committed = some (set.1, d) ∧ d.length = 8 ∧ t.pair = { s.pair with ownerFed := s.cycles })
      ∧ (s.pair.mode = 1 → s.pair.confirmed = false → ∃ t, exec .controlTaskCommit s = .next t ∧ t.con.task = none
        ∧ t.con.committed = s.con.committed ∧ t.pair = s.pair))
    ∧ (∀ i, i < 32 → (actAt s i).tripped = true → (actAt s i).clearing = false → actAt (applySetNow set s) i = actAt s i)
    ∧ (let x := actAt (tripOutput n s) n; x.tripped = true ∧ x.level = (actAt s n).safe ∧ x.clearing = false)
    ∧ (f < 8 → ∃ t, exec (.tachEdge f) s = .next (setFan f t s) ∧ t.stall = false ∧ t.edges = (s.cycles :: (fanAt s f).edges).take 4
        ∧ ∀ e, (fanAt s f).edges[(fanAt s f).act.ppr - 1]? = some e → t.tachUs = min ((s.cycles - e) / 1000) (2 ^ 20 - 1))
    ∧ (f < 8 → (fanAt s f).edges.headD 0 + 1000000000 ≤ s.cycles →
      exec (.tachStall f) s = .next (setFan f { fanAt s f with stall := true } s))
    ∧ (∀ b, (bankAt s b).state = 1 → tabWf {} s.con.outlets = true → tabWf 0 (bankAt s b).energy = true → ∀ o, o < 32 →
        tabGet 0 (bankAt (deliverEnergy b s) b).energy o = (tabGet 0 (bankAt s b).energy o + (outletAt s o).acc / 65536) % 2 ^ 64
        ∧ (outletAt (deliverEnergy b s) o).acc = (outletAt s o).acc % 65536)

/-- A window of a monitor that is on sets its TEMPO, saturating at 4,095, and VALID and checks the guard. The next AVS write is one step toward the goal and never a lowering one under a fault; an answered one moves target and rail there, an unanswered one is a fault that lowers nothing. A read-back stores voltage and current; STRESS_UPDATE adds one growth a second. A pass adopts the lowest planned voltage that meets the setting, else demotes or ends without a plan. TUNE.RUN and CAPO_SET queue a pass and are answered PENDING; INTERVAL_SET sets its fields; STATUS and HISTORY return their words and change nothing. Exec answers a next state, the own effect, under conditions on state and operands alone, for: tuneRun, tuneCapoSet, tuneIntervalSet, tuneStatus, tuneHistory, tempoWindowEnd, avsWrite, avsReadback, tuningPass, stressUpdate. (14_tempo.md R323, 14_tempo.md R325, 14_tempo.md R326, 14_tempo.md R328, 14_tempo.md R332, 14_tempo.md R333, 14_tempo.md R335, 14_tempo.md R337, 14_tempo.md R338) -/
def Obligations.TempoMonitorsGuardAndStepTheSupply : Prop :=
  ∀ (v : Via) (r : Request) (s : State) (a : List W32) (m count mv cur : Nat) (tj : List Int) (c : PassCause) (q n : Nat),
    (m < 68 → monitorOn s m = true → 1 ≤ count → exec (.tempoWindowEnd m count) s = .next (guardCheck (modTmp (fun t =>
        { t with mons := tabSet {} t.mons m { tempo := min (262144000 / count) 4095, valid := true } }) s)))
    ∧ (overGuard s = true → s.tmp.target < 80 → s.tmp.guardWin ≠ some (s.cycles / 65536) →
      (guardCheck s).tmp.target = s.tmp.target + 1 ∧ (guardCheck s).tmp.goal ≥ s.tmp.target + 1)
    ∧ (s.tmp.rail = s.tmp.target → (∀ w ∈ s.tmp.avsAt, w + 20000 ≤ s.cycles) →
      (s.tmp.target < s.tmp.goal → nextWrite s = some (s.tmp.target + 1))
      ∧ (s.tmp.goal < s.tmp.target → nextWrite s = if s.tmp.avsFault then none else some (s.tmp.target - 1)))
    ∧ (nextWrite s = some n →
      exec (.avsWrite true) s = .next (finishPass (modTmp (fun t => { t with target := n, rail := n }) (modTmp (fun t => { t with avsAt := some s.cycles }) s)))
      ∧ exec (.avsWrite false) s = .next (finishPass (avsFail (modTmp (fun t => { t with avsAt := some s.cycles }) s))))
    ∧ (avsFail s).tmp.avsFault = true ∧ (avsFail s).tmp.target = s.tmp.target ∧ (avsFail s).tmp.goal = max s.tmp.goal s.tmp.target
    ∧ (∃ t, exec (.avsReadback mv cur true tj) s = .next t ∧ t.tmp.measured = mv % 1024 ∧ t.tmp.current = cur % 2048 ∧ t.tmp.target = s.tmp.target)
    ∧ (s.time.sec ≠ s.tmp.lastSec → let d := stressStep (hottest s) s.tmp.target
      exec .stressUpdate s = .next { s with tmp := { s.tmp with
        stress := s.tmp.stress + d, growth := (d :: s.tmp.growth).take 2592000, lastSec := s.time.sec } })
    ∧ (s.tcs.running = true → s.tmp.stepping = false → s.tmp.passes.head? = some c → exec .tuningPass s = .next (runPass c s))
    ∧ (treq (passSetting s c) = some q → let u := measure s
      (∀ w, w ≤ 80 → planLow (passSetting s c) ≤ w → meets u (ageIndex u) w q = true →
          (∀ x, x < w → planLow (passSetting s c) ≤ x → meets u (ageIndex u) x q = false) →
          runPass c s = adopt (passSetting s c) w (assess (passSetting s c) u))
      ∧ ((∀ x, x ≤ 80 → planLow (passSetting s c) ≤ x → meets u (ageIndex u) x q = false) →
          runPass c s = if passSetting s c = u.tmp.capo then demote c u else noMargin c u))
    ∧ (Handed s v 0x0E01 a r → jobRunning (fun j => decide (j = .tuneCapo)) s = false →
      exec (.tuneRun v a) s = .next (startJob v r .tuneRun { s with tmp := { s.tmp with passes := s.tmp.passes ++ [.run] } }))
    ∧ (Handed s v 0x0E02 a r → arg a 0 ≤ 3 → jobRunning (fun j => decide (j = .tuneCapo)) s = false →
      exec (.tuneCapoSet v a) s = .next (startJob v r .tuneCapo
        (modTmp (fun t => { t with passes := t.passes ++ [.capo (arg a 0)] }) (requestCapo (arg a 0) s))))
    ∧ (requestCapo q s).tmp.reqCapo = q ∧ (requestCapo q s).tmp.capo = max s.tmp.capo q
    ∧ (Handed s v 0x0E03 a r → 1 ≤ arg a 0 → arg a 0 ≤ 168 → arg a 1 ≤ 1 →
      exec (.tuneIntervalSet v a) s =
        .next (answer v r Code.done [] { s with tmp := { s.tmp with interval := arg a 0, alertEn := arg a 1 == 1 } }))
    ∧ (Handed s v 0x0E81 a r →
      ∃ ws : List W32, ws.length = 22 ∧ exec (.tuneStatus v a) s = .next (answer v r Code.done (bytesOf ws) s))
    ∧ (Handed s v 0x0E82 a r → 1 ≤ arg a 1 → arg a 1 ≤ 64 → arg a 0 < s.tmp.history.length →
      exec (.tuneHistory v a) s = .next (answer v r Code.done
        (bytesOf (((s.tmp.history.drop (arg a 0)).take (arg a 1)).map passWords).flatten) s))

/-- A lapsed cluster watchdog, or SWITCH_OVER, with a ready standby passes the cell, advances CCL_EPOCH and stops commands; without one the owner reloads. SWITCH_OVER_DONE and ROLE_SWAP_DONE make the new owner available. A role swap that is asked for begins, hands the cell over once every other command is done, fails back to the former owner, or is abandoned after 500 ms; the new owner has 2 ms to take over. Feeds and checkpoints record their instant; STANDBY_READY_SET with a standby image makes the standby ready. Exec answers a next state, the own effect, under conditions on state and operands alone, for: clusterWatchdogExpire, switchOver, switchOverDone, standbyReadySet, checkpoint, roleSwap, roleSwapDone, roleSwapFail, clusterWatchdogFeed, ownerWatchdogFeed. (17_redundancy.md R398, 17_redundancy.md R399, 17_redundancy.md R400, 17_redundancy.md R401, 17_redundancy.md R402, 17_redundancy.md R403, 17_redundancy.md R406, 16_titimus.md R397) -/
def Obligations.ClustersSwitchAndSwap : Prop :=
  ∀ (s : State) (at_ : Nat),
    (s.tcs.running = true → s.pair.fedAt + 5000000 ≤ s.cycles →
      exec .clusterWatchdogExpire s = .next (if standbyOk s then switchOver s else clusterReload s))
    ∧ (s.tcs.running = true → standbyOk s = true → exec .switchOver s = .next (switchOver s))
    ∧ ((switchOver s).pair.owner = 1 - s.pair.owner ∧ (switchOver s).pair.cclEpoch = (s.pair.cclEpoch + 1) % 2 ^ 32
        ∧ (switchOver s).tcs.running = false ∧ (switchOver s).pair.ready = false ∧ (switchOver s).con.task = none
        ∧ (switchOver s).con.applied = s.con.applied)
    ∧ ((clusterReload s).pair.owner = s.pair.owner ∧ (clusterReload s).tcs.running = false ∧ (clusterReload s).tcs.journal = [])
    ∧ (s.pair.switching = true → s.pair.swapping = none → s.tcs.running = false →
      exec .switchOverDone s = .next (post7 1 (modPair (fun p => { p with switching := false, fedAt := s.cycles }) (runTitimus s)))
      ∧ (runTitimus s).tcs.running = true ∧ (runTitimus s).pair.linkTx = true ∧ (runTitimus s).up.evHeld = [])
    ∧ (s.tcs.running = true → exec .clusterWatchdogFeed s = .next { s with pair := { s.pair with fedAt := s.cycles } })
    ∧ (s.tcs.running = true → s.con.cycleEn = false →
      exec .ownerWatchdogFeed s = .next { s with pair := { s.pair with ownerFed := s.cycles } })
    ∧ (s.tcs.running = true → s.tcs.standby ≠ none → exec .checkpoint s =
        .next { s with pair := { s.pair with copy := s.tcs.journal, copyEpoch := s.pair.cclEpoch, checkAt := s.cycles } })
    ∧ (s.pair.swapping = none → s.tcs.running = true → s.pair.switching = false → jobRunning swapJob s = true →
      exec .roleSwap s = .next { holdStat s with pair := { s.pair with
        swapping := some s.cycles, handed := false, switching := true, swapAt := s.time.sec } })
    ∧ (s.pair.swapping = some at_ → s.pair.handed = false → s.tcs.running = true →
      (commandsDone s = true → exec .roleSwap s = .next (swapHand s))
      ∧ (commandsDone s = false → at_ + 500000000 ≤ s.cycles → exec .roleSwap s = .next (swapAbandon s)))
    ∧ ((swapHand s).pair.owner = 1 - s.pair.owner ∧ (swapHand s).pair.handed = true ∧ (swapHand s).tcs.running = false)
    ∧ (s.pair.handed = true → s.pair.swapping = some at_ →
      (s.cycles ≤ at_ + 2000000 → ∃ t, exec .roleSwapDone s = .next t ∧ t.tcs.running = true ∧ t.pair.ready = true ∧ t.pair.switching = false ∧ t.pair.swapping = none
        ∧ t.pair.owner = s.pair.owner)
      ∧ (at_ + 2000000 < s.cycles → ∃ t, exec .roleSwapFail s = .next t ∧ t.tcs.running = true ∧ t.pair.ready = false ∧ t.pair.owner = 1 - s.pair.owner
        ∧ t.pair.swapping = none))
    ∧ (∀ i, s.tcs.running = true → s.pair.ready = false → s.pair.switching = false → domainOn s (standbyDomain s) = true → s.dev.asserted = 0 →
      loadingImage s = none → s.tcs.standby = some i →
      ∃ t, exec .standbyReadySet s = .next t ∧ t.pair.ready = true ∧ t.tcs.standby = some i ∧ t.pair.copy = s.tcs.journal)

/-- A claim request is blocked and counted while the peer claims or its line has not been quiet for 10 us, else it claims once the wait is over; a claim without peer claim is confirmed after 2 us in a new epoch; a tie makes device B withdraw; a lapse, a release and HOLDOFF end as R406 and R411 say. A bad message counts and an old one is dropped; a device that has no confirmed claim drives the owner's set. Heartbeats carry the owner's set; lost for 1 ms they clear HB_OK; an old set is STALE. Leases are requested, voted for, announced and expire by R413; an older epoch is dropped and counted. Exec answers a next state, the own effect, under conditions on state and operands alone, for: claimRequest, claimConfirm, peerClaimEdge, ownerWatchdogLapse, heartbeatSend, heartbeatReceive, mirrorReceive, heartbeatLoss, holdoffExpire, groupMessage, leaseRenew, leaseExpire, mirroredSetStale. (17_redundancy.md R404, 17_redundancy.md R405, 17_redundancy.md R406, 17_redundancy.md R407, 17_redundancy.md R408, 17_redundancy.md R409, 17_redundancy.md R411, 17_redundancy.md R413) -/
def Obligations.PairClaimsHeartbeatsAndGroupLeases : Prop :=
  ∀ (s : State) (m : PairMsg) (g : GroupMsg) (k t : Nat), let p := s.pair
    (s.tcs.running = true → p.mode = 1 → p.claim = false → p.holdoff = false →
      (p.peerClaim = true ∨ s.cycles < p.quietAt + 10000 → exec .claimRequest s = .next (bump Ctr.pairClaimBlock s))
      ∧ (p.peerClaim = false → p.quietAt + 10000 ≤ s.cycles → p.quietAt + claimWait s ≤ s.cycles → exec .claimRequest s =
          .next { s with pair := { p with claim := true, claimed := true, claimAt := s.cycles, ownerFed := s.cycles } }))
    ∧ (p.claim = true → p.confirmed = false → p.peerClaim = false → p.claimAt + 2000 ≤ s.cycles →
      ∃ u, exec .claimConfirm s = .next u ∧ u.pair = { p with confirmed := true, lapsed := false, stale := false, epoch := ((match p.peer with
        | some x => max p.epoch x.epoch | none => p.epoch) + 1) % 2 ^ 32 })
    ∧ (p.mode = 1 → p.claim = true → p.confirmed = false → s.dev.straps.pairId = true → exec (.peerClaimEdge true) s =
        .next (bump Ctr.pairTie { s with pair := { p with peerClaim := true, holdoff := false, claim := false } }))
    ∧ exec (.peerClaimEdge false) s = .next { s with pair := { p with
        peerClaim := false, quietAt := s.cycles, claimAt := if p.confirmed then p.claimAt else s.cycles } }
    ∧ (p.claim = true → p.ownerFed + 20000000 ≤ s.cycles → ∃ u, exec .ownerWatchdogLapse s = .next u
      ∧ u.pair = { p with claim := false, confirmed := false, lapsed := true, releasing := false })
    ∧ (p.holdoff = true → p.holdAt + 100000000 ≤ s.cycles → exec .holdoffExpire s = .next { s with pair := { p with holdoff := false } })
    ∧ (p.mode = 1 → p.linkTx = true → s.dev.asserted = 0 → exec .heartbeatSend s =
        .next { s with pair := { p with hbSent := p.hbSent + 1, lastSent := some (pairMessage s), sentAt := if p.confirmed then s.cycles else p.sentAt } })
    ∧ (p.mode = 1 → m.good = false → exec (.heartbeatReceive m) s = .next (bump Ctr.pairLinkErr s)
        ∧ exec (.mirrorReceive m) s = .next (bump Ctr.pairLinkErr s))
    ∧ (p.mode = 1 → m.good = true → m.epoch < p.epoch → exec (.heartbeatReceive m) s = .next s ∧ exec (.mirrorReceive m) s = .next s)
    ∧ (p.mode = 1 → messageOk m s = true → p.confirmed = false → exec (.mirrorReceive m) s = .next (driveSet m s))
    ∧ (p.mode = 1 → messageOk m s = true → ∃ u, exec (.heartbeatReceive m) s = .next u ∧ u.pair.peer = some m ∧ u.pair.hbLast = some s.cycles
        ∧ u.pair.claim = p.claim ∧ u.pair.epoch = (if p.claim then p.epoch else m.epoch)
        ∧ (m.owner = true → p.confirmed = false → u.con.applied = (m.levels, m.duties)))
    ∧ (p.hbLast = some t → p.hbOk = true → t + 1000000 ≤ s.cycles → ∃ u, exec .heartbeatLoss s = .next u
      ∧ u.pair = { p with hbOk := false, hbFirst := none })
    ∧ (p.mode = 1 → p.confirmed = false → p.setAt + staleAfter s < s.cycles → exec .mirroredSetStale s = .next { s with pair := { p with stale := true } })
    ∧ (k < 2 → p.mode = 2 → s.tcs.running = true → (roleOf s k).hold = true → exec (.leaseRenew k) s =
        .next (countVotes k (sendGroup k (roleOf s k).epoch .renew (setRole k
          { castVote (roleOf s k) (timeTotal s) (roleOf s k).epoch p.groupId with votes := [p.groupId] } s))))
    ∧ (k < 2 → (roleOf s k).holder ≠ none → (roleOf s k).leaseEnd ≤ timeTotal s → ∃ u, exec (.leaseExpire k) s = .next u
      ∧ roleOf u k = { roleOf s k with hold := false, holder := none, votes := [] } ∧ roleOf u (1 - k) = roleOf s (1 - k))
    ∧ (g.role < 2 → g.sender < 8 → g.epoch < 2 ^ 16 → p.mode = 2 → s.tcs.running = true →
      (g.epoch < (roleOf s g.role).epoch → exec (.groupMessage g) s = .next (bump Ctr.pairGrpStale s))
      ∧ (g.epoch = (roleOf s g.role).epoch → exec (.groupMessage g) s = .next (groupAccept g s)))
    ∧ (∀ (x : RoleState) (now e i j : Nat), mayVote (castVote x now e i) now e j = true → i = j)

/-- PAIR.CONFIG in range, of the mode in force or with outputs off and no claim, sets mode, claim wait and swap hours; leaving group mode gives up both roles. GROUP_SET in MODE group sets id, members, ports and station, and entry 7 of each group port. RELEASE by a confirmed owner whose peer's heartbeats are good, fresh and its console enabled releases at the next cycle start, or at once while no cycle is to come. STATUS returns 17 words and changes nothing. Exec answers a next state, the own effect, under conditions on state and operands alone, for: pairConfig, pairGroupSet, pairRelease, pairStatus. (17_redundancy.md R411, 17_redundancy.md R412, 17_redundancy.md R415) -/
def Obligations.PairCommandsTakeEffect : Prop :=
  ∀ (v : Via) (r : Request) (s : State) (a : List W32),
    (Handed s v 0x0C01 a r → arg a 0 ≤ 2 → 10 ≤ arg a 1 → arg a 1 ≤ 100000 → 1 ≤ arg a 2 → arg a 2 ≤ 168 →
      (arg a 0 = s.pair.mode ∨ s.con.outEn = false ∧ s.pair.claim = false) →
      ∃ x y, exec (.pairConfig v a) s = .next (answer v r Code.done []
          { s with pair := { s.pair with mode := arg a 0, claimWait := arg a 1, swapHours := arg a 2, role0 := x, role1 := y } })
        ∧ (arg a 0 = 2 → x = s.pair.role0 ∧ y = s.pair.role1)
        ∧ (arg a 0 ≠ 2 → x.hold = false ∧ y.hold = false ∧ x.holder = none ∧ y.holder = none ∧ x.epoch = s.pair.role0.epoch))
    ∧ (Handed s v 0x0C02 a r → arg a 0 ≤ 7 → 3 ≤ arg a 1 → arg a 1 ≤ 8 → arg a 19 < 2 ^ 16 → s.pair.mode = 2 →
      (∀ p, p < 512 → bit (arg a (2 + p / 32)) (p % 32) = true → badFront s p = false) →
      ∃ t, exec (.pairGroupSet v a) s = .next (answer v r Code.done [] t) ∧ t = { s with pair := t.pair, ports := t.ports }
        ∧ t.pair = { s.pair with groupId := arg a 0, members := arg a 1, station := arg a 18 + arg a 19 * 2 ^ 32
                                 ports := (List.range 16).map fun i => a.getD (2 + i) 0#32 }
        ∧ ∀ p, p < 512 → bit (arg a (2 + p / 32)) (p % 32) = true →
            tabGet none (portAt t p).cfg.stations 7 = some (arg a 18 + arg a 19 * 2 ^ 32))
    ∧ (∀ m, Handed s v 0x0C03 a r → s.pair.confirmed = true → s.pair.hbOk = true → peerStale s = false → s.pair.peer = some m → m.console = true →
      (s.con.cycleEn = true → exec (.pairRelease v a) s = .next (answer v r Code.done [] { s with pair := { s.pair with releasing := true } }))
      ∧ (s.con.cycleEn = false → exec (.pairRelease v a) s = .next (answer v r Code.done [] { s with pair := { s.pair with
          releasing := false, claim := false, confirmed := false, holdoff := true, holdAt := s.cycles } })))
    ∧ (Handed s v 0x0C81 a r →
      exec (.pairStatus v a) s = .next (answer v r Code.done (bytesOf ([pairStatusWord s, w32 s.pair.epoch, pairGrp s] ++ peerWords s)) s)
        ∧ (peerWords s).length = 14)

/-- A doorbell to a locked mailbox counts in HIF_MB_REJECT, and in an F0 mailbox is also logged with cause MAILBOX. To an unlocked one: byte enables that are not all four discard it (F0: logged BYTE_EN; F1: counted in HIF_F1_WRITE_DROP); a value other than SEQ is answered BAD_SEQ; without Titimus the mailbox reads BUSY unlocked, with its vector raised, counted in HIF_MB_BUSY; otherwise the mailbox locks and its request is handed to Titimus or refused UNKNOWN, LEVEL, DENIED or BAD_LEN at once. In Doze the doorbell is heard as wake source 0. That a mailbox left BUSY keeps RSEQ equal to SEQ is the model's choice. Exec answers a next state, the own effect, under conditions on state and operands alone, for: mailboxDoorbell. (15_host.md R365, 15_host.md R366, 15_host.md R367, 15_host.md R368, 15_host.md R369, 16_titimus.md R371, 16_titimus.md R375, 16_titimus.md R380, 21_registers.md R480) -/
def Obligations.MailboxDoorbellsHandRequestsOn : Prop :=
  ∀ (v : Via) (m : Nat) (x : W32) (be : BitVec 4) (c : Nat) (s : State),
    let n := viaNum v
    let b := boxAt s n
    let r : Request := ⟨b.seq, b.command, b.length, (List.range (min b.length (viaCap v))).map (payloadByte b)⟩
    let held := setBox n { b with locked := true } s
    let free := b.locked = false ∧ viaOk v = true ∧ v ≠ .ring
    (b.locked = true → m < 16 → v = .f0 m →
      exec (.mailboxDoorbell v x be) s = .next (logAccess .mailbox true (0x1000 * m + 0x3C) x be (bump Ctr.hifMbReject s)))
    ∧ (b.locked = true → m < 2 → v = .f1 m → exec (.mailboxDoorbell v x be) s = .next (bump Ctr.hifMbReject s))
    ∧ (free → be ≠ 15#4 → v = .f0 m →
      exec (.mailboxDoorbell v x be) s = .next (logAccess .byteEn true (0x1000 * m + 0x3C) x be s))
    ∧ (free → be ≠ 15#4 → v = .f1 m → exec (.mailboxDoorbell v x be) s = .next (bump Ctr.hifF1WriteDrop s))
    ∧ (free → fld x 15 0 ≠ b.seq →
      exec (.mailboxDoorbell v x 15#4) s = .next (hearBell (answer v r Code.badSeq (details 0 0) held)))
    ∧ (free → fld x 15 0 = b.seq → ctrlAvail s = false →
      exec (.mailboxDoorbell v x 15#4) s = .next (hearBell (bump Ctr.hifMbBusy (raise (boxVector n)
        (setBox n { b with rseq := b.seq, status := 4, error := 0 } held)))))
    ∧ (free → fld x 15 0 = b.seq → ctrlAvail s = true →
      exec (.mailboxDoorbell v x 15#4) s = .next (hearBell (handOn v r (viaCap v) held)))
    ∧ (requestRefusal v r (viaCap v) = none → channelAt (handOn v r (viaCap v) held) v = .handed r
      ∧ boxAt (handOn v r (viaCap v) held) n = { b with locked := true })
    ∧ (requestRefusal v r (viaCap v) = some c → handOn v r (viaCap v) held = answer v r c (details 0 0) held)
    ∧ (domainOn s (ownerDomain s) = true → hearBell s = s)
    ∧ (cmdInfo (cmdCode r.cmd) = none → requestRefusal v r (viaCap v) = some Code.unknown)
    ∧ ((cmdInfo (cmdCode r.cmd)).isSome = true → cmdLevel r.cmd ≠ 1 → requestRefusal v r (viaCap v) = some Code.level)
    ∧ ((cmdInfo (cmdCode r.cmd)).isSome = true → cmdLevel r.cmd = 1 → isQuery r.cmd = false → v = .f1 m →
      requestRefusal v r (viaCap v) = some Code.denied)
    ∧ ((cmdInfo (cmdCode r.cmd)).isSome = true → cmdLevel r.cmd = 1 → isQuery r.cmd = true → r.len > viaCap v →
      requestRefusal v r (viaCap v) = some Code.badLen)

/-- HIF_DS_DB, HIF_US_CONS and HIF_RXA_REL take an accepted full write and change nothing else (HIF_DS_DB is heard as a doorbell in Doze); a write their rule rejects counts in HIF_DB_REJECT and leaves the register; one that is not a full 32-bit write is logged BYTE_EN. Enabling a disabled ring or arena with a legal size takes that size and zeroes its indices; a write to an enabled one that names another size leaves the size and is logged RING_CFG; disabling clears EN, and for the downstream ring DS_HALT. Exec answers a next state, the own effect, under conditions on state and operands alone, for: dsDoorbell, usConsWrite, arenaRelease, ringEnable, ringDisable, arenaEnable, arenaDisable. (15_host.md R352, 15_host.md R353, 15_host.md R354, 15_host.md R361, 21_registers.md R467, 21_registers.md R480) -/
def Obligations.RingRegistersMoveTheRings : Prop :=
  ∀ (s : State) (x : W32) (be : BitVec 4),
    let h := s.hif
    let u := s.up
    let d := fld x 16 0
    let lg := fld x 5 1
    let dsOk := ringUsed h.dsLog2 h.dsDb h.dsCons ≤ ringUsed h.dsLog2 d h.dsCons ∧ ringUsed h.dsLog2 d h.dsCons ≤ 2 ^ h.dsLog2
    let usOk := ringUsed h.usLog2 d h.usCons ≤ ringUsed h.usLog2 h.usProd h.usCons
    let rxOk := x.toNat % 64 = 0 ∧ ringUsed u.rxaLog2 x.toNat u.rxaRel ≤ ringUsed u.rxaLog2 u.rxaW u.rxaRel
    (dsOk → exec (.dsDoorbell x 15#4) s = .next (hearBell { s with hif := { h with dsDb := d } }))
    ∧ (¬ dsOk → exec (.dsDoorbell x 15#4) s = .next (hearBell (bump Ctr.hifDbReject s)))
    ∧ (usOk → exec (.usConsWrite x 15#4) s = .next { s with hif := { h with usCons := d } })
    ∧ (¬ usOk → exec (.usConsWrite x 15#4) s = .next (bump Ctr.hifDbReject s))
    ∧ (rxOk → exec (.arenaRelease x 15#4) s = .next { s with up := { u with rxaRel := x.toNat } })
    ∧ (¬ rxOk → exec (.arenaRelease x 15#4) s = .next (bump Ctr.hifDbReject s))
    ∧ (be ≠ 15#4 → exec (.dsDoorbell x be) s = .next (logAccess .byteEn false (Region.hif + 0x1C) x be s)
        ∧ exec (.usConsWrite x be) s = .next (logAccess .byteEn false (Region.hif + 0x40) x be s)
        ∧ exec (.arenaRelease x be) s = .next (logAccess .byteEn false (Region.hif + 0x60) x be s))
    ∧ (h.dsEn = false → h.inject = none → 6 ≤ lg → lg ≤ 16 → exec (.ringEnable false x) s = .next { s with hif := { h with
        dsEn := true, dsLog2 := lg, dsNotify := fld x 22 6, dsDb := 0, dsCons := 0, dsSkip := false, chainHeld := 0 } })
    ∧ (h.usEn = false → 6 ≤ lg → lg ≤ 16 → exec (.ringEnable true x) s = .next { s with hif := { h with
        usEn := true, usLog2 := lg, usWbEn := bit x.toNat 6, usProd := 0, usCons := 0 } })
    ∧ (u.rxaEn = false → 20 ≤ lg → lg ≤ 30 → exec (.arenaEnable x) s = .next { s with up := { u with
        rxaEn := true, rxaLog2 := lg, rxaW := 0, rxaRel := 0 } })
    ∧ (h.dsEn = true → lg = h.dsLog2 → exec (.ringDisable false x) s = .next { s with hif := { h with
        dsEn := false, dsNotify := fld x 22 6, dsHalt := false } })
    ∧ (h.usEn = true → lg = h.usLog2 → exec (.ringDisable true x) s = .next { s with hif := { h with usEn := false, usWbEn := bit x.toNat 6 } })
    ∧ (u.rxaEn = true → lg = u.rxaLog2 → exec (.arenaDisable x) s = .next { s with up := { u with rxaEn := false } })
    ∧ (h.dsEn = true → lg ≠ h.dsLog2 → ∃ t, exec (.ringDisable false x) s = .next t ∧ t.hif.dsEn = false ∧ t.hif.dsLog2 = h.dsLog2
        ∧ fld t.up.accErr 3 0 = AccCause.ringCfg.code)
    ∧ (h.usEn = true → lg ≠ h.usLog2 → ∃ t, exec (.ringDisable true x) s = .next t ∧ t.hif.usEn = false ∧ t.hif.usLog2 = h.usLog2
        ∧ fld t.up.accErr 3 0 = AccCause.ringCfg.code)
    ∧ (u.rxaEn = true → lg ≠ u.rxaLog2 → ∃ t, exec (.arenaDisable x) s = .next t ∧ t.up.rxaEn = false ∧ t.up.rxaLog2 = u.rxaLog2
        ∧ fld t.up.accErr 3 0 = AccCause.ringCfg.code)

/-- A fetch executes the whole chain at the head: no-ops with FENCE queue their TAGs, a TCS command is handed to Titimus once it is available and no ring command runs (one that names a host buffer is consumed only when it is done), an inject chain enters execution without being consumed once slice 0 is in full service; it discards a malformed chain with its count and event and otherwise waits. FENCE posts the oldest TAG as a class-6 event. A failed read halts the downstream ring with vector 18 and counts in HIF_DMA_ERR. Posting writes a job's entries inside the ring and the producer to its write-back address, advances the producer and the SEQ of the job's KIND, and touches no other byte of host memory. Exec answers a next state, the own effect, under conditions on state and operands alone, for: dsChainFetch, fence, dmaError, upstreamPost, usIrqTimer. (15_host.md R346, 15_host.md R351, 15_host.md R355, 15_host.md R356, 15_host.md R357, 15_host.md R359, 15_host.md R360, 15_host.md R362, 15_host.md R363, 16_titimus.md R387, 18_reset_bringup.md R431) -/
def Obligations.RingsFetchPostAndHalt : Prop :=
  ∀ (s : State) (es : List (List W32)) (k n tag : Nat) (tags : List Nat) (bodies : List (List Byte)) (e : List Byte),
    let h := s.hif
    let run := { s with hif := { h with dsSkip := false } }
    let kind := entryKind (es.headD [])
    (dsMayFetch s = false ∨ dsHead s = .empty ∨ dsHead s = .partialChain → exec .dsChainFetch s = .next s)
    ∧ (dsMayFetch s = true → dsHead s = .malformed n → exec .dsChainFetch s = .next (discardChain n s))
    ∧ (dsMayFetch s = true → dsHead s = .chain es → kind = 0 →
      let new := (es.filter fun e => bit (e.getD 0 0#32).toNat 10).map fun e => fld (e.getD 0 0#32) 31 16
      exec .dsChainFetch s = .next (advanceDs es.length { run with hif := { run.hif with fences := h.fences ++ new } }))
    ∧ (dsMayFetch s = true → dsHead s = .chain es → kind = 2 → ctrlAvail s = true → channelAt s .ring = .idle →
      exec .dsChainFetch s = .next (handOn .ring (ringRequest es) (min 1776 (28 * es.length - 16))
        (if namesBuffer (ringRequest es).cmd then { run with hif := { run.hif with chainHeld := es.length } } else advanceDs es.length run)))
    ∧ (dsMayFetch s = true → dsHead s = .chain es → kind = 1 → bit s.dev.plain 0 = false →
      ∃ j : Inject, exec .dsChainFetch s = .next { run with hif := { run.hif with inject := some j } } ∧ j.entries = es.length)
    ∧ (h.fences = tag :: tags → exec .fence s = .next (postEvent 6 tag [0#32, 0#32, 0#32] { s with hif := { h with fences := tags } }))
    ∧ (h.fences = [] → exec .fence s = .next s)
    ∧ (0 < h.sinceIrq → h.irqAt + 1000 * h.irqTime ≤ s.cycles → exec .usIrqTimer s = .next (raise 0 { s with hif := { h with sinceIrq := 0 } }))
    ∧ (canDma s = true → h.dsEn = true → h.dsHalt = false →
      exec (.dmaError false) s = .next (raise 18 { bump Ctr.hifDmaErr s with hif := { h with dsHalt := true, inject := none } }))
    ∧ (canDma s = true → s.up.ready = [.completion e] → s.up.waiting = [] →
      exec (.dmaError true) s = .next (bump Ctr.hifCmplWait { bump Ctr.hifDmaErr s with
        up := { s.up with ready := [], waiting := [e], fetchPaused := true } }))
    ∧ (h.usEn = true → canDma s = true → exec .upstreamPost s = .next (postAll (2 ^ h.usLog2) s))
    ∧ (h.usEn = false ∨ canDma s = false → exec .upstreamPost s = .next s)
    ∧ (let t := writeEntries k bodies s
      t.hif.usProd = (h.usProd + bodies.length) % (2 * 2 ^ h.usLog2)
      ∧ (tabWf 0 s.up.seqs = true → tabGet 0 t.up.seqs k = (tabGet 0 s.up.seqs k + 1) % 2 ^ 16)
      ∧ ∀ a, (∀ b ∈ bodies, b.length = 28) →
        (a < addr64 h.usBaseLo h.usBaseHi ∨ addr64 h.usBaseLo h.usBaseHi + 32 * 2 ^ h.usLog2 ≤ a) →
        (h.usWbEn = true → a < addr64 h.usWbLo h.usWbHi ∨ addr64 h.usWbLo h.usWbHi + 4 ≤ a) →
        tabGet 0#8 t.hostMem a = tabGet 0#8 s.hostMem a)

/-- HOST_LINK_RESET leaves the host interface registers, F0's configuration space, the access log, every counter of the host interface region, every counter latch and all eighteen mailboxes at their reset values, and keeps device time, CAPO, the table entries, the flash, host memory and F1's configuration space. F1_FLR resets F1's configuration space, its two mailboxes and its latches, and keeps the counters, the host interface registers, every other mailbox and F0's configuration space. Exec answers a next state, the own effect, under conditions on state and operands alone, for: hostLinkReset, f1Flr. (15_host.md R345, 15_host.md R347, 15_host.md R367, 21_registers.md R469, 21_registers.md R480) -/
def Obligations.LinkAndFunctionResetsReachTheirRegisters : Prop :=
  ∀ s : State,
    (∃ t, exec .hostLinkReset s = .next t ∧ t.hif = ({} : HifState) ∧ t.up.cfg0 = ({} : CfgSpace) ∧ t.up.accErr = 0#32 ∧ t.latch = []
      ∧ (∀ a, Region.hif ≤ a → a < Region.hif + 0x1000 → ctrAt t a = 0#64)
      ∧ (∀ n, n < 18 → boxAt t n = { gen := (boxAt s n).gen + 1 })
      ∧ t.time = s.time ∧ t.tmp = s.tmp ∧ t.tbl = s.tbl ∧ t.flash = s.flash ∧ t.hostMem = s.hostMem ∧ t.up.cfg1 = s.up.cfg1)
    ∧ (∃ t, exec .f1Flr s = .next t ∧ t.up.cfg1 = ({} : CfgSpace) ∧ boxAt t 16 = { gen := (boxAt s 16).gen + 1 }
      ∧ boxAt t 17 = { gen := (boxAt s 17).gen + 1 } ∧ (∀ n, n < 16 → boxAt t n = boxAt s n) ∧ (∀ a, 2 ^ 32 ≤ a → tabGet 0#32 t.latch a = 0#32)
      ∧ (∀ a, a < 2 ^ 32 → tabGet 0#32 t.latch a = tabGet 0#32 s.latch a) ∧ t.ctr = s.ctr ∧ t.hif = s.hif ∧ t.up.cfg0 = s.up.cfg0
      ∧ (∀ v, v < 64 → msixAt t v = msixAt s v) ∧ t.time = { s.time with now1 := {} } ∧ t.tbl = s.tbl ∧ t.hostMem = s.hostMem)

/-- Power-on and RST_COLD_N return counters, frames, tables, rings, Titimus and time to their reset values and keep the fuses, the flash and host memory. RST_WARM_N, an acknowledged SYS.RESET 1 ms after its acknowledge, an F0 function-level reset, and a peer request while PEER_RST_EN is 1 and the claim is not confirmed reach everything but the keep domain when nothing is asserted, and only add themselves while another source holds; a peer request otherwise counts as ignored. A warm reset keeps table entries, device time, CAPO, host memory and the flash. A source that releases records the causes once none is left. PEER_RST_REQ sends a request. Exec answers a next state, the own effect, under conditions on state and operands alone, for: peerRstReq, peerResetRequest, powerOn, rstColdN, rstWarmN, f0FunctionLevelReset, resetSourceRelease, sysResetAssert. (18_reset_bringup.md R417, 18_reset_bringup.md R419, 18_reset_bringup.md R421, 18_reset_bringup.md R422, 18_reset_bringup.md R424, 18_reset_bringup.md R425, 16_titimus.md R390, 15_host.md R347, 18_reset_bringup.md R437) -/
def Obligations.ResetSourcesReachWhatTheyReset : Prop :=
  ∀ (s : State) (x : W32) (k : Nat),
    let cold (op : Instr) (n : Nat) : Prop := ∃ t, exec op s = .next t ∧ t.dev.asserted = s.dev.asserted ||| 2 ^ n
      ∧ t.dev.since = s.dev.since ||| 2 ^ n ∧ t.ctr = [] ∧ t.chits = [] ∧ t.latch = [] ∧ t.tbl = State.reset.tbl ∧ t.hif = State.reset.hif
      ∧ t.tcs = State.reset.tcs ∧ t.time = State.reset.time ∧ t.led = State.reset.led ∧ t.con = State.reset.con ∧ t.dev.step = 0
      ∧ t.dev.fuses = s.dev.fuses ∧ t.flash = s.flash ∧ t.hostMem = s.hostMem ∧ t.pending = s.pending
    let warm (n : Nat) : State := if s.dev.asserted = 0 then warmReach (markSource n s) else markSource n s
    cold .powerOn 0 ∧ cold .rstColdN 1
    ∧ exec .rstWarmN s = .next (warm 2)
    ∧ (∀ w, s.tcs.resetAt = some w → w ≤ s.cycles → exec .sysResetAssert s = .next (warm 3))
    ∧ exec .f0FunctionLevelReset s = .next (warm 4)
    ∧ (bit s.dev.asserted 0 = false → bit s.dev.asserted 1 = false →
      (s.dev.peerRstEn = true → s.pair.confirmed = false → exec .peerResetRequest s = .next (warm 5))
      ∧ (s.dev.peerRstEn = false ∨ s.pair.confirmed = true → exec .peerResetRequest s = .next (bump Ctr.devPeerRstIgnored s)))
    ∧ markSource k s = { s with dev := { s.dev with asserted := s.dev.asserted ||| 2 ^ k, since := s.dev.since ||| 2 ^ k } }
    ∧ (let t := warmReach s
      t.hostMem = s.hostMem ∧ t.flash = s.flash ∧ t.tbl.slots = s.tbl.slots ∧ t.tbl.cfgs = s.tbl.cfgs ∧ t.time.sec = s.time.sec
      ∧ t.time.ns = s.time.ns ∧ t.time.frac = s.time.frac ∧ t.time.incr = s.time.incr ∧ t.tmp.capo = s.tmp.capo ∧ t.tmp.reqCapo = s.tmp.reqCapo
      ∧ t.dev.alertMask = s.dev.alertMask ∧ t.tcs.running = false ∧ t.hif = ({} : HifState) ∧ t.dev.blockRst = 0#32
      ∧ t.dev.plain = s.dev.fuses.sliceEn ∧ t.dev.step = min s.dev.step 2)
    ∧ (k < 6 → bit s.dev.asserted k = true → s.dev.asserted ≠ 2 ^ k →
      exec (.resetSourceRelease k) s = .next { s with dev := { s.dev with asserted := s.dev.asserted - 2 ^ k } })
    ∧ (k < 6 → s.dev.asserted = 2 ^ k →
      let t := { s with dev := { s.dev with asserted := 0, cause := s.dev.since, since := 0, cold := bit s.dev.since 0 || bit s.dev.since 1 } }
      exec (.resetSourceRelease k) s = .next (if bit s.dev.since 0 || bit s.dev.since 1 then t else bump Ctr.devWarmCount t))
    ∧ exec (.peerRstReq x) s = .next { s with dev := { s.dev with
        peerRstEn := bit x.toNat 0, peerRsts := s.dev.peerRsts + (if bit x.toNat 1 then 1 else 0) } }

/-- With no source asserted each release step completes once, in the order of Table 18-2, and step 8 only once Titimus runs. Titimus boots from the first slot with a valid image, and reports when neither holds one. A host link tunnel comes up from step 3. DEV_BLOCK_RST takes its 18 bits; CONIN_RST is refused and logged while an outlet has TRIP_EN. A slice enters full service once the fills and the first Tuning pass are done above Hush and every lower slice is there and its plain frames have ended; in Hush it returns to Plain service in the same order. A move that may begin but whose slice still holds frames or copies stays under way; otherwise nothing moves. Exec answers a next state, the own effect, under conditions on state and operands alone, for: blockResetHold, blockResetRelease, resetReleaseStep, sliceTransition, sliceToPlain, pcieTunnelEstablished, titimusBootComplete. (15_host.md R344, 17_redundancy.md R401, 18_reset_bringup.md R420, 18_reset_bringup.md R423, 18_reset_bringup.md R427, 16_titimus.md R394, 18_reset_bringup.md R433, 18_reset_bringup.md R435, 18_reset_bringup.md R436, 13_rack_console.md R316) -/
def Obligations.ReleaseStepsAndBlockResets : Prop :=
  ∀ (s : State) (k : Nat) (x : W32) (fast : Bool),
    let n := s.dev.step + 1
    (s.dev.asserted = 0 → n ≤ 12 → (n = 8 → s.tcs.running = true) →
      ∃ t, exec .resetReleaseStep s = .next t ∧ t.dev.step = n ∧ t = { stepEvent n s with dev := { (stepEvent n s).dev with step := n } })
    ∧ (s.dev.asserted ≠ 0 ∨ 12 ≤ s.dev.step ∨ (n = 8 ∧ s.tcs.running = false) → exec .resetReleaseStep s = .next s)
    ∧ (s.tcs.running = false → s.pair.switching = false → s.dev.asserted = 0 → 4 ≤ s.dev.step → inDoze s = false →
      (∀ j, bootSlot s = some j → ∃ t, exec .titimusBootComplete s = .next t ∧ t.tcs.running = true ∧ t.tcs.image = slotImage s j
        ∧ t.dev.slot = j ∧ t.dev.fallback = decide (j ≠ firstSlot s) ∧ t.dev.booted = true ∧ (s.dev.booted = false → t.mem.filling = some bootFill))
      ∧ (bootSlot s = none → exec .titimusBootComplete s = .next { s with dev := { s.dev with noImage := true, fallback := false } }))
    ∧ (domainWorks s 33 = true → s.dev.asserted = 0 → 3 ≤ s.dev.step →
      exec (.pcieTunnelEstablished fast) s = .next { s with hif := { s.hif with tunnelUp := true, link80 := fast } })
    ∧ (anyTrip s = true → bit x.toNat 17 = true → s.dev.blockRst.toNat % 2 ^ 16 = x.toNat % 2 ^ 16 → bit s.dev.blockRst.toNat 17 = false →
      exec (.blockResetHold x) s = .next { logAccess .refused false 0x14 x 15#4 s with dev := { s.dev with blockRst := w32 (x.toNat % 2 ^ 17) } })
    ∧ (bit x.toNat 17 = false ∨ anyTrip s = false →
      (∃ t, exec (.blockResetHold x) s = .next t ∧ t.dev.blockRst = w32 (x.toNat % 2 ^ 18))
      ∧ (∃ t, exec (.blockResetRelease x) s = .next t ∧ t.dev.blockRst = w32 (x.toNat % 2 ^ 18)))
    ∧ (sliceEnabled s k = true →
      (s.tcs.running = true → s.dev.fillsOk = true → s.dev.firstPass = true → s.tmp.capo < 3 → s.dev.asserted = 0 → 7 ≤ s.dev.step →
        plainSlice s k = true → below s k (fun j => !plainSlice s j) = true → sliceEmpty s k = true → bit s.dev.blockRst.toNat k = false →
        ∃ t, exec (.sliceTransition k) s = .next t ∧ t.dev.plain = s.dev.plain - 2 ^ k)
      ∧ (s.tcs.running = false ∨ s.dev.fillsOk = false ∨ s.dev.firstPass = false ∨ s.tmp.capo = 3 ∨ plainSlice s k = false →
        ∃ t, exec (.sliceTransition k) s = .next t ∧ t = { s with dev := { s.dev with moving := t.dev.moving } })
      ∧ (mayGoFull s k = true → sliceEmpty s k = false → exec (.sliceTransition k) s = .next { s with dev := { s.dev with moving := some k } })
      ∧ (s.tcs.running = true → s.tmp.capo = 3 → s.dev.asserted = 0 → plainSlice s k = false → below s k (plainSlice s) = true → sliceEmpty s k = true →
        ∃ t, exec (.sliceToPlain k) s = .next t ∧ t.dev.plain = s.dev.plain + 2 ^ k ∧ (∀ e ∈ t.led.plain, portSlice e.1 ≠ k))
      ∧ (s.tcs.running = false ∨ s.tmp.capo ≠ 3 ∨ plainSlice s k = true →
        ∃ t, exec (.sliceToPlain k) s = .next t ∧ t = { s with dev := { s.dev with moving := t.dev.moving } })
      ∧ (mayGoPlain s k = true → sliceEmpty s k = false → exec (.sliceToPlain k) s = .next { s with dev := { s.dev with moving := some k } }))

/-- TALLY.SELECT of an existing instance, counter and event sets the selection and zeroes the counter. SWEEP_SET and CAPTURE_SET of a stream that was off and whose store fits set the stream anew, SWEEP_SET also the period; UNPRIV_SET sets the mask; STATUS returns 47 words. A sweep that is due on a running engine photographs the fixed and configurable counters and device time, counts itself and renumbers; none is taken otherwise. An export writes the oldest record at the producer and advances it; a write of TAL_EXP_CONS is taken up to the producer and otherwise counted as rejected. Exec answers a next state, the own effect, under conditions on state and operands alone, for: tallySelect, tallySweepSet, tallyUnprivSet, tallyCaptureSet, tallyStatus, exportConsWrite, tallySweep, tallyExport. (22_tally.md R482, 22_tally.md R483, 22_tally.md R484, 22_tally.md R486, 22_tally.md R487, 22_tally.md R488, 22_tally.md R489, 22_tally.md R491) -/
def Obligations.TallySelectsSweepsAndExports : Prop :=
  ∀ (v : Via) (r : Request) (s : State) (a : List W32) (k : Nat) (x : W32),
    let st := streamAt s k
    (Handed s v 0x1001 a r → isInstance (arg a 0) = true → fusedInstance s (arg a 0) = false → arg a 1 ≤ 7 →
      eventOk (arg a 0) (arg a 2) (arg a 3) = true → arg a 4 ≤ 1 → (arg a 2 = 8 ∨ arg a 2 = 9 → arg a 4 = 0) →
      let w := packW [(0, arg a 2), (8, arg a 3), (24, arg a 4)]
      exec (.tallySelect v a) s = .next (answer v r Code.done [] { s with tal := { s.tal with
        sel := tabSet 0#32 s.tal.sel (8 * arg a 0 + arg a 1) w, cnt := tabSet (0, false) s.tal.cnt (8 * arg a 0 + arg a 1) (0, false) } }))
    ∧ (Handed s v 0x1002 a r → 10 ≤ arg a 0 → arg a 0 ≤ 10000000 → 10 ≤ arg a 4 → arg a 4 ≤ 24 →
      otherStores s 16 + arg a 1 * 2 ^ 20 ≤ storeSpace s → (streamAt s 16).en = false →
      ∃ t, exec (.tallySweepSet v a) s = .next (answer v r Code.done [] t) ∧ t.tal.period = arg a 0
        ∧ streamAt t 16 = { en := true, mib := arg a 1, base := arg64 a 2, ulog2 := arg a 4, wb := arg64 a 5 }
        ∧ (∀ i, i ≠ 16 → streamAt t i = streamAt s i))
    ∧ (Handed s v 0x1003 a r → ((List.range 9).map fun i => arg a i * 2 ^ (32 * i)).sum < 2 ^ 272 →
      let m := ((List.range 9).map fun i => arg a i * 2 ^ (32 * i)).sum
      exec (.tallyUnprivSet v a) s = .next (answer v r Code.done [] { s with tal := { s.tal with unpriv := m } }))
    ∧ (Handed s v 0x1004 a r → arg a 0 = k → k ≤ 17 → k ≠ 16 → arg a 1 = 1 → 10 ≤ arg a 5 → arg a 5 ≤ 24 →
      otherStores s k + arg a 2 * 2 ^ 20 ≤ storeSpace s → st.en = false →
      let new : Stream := { en := true, mib := arg a 2, base := arg64 a 3, ulog2 := arg a 5, wb := arg64 a 6 }
      exec (.tallyCaptureSet v a) s = .next (answer v r Code.done [] (setStream k new s)))
    ∧ (Handed s v 0x1081 a r → ∃ ws : List W32, ws.length = 47 ∧ exec (.tallyStatus v a) s = .next (answer v r Code.done (bytesOf ws) s)
        ∧ ws.getD 0 0#32 = talStatus s ∧ ws.getD 1 0#32 = w32 s.tal.sweep
        ∧ ∀ i, i < 18 → ws.getD (11 + 2 * i) 0#32 = w32 (streamAt s i).prod ∧ ws.getD (12 + 2 * i) 0#32 = w32 (streamAt s i).cons)
    ∧ (s.tal.period ≠ 0 → sweepIndex s ≠ s.tal.due → tallyRuns s = true →
      ∃ t ph, exec .tallySweep s = .next t ∧ t.tal.sweep = (s.tal.sweep + 1) % 2 ^ 32 ∧ t.tal.mirror = some ph ∧ ph.ctr = s.ctr
        ∧ ph.cnt = s.tal.cnt ∧ ph.at_ = timeTotal s ∧ t.tal.due = sweepIndex s)
    ∧ (s.tal.period = 0 ∨ sweepIndex s = s.tal.due → exec .tallySweep s = .next s)
    ∧ (k < 18 → st.en = true → canDma s = true → canStore s = true → tallyRuns s = true →
      exec (.tallyExport k) s = .next (exportAll (2 * st.store.length) k s))
    ∧ (k < 18 → st.en = false ∨ canDma s = false ∨ canStore s = false ∨ tallyRuns s = false → exec (.tallyExport k) s = .next s)
    ∧ (∀ b rest, st.en = true → st.store = b :: rest → st.wb = 0 → s.mem.poison = [] → tabWf 0#8 s.hostMem = true → st.prod % 2 ^ st.ulog2 + b.length / 64 ≤ 2 ^ st.ulog2 →
        b.length / 64 ≤ 2 ^ st.ulog2 - ringUsed st.ulog2 st.prod st.cons → 0 < b.length →
        ∃ t, exportOne k s = some t ∧ hostRead t (st.base + 64 * (st.prod % 2 ^ st.ulog2)) b.length = b
          ∧ (streamAt t k).store = rest ∧ (streamAt t k).prod = (st.prod + b.length / 64) % (2 * 2 ^ st.ulog2))
    ∧ (k < 18 → domainOn s 36 = true → bit s.dev.blockRst.toNat 16 = false →
      let c := fld x 24 0
      let ok := ringUsed st.ulog2 c st.cons ≤ ringUsed st.ulog2 st.prod st.cons
      (ok → exec (.exportConsWrite k x) s = .next (setStream k { st with cons := c } s))
      ∧ (¬ ok → exec (.exportConsWrite k x) s = .next (bump Ctr.talConsReject s)))

/-- A BAR0 write with partial byte enables, to a hole, or to a block that is off is discarded and logged BYTE_EN, HOLE or DOMAIN; DEV_ALERT_MASK and DEV_SCRATCH take full writes; a word of an unlocked F0 mailbox's payload takes any byte enables and changes exactly the enabled bytes; an F1 write outside the mailboxes and the MSI-X table is discarded and counted in HIF_F1_WRITE_DROP. A counter's low-word read returns the low word and latches the high word and changes nothing else, for F1 through the mirror too; the high word's address returns the latch; another register returns its word, a hole 0; TIM_NOW_NS reads through F0 and F1 use separate latches. HWM_CLR sets PROV_HWM to PROV_NOW. Exec answers a next state, the own effect, under conditions on state and operands alone, for: timeNowRead, counterLowRead, hwmClr, registerWrite. (15_host.md R349, 21_registers.md R467, 21_registers.md R469, 21_registers.md R472, 21_registers.md R474, 21_registers.md R475, 21_registers.md R479, 12_time.md R286, 00_scope.md R15) -/
def Obligations.RegisterAccessesTakeEffectOrAreLogged : Prop :=
  ∀ (s : State) (a m k : Nat) (x : W32) (be : BitVec 4) (e : Reached),
    let b := boxAt s m
    (a < 2 ^ 28 → a % 4 = 0 → be ≠ 15#4 → exec (.registerWrite .bar0 a x be) s = .next (logAccess .byteEn false a x be s))
    ∧ (a < 2 ^ 28 → a % 4 = 0 → reach a = none → exec (.registerWrite .bar0 a x 15#4) s = .next (logAccess .hole false a x 15#4 s))
    ∧ (a < 2 ^ 28 → a % 4 = 0 → reach a = some e → blockOff s e = true →
      exec (.registerWrite .bar0 a x 15#4) s = .next (logAccess .domain false a x 15#4 s))
    ∧ exec (.registerWrite .bar0 0x2C x 15#4) s = .next { s with dev := { s.dev with scratch := x } }
    ∧ exec (.registerWrite .bar0 0x24 x 15#4) s = .next { s with dev := { s.dev with alertMask := x &&& 0x3FE1#32 } }
    ∧ (m < 16 → b.locked = false → 0x40 ≤ a → a < 0x1000 → a % 4 = 0 →
      ∃ t, exec (.registerWrite .bar2 (0x1000 * m + a) x be) s = .next t ∧ t = { s with boxes := t.boxes }
        ∧ (tabWf {} s.boxes = true → tabWf none b.payload = true → ∀ i, payloadByte (boxAt t m) i =
            if a - 0x40 ≤ i ∧ i < a - 0x40 + 4 ∧ be.getLsbD (i - (a - 0x40)) = true
            then byte (fld x (8 * (i - (a - 0x40)) + 7) (8 * (i - (a - 0x40)))) else payloadByte b i))
    ∧ (a < 2 ^ 20 → a % 4 = 0 → a < 0x2000 ∨ 0x3080 ≤ a → exec (.registerWrite .f1 a x be) s = .next (bump Ctr.hifF1WriteDrop s))
    ∧ (a < 2 ^ 28 → a % 4 = 0 → reach a = some e → e.pair = true →
      let v := counterNow s e
      (e.addr % 8 = 0 → exec (.counterLowRead .f0 a) s = .next { s with rsp := w32 v, latch := tabSet 0#32 s.latch e.addr (w32 (v / 2 ^ 32)) })
      ∧ (e.addr % 8 ≠ 0 → exec (.counterLowRead .f0 a) s = .next { s with rsp := tabGet 0#32 s.latch (e.addr - 4) }))
    ∧ (blockOff s e = false → e.addr < Region.tally + 0x4000 → (∀ l, laneInner s l = false) → counterNow s e = (ctrAt s e.addr).toNat)
    ∧ (a < 2 ^ 28 → a % 4 = 0 → reach a = some e → e.pair = false → e.addr / 0x100000 ≠ 0x040 →
      exec (.counterLowRead .f0 a) s = .next { s with rsp := regWord s e })
    ∧ (a < 2 ^ 28 → a % 4 = 0 → reach a = none → exec (.counterLowRead .f0 a) s = .next { s with rsp := 0#32 })
    ∧ (∀ n o, 0x10000 ≤ a → a < 2 ^ 20 → a % 4 = 0 → mirrorPlace a = some (n, o) →
      (o < 64 → exec (.counterLowRead .f1 a) s = .next { s with rsp := mirrorWord s a })
      ∧ (64 ≤ o → a % 8 = 0 → exec (.counterLowRead .f1 a) s = .next { s with
          rsp := mirrorWord s a, latch := tabSet 0#32 s.latch (2 ^ 32 + a) (mirrorWord s (a + 4)) })
      ∧ (64 ≤ o → a % 8 ≠ 0 → exec (.counterLowRead .f1 a) s = .next { s with rsp := tabGet 0#32 s.latch (2 ^ 32 + a - 4) }))
    ∧ exec (.timeNowRead .f0) s = .next { s with rsp := w32 s.time.ns, time := { s.time with now0 := nowLatch s } }
    ∧ exec (.timeNowRead .f1) s = .next { s with rsp := w32 s.time.ns, time := { s.time with now1 := nowLatch s } }
    ∧ (k < 16 → bit s.dev.blockRst.toNat k = false → domainOn s k = true → tabWf {} s.lkps = true →
      ∃ t, exec (.hwmClr k x) s = .next t ∧ t = { s with lkps := t.lkps } ∧ (lkpAt t k).spec = w32 (fld x 1 0)
        ∧ (lkpAt t k).hwm = (if bit x.toNat 2 then provNow s k else (lkpAt s k).hwm) ∧ ∀ j, j ≠ k → lkpAt t j = lkpAt s j)

/-- After the outcome word HARP.STATUS returns the four words of the slice's Harp block, CLASS.STATUS the two of its class block, TABLE.STATUS TBL_STATUS and three words a logical table, the quota 0 where there is none, MINT.STATUS MNT_STATUS, the five registers of the pool and MNT_POOL_DROP low word first, TELLER.GATE_STATUS TLR_GATE and TLR_GATE_OPEN of the port, LEDGER.STATUS its eight words. No query changes anything but its channel. Exec answers a next state, the own effect, under conditions on state and operands alone, for: harpStatus, classStatus, tableStatus, tellerGateStatus, mintStatus, ledgerStatus. (03_harp_engines.md R511, 05_classification.md R512, 06_exact_match.md R513, 09_mint.md R514, 10_teller.md R515, 11_ledger.md R516) -/
def Obligations.StatusQueriesReturnTheirWords : Prop :=
  ∀ (v : Via) (r : Request) (s : State) (a : List W32),
    let k := arg a 0
    let gives (op : Instr) (ws : List W32) : Prop := exec op s = .next (answer v r Code.done (bytesOf ws) s)
    (Handed s v 0x0381 a r → sliceEnabled s k = true → gives (.harpStatus v a) [hrpStatus s k, w32 (harpAt s k).raTpid, (harpAt s k).seed, hrpBuildId s k])
    ∧ (Handed s v 0x0482 a r → sliceEnabled s k = true → gives (.classStatus v a) [clsStatus s k, clsTmap s k])
    ∧ (Handed s v 0x0582 a r → tableTurn s v = true → ∃ ws : List W32, ws.length = 25 ∧ gives (.tableStatus v a) ws ∧ ws.getD 0 0#32 = tblStatus s
        ∧ ∀ t, t < 8 → ws.getD (3 * t + 1) 0#32 = ltabCfg s t ∧ ws.getD (3 * t + 2) 0#32 = w32 (usedSlots s t)
          ∧ ws.getD (3 * t + 3) 0#32 = w32 (((tabCfgAt s t).map TabCfg.quota).getD 0))
    ∧ (Handed s v 0x0881 a r → k ≤ 31 → ∃ ws : List W32, ws.length = 8 ∧ gives (.mintStatus v a) ws ∧ ws.getD 0 0#32 = mntStatus s
        ∧ (ws.drop 1).take 5 = poolWords s k ∧ ws.getD 6 0#32 = w32 (ctrAt s (Ctr.mntPoolDrop k)).toNat
        ∧ ws.getD 7 0#32 = w32 ((ctrAt s (Ctr.mntPoolDrop k)).toNat / 2 ^ 32))
    ∧ (Handed s v 0x0781 a r → k < 512 → sliceEnabled s (portSlice k) = true →
      gives (.tellerGateStatus v a) [tlrGate s k, w32 (gatesNow (txAt s k))])
    ∧ (Handed s v 0x0982 a r →
      let newest := ((s.led.arch.getLast?).map ArchEpoch.epoch).getD 0
      gives (.ledgerStatus v a) [ldgStatus s, w32 s.led.arch.length, ldgOldest s, w32 newest,
        w32 ((s.led.arch.map fun x => x.records.length).sum + (match s.led.drain with | some d => d.done.length | none => 0)), w32 s.led.keyId, w32 s.led.source, w32 (s.led.source / 2 ^ 32)])
end

