-- ==== Sys2Proof/Laws/Tab.lean ====
section
/-! SUPPORT. What sparse tables do: a read after a write, writes elsewhere, and the canonical form, which every write keeps and which makes
equal tables equal data. -/
namespace Sys2Proof.Laws
open Sys2Proof.Machine

variable {β : Type}

@[simp] theorem tabGet_nil (d : β) (i : Nat) : tabGet d [] i = d := rfl

variable [DecidableEq β] {d : β}

/-- A write leaves every other key alone. -/
theorem tabGet_tabSet_ne (m : Tab β) {i j : Nat} (v : β) (h : j ≠ i) : tabGet d (tabSet d m i v) j = tabGet d m j := by
  induction m with
  | nil => by_cases hv : v = d <;> simp [tabSet, tabGet, hv, h]
  | cons e m ih =>
    obtain ⟨k, w⟩ := e
    by_cases h1 : i < k
    · by_cases hv : v = d <;> simp [tabSet, tabGet, h1, hv, h]
    · by_cases h2 : i = k
      · subst h2
        by_cases hv : v = d <;> simp [tabSet, tabGet, hv, h]
      · by_cases hj : j = k <;> simp [tabSet, tabGet, h1, h2, hj, ih]

/-- Reading a written value that is not the default gives it back. -/
theorem tabGet_tabSet_self (m : Tab β) (i : Nat) {v : β} (hv : v ≠ d) : tabGet d (tabSet d m i v) i = v := by
  induction m with
  | nil => simp [tabSet, tabGet, hv]
  | cons e m ih =>
    obtain ⟨k, w⟩ := e
    by_cases h1 : i < k
    · simp [tabSet, tabGet, h1, hv]
    · by_cases h2 : i = k
      · subst h2; simp [tabSet, tabGet, hv]
      · simp [tabSet, tabGet, h1, h2, ih]

/-- A second write of one key replaces the first. -/
theorem tabSet_tabSet (m : Tab β) (i : Nat) {v w : β} (hw : w ≠ d) : tabSet d (tabSet d m i w) i v = tabSet d m i v := by
  induction m with
  | nil => by_cases hv : v = d <;> simp [tabSet, hv, hw]
  | cons e m ih =>
    obtain ⟨k, x⟩ := e
    by_cases h1 : i < k
    · by_cases hv : v = d <;> simp [tabSet, h1, hv, hw]
    · by_cases h2 : i = k
      · subst h2; by_cases hv : v = d <;> simp [tabSet, hv, hw]
      · simp [tabSet, h1, h2, ih]

theorem tabWfFrom_mono (m : Tab β) {a b : Nat} (h : a ≤ b) (w : tabWfFrom d b m = true) : tabWfFrom d a m = true := by
  cases m with
  | nil => rfl
  | cons e m =>
    simp only [tabWfFrom, Bool.and_eq_true, decide_eq_true_eq] at w ⊢
    exact ⟨⟨by omega, w.1.2⟩, w.2⟩

/-- Below a table's first key every key reads as the default. -/
theorem tabGet_below (m : Tab β) {lo i : Nat} (w : tabWfFrom d lo m = true) (h : i < lo) : tabGet d m i = d := by
  induction m generalizing lo with
  | nil => rfl
  | cons e m ih =>
    obtain ⟨k, x⟩ := e
    simp only [tabWfFrom, Bool.and_eq_true, decide_eq_true_eq] at w
    have : i ≠ k := by omega
    simp [tabGet, this, ih w.2 (by omega)]

theorem tabSet_wfFrom (m : Tab β) (i : Nat) (v : β) {lo : Nat} (hlo : lo ≤ i) (w : tabWfFrom d lo m = true) :
    tabWfFrom d lo (tabSet d m i v) = true := by
  induction m generalizing lo with
  | nil => by_cases hv : v = d <;> simp [tabSet, tabWfFrom, hv, hlo]
  | cons e m ih =>
    obtain ⟨k, x⟩ := e
    have w0 := w
    simp only [tabWfFrom, Bool.and_eq_true, decide_eq_true_eq] at w
    by_cases h1 : i < k
    · by_cases hv : v = d
      · simpa [tabSet, h1, hv] using w0
      · simp [tabSet, tabWfFrom, h1, hv, hlo, w.1.2, w.2]
    · by_cases h2 : i = k
      · subst h2
        by_cases hv : v = d
        · simpa [tabSet, hv] using tabWfFrom_mono m (by omega) w.2
        · simp [tabSet, tabWfFrom, hv, hlo, w.2]
      · simp only [tabSet, h1, h2, if_false, tabWfFrom, Bool.and_eq_true, decide_eq_true_eq]
        exact ⟨w.1, ih (by omega) w.2⟩

/-- Every write keeps the canonical form. -/
theorem tabSet_wf (m : Tab β) (i : Nat) (v : β) (w : tabWf d m = true) : tabWf d (tabSet d m i v) = true :=
  tabSet_wfFrom m i v (Nat.zero_le i) w

/-- Every write of a run of values keeps the canonical form. -/
theorem tabWrite_wf (vs : List β) (m : Tab β) (a : Nat) (w : tabWf d m = true) : tabWf d (tabWrite d m a vs) = true := by
  induction vs generalizing m a with
  | nil => exact w
  | cons v vs ih => exact ih _ _ (tabSet_wf m a v w)

/-- In canonical form a written value reads back, the default included. -/
theorem tabGet_tabSet (m : Tab β) (i j : Nat) (v : β) (w : tabWf d m = true) :
    tabGet d (tabSet d m i v) j = if j = i then v else tabGet d m j := by
  by_cases h : j = i
  · subst h
    by_cases hv : v = d
    · subst hv
      simp only [if_true]
      have key : ∀ (m : Tab β) (lo : Nat), tabWfFrom v lo m = true → tabGet v (tabSet v m j v) j = v := by
        intro m
        induction m with
        | nil => intro lo _; simp [tabSet]
        | cons e m ih =>
          intro lo w
          obtain ⟨k, x⟩ := e
          have w0 := w
          simp only [tabWfFrom, Bool.and_eq_true, decide_eq_true_eq] at w
          by_cases h1 : j < k
          · have : j ≠ k := by omega
            simp [tabSet, tabGet, h1, this, tabGet_below m w.2 (by omega : j < k + 1)]
          · by_cases h2 : j = k
            · subst h2; simp [tabSet, tabGet_below m w.2 (by omega : j < j + 1)]
            · simp [tabSet, tabGet, h1, h2, ih _ w.2]
      exact key m 0 w
    · simp [tabGet_tabSet_self m j hv]
  · simp [h, tabGet_tabSet_ne m v h]

/-- Two canonical tables that read alike are equal. -/
theorem tab_ext {m n : Tab β} (wm : tabWf d m = true) (wn : tabWf d n = true) (h : ∀ i, tabGet d m i = tabGet d n i) : m = n := by
  have key : ∀ (m n : Tab β) (lo : Nat), tabWfFrom d lo m = true → tabWfFrom d lo n = true → (∀ i, tabGet d m i = tabGet d n i) → m = n := by
    intro m
    induction m with
    | nil =>
      intro n lo _ wn h
      cases n with
      | nil => rfl
      | cons e n =>
        obtain ⟨k, x⟩ := e
        simp only [tabWfFrom, Bool.and_eq_true, decide_eq_true_eq] at wn
        have := h k
        simp [tabGet] at this
        exact absurd this.symm wn.1.2
    | cons e m ih =>
      intro n lo wm wn h
      obtain ⟨k, x⟩ := e
      cases n with
      | nil =>
        simp only [tabWfFrom, Bool.and_eq_true, decide_eq_true_eq] at wm
        have := h k
        simp [tabGet] at this
        exact absurd this wm.1.2
      | cons f n =>
        obtain ⟨l, y⟩ := f
        simp only [tabWfFrom, Bool.and_eq_true, decide_eq_true_eq] at wm wn
        have hkl : k = l := by
          rcases Nat.lt_trichotomy k l with c | c | c
          · have h1 := h k
            have : k ≠ l := by omega
            simp [tabGet, this, tabGet_below n wn.2 (by omega : k < l + 1)] at h1
            exact absurd h1 wm.1.2
          · exact c
          · have h1 := h l
            have : l ≠ k := by omega
            simp [tabGet, this, tabGet_below m wm.2 (by omega : l < k + 1)] at h1
            exact absurd h1.symm wn.1.2
        subst hkl
        have hxy : x = y := by have := h k; simpa [tabGet] using this
        subst hxy
        congr 1
        apply ih n (k + 1) wm.2 wn.2
        intro i
        by_cases hi : i = k
        · subst hi; rw [tabGet_below m wm.2 (by omega), tabGet_below n wn.2 (by omega)]
        · have := h i; simpa [tabGet, hi] using this
  exact key m n 0 wm wn h

end Sys2Proof.Laws
end

