-- ==== Sys2Proof/Laws/State.lean ====
section
/-! SUPPORT. What each named update of the state leaves alone, field by field (all by rfl, for simp), and what it leaves behind. -/
namespace Sys2Proof.Laws
open Sys2Proof.Machine

variable (s : State)

/-- `bumpBy` writes `ctr` alone. -/
@[simp] theorem bumpBy_fields (a n : Nat) :
    (bumpBy a n s).pending = s.pending ∧ (bumpBy a n s).cycles = s.cycles ∧ (bumpBy a n s).freeCtr = s.freeCtr
    ∧ (bumpBy a n s).rsp = s.rsp ∧ (bumpBy a n s).dev = s.dev ∧ (bumpBy a n s).hif = s.hif ∧ (bumpBy a n s).up = s.up
    ∧ (bumpBy a n s).tcs = s.tcs ∧ (bumpBy a n s).flash = s.flash ∧ (bumpBy a n s).boxes = s.boxes ∧ (bumpBy a n s).time = s.time
    ∧ (bumpBy a n s).ports = s.ports ∧ (bumpBy a n s).rxs = s.rxs ∧ (bumpBy a n s).laneWords = s.laneWords ∧ (bumpBy a n s).ras = s.ras
    ∧ (bumpBy a n s).lanes = s.lanes ∧ (bumpBy a n s).prbs = s.prbs ∧ (bumpBy a n s).harps = s.harps ∧ (bumpBy a n s).chits = s.chits
    ∧ (bumpBy a n s).gens = s.gens ∧ (bumpBy a n s).chitSeq = s.chitSeq ∧ (bumpBy a n s).classes = s.classes
    ∧ (bumpBy a n s).lkps = s.lkps ∧ (bumpBy a n s).tbl = s.tbl ∧ (bumpBy a n s).meters = s.meters ∧ (bumpBy a n s).profiles = s.profiles
    ∧ (bumpBy a n s).tenants = s.tenants ∧ (bumpBy a n s).mint = s.mint ∧ (bumpBy a n s).txs = s.txs ∧ (bumpBy a n s).groups = s.groups
    ∧ (bumpBy a n s).mirrors = s.mirrors ∧ (bumpBy a n s).tele = s.tele ∧ (bumpBy a n s).led = s.led ∧ (bumpBy a n s).recirc = s.recirc
    ∧ (bumpBy a n s).mem = s.mem ∧ (bumpBy a n s).tal = s.tal ∧ (bumpBy a n s).pwr = s.pwr ∧ (bumpBy a n s).con = s.con
    ∧ (bumpBy a n s).tmp = s.tmp ∧ (bumpBy a n s).pair = s.pair ∧ (bumpBy a n s).tap = s.tap ∧ (bumpBy a n s).latch = s.latch
    ∧ (bumpBy a n s).hostMem = s.hostMem := by
  and_intros <;> rfl
/-- `bump` writes `ctr` alone. -/
@[simp] theorem bump_fields (a : Nat) :
    (bump a s).pending = s.pending ∧ (bump a s).cycles = s.cycles ∧ (bump a s).freeCtr = s.freeCtr ∧ (bump a s).rsp = s.rsp
    ∧ (bump a s).dev = s.dev ∧ (bump a s).hif = s.hif ∧ (bump a s).up = s.up ∧ (bump a s).tcs = s.tcs ∧ (bump a s).flash = s.flash
    ∧ (bump a s).boxes = s.boxes ∧ (bump a s).time = s.time ∧ (bump a s).ports = s.ports ∧ (bump a s).rxs = s.rxs
    ∧ (bump a s).laneWords = s.laneWords ∧ (bump a s).ras = s.ras ∧ (bump a s).lanes = s.lanes ∧ (bump a s).prbs = s.prbs
    ∧ (bump a s).harps = s.harps ∧ (bump a s).chits = s.chits ∧ (bump a s).gens = s.gens ∧ (bump a s).chitSeq = s.chitSeq
    ∧ (bump a s).classes = s.classes ∧ (bump a s).lkps = s.lkps ∧ (bump a s).tbl = s.tbl ∧ (bump a s).meters = s.meters
    ∧ (bump a s).profiles = s.profiles ∧ (bump a s).tenants = s.tenants ∧ (bump a s).mint = s.mint ∧ (bump a s).txs = s.txs
    ∧ (bump a s).groups = s.groups ∧ (bump a s).mirrors = s.mirrors ∧ (bump a s).tele = s.tele ∧ (bump a s).led = s.led
    ∧ (bump a s).recirc = s.recirc ∧ (bump a s).mem = s.mem ∧ (bump a s).tal = s.tal ∧ (bump a s).pwr = s.pwr ∧ (bump a s).con = s.con
    ∧ (bump a s).tmp = s.tmp ∧ (bump a s).pair = s.pair ∧ (bump a s).tap = s.tap ∧ (bump a s).latch = s.latch
    ∧ (bump a s).hostMem = s.hostMem := by
  and_intros <;> rfl
/-- `hostWrite` writes `hostMem` alone. -/
@[simp] theorem hostWrite_fields (a : Nat) (bs : List Byte) :
    (hostWrite a bs s).pending = s.pending ∧ (hostWrite a bs s).cycles = s.cycles ∧ (hostWrite a bs s).freeCtr = s.freeCtr
    ∧ (hostWrite a bs s).rsp = s.rsp ∧ (hostWrite a bs s).dev = s.dev ∧ (hostWrite a bs s).hif = s.hif ∧ (hostWrite a bs s).up = s.up
    ∧ (hostWrite a bs s).tcs = s.tcs ∧ (hostWrite a bs s).flash = s.flash ∧ (hostWrite a bs s).boxes = s.boxes
    ∧ (hostWrite a bs s).time = s.time ∧ (hostWrite a bs s).ports = s.ports ∧ (hostWrite a bs s).rxs = s.rxs
    ∧ (hostWrite a bs s).laneWords = s.laneWords ∧ (hostWrite a bs s).ras = s.ras ∧ (hostWrite a bs s).lanes = s.lanes
    ∧ (hostWrite a bs s).prbs = s.prbs ∧ (hostWrite a bs s).harps = s.harps ∧ (hostWrite a bs s).chits = s.chits
    ∧ (hostWrite a bs s).gens = s.gens ∧ (hostWrite a bs s).chitSeq = s.chitSeq ∧ (hostWrite a bs s).classes = s.classes
    ∧ (hostWrite a bs s).lkps = s.lkps ∧ (hostWrite a bs s).tbl = s.tbl ∧ (hostWrite a bs s).meters = s.meters
    ∧ (hostWrite a bs s).profiles = s.profiles ∧ (hostWrite a bs s).tenants = s.tenants ∧ (hostWrite a bs s).mint = s.mint
    ∧ (hostWrite a bs s).txs = s.txs ∧ (hostWrite a bs s).groups = s.groups ∧ (hostWrite a bs s).mirrors = s.mirrors
    ∧ (hostWrite a bs s).tele = s.tele ∧ (hostWrite a bs s).led = s.led ∧ (hostWrite a bs s).recirc = s.recirc
    ∧ (hostWrite a bs s).mem = s.mem ∧ (hostWrite a bs s).tal = s.tal ∧ (hostWrite a bs s).pwr = s.pwr ∧ (hostWrite a bs s).con = s.con
    ∧ (hostWrite a bs s).tmp = s.tmp ∧ (hostWrite a bs s).pair = s.pair ∧ (hostWrite a bs s).tap = s.tap ∧ (hostWrite a bs s).ctr = s.ctr
    ∧ (hostWrite a bs s).latch = s.latch := by
  and_intros <;> rfl
/-- `setTimeTotal` writes `time` alone. -/
@[simp] theorem setTimeTotal_fields (n : Nat) :
    (setTimeTotal n s).pending = s.pending ∧ (setTimeTotal n s).cycles = s.cycles ∧ (setTimeTotal n s).freeCtr = s.freeCtr
    ∧ (setTimeTotal n s).rsp = s.rsp ∧ (setTimeTotal n s).dev = s.dev ∧ (setTimeTotal n s).hif = s.hif ∧ (setTimeTotal n s).up = s.up
    ∧ (setTimeTotal n s).tcs = s.tcs ∧ (setTimeTotal n s).flash = s.flash ∧ (setTimeTotal n s).boxes = s.boxes
    ∧ (setTimeTotal n s).ports = s.ports ∧ (setTimeTotal n s).rxs = s.rxs ∧ (setTimeTotal n s).laneWords = s.laneWords
    ∧ (setTimeTotal n s).ras = s.ras ∧ (setTimeTotal n s).lanes = s.lanes ∧ (setTimeTotal n s).prbs = s.prbs
    ∧ (setTimeTotal n s).harps = s.harps ∧ (setTimeTotal n s).chits = s.chits ∧ (setTimeTotal n s).gens = s.gens
    ∧ (setTimeTotal n s).chitSeq = s.chitSeq ∧ (setTimeTotal n s).classes = s.classes ∧ (setTimeTotal n s).lkps = s.lkps
    ∧ (setTimeTotal n s).tbl = s.tbl ∧ (setTimeTotal n s).meters = s.meters ∧ (setTimeTotal n s).profiles = s.profiles
    ∧ (setTimeTotal n s).tenants = s.tenants ∧ (setTimeTotal n s).mint = s.mint ∧ (setTimeTotal n s).txs = s.txs
    ∧ (setTimeTotal n s).groups = s.groups ∧ (setTimeTotal n s).mirrors = s.mirrors ∧ (setTimeTotal n s).tele = s.tele
    ∧ (setTimeTotal n s).led = s.led ∧ (setTimeTotal n s).recirc = s.recirc ∧ (setTimeTotal n s).mem = s.mem
    ∧ (setTimeTotal n s).tal = s.tal ∧ (setTimeTotal n s).pwr = s.pwr ∧ (setTimeTotal n s).con = s.con ∧ (setTimeTotal n s).tmp = s.tmp
    ∧ (setTimeTotal n s).pair = s.pair ∧ (setTimeTotal n s).tap = s.tap ∧ (setTimeTotal n s).ctr = s.ctr
    ∧ (setTimeTotal n s).latch = s.latch ∧ (setTimeTotal n s).hostMem = s.hostMem := by
  and_intros <;> rfl
/-- `pushReady` writes `up` alone. -/
@[simp] theorem pushReady_fields (j : UpJob) :
    (pushReady j s).pending = s.pending ∧ (pushReady j s).cycles = s.cycles ∧ (pushReady j s).freeCtr = s.freeCtr
    ∧ (pushReady j s).rsp = s.rsp ∧ (pushReady j s).dev = s.dev ∧ (pushReady j s).hif = s.hif ∧ (pushReady j s).tcs = s.tcs
    ∧ (pushReady j s).flash = s.flash ∧ (pushReady j s).boxes = s.boxes ∧ (pushReady j s).time = s.time ∧ (pushReady j s).ports = s.ports
    ∧ (pushReady j s).rxs = s.rxs ∧ (pushReady j s).laneWords = s.laneWords ∧ (pushReady j s).ras = s.ras
    ∧ (pushReady j s).lanes = s.lanes ∧ (pushReady j s).prbs = s.prbs ∧ (pushReady j s).harps = s.harps ∧ (pushReady j s).chits = s.chits
    ∧ (pushReady j s).gens = s.gens ∧ (pushReady j s).chitSeq = s.chitSeq ∧ (pushReady j s).classes = s.classes
    ∧ (pushReady j s).lkps = s.lkps ∧ (pushReady j s).tbl = s.tbl ∧ (pushReady j s).meters = s.meters
    ∧ (pushReady j s).profiles = s.profiles ∧ (pushReady j s).tenants = s.tenants ∧ (pushReady j s).mint = s.mint
    ∧ (pushReady j s).txs = s.txs ∧ (pushReady j s).groups = s.groups ∧ (pushReady j s).mirrors = s.mirrors
    ∧ (pushReady j s).tele = s.tele ∧ (pushReady j s).led = s.led ∧ (pushReady j s).recirc = s.recirc ∧ (pushReady j s).mem = s.mem
    ∧ (pushReady j s).tal = s.tal ∧ (pushReady j s).pwr = s.pwr ∧ (pushReady j s).con = s.con ∧ (pushReady j s).tmp = s.tmp
    ∧ (pushReady j s).pair = s.pair ∧ (pushReady j s).tap = s.tap ∧ (pushReady j s).ctr = s.ctr ∧ (pushReady j s).latch = s.latch
    ∧ (pushReady j s).hostMem = s.hostMem := by
  and_intros <;> rfl
/-- `logAccess` writes `up` alone. -/
@[simp] theorem logAccess_fields (c : AccCause) (b2 : Bool) (o : Nat) (v : W32) (be : BitVec 4) :
    (logAccess c b2 o v be s).pending = s.pending ∧ (logAccess c b2 o v be s).cycles = s.cycles
    ∧ (logAccess c b2 o v be s).freeCtr = s.freeCtr ∧ (logAccess c b2 o v be s).rsp = s.rsp ∧ (logAccess c b2 o v be s).dev = s.dev
    ∧ (logAccess c b2 o v be s).hif = s.hif ∧ (logAccess c b2 o v be s).tcs = s.tcs ∧ (logAccess c b2 o v be s).flash = s.flash
    ∧ (logAccess c b2 o v be s).boxes = s.boxes ∧ (logAccess c b2 o v be s).time = s.time ∧ (logAccess c b2 o v be s).ports = s.ports
    ∧ (logAccess c b2 o v be s).rxs = s.rxs ∧ (logAccess c b2 o v be s).laneWords = s.laneWords ∧ (logAccess c b2 o v be s).ras = s.ras
    ∧ (logAccess c b2 o v be s).lanes = s.lanes ∧ (logAccess c b2 o v be s).prbs = s.prbs ∧ (logAccess c b2 o v be s).harps = s.harps
    ∧ (logAccess c b2 o v be s).chits = s.chits ∧ (logAccess c b2 o v be s).gens = s.gens ∧ (logAccess c b2 o v be s).chitSeq = s.chitSeq
    ∧ (logAccess c b2 o v be s).classes = s.classes ∧ (logAccess c b2 o v be s).lkps = s.lkps ∧ (logAccess c b2 o v be s).tbl = s.tbl
    ∧ (logAccess c b2 o v be s).meters = s.meters ∧ (logAccess c b2 o v be s).profiles = s.profiles
    ∧ (logAccess c b2 o v be s).tenants = s.tenants ∧ (logAccess c b2 o v be s).mint = s.mint ∧ (logAccess c b2 o v be s).txs = s.txs
    ∧ (logAccess c b2 o v be s).groups = s.groups ∧ (logAccess c b2 o v be s).mirrors = s.mirrors
    ∧ (logAccess c b2 o v be s).tele = s.tele ∧ (logAccess c b2 o v be s).led = s.led ∧ (logAccess c b2 o v be s).recirc = s.recirc
    ∧ (logAccess c b2 o v be s).mem = s.mem ∧ (logAccess c b2 o v be s).tal = s.tal ∧ (logAccess c b2 o v be s).pwr = s.pwr
    ∧ (logAccess c b2 o v be s).con = s.con ∧ (logAccess c b2 o v be s).tmp = s.tmp ∧ (logAccess c b2 o v be s).pair = s.pair
    ∧ (logAccess c b2 o v be s).tap = s.tap ∧ (logAccess c b2 o v be s).ctr = s.ctr ∧ (logAccess c b2 o v be s).latch = s.latch
    ∧ (logAccess c b2 o v be s).hostMem = s.hostMem := by
  and_intros <;> rfl
/-- `setChannel` writes `tcs` alone. -/
@[simp] theorem setChannel_fields (v : Via) (c : Channel) :
    (setChannel v c s).pending = s.pending ∧ (setChannel v c s).cycles = s.cycles ∧ (setChannel v c s).freeCtr = s.freeCtr
    ∧ (setChannel v c s).rsp = s.rsp ∧ (setChannel v c s).dev = s.dev ∧ (setChannel v c s).hif = s.hif ∧ (setChannel v c s).up = s.up
    ∧ (setChannel v c s).flash = s.flash ∧ (setChannel v c s).boxes = s.boxes ∧ (setChannel v c s).time = s.time
    ∧ (setChannel v c s).ports = s.ports ∧ (setChannel v c s).rxs = s.rxs ∧ (setChannel v c s).laneWords = s.laneWords
    ∧ (setChannel v c s).ras = s.ras ∧ (setChannel v c s).lanes = s.lanes ∧ (setChannel v c s).prbs = s.prbs
    ∧ (setChannel v c s).harps = s.harps ∧ (setChannel v c s).chits = s.chits ∧ (setChannel v c s).gens = s.gens
    ∧ (setChannel v c s).chitSeq = s.chitSeq ∧ (setChannel v c s).classes = s.classes ∧ (setChannel v c s).lkps = s.lkps
    ∧ (setChannel v c s).tbl = s.tbl ∧ (setChannel v c s).meters = s.meters ∧ (setChannel v c s).profiles = s.profiles
    ∧ (setChannel v c s).tenants = s.tenants ∧ (setChannel v c s).mint = s.mint ∧ (setChannel v c s).txs = s.txs
    ∧ (setChannel v c s).groups = s.groups ∧ (setChannel v c s).mirrors = s.mirrors ∧ (setChannel v c s).tele = s.tele
    ∧ (setChannel v c s).led = s.led ∧ (setChannel v c s).recirc = s.recirc ∧ (setChannel v c s).mem = s.mem
    ∧ (setChannel v c s).tal = s.tal ∧ (setChannel v c s).pwr = s.pwr ∧ (setChannel v c s).con = s.con ∧ (setChannel v c s).tmp = s.tmp
    ∧ (setChannel v c s).pair = s.pair ∧ (setChannel v c s).tap = s.tap ∧ (setChannel v c s).ctr = s.ctr
    ∧ (setChannel v c s).latch = s.latch ∧ (setChannel v c s).hostMem = s.hostMem := by
  and_intros <;> rfl
/-- `setBox` writes `boxes` alone. -/
@[simp] theorem setBox_fields (n : Nat) (b : Mailbox) :
    (setBox n b s).pending = s.pending ∧ (setBox n b s).cycles = s.cycles ∧ (setBox n b s).freeCtr = s.freeCtr
    ∧ (setBox n b s).rsp = s.rsp ∧ (setBox n b s).dev = s.dev ∧ (setBox n b s).hif = s.hif ∧ (setBox n b s).up = s.up
    ∧ (setBox n b s).tcs = s.tcs ∧ (setBox n b s).flash = s.flash ∧ (setBox n b s).time = s.time ∧ (setBox n b s).ports = s.ports
    ∧ (setBox n b s).rxs = s.rxs ∧ (setBox n b s).laneWords = s.laneWords ∧ (setBox n b s).ras = s.ras ∧ (setBox n b s).lanes = s.lanes
    ∧ (setBox n b s).prbs = s.prbs ∧ (setBox n b s).harps = s.harps ∧ (setBox n b s).chits = s.chits ∧ (setBox n b s).gens = s.gens
    ∧ (setBox n b s).chitSeq = s.chitSeq ∧ (setBox n b s).classes = s.classes ∧ (setBox n b s).lkps = s.lkps ∧ (setBox n b s).tbl = s.tbl
    ∧ (setBox n b s).meters = s.meters ∧ (setBox n b s).profiles = s.profiles ∧ (setBox n b s).tenants = s.tenants
    ∧ (setBox n b s).mint = s.mint ∧ (setBox n b s).txs = s.txs ∧ (setBox n b s).groups = s.groups ∧ (setBox n b s).mirrors = s.mirrors
    ∧ (setBox n b s).tele = s.tele ∧ (setBox n b s).led = s.led ∧ (setBox n b s).recirc = s.recirc ∧ (setBox n b s).mem = s.mem
    ∧ (setBox n b s).tal = s.tal ∧ (setBox n b s).pwr = s.pwr ∧ (setBox n b s).con = s.con ∧ (setBox n b s).tmp = s.tmp
    ∧ (setBox n b s).pair = s.pair ∧ (setBox n b s).tap = s.tap ∧ (setBox n b s).ctr = s.ctr ∧ (setBox n b s).latch = s.latch
    ∧ (setBox n b s).hostMem = s.hostMem := by
  and_intros <;> rfl
/-- `modPort` writes `ports` alone. -/
@[simp] theorem modPort_fields (p : Nat) (f : PortState → PortState) :
    (modPort p f s).pending = s.pending ∧ (modPort p f s).cycles = s.cycles ∧ (modPort p f s).freeCtr = s.freeCtr
    ∧ (modPort p f s).rsp = s.rsp ∧ (modPort p f s).dev = s.dev ∧ (modPort p f s).hif = s.hif ∧ (modPort p f s).up = s.up
    ∧ (modPort p f s).tcs = s.tcs ∧ (modPort p f s).flash = s.flash ∧ (modPort p f s).boxes = s.boxes ∧ (modPort p f s).time = s.time
    ∧ (modPort p f s).rxs = s.rxs ∧ (modPort p f s).laneWords = s.laneWords ∧ (modPort p f s).ras = s.ras
    ∧ (modPort p f s).lanes = s.lanes ∧ (modPort p f s).prbs = s.prbs ∧ (modPort p f s).harps = s.harps ∧ (modPort p f s).chits = s.chits
    ∧ (modPort p f s).gens = s.gens ∧ (modPort p f s).chitSeq = s.chitSeq ∧ (modPort p f s).classes = s.classes
    ∧ (modPort p f s).lkps = s.lkps ∧ (modPort p f s).tbl = s.tbl ∧ (modPort p f s).meters = s.meters
    ∧ (modPort p f s).profiles = s.profiles ∧ (modPort p f s).tenants = s.tenants ∧ (modPort p f s).mint = s.mint
    ∧ (modPort p f s).txs = s.txs ∧ (modPort p f s).groups = s.groups ∧ (modPort p f s).mirrors = s.mirrors
    ∧ (modPort p f s).tele = s.tele ∧ (modPort p f s).led = s.led ∧ (modPort p f s).recirc = s.recirc ∧ (modPort p f s).mem = s.mem
    ∧ (modPort p f s).tal = s.tal ∧ (modPort p f s).pwr = s.pwr ∧ (modPort p f s).con = s.con ∧ (modPort p f s).tmp = s.tmp
    ∧ (modPort p f s).pair = s.pair ∧ (modPort p f s).tap = s.tap ∧ (modPort p f s).ctr = s.ctr ∧ (modPort p f s).latch = s.latch
    ∧ (modPort p f s).hostMem = s.hostMem := by
  and_intros <;> rfl
/-- `modTx` writes `txs` alone. -/
@[simp] theorem modTx_fields (p : Nat) (f : TxPort → TxPort) :
    (modTx p f s).pending = s.pending ∧ (modTx p f s).cycles = s.cycles ∧ (modTx p f s).freeCtr = s.freeCtr ∧ (modTx p f s).rsp = s.rsp
    ∧ (modTx p f s).dev = s.dev ∧ (modTx p f s).hif = s.hif ∧ (modTx p f s).up = s.up ∧ (modTx p f s).tcs = s.tcs
    ∧ (modTx p f s).flash = s.flash ∧ (modTx p f s).boxes = s.boxes ∧ (modTx p f s).time = s.time ∧ (modTx p f s).ports = s.ports
    ∧ (modTx p f s).rxs = s.rxs ∧ (modTx p f s).laneWords = s.laneWords ∧ (modTx p f s).ras = s.ras ∧ (modTx p f s).lanes = s.lanes
    ∧ (modTx p f s).prbs = s.prbs ∧ (modTx p f s).harps = s.harps ∧ (modTx p f s).chits = s.chits ∧ (modTx p f s).gens = s.gens
    ∧ (modTx p f s).chitSeq = s.chitSeq ∧ (modTx p f s).classes = s.classes ∧ (modTx p f s).lkps = s.lkps ∧ (modTx p f s).tbl = s.tbl
    ∧ (modTx p f s).meters = s.meters ∧ (modTx p f s).profiles = s.profiles ∧ (modTx p f s).tenants = s.tenants
    ∧ (modTx p f s).mint = s.mint ∧ (modTx p f s).groups = s.groups ∧ (modTx p f s).mirrors = s.mirrors ∧ (modTx p f s).tele = s.tele
    ∧ (modTx p f s).led = s.led ∧ (modTx p f s).recirc = s.recirc ∧ (modTx p f s).mem = s.mem ∧ (modTx p f s).tal = s.tal
    ∧ (modTx p f s).pwr = s.pwr ∧ (modTx p f s).con = s.con ∧ (modTx p f s).tmp = s.tmp ∧ (modTx p f s).pair = s.pair
    ∧ (modTx p f s).tap = s.tap ∧ (modTx p f s).ctr = s.ctr ∧ (modTx p f s).latch = s.latch ∧ (modTx p f s).hostMem = s.hostMem := by
  and_intros <;> rfl
/-- `modRx` writes `rxs` alone. -/
@[simp] theorem modRx_fields (p : Nat) (f : RxPort → RxPort) :
    (modRx p f s).pending = s.pending ∧ (modRx p f s).cycles = s.cycles ∧ (modRx p f s).freeCtr = s.freeCtr ∧ (modRx p f s).rsp = s.rsp
    ∧ (modRx p f s).dev = s.dev ∧ (modRx p f s).hif = s.hif ∧ (modRx p f s).up = s.up ∧ (modRx p f s).tcs = s.tcs
    ∧ (modRx p f s).flash = s.flash ∧ (modRx p f s).boxes = s.boxes ∧ (modRx p f s).time = s.time ∧ (modRx p f s).ports = s.ports
    ∧ (modRx p f s).laneWords = s.laneWords ∧ (modRx p f s).ras = s.ras ∧ (modRx p f s).lanes = s.lanes ∧ (modRx p f s).prbs = s.prbs
    ∧ (modRx p f s).harps = s.harps ∧ (modRx p f s).chits = s.chits ∧ (modRx p f s).gens = s.gens ∧ (modRx p f s).chitSeq = s.chitSeq
    ∧ (modRx p f s).classes = s.classes ∧ (modRx p f s).lkps = s.lkps ∧ (modRx p f s).tbl = s.tbl ∧ (modRx p f s).meters = s.meters
    ∧ (modRx p f s).profiles = s.profiles ∧ (modRx p f s).tenants = s.tenants ∧ (modRx p f s).mint = s.mint ∧ (modRx p f s).txs = s.txs
    ∧ (modRx p f s).groups = s.groups ∧ (modRx p f s).mirrors = s.mirrors ∧ (modRx p f s).tele = s.tele ∧ (modRx p f s).led = s.led
    ∧ (modRx p f s).recirc = s.recirc ∧ (modRx p f s).mem = s.mem ∧ (modRx p f s).tal = s.tal ∧ (modRx p f s).pwr = s.pwr
    ∧ (modRx p f s).con = s.con ∧ (modRx p f s).tmp = s.tmp ∧ (modRx p f s).pair = s.pair ∧ (modRx p f s).tap = s.tap
    ∧ (modRx p f s).ctr = s.ctr ∧ (modRx p f s).latch = s.latch ∧ (modRx p f s).hostMem = s.hostMem := by
  and_intros <;> rfl
/-- `modDamp` writes `ports` alone. -/
@[simp] theorem modDamp_fields (p : Nat) (f : PortDamp → PortDamp) :
    (modDamp p f s).pending = s.pending ∧ (modDamp p f s).cycles = s.cycles ∧ (modDamp p f s).freeCtr = s.freeCtr
    ∧ (modDamp p f s).rsp = s.rsp ∧ (modDamp p f s).dev = s.dev ∧ (modDamp p f s).hif = s.hif ∧ (modDamp p f s).up = s.up
    ∧ (modDamp p f s).tcs = s.tcs ∧ (modDamp p f s).flash = s.flash ∧ (modDamp p f s).boxes = s.boxes ∧ (modDamp p f s).time = s.time
    ∧ (modDamp p f s).rxs = s.rxs ∧ (modDamp p f s).laneWords = s.laneWords ∧ (modDamp p f s).ras = s.ras
    ∧ (modDamp p f s).lanes = s.lanes ∧ (modDamp p f s).prbs = s.prbs ∧ (modDamp p f s).harps = s.harps ∧ (modDamp p f s).chits = s.chits
    ∧ (modDamp p f s).gens = s.gens ∧ (modDamp p f s).chitSeq = s.chitSeq ∧ (modDamp p f s).classes = s.classes
    ∧ (modDamp p f s).lkps = s.lkps ∧ (modDamp p f s).tbl = s.tbl ∧ (modDamp p f s).meters = s.meters
    ∧ (modDamp p f s).profiles = s.profiles ∧ (modDamp p f s).tenants = s.tenants ∧ (modDamp p f s).mint = s.mint
    ∧ (modDamp p f s).txs = s.txs ∧ (modDamp p f s).groups = s.groups ∧ (modDamp p f s).mirrors = s.mirrors
    ∧ (modDamp p f s).tele = s.tele ∧ (modDamp p f s).led = s.led ∧ (modDamp p f s).recirc = s.recirc ∧ (modDamp p f s).mem = s.mem
    ∧ (modDamp p f s).tal = s.tal ∧ (modDamp p f s).pwr = s.pwr ∧ (modDamp p f s).con = s.con ∧ (modDamp p f s).tmp = s.tmp
    ∧ (modDamp p f s).pair = s.pair ∧ (modDamp p f s).tap = s.tap ∧ (modDamp p f s).ctr = s.ctr ∧ (modDamp p f s).latch = s.latch
    ∧ (modDamp p f s).hostMem = s.hostMem := by
  and_intros <;> rfl
/-- `setOutlet` writes `con` alone. -/
@[simp] theorem setOutlet_fields (o : Nat) (v : Outlet) :
    (setOutlet o v s).pending = s.pending ∧ (setOutlet o v s).cycles = s.cycles ∧ (setOutlet o v s).freeCtr = s.freeCtr
    ∧ (setOutlet o v s).rsp = s.rsp ∧ (setOutlet o v s).dev = s.dev ∧ (setOutlet o v s).hif = s.hif ∧ (setOutlet o v s).up = s.up
    ∧ (setOutlet o v s).tcs = s.tcs ∧ (setOutlet o v s).flash = s.flash ∧ (setOutlet o v s).boxes = s.boxes
    ∧ (setOutlet o v s).time = s.time ∧ (setOutlet o v s).ports = s.ports ∧ (setOutlet o v s).rxs = s.rxs
    ∧ (setOutlet o v s).laneWords = s.laneWords ∧ (setOutlet o v s).ras = s.ras ∧ (setOutlet o v s).lanes = s.lanes
    ∧ (setOutlet o v s).prbs = s.prbs ∧ (setOutlet o v s).harps = s.harps ∧ (setOutlet o v s).chits = s.chits
    ∧ (setOutlet o v s).gens = s.gens ∧ (setOutlet o v s).chitSeq = s.chitSeq ∧ (setOutlet o v s).classes = s.classes
    ∧ (setOutlet o v s).lkps = s.lkps ∧ (setOutlet o v s).tbl = s.tbl ∧ (setOutlet o v s).meters = s.meters
    ∧ (setOutlet o v s).profiles = s.profiles ∧ (setOutlet o v s).tenants = s.tenants ∧ (setOutlet o v s).mint = s.mint
    ∧ (setOutlet o v s).txs = s.txs ∧ (setOutlet o v s).groups = s.groups ∧ (setOutlet o v s).mirrors = s.mirrors
    ∧ (setOutlet o v s).tele = s.tele ∧ (setOutlet o v s).led = s.led ∧ (setOutlet o v s).recirc = s.recirc
    ∧ (setOutlet o v s).mem = s.mem ∧ (setOutlet o v s).tal = s.tal ∧ (setOutlet o v s).pwr = s.pwr ∧ (setOutlet o v s).tmp = s.tmp
    ∧ (setOutlet o v s).pair = s.pair ∧ (setOutlet o v s).tap = s.tap ∧ (setOutlet o v s).ctr = s.ctr ∧ (setOutlet o v s).latch = s.latch
    ∧ (setOutlet o v s).hostMem = s.hostMem := by
  and_intros <;> rfl
/-- `modHarp` writes `harps` alone. -/
@[simp] theorem modHarp_fields (k : Nat) (f : HarpState → HarpState) :
    (modHarp k f s).pending = s.pending ∧ (modHarp k f s).cycles = s.cycles ∧ (modHarp k f s).freeCtr = s.freeCtr
    ∧ (modHarp k f s).rsp = s.rsp ∧ (modHarp k f s).dev = s.dev ∧ (modHarp k f s).hif = s.hif ∧ (modHarp k f s).up = s.up
    ∧ (modHarp k f s).tcs = s.tcs ∧ (modHarp k f s).flash = s.flash ∧ (modHarp k f s).boxes = s.boxes ∧ (modHarp k f s).time = s.time
    ∧ (modHarp k f s).ports = s.ports ∧ (modHarp k f s).rxs = s.rxs ∧ (modHarp k f s).laneWords = s.laneWords
    ∧ (modHarp k f s).ras = s.ras ∧ (modHarp k f s).lanes = s.lanes ∧ (modHarp k f s).prbs = s.prbs ∧ (modHarp k f s).chits = s.chits
    ∧ (modHarp k f s).gens = s.gens ∧ (modHarp k f s).chitSeq = s.chitSeq ∧ (modHarp k f s).classes = s.classes
    ∧ (modHarp k f s).lkps = s.lkps ∧ (modHarp k f s).tbl = s.tbl ∧ (modHarp k f s).meters = s.meters
    ∧ (modHarp k f s).profiles = s.profiles ∧ (modHarp k f s).tenants = s.tenants ∧ (modHarp k f s).mint = s.mint
    ∧ (modHarp k f s).txs = s.txs ∧ (modHarp k f s).groups = s.groups ∧ (modHarp k f s).mirrors = s.mirrors
    ∧ (modHarp k f s).tele = s.tele ∧ (modHarp k f s).led = s.led ∧ (modHarp k f s).recirc = s.recirc ∧ (modHarp k f s).mem = s.mem
    ∧ (modHarp k f s).tal = s.tal ∧ (modHarp k f s).pwr = s.pwr ∧ (modHarp k f s).con = s.con ∧ (modHarp k f s).tmp = s.tmp
    ∧ (modHarp k f s).pair = s.pair ∧ (modHarp k f s).tap = s.tap ∧ (modHarp k f s).ctr = s.ctr ∧ (modHarp k f s).latch = s.latch
    ∧ (modHarp k f s).hostMem = s.hostMem := by
  and_intros <;> rfl
/-- `modClass` writes `classes` alone. -/
@[simp] theorem modClass_fields (k : Nat) (f : ClassState → ClassState) :
    (modClass k f s).pending = s.pending ∧ (modClass k f s).cycles = s.cycles ∧ (modClass k f s).freeCtr = s.freeCtr
    ∧ (modClass k f s).rsp = s.rsp ∧ (modClass k f s).dev = s.dev ∧ (modClass k f s).hif = s.hif ∧ (modClass k f s).up = s.up
    ∧ (modClass k f s).tcs = s.tcs ∧ (modClass k f s).flash = s.flash ∧ (modClass k f s).boxes = s.boxes ∧ (modClass k f s).time = s.time
    ∧ (modClass k f s).ports = s.ports ∧ (modClass k f s).rxs = s.rxs ∧ (modClass k f s).laneWords = s.laneWords
    ∧ (modClass k f s).ras = s.ras ∧ (modClass k f s).lanes = s.lanes ∧ (modClass k f s).prbs = s.prbs ∧ (modClass k f s).harps = s.harps
    ∧ (modClass k f s).chits = s.chits ∧ (modClass k f s).gens = s.gens ∧ (modClass k f s).chitSeq = s.chitSeq
    ∧ (modClass k f s).lkps = s.lkps ∧ (modClass k f s).tbl = s.tbl ∧ (modClass k f s).meters = s.meters
    ∧ (modClass k f s).profiles = s.profiles ∧ (modClass k f s).tenants = s.tenants ∧ (modClass k f s).mint = s.mint
    ∧ (modClass k f s).txs = s.txs ∧ (modClass k f s).groups = s.groups ∧ (modClass k f s).mirrors = s.mirrors
    ∧ (modClass k f s).tele = s.tele ∧ (modClass k f s).led = s.led ∧ (modClass k f s).recirc = s.recirc ∧ (modClass k f s).mem = s.mem
    ∧ (modClass k f s).tal = s.tal ∧ (modClass k f s).pwr = s.pwr ∧ (modClass k f s).con = s.con ∧ (modClass k f s).tmp = s.tmp
    ∧ (modClass k f s).pair = s.pair ∧ (modClass k f s).tap = s.tap ∧ (modClass k f s).ctr = s.ctr ∧ (modClass k f s).latch = s.latch
    ∧ (modClass k f s).hostMem = s.hostMem := by
  and_intros <;> rfl
/-- `modLkp` writes `lkps` alone. -/
@[simp] theorem modLkp_fields (k : Nat) (f : LkpState → LkpState) :
    (modLkp k f s).pending = s.pending ∧ (modLkp k f s).cycles = s.cycles ∧ (modLkp k f s).freeCtr = s.freeCtr
    ∧ (modLkp k f s).rsp = s.rsp ∧ (modLkp k f s).dev = s.dev ∧ (modLkp k f s).hif = s.hif ∧ (modLkp k f s).up = s.up
    ∧ (modLkp k f s).tcs = s.tcs ∧ (modLkp k f s).flash = s.flash ∧ (modLkp k f s).boxes = s.boxes ∧ (modLkp k f s).time = s.time
    ∧ (modLkp k f s).ports = s.ports ∧ (modLkp k f s).rxs = s.rxs ∧ (modLkp k f s).laneWords = s.laneWords ∧ (modLkp k f s).ras = s.ras
    ∧ (modLkp k f s).lanes = s.lanes ∧ (modLkp k f s).prbs = s.prbs ∧ (modLkp k f s).harps = s.harps ∧ (modLkp k f s).chits = s.chits
    ∧ (modLkp k f s).gens = s.gens ∧ (modLkp k f s).chitSeq = s.chitSeq ∧ (modLkp k f s).classes = s.classes ∧ (modLkp k f s).tbl = s.tbl
    ∧ (modLkp k f s).meters = s.meters ∧ (modLkp k f s).profiles = s.profiles ∧ (modLkp k f s).tenants = s.tenants
    ∧ (modLkp k f s).mint = s.mint ∧ (modLkp k f s).txs = s.txs ∧ (modLkp k f s).groups = s.groups ∧ (modLkp k f s).mirrors = s.mirrors
    ∧ (modLkp k f s).tele = s.tele ∧ (modLkp k f s).led = s.led ∧ (modLkp k f s).recirc = s.recirc ∧ (modLkp k f s).mem = s.mem
    ∧ (modLkp k f s).tal = s.tal ∧ (modLkp k f s).pwr = s.pwr ∧ (modLkp k f s).con = s.con ∧ (modLkp k f s).tmp = s.tmp
    ∧ (modLkp k f s).pair = s.pair ∧ (modLkp k f s).tap = s.tap ∧ (modLkp k f s).ctr = s.ctr ∧ (modLkp k f s).latch = s.latch
    ∧ (modLkp k f s).hostMem = s.hostMem := by
  and_intros <;> rfl
/-- `setChit` writes `chits` alone. -/
@[simp] theorem setChit_fields (n : Nat) (c : Option Chit) :
    (setChit n c s).pending = s.pending ∧ (setChit n c s).cycles = s.cycles ∧ (setChit n c s).freeCtr = s.freeCtr
    ∧ (setChit n c s).rsp = s.rsp ∧ (setChit n c s).dev = s.dev ∧ (setChit n c s).hif = s.hif ∧ (setChit n c s).up = s.up
    ∧ (setChit n c s).tcs = s.tcs ∧ (setChit n c s).flash = s.flash ∧ (setChit n c s).boxes = s.boxes ∧ (setChit n c s).time = s.time
    ∧ (setChit n c s).ports = s.ports ∧ (setChit n c s).rxs = s.rxs ∧ (setChit n c s).laneWords = s.laneWords
    ∧ (setChit n c s).ras = s.ras ∧ (setChit n c s).lanes = s.lanes ∧ (setChit n c s).prbs = s.prbs ∧ (setChit n c s).harps = s.harps
    ∧ (setChit n c s).gens = s.gens ∧ (setChit n c s).chitSeq = s.chitSeq ∧ (setChit n c s).classes = s.classes
    ∧ (setChit n c s).lkps = s.lkps ∧ (setChit n c s).tbl = s.tbl ∧ (setChit n c s).meters = s.meters
    ∧ (setChit n c s).profiles = s.profiles ∧ (setChit n c s).tenants = s.tenants ∧ (setChit n c s).mint = s.mint
    ∧ (setChit n c s).txs = s.txs ∧ (setChit n c s).groups = s.groups ∧ (setChit n c s).mirrors = s.mirrors
    ∧ (setChit n c s).tele = s.tele ∧ (setChit n c s).led = s.led ∧ (setChit n c s).recirc = s.recirc ∧ (setChit n c s).mem = s.mem
    ∧ (setChit n c s).tal = s.tal ∧ (setChit n c s).pwr = s.pwr ∧ (setChit n c s).con = s.con ∧ (setChit n c s).tmp = s.tmp
    ∧ (setChit n c s).pair = s.pair ∧ (setChit n c s).tap = s.tap ∧ (setChit n c s).ctr = s.ctr ∧ (setChit n c s).latch = s.latch
    ∧ (setChit n c s).hostMem = s.hostMem := by
  and_intros <;> rfl
/-- `setPool` writes `mint` alone. -/
@[simp] theorem setPool_fields (p : Nat) (q : Pool) :
    (setPool p q s).pending = s.pending ∧ (setPool p q s).cycles = s.cycles ∧ (setPool p q s).freeCtr = s.freeCtr
    ∧ (setPool p q s).rsp = s.rsp ∧ (setPool p q s).dev = s.dev ∧ (setPool p q s).hif = s.hif ∧ (setPool p q s).up = s.up
    ∧ (setPool p q s).tcs = s.tcs ∧ (setPool p q s).flash = s.flash ∧ (setPool p q s).boxes = s.boxes ∧ (setPool p q s).time = s.time
    ∧ (setPool p q s).ports = s.ports ∧ (setPool p q s).rxs = s.rxs ∧ (setPool p q s).laneWords = s.laneWords
    ∧ (setPool p q s).ras = s.ras ∧ (setPool p q s).lanes = s.lanes ∧ (setPool p q s).prbs = s.prbs ∧ (setPool p q s).harps = s.harps
    ∧ (setPool p q s).chits = s.chits ∧ (setPool p q s).gens = s.gens ∧ (setPool p q s).chitSeq = s.chitSeq
    ∧ (setPool p q s).classes = s.classes ∧ (setPool p q s).lkps = s.lkps ∧ (setPool p q s).tbl = s.tbl
    ∧ (setPool p q s).meters = s.meters ∧ (setPool p q s).profiles = s.profiles ∧ (setPool p q s).tenants = s.tenants
    ∧ (setPool p q s).txs = s.txs ∧ (setPool p q s).groups = s.groups ∧ (setPool p q s).mirrors = s.mirrors
    ∧ (setPool p q s).tele = s.tele ∧ (setPool p q s).led = s.led ∧ (setPool p q s).recirc = s.recirc ∧ (setPool p q s).mem = s.mem
    ∧ (setPool p q s).tal = s.tal ∧ (setPool p q s).pwr = s.pwr ∧ (setPool p q s).con = s.con ∧ (setPool p q s).tmp = s.tmp
    ∧ (setPool p q s).pair = s.pair ∧ (setPool p q s).tap = s.tap ∧ (setPool p q s).ctr = s.ctr ∧ (setPool p q s).latch = s.latch
    ∧ (setPool p q s).hostMem = s.hostMem := by
  and_intros <;> rfl
/-- `setTenant` writes `tenants` alone. -/
@[simp] theorem setTenant_fields (t : Nat) (v : Tenant) :
    (setTenant t v s).pending = s.pending ∧ (setTenant t v s).cycles = s.cycles ∧ (setTenant t v s).freeCtr = s.freeCtr
    ∧ (setTenant t v s).rsp = s.rsp ∧ (setTenant t v s).dev = s.dev ∧ (setTenant t v s).hif = s.hif ∧ (setTenant t v s).up = s.up
    ∧ (setTenant t v s).tcs = s.tcs ∧ (setTenant t v s).flash = s.flash ∧ (setTenant t v s).boxes = s.boxes
    ∧ (setTenant t v s).time = s.time ∧ (setTenant t v s).ports = s.ports ∧ (setTenant t v s).rxs = s.rxs
    ∧ (setTenant t v s).laneWords = s.laneWords ∧ (setTenant t v s).ras = s.ras ∧ (setTenant t v s).lanes = s.lanes
    ∧ (setTenant t v s).prbs = s.prbs ∧ (setTenant t v s).harps = s.harps ∧ (setTenant t v s).chits = s.chits
    ∧ (setTenant t v s).gens = s.gens ∧ (setTenant t v s).chitSeq = s.chitSeq ∧ (setTenant t v s).classes = s.classes
    ∧ (setTenant t v s).lkps = s.lkps ∧ (setTenant t v s).tbl = s.tbl ∧ (setTenant t v s).meters = s.meters
    ∧ (setTenant t v s).profiles = s.profiles ∧ (setTenant t v s).mint = s.mint ∧ (setTenant t v s).txs = s.txs
    ∧ (setTenant t v s).groups = s.groups ∧ (setTenant t v s).mirrors = s.mirrors ∧ (setTenant t v s).tele = s.tele
    ∧ (setTenant t v s).led = s.led ∧ (setTenant t v s).recirc = s.recirc ∧ (setTenant t v s).mem = s.mem ∧ (setTenant t v s).tal = s.tal
    ∧ (setTenant t v s).pwr = s.pwr ∧ (setTenant t v s).con = s.con ∧ (setTenant t v s).tmp = s.tmp ∧ (setTenant t v s).pair = s.pair
    ∧ (setTenant t v s).tap = s.tap ∧ (setTenant t v s).ctr = s.ctr ∧ (setTenant t v s).latch = s.latch
    ∧ (setTenant t v s).hostMem = s.hostMem := by
  and_intros <;> rfl
/-- `setMeter` writes `meters` alone. -/
@[simp] theorem setMeter_fields (k m : Nat) (v : Meter) :
    (setMeter k m v s).pending = s.pending ∧ (setMeter k m v s).cycles = s.cycles ∧ (setMeter k m v s).freeCtr = s.freeCtr
    ∧ (setMeter k m v s).rsp = s.rsp ∧ (setMeter k m v s).dev = s.dev ∧ (setMeter k m v s).hif = s.hif ∧ (setMeter k m v s).up = s.up
    ∧ (setMeter k m v s).tcs = s.tcs ∧ (setMeter k m v s).flash = s.flash ∧ (setMeter k m v s).boxes = s.boxes
    ∧ (setMeter k m v s).time = s.time ∧ (setMeter k m v s).ports = s.ports ∧ (setMeter k m v s).rxs = s.rxs
    ∧ (setMeter k m v s).laneWords = s.laneWords ∧ (setMeter k m v s).ras = s.ras ∧ (setMeter k m v s).lanes = s.lanes
    ∧ (setMeter k m v s).prbs = s.prbs ∧ (setMeter k m v s).harps = s.harps ∧ (setMeter k m v s).chits = s.chits
    ∧ (setMeter k m v s).gens = s.gens ∧ (setMeter k m v s).chitSeq = s.chitSeq ∧ (setMeter k m v s).classes = s.classes
    ∧ (setMeter k m v s).lkps = s.lkps ∧ (setMeter k m v s).tbl = s.tbl ∧ (setMeter k m v s).profiles = s.profiles
    ∧ (setMeter k m v s).tenants = s.tenants ∧ (setMeter k m v s).mint = s.mint ∧ (setMeter k m v s).txs = s.txs
    ∧ (setMeter k m v s).groups = s.groups ∧ (setMeter k m v s).mirrors = s.mirrors ∧ (setMeter k m v s).tele = s.tele
    ∧ (setMeter k m v s).led = s.led ∧ (setMeter k m v s).recirc = s.recirc ∧ (setMeter k m v s).mem = s.mem
    ∧ (setMeter k m v s).tal = s.tal ∧ (setMeter k m v s).pwr = s.pwr ∧ (setMeter k m v s).con = s.con ∧ (setMeter k m v s).tmp = s.tmp
    ∧ (setMeter k m v s).pair = s.pair ∧ (setMeter k m v s).tap = s.tap ∧ (setMeter k m v s).ctr = s.ctr
    ∧ (setMeter k m v s).latch = s.latch ∧ (setMeter k m v s).hostMem = s.hostMem := by
  and_intros <;> rfl
/-- `setBank` writes `led` alone. -/
@[simp] theorem setBank_fields (b : Nat) (v : Bank3) :
    (setBank b v s).pending = s.pending ∧ (setBank b v s).cycles = s.cycles ∧ (setBank b v s).freeCtr = s.freeCtr
    ∧ (setBank b v s).rsp = s.rsp ∧ (setBank b v s).dev = s.dev ∧ (setBank b v s).hif = s.hif ∧ (setBank b v s).up = s.up
    ∧ (setBank b v s).tcs = s.tcs ∧ (setBank b v s).flash = s.flash ∧ (setBank b v s).boxes = s.boxes ∧ (setBank b v s).time = s.time
    ∧ (setBank b v s).ports = s.ports ∧ (setBank b v s).rxs = s.rxs ∧ (setBank b v s).laneWords = s.laneWords
    ∧ (setBank b v s).ras = s.ras ∧ (setBank b v s).lanes = s.lanes ∧ (setBank b v s).prbs = s.prbs ∧ (setBank b v s).harps = s.harps
    ∧ (setBank b v s).chits = s.chits ∧ (setBank b v s).gens = s.gens ∧ (setBank b v s).chitSeq = s.chitSeq
    ∧ (setBank b v s).classes = s.classes ∧ (setBank b v s).lkps = s.lkps ∧ (setBank b v s).tbl = s.tbl
    ∧ (setBank b v s).meters = s.meters ∧ (setBank b v s).profiles = s.profiles ∧ (setBank b v s).tenants = s.tenants
    ∧ (setBank b v s).mint = s.mint ∧ (setBank b v s).txs = s.txs ∧ (setBank b v s).groups = s.groups
    ∧ (setBank b v s).mirrors = s.mirrors ∧ (setBank b v s).tele = s.tele ∧ (setBank b v s).recirc = s.recirc
    ∧ (setBank b v s).mem = s.mem ∧ (setBank b v s).tal = s.tal ∧ (setBank b v s).pwr = s.pwr ∧ (setBank b v s).con = s.con
    ∧ (setBank b v s).tmp = s.tmp ∧ (setBank b v s).pair = s.pair ∧ (setBank b v s).tap = s.tap ∧ (setBank b v s).ctr = s.ctr
    ∧ (setBank b v s).latch = s.latch ∧ (setBank b v s).hostMem = s.hostMem := by
  and_intros <;> rfl
/-- `cleanse` writes `mem` alone. -/
@[simp] theorem cleanse_fields (h : Config.Held) :
    (cleanse h s).pending = s.pending ∧ (cleanse h s).cycles = s.cycles ∧ (cleanse h s).freeCtr = s.freeCtr ∧ (cleanse h s).rsp = s.rsp
    ∧ (cleanse h s).dev = s.dev ∧ (cleanse h s).hif = s.hif ∧ (cleanse h s).up = s.up ∧ (cleanse h s).tcs = s.tcs
    ∧ (cleanse h s).flash = s.flash ∧ (cleanse h s).boxes = s.boxes ∧ (cleanse h s).time = s.time ∧ (cleanse h s).ports = s.ports
    ∧ (cleanse h s).rxs = s.rxs ∧ (cleanse h s).laneWords = s.laneWords ∧ (cleanse h s).ras = s.ras ∧ (cleanse h s).lanes = s.lanes
    ∧ (cleanse h s).prbs = s.prbs ∧ (cleanse h s).harps = s.harps ∧ (cleanse h s).chits = s.chits ∧ (cleanse h s).gens = s.gens
    ∧ (cleanse h s).chitSeq = s.chitSeq ∧ (cleanse h s).classes = s.classes ∧ (cleanse h s).lkps = s.lkps ∧ (cleanse h s).tbl = s.tbl
    ∧ (cleanse h s).meters = s.meters ∧ (cleanse h s).profiles = s.profiles ∧ (cleanse h s).tenants = s.tenants
    ∧ (cleanse h s).mint = s.mint ∧ (cleanse h s).txs = s.txs ∧ (cleanse h s).groups = s.groups ∧ (cleanse h s).mirrors = s.mirrors
    ∧ (cleanse h s).tele = s.tele ∧ (cleanse h s).led = s.led ∧ (cleanse h s).recirc = s.recirc ∧ (cleanse h s).tal = s.tal
    ∧ (cleanse h s).pwr = s.pwr ∧ (cleanse h s).con = s.con ∧ (cleanse h s).tmp = s.tmp ∧ (cleanse h s).pair = s.pair
    ∧ (cleanse h s).tap = s.tap ∧ (cleanse h s).ctr = s.ctr ∧ (cleanse h s).latch = s.latch ∧ (cleanse h s).hostMem = s.hostMem := by
  and_intros <;> rfl
/-- `setCache` writes `led` alone. -/
@[simp] theorem setCache_fields (k : Nat) (c : List (Nat × Nat × Row)) :
    (setCache k c s).pending = s.pending ∧ (setCache k c s).cycles = s.cycles ∧ (setCache k c s).freeCtr = s.freeCtr
    ∧ (setCache k c s).rsp = s.rsp ∧ (setCache k c s).dev = s.dev ∧ (setCache k c s).hif = s.hif ∧ (setCache k c s).up = s.up
    ∧ (setCache k c s).tcs = s.tcs ∧ (setCache k c s).flash = s.flash ∧ (setCache k c s).boxes = s.boxes ∧ (setCache k c s).time = s.time
    ∧ (setCache k c s).ports = s.ports ∧ (setCache k c s).rxs = s.rxs ∧ (setCache k c s).laneWords = s.laneWords
    ∧ (setCache k c s).ras = s.ras ∧ (setCache k c s).lanes = s.lanes ∧ (setCache k c s).prbs = s.prbs ∧ (setCache k c s).harps = s.harps
    ∧ (setCache k c s).chits = s.chits ∧ (setCache k c s).gens = s.gens ∧ (setCache k c s).chitSeq = s.chitSeq
    ∧ (setCache k c s).classes = s.classes ∧ (setCache k c s).lkps = s.lkps ∧ (setCache k c s).tbl = s.tbl
    ∧ (setCache k c s).meters = s.meters ∧ (setCache k c s).profiles = s.profiles ∧ (setCache k c s).tenants = s.tenants
    ∧ (setCache k c s).mint = s.mint ∧ (setCache k c s).txs = s.txs ∧ (setCache k c s).groups = s.groups
    ∧ (setCache k c s).mirrors = s.mirrors ∧ (setCache k c s).tele = s.tele ∧ (setCache k c s).recirc = s.recirc
    ∧ (setCache k c s).mem = s.mem ∧ (setCache k c s).tal = s.tal ∧ (setCache k c s).pwr = s.pwr ∧ (setCache k c s).con = s.con
    ∧ (setCache k c s).tmp = s.tmp ∧ (setCache k c s).pair = s.pair ∧ (setCache k c s).tap = s.tap ∧ (setCache k c s).ctr = s.ctr
    ∧ (setCache k c s).latch = s.latch ∧ (setCache k c s).hostMem = s.hostMem := by
  and_intros <;> rfl
/-- `setStream` writes `tal` alone. -/
@[simp] theorem setStream_fields (k : Nat) (v : Stream) :
    (setStream k v s).pending = s.pending ∧ (setStream k v s).cycles = s.cycles ∧ (setStream k v s).freeCtr = s.freeCtr
    ∧ (setStream k v s).rsp = s.rsp ∧ (setStream k v s).dev = s.dev ∧ (setStream k v s).hif = s.hif ∧ (setStream k v s).up = s.up
    ∧ (setStream k v s).tcs = s.tcs ∧ (setStream k v s).flash = s.flash ∧ (setStream k v s).boxes = s.boxes
    ∧ (setStream k v s).time = s.time ∧ (setStream k v s).ports = s.ports ∧ (setStream k v s).rxs = s.rxs
    ∧ (setStream k v s).laneWords = s.laneWords ∧ (setStream k v s).ras = s.ras ∧ (setStream k v s).lanes = s.lanes
    ∧ (setStream k v s).prbs = s.prbs ∧ (setStream k v s).harps = s.harps ∧ (setStream k v s).chits = s.chits
    ∧ (setStream k v s).gens = s.gens ∧ (setStream k v s).chitSeq = s.chitSeq ∧ (setStream k v s).classes = s.classes
    ∧ (setStream k v s).lkps = s.lkps ∧ (setStream k v s).tbl = s.tbl ∧ (setStream k v s).meters = s.meters
    ∧ (setStream k v s).profiles = s.profiles ∧ (setStream k v s).tenants = s.tenants ∧ (setStream k v s).mint = s.mint
    ∧ (setStream k v s).txs = s.txs ∧ (setStream k v s).groups = s.groups ∧ (setStream k v s).mirrors = s.mirrors
    ∧ (setStream k v s).tele = s.tele ∧ (setStream k v s).led = s.led ∧ (setStream k v s).recirc = s.recirc
    ∧ (setStream k v s).mem = s.mem ∧ (setStream k v s).pwr = s.pwr ∧ (setStream k v s).con = s.con ∧ (setStream k v s).tmp = s.tmp
    ∧ (setStream k v s).pair = s.pair ∧ (setStream k v s).tap = s.tap ∧ (setStream k v s).ctr = s.ctr ∧ (setStream k v s).latch = s.latch
    ∧ (setStream k v s).hostMem = s.hostMem := by
  and_intros <;> rfl
/-- `setTrig` writes `time` alone. -/
@[simp] theorem setTrig_fields (t : Nat) (v : Trigger) :
    (setTrig t v s).pending = s.pending ∧ (setTrig t v s).cycles = s.cycles ∧ (setTrig t v s).freeCtr = s.freeCtr
    ∧ (setTrig t v s).rsp = s.rsp ∧ (setTrig t v s).dev = s.dev ∧ (setTrig t v s).hif = s.hif ∧ (setTrig t v s).up = s.up
    ∧ (setTrig t v s).tcs = s.tcs ∧ (setTrig t v s).flash = s.flash ∧ (setTrig t v s).boxes = s.boxes ∧ (setTrig t v s).ports = s.ports
    ∧ (setTrig t v s).rxs = s.rxs ∧ (setTrig t v s).laneWords = s.laneWords ∧ (setTrig t v s).ras = s.ras
    ∧ (setTrig t v s).lanes = s.lanes ∧ (setTrig t v s).prbs = s.prbs ∧ (setTrig t v s).harps = s.harps ∧ (setTrig t v s).chits = s.chits
    ∧ (setTrig t v s).gens = s.gens ∧ (setTrig t v s).chitSeq = s.chitSeq ∧ (setTrig t v s).classes = s.classes
    ∧ (setTrig t v s).lkps = s.lkps ∧ (setTrig t v s).tbl = s.tbl ∧ (setTrig t v s).meters = s.meters
    ∧ (setTrig t v s).profiles = s.profiles ∧ (setTrig t v s).tenants = s.tenants ∧ (setTrig t v s).mint = s.mint
    ∧ (setTrig t v s).txs = s.txs ∧ (setTrig t v s).groups = s.groups ∧ (setTrig t v s).mirrors = s.mirrors
    ∧ (setTrig t v s).tele = s.tele ∧ (setTrig t v s).led = s.led ∧ (setTrig t v s).recirc = s.recirc ∧ (setTrig t v s).mem = s.mem
    ∧ (setTrig t v s).tal = s.tal ∧ (setTrig t v s).pwr = s.pwr ∧ (setTrig t v s).con = s.con ∧ (setTrig t v s).tmp = s.tmp
    ∧ (setTrig t v s).pair = s.pair ∧ (setTrig t v s).tap = s.tap ∧ (setTrig t v s).ctr = s.ctr ∧ (setTrig t v s).latch = s.latch
    ∧ (setTrig t v s).hostMem = s.hostMem := by
  and_intros <;> rfl
/-- `setEv` writes `time` alone. -/
@[simp] theorem setEv_fields (i : Nat) (v : EvInput) :
    (setEv i v s).pending = s.pending ∧ (setEv i v s).cycles = s.cycles ∧ (setEv i v s).freeCtr = s.freeCtr ∧ (setEv i v s).rsp = s.rsp
    ∧ (setEv i v s).dev = s.dev ∧ (setEv i v s).hif = s.hif ∧ (setEv i v s).up = s.up ∧ (setEv i v s).tcs = s.tcs
    ∧ (setEv i v s).flash = s.flash ∧ (setEv i v s).boxes = s.boxes ∧ (setEv i v s).ports = s.ports ∧ (setEv i v s).rxs = s.rxs
    ∧ (setEv i v s).laneWords = s.laneWords ∧ (setEv i v s).ras = s.ras ∧ (setEv i v s).lanes = s.lanes ∧ (setEv i v s).prbs = s.prbs
    ∧ (setEv i v s).harps = s.harps ∧ (setEv i v s).chits = s.chits ∧ (setEv i v s).gens = s.gens ∧ (setEv i v s).chitSeq = s.chitSeq
    ∧ (setEv i v s).classes = s.classes ∧ (setEv i v s).lkps = s.lkps ∧ (setEv i v s).tbl = s.tbl ∧ (setEv i v s).meters = s.meters
    ∧ (setEv i v s).profiles = s.profiles ∧ (setEv i v s).tenants = s.tenants ∧ (setEv i v s).mint = s.mint ∧ (setEv i v s).txs = s.txs
    ∧ (setEv i v s).groups = s.groups ∧ (setEv i v s).mirrors = s.mirrors ∧ (setEv i v s).tele = s.tele ∧ (setEv i v s).led = s.led
    ∧ (setEv i v s).recirc = s.recirc ∧ (setEv i v s).mem = s.mem ∧ (setEv i v s).tal = s.tal ∧ (setEv i v s).pwr = s.pwr
    ∧ (setEv i v s).con = s.con ∧ (setEv i v s).tmp = s.tmp ∧ (setEv i v s).pair = s.pair ∧ (setEv i v s).tap = s.tap
    ∧ (setEv i v s).ctr = s.ctr ∧ (setEv i v s).latch = s.latch ∧ (setEv i v s).hostMem = s.hostMem := by
  and_intros <;> rfl
/-- `modTbl` writes `tbl` alone. -/
@[simp] theorem modTbl_fields (f : TblState → TblState) :
    (modTbl f s).pending = s.pending ∧ (modTbl f s).cycles = s.cycles ∧ (modTbl f s).freeCtr = s.freeCtr ∧ (modTbl f s).rsp = s.rsp
    ∧ (modTbl f s).dev = s.dev ∧ (modTbl f s).hif = s.hif ∧ (modTbl f s).up = s.up ∧ (modTbl f s).tcs = s.tcs
    ∧ (modTbl f s).flash = s.flash ∧ (modTbl f s).boxes = s.boxes ∧ (modTbl f s).time = s.time ∧ (modTbl f s).ports = s.ports
    ∧ (modTbl f s).rxs = s.rxs ∧ (modTbl f s).laneWords = s.laneWords ∧ (modTbl f s).ras = s.ras ∧ (modTbl f s).lanes = s.lanes
    ∧ (modTbl f s).prbs = s.prbs ∧ (modTbl f s).harps = s.harps ∧ (modTbl f s).chits = s.chits ∧ (modTbl f s).gens = s.gens
    ∧ (modTbl f s).chitSeq = s.chitSeq ∧ (modTbl f s).classes = s.classes ∧ (modTbl f s).lkps = s.lkps ∧ (modTbl f s).meters = s.meters
    ∧ (modTbl f s).profiles = s.profiles ∧ (modTbl f s).tenants = s.tenants ∧ (modTbl f s).mint = s.mint ∧ (modTbl f s).txs = s.txs
    ∧ (modTbl f s).groups = s.groups ∧ (modTbl f s).mirrors = s.mirrors ∧ (modTbl f s).tele = s.tele ∧ (modTbl f s).led = s.led
    ∧ (modTbl f s).recirc = s.recirc ∧ (modTbl f s).mem = s.mem ∧ (modTbl f s).tal = s.tal ∧ (modTbl f s).pwr = s.pwr
    ∧ (modTbl f s).con = s.con ∧ (modTbl f s).tmp = s.tmp ∧ (modTbl f s).pair = s.pair ∧ (modTbl f s).tap = s.tap
    ∧ (modTbl f s).ctr = s.ctr ∧ (modTbl f s).latch = s.latch ∧ (modTbl f s).hostMem = s.hostMem := by
  and_intros <;> rfl
/-- `modPwr` writes `pwr` alone. -/
@[simp] theorem modPwr_fields (f : PowerState → PowerState) :
    (modPwr f s).pending = s.pending ∧ (modPwr f s).cycles = s.cycles ∧ (modPwr f s).freeCtr = s.freeCtr ∧ (modPwr f s).rsp = s.rsp
    ∧ (modPwr f s).dev = s.dev ∧ (modPwr f s).hif = s.hif ∧ (modPwr f s).up = s.up ∧ (modPwr f s).tcs = s.tcs
    ∧ (modPwr f s).flash = s.flash ∧ (modPwr f s).boxes = s.boxes ∧ (modPwr f s).time = s.time ∧ (modPwr f s).ports = s.ports
    ∧ (modPwr f s).rxs = s.rxs ∧ (modPwr f s).laneWords = s.laneWords ∧ (modPwr f s).ras = s.ras ∧ (modPwr f s).lanes = s.lanes
    ∧ (modPwr f s).prbs = s.prbs ∧ (modPwr f s).harps = s.harps ∧ (modPwr f s).chits = s.chits ∧ (modPwr f s).gens = s.gens
    ∧ (modPwr f s).chitSeq = s.chitSeq ∧ (modPwr f s).classes = s.classes ∧ (modPwr f s).lkps = s.lkps ∧ (modPwr f s).tbl = s.tbl
    ∧ (modPwr f s).meters = s.meters ∧ (modPwr f s).profiles = s.profiles ∧ (modPwr f s).tenants = s.tenants ∧ (modPwr f s).mint = s.mint
    ∧ (modPwr f s).txs = s.txs ∧ (modPwr f s).groups = s.groups ∧ (modPwr f s).mirrors = s.mirrors ∧ (modPwr f s).tele = s.tele
    ∧ (modPwr f s).led = s.led ∧ (modPwr f s).recirc = s.recirc ∧ (modPwr f s).mem = s.mem ∧ (modPwr f s).tal = s.tal
    ∧ (modPwr f s).con = s.con ∧ (modPwr f s).tmp = s.tmp ∧ (modPwr f s).pair = s.pair ∧ (modPwr f s).tap = s.tap
    ∧ (modPwr f s).ctr = s.ctr ∧ (modPwr f s).latch = s.latch ∧ (modPwr f s).hostMem = s.hostMem := by
  and_intros <;> rfl
/-- `modTmp` writes `tmp` alone. -/
@[simp] theorem modTmp_fields (f : TempoState → TempoState) :
    (modTmp f s).pending = s.pending ∧ (modTmp f s).cycles = s.cycles ∧ (modTmp f s).freeCtr = s.freeCtr ∧ (modTmp f s).rsp = s.rsp
    ∧ (modTmp f s).dev = s.dev ∧ (modTmp f s).hif = s.hif ∧ (modTmp f s).up = s.up ∧ (modTmp f s).tcs = s.tcs
    ∧ (modTmp f s).flash = s.flash ∧ (modTmp f s).boxes = s.boxes ∧ (modTmp f s).time = s.time ∧ (modTmp f s).ports = s.ports
    ∧ (modTmp f s).rxs = s.rxs ∧ (modTmp f s).laneWords = s.laneWords ∧ (modTmp f s).ras = s.ras ∧ (modTmp f s).lanes = s.lanes
    ∧ (modTmp f s).prbs = s.prbs ∧ (modTmp f s).harps = s.harps ∧ (modTmp f s).chits = s.chits ∧ (modTmp f s).gens = s.gens
    ∧ (modTmp f s).chitSeq = s.chitSeq ∧ (modTmp f s).classes = s.classes ∧ (modTmp f s).lkps = s.lkps ∧ (modTmp f s).tbl = s.tbl
    ∧ (modTmp f s).meters = s.meters ∧ (modTmp f s).profiles = s.profiles ∧ (modTmp f s).tenants = s.tenants ∧ (modTmp f s).mint = s.mint
    ∧ (modTmp f s).txs = s.txs ∧ (modTmp f s).groups = s.groups ∧ (modTmp f s).mirrors = s.mirrors ∧ (modTmp f s).tele = s.tele
    ∧ (modTmp f s).led = s.led ∧ (modTmp f s).recirc = s.recirc ∧ (modTmp f s).mem = s.mem ∧ (modTmp f s).tal = s.tal
    ∧ (modTmp f s).pwr = s.pwr ∧ (modTmp f s).con = s.con ∧ (modTmp f s).pair = s.pair ∧ (modTmp f s).tap = s.tap
    ∧ (modTmp f s).ctr = s.ctr ∧ (modTmp f s).latch = s.latch ∧ (modTmp f s).hostMem = s.hostMem := by
  and_intros <;> rfl
/-- `modPair` writes `pair` alone. -/
@[simp] theorem modPair_fields (f : PairState → PairState) :
    (modPair f s).pending = s.pending ∧ (modPair f s).cycles = s.cycles ∧ (modPair f s).freeCtr = s.freeCtr ∧ (modPair f s).rsp = s.rsp
    ∧ (modPair f s).dev = s.dev ∧ (modPair f s).hif = s.hif ∧ (modPair f s).up = s.up ∧ (modPair f s).tcs = s.tcs
    ∧ (modPair f s).flash = s.flash ∧ (modPair f s).boxes = s.boxes ∧ (modPair f s).time = s.time ∧ (modPair f s).ports = s.ports
    ∧ (modPair f s).rxs = s.rxs ∧ (modPair f s).laneWords = s.laneWords ∧ (modPair f s).ras = s.ras ∧ (modPair f s).lanes = s.lanes
    ∧ (modPair f s).prbs = s.prbs ∧ (modPair f s).harps = s.harps ∧ (modPair f s).chits = s.chits ∧ (modPair f s).gens = s.gens
    ∧ (modPair f s).chitSeq = s.chitSeq ∧ (modPair f s).classes = s.classes ∧ (modPair f s).lkps = s.lkps ∧ (modPair f s).tbl = s.tbl
    ∧ (modPair f s).meters = s.meters ∧ (modPair f s).profiles = s.profiles ∧ (modPair f s).tenants = s.tenants
    ∧ (modPair f s).mint = s.mint ∧ (modPair f s).txs = s.txs ∧ (modPair f s).groups = s.groups ∧ (modPair f s).mirrors = s.mirrors
    ∧ (modPair f s).tele = s.tele ∧ (modPair f s).led = s.led ∧ (modPair f s).recirc = s.recirc ∧ (modPair f s).mem = s.mem
    ∧ (modPair f s).tal = s.tal ∧ (modPair f s).pwr = s.pwr ∧ (modPair f s).con = s.con ∧ (modPair f s).tmp = s.tmp
    ∧ (modPair f s).tap = s.tap ∧ (modPair f s).ctr = s.ctr ∧ (modPair f s).latch = s.latch ∧ (modPair f s).hostMem = s.hostMem := by
  and_intros <;> rfl
/-- `setGroupOf` writes `con` alone. -/
@[simp] theorem setGroupOf_fields (k : Nat) (g : ConGroup) :
    (setGroupOf k g s).pending = s.pending ∧ (setGroupOf k g s).cycles = s.cycles ∧ (setGroupOf k g s).freeCtr = s.freeCtr
    ∧ (setGroupOf k g s).rsp = s.rsp ∧ (setGroupOf k g s).dev = s.dev ∧ (setGroupOf k g s).hif = s.hif ∧ (setGroupOf k g s).up = s.up
    ∧ (setGroupOf k g s).tcs = s.tcs ∧ (setGroupOf k g s).flash = s.flash ∧ (setGroupOf k g s).boxes = s.boxes
    ∧ (setGroupOf k g s).time = s.time ∧ (setGroupOf k g s).ports = s.ports ∧ (setGroupOf k g s).rxs = s.rxs
    ∧ (setGroupOf k g s).laneWords = s.laneWords ∧ (setGroupOf k g s).ras = s.ras ∧ (setGroupOf k g s).lanes = s.lanes
    ∧ (setGroupOf k g s).prbs = s.prbs ∧ (setGroupOf k g s).harps = s.harps ∧ (setGroupOf k g s).chits = s.chits
    ∧ (setGroupOf k g s).gens = s.gens ∧ (setGroupOf k g s).chitSeq = s.chitSeq ∧ (setGroupOf k g s).classes = s.classes
    ∧ (setGroupOf k g s).lkps = s.lkps ∧ (setGroupOf k g s).tbl = s.tbl ∧ (setGroupOf k g s).meters = s.meters
    ∧ (setGroupOf k g s).profiles = s.profiles ∧ (setGroupOf k g s).tenants = s.tenants ∧ (setGroupOf k g s).mint = s.mint
    ∧ (setGroupOf k g s).txs = s.txs ∧ (setGroupOf k g s).groups = s.groups ∧ (setGroupOf k g s).mirrors = s.mirrors
    ∧ (setGroupOf k g s).tele = s.tele ∧ (setGroupOf k g s).led = s.led ∧ (setGroupOf k g s).recirc = s.recirc
    ∧ (setGroupOf k g s).mem = s.mem ∧ (setGroupOf k g s).tal = s.tal ∧ (setGroupOf k g s).pwr = s.pwr ∧ (setGroupOf k g s).tmp = s.tmp
    ∧ (setGroupOf k g s).pair = s.pair ∧ (setGroupOf k g s).tap = s.tap ∧ (setGroupOf k g s).ctr = s.ctr
    ∧ (setGroupOf k g s).latch = s.latch ∧ (setGroupOf k g s).hostMem = s.hostMem := by
  and_intros <;> rfl
/-- `setInput` writes `con` alone. -/
@[simp] theorem setInput_fields (c : Nat) (v : ConInput) :
    (setInput c v s).pending = s.pending ∧ (setInput c v s).cycles = s.cycles ∧ (setInput c v s).freeCtr = s.freeCtr
    ∧ (setInput c v s).rsp = s.rsp ∧ (setInput c v s).dev = s.dev ∧ (setInput c v s).hif = s.hif ∧ (setInput c v s).up = s.up
    ∧ (setInput c v s).tcs = s.tcs ∧ (setInput c v s).flash = s.flash ∧ (setInput c v s).boxes = s.boxes ∧ (setInput c v s).time = s.time
    ∧ (setInput c v s).ports = s.ports ∧ (setInput c v s).rxs = s.rxs ∧ (setInput c v s).laneWords = s.laneWords
    ∧ (setInput c v s).ras = s.ras ∧ (setInput c v s).lanes = s.lanes ∧ (setInput c v s).prbs = s.prbs ∧ (setInput c v s).harps = s.harps
    ∧ (setInput c v s).chits = s.chits ∧ (setInput c v s).gens = s.gens ∧ (setInput c v s).chitSeq = s.chitSeq
    ∧ (setInput c v s).classes = s.classes ∧ (setInput c v s).lkps = s.lkps ∧ (setInput c v s).tbl = s.tbl
    ∧ (setInput c v s).meters = s.meters ∧ (setInput c v s).profiles = s.profiles ∧ (setInput c v s).tenants = s.tenants
    ∧ (setInput c v s).mint = s.mint ∧ (setInput c v s).txs = s.txs ∧ (setInput c v s).groups = s.groups
    ∧ (setInput c v s).mirrors = s.mirrors ∧ (setInput c v s).tele = s.tele ∧ (setInput c v s).led = s.led
    ∧ (setInput c v s).recirc = s.recirc ∧ (setInput c v s).mem = s.mem ∧ (setInput c v s).tal = s.tal ∧ (setInput c v s).pwr = s.pwr
    ∧ (setInput c v s).tmp = s.tmp ∧ (setInput c v s).pair = s.pair ∧ (setInput c v s).tap = s.tap ∧ (setInput c v s).ctr = s.ctr
    ∧ (setInput c v s).latch = s.latch ∧ (setInput c v s).hostMem = s.hostMem := by
  and_intros <;> rfl
/-- `setAct` writes `con` alone. -/
@[simp] theorem setAct_fields (a : Nat) (v : Actuator) :
    (setAct a v s).pending = s.pending ∧ (setAct a v s).cycles = s.cycles ∧ (setAct a v s).freeCtr = s.freeCtr
    ∧ (setAct a v s).rsp = s.rsp ∧ (setAct a v s).dev = s.dev ∧ (setAct a v s).hif = s.hif ∧ (setAct a v s).up = s.up
    ∧ (setAct a v s).tcs = s.tcs ∧ (setAct a v s).flash = s.flash ∧ (setAct a v s).boxes = s.boxes ∧ (setAct a v s).time = s.time
    ∧ (setAct a v s).ports = s.ports ∧ (setAct a v s).rxs = s.rxs ∧ (setAct a v s).laneWords = s.laneWords ∧ (setAct a v s).ras = s.ras
    ∧ (setAct a v s).lanes = s.lanes ∧ (setAct a v s).prbs = s.prbs ∧ (setAct a v s).harps = s.harps ∧ (setAct a v s).chits = s.chits
    ∧ (setAct a v s).gens = s.gens ∧ (setAct a v s).chitSeq = s.chitSeq ∧ (setAct a v s).classes = s.classes
    ∧ (setAct a v s).lkps = s.lkps ∧ (setAct a v s).tbl = s.tbl ∧ (setAct a v s).meters = s.meters ∧ (setAct a v s).profiles = s.profiles
    ∧ (setAct a v s).tenants = s.tenants ∧ (setAct a v s).mint = s.mint ∧ (setAct a v s).txs = s.txs ∧ (setAct a v s).groups = s.groups
    ∧ (setAct a v s).mirrors = s.mirrors ∧ (setAct a v s).tele = s.tele ∧ (setAct a v s).led = s.led ∧ (setAct a v s).recirc = s.recirc
    ∧ (setAct a v s).mem = s.mem ∧ (setAct a v s).tal = s.tal ∧ (setAct a v s).pwr = s.pwr ∧ (setAct a v s).tmp = s.tmp
    ∧ (setAct a v s).pair = s.pair ∧ (setAct a v s).tap = s.tap ∧ (setAct a v s).ctr = s.ctr ∧ (setAct a v s).latch = s.latch
    ∧ (setAct a v s).hostMem = s.hostMem := by
  and_intros <;> rfl
/-- `setFan` writes `con` alone. -/
@[simp] theorem setFan_fields (f : Nat) (v : Fan) :
    (setFan f v s).pending = s.pending ∧ (setFan f v s).cycles = s.cycles ∧ (setFan f v s).freeCtr = s.freeCtr
    ∧ (setFan f v s).rsp = s.rsp ∧ (setFan f v s).dev = s.dev ∧ (setFan f v s).hif = s.hif ∧ (setFan f v s).up = s.up
    ∧ (setFan f v s).tcs = s.tcs ∧ (setFan f v s).flash = s.flash ∧ (setFan f v s).boxes = s.boxes ∧ (setFan f v s).time = s.time
    ∧ (setFan f v s).ports = s.ports ∧ (setFan f v s).rxs = s.rxs ∧ (setFan f v s).laneWords = s.laneWords ∧ (setFan f v s).ras = s.ras
    ∧ (setFan f v s).lanes = s.lanes ∧ (setFan f v s).prbs = s.prbs ∧ (setFan f v s).harps = s.harps ∧ (setFan f v s).chits = s.chits
    ∧ (setFan f v s).gens = s.gens ∧ (setFan f v s).chitSeq = s.chitSeq ∧ (setFan f v s).classes = s.classes
    ∧ (setFan f v s).lkps = s.lkps ∧ (setFan f v s).tbl = s.tbl ∧ (setFan f v s).meters = s.meters ∧ (setFan f v s).profiles = s.profiles
    ∧ (setFan f v s).tenants = s.tenants ∧ (setFan f v s).mint = s.mint ∧ (setFan f v s).txs = s.txs ∧ (setFan f v s).groups = s.groups
    ∧ (setFan f v s).mirrors = s.mirrors ∧ (setFan f v s).tele = s.tele ∧ (setFan f v s).led = s.led ∧ (setFan f v s).recirc = s.recirc
    ∧ (setFan f v s).mem = s.mem ∧ (setFan f v s).tal = s.tal ∧ (setFan f v s).pwr = s.pwr ∧ (setFan f v s).tmp = s.tmp
    ∧ (setFan f v s).pair = s.pair ∧ (setFan f v s).tap = s.tap ∧ (setFan f v s).ctr = s.ctr ∧ (setFan f v s).latch = s.latch
    ∧ (setFan f v s).hostMem = s.hostMem := by
  and_intros <;> rfl
/-- `setPrbs` writes `prbs` alone. -/
@[simp] theorem setPrbs_fields (l : Nat) (v : Prbs) :
    (setPrbs l v s).pending = s.pending ∧ (setPrbs l v s).cycles = s.cycles ∧ (setPrbs l v s).freeCtr = s.freeCtr
    ∧ (setPrbs l v s).rsp = s.rsp ∧ (setPrbs l v s).dev = s.dev ∧ (setPrbs l v s).hif = s.hif ∧ (setPrbs l v s).up = s.up
    ∧ (setPrbs l v s).tcs = s.tcs ∧ (setPrbs l v s).flash = s.flash ∧ (setPrbs l v s).boxes = s.boxes ∧ (setPrbs l v s).time = s.time
    ∧ (setPrbs l v s).ports = s.ports ∧ (setPrbs l v s).rxs = s.rxs ∧ (setPrbs l v s).laneWords = s.laneWords
    ∧ (setPrbs l v s).ras = s.ras ∧ (setPrbs l v s).lanes = s.lanes ∧ (setPrbs l v s).harps = s.harps ∧ (setPrbs l v s).chits = s.chits
    ∧ (setPrbs l v s).gens = s.gens ∧ (setPrbs l v s).chitSeq = s.chitSeq ∧ (setPrbs l v s).classes = s.classes
    ∧ (setPrbs l v s).lkps = s.lkps ∧ (setPrbs l v s).tbl = s.tbl ∧ (setPrbs l v s).meters = s.meters
    ∧ (setPrbs l v s).profiles = s.profiles ∧ (setPrbs l v s).tenants = s.tenants ∧ (setPrbs l v s).mint = s.mint
    ∧ (setPrbs l v s).txs = s.txs ∧ (setPrbs l v s).groups = s.groups ∧ (setPrbs l v s).mirrors = s.mirrors
    ∧ (setPrbs l v s).tele = s.tele ∧ (setPrbs l v s).led = s.led ∧ (setPrbs l v s).recirc = s.recirc ∧ (setPrbs l v s).mem = s.mem
    ∧ (setPrbs l v s).tal = s.tal ∧ (setPrbs l v s).pwr = s.pwr ∧ (setPrbs l v s).con = s.con ∧ (setPrbs l v s).tmp = s.tmp
    ∧ (setPrbs l v s).pair = s.pair ∧ (setPrbs l v s).tap = s.tap ∧ (setPrbs l v s).ctr = s.ctr ∧ (setPrbs l v s).latch = s.latch
    ∧ (setPrbs l v s).hostMem = s.hostMem := by
  and_intros <;> rfl

/-- An entry leaves the journal, and the standby's copy with it: `tcs` and `pair` alone. -/
theorem dropJournal_frame (v : Via) : dropJournal v s = { s with tcs := (dropJournal v s).tcs, pair := (dropJournal v s).pair } := by
  unfold dropJournal mirrorJournal; split <;> rfl

/-! ### Reading back -/

/-- A mailbox that is not the one written. -/
theorem boxAt_setBox_ne {n m : Nat} (b : Mailbox) (h : m ≠ n) : boxAt (setBox n b s) m = boxAt s m := tabGet_tabSet_ne _ _ h
/-- The mailbox written. -/
theorem boxAt_setBox {n : Nat} {b : Mailbox} (h : b ≠ {}) : boxAt (setBox n b s) n = b := tabGet_tabSet_self _ _ h
/-- The channel written. -/
theorem channelAt_setChannel {v : Via} {c : Channel} (h : c ≠ .idle) : channelAt (setChannel v c s) v = c := tabGet_tabSet_self _ _ h
/-- A chit that is not the one written. -/
theorem chitAt_setChit_ne {n m : Nat} (c : Option Chit) (h : m ≠ n) : chitAt (setChit n c s) m = chitAt s m := tabGet_tabSet_ne _ _ h
/-- The chit written. -/
@[simp] theorem chitAt_setChit (n : Nat) (c : Chit) : chitAt (setChit n (some c) s) n = some c := tabGet_tabSet_self _ _ (by simp)
/-- A held chit changed. -/
theorem chitAt_modChit {n : Nat} {c : Chit} (f : Chit → Chit) (h : chitAt s n = some c) : chitAt (modChit n f s) n = some (f c) := by
  simp [modChit, h]
/-- A chit that is not the one changed. -/
theorem chitAt_modChit_ne {n m : Nat} (f : Chit → Chit) (h : m ≠ n) : chitAt (modChit n f s) m = chitAt s m := by
  unfold modChit; split
  · exact chitAt_setChit_ne s _ h
  · rfl
/-- A counter other than the one counted. -/
theorem ctrAt_bumpBy_ne {a b : Nat} (n : Nat) (h : b ≠ a) : ctrAt (bumpBy a n s) b = ctrAt s b := tabGet_tabSet_ne _ _ h
/-- A counter counted, wrapping modulo 2^64. -/
theorem ctrAt_bumpBy (a n : Nat) (w : tabWf 0#64 s.ctr = true) : ctrAt (bumpBy a n s) a = ctrAt s a + BitVec.ofNat 64 n := by
  unfold ctrAt bumpBy; rw [tabGet_tabSet _ _ _ _ w]; simp [ctrAt]
/-- Ports, slices and the other units: the one that is not written. -/
theorem portAt_modPort_ne {p q : Nat} (f : PortState → PortState) (h : q ≠ p) : portAt (modPort p f s) q = portAt s q := tabGet_tabSet_ne _ _ h
theorem txAt_modTx_ne {p q : Nat} (f : TxPort → TxPort) (h : q ≠ p) : txAt (modTx p f s) q = txAt s q := tabGet_tabSet_ne _ _ h
theorem rxAt_modRx_ne {p q : Nat} (f : RxPort → RxPort) (h : q ≠ p) : rxAt (modRx p f s) q = rxAt s q := tabGet_tabSet_ne _ _ h
theorem harpAt_modHarp_ne {p q : Nat} (f : HarpState → HarpState) (h : q ≠ p) : harpAt (modHarp p f s) q = harpAt s q := tabGet_tabSet_ne _ _ h
theorem lkpAt_modLkp_ne {p q : Nat} (f : LkpState → LkpState) (h : q ≠ p) : lkpAt (modLkp p f s) q = lkpAt s q := tabGet_tabSet_ne _ _ h
theorem streamAt_setStream_ne {p q : Nat} (v : Stream) (h : q ≠ p) : streamAt (setStream p v s) q = streamAt s q := tabGet_tabSet_ne _ _ h
theorem bankAt_setBank_ne {p q : Nat} (v : Bank3) (h : q ≠ p) : bankAt (setBank p v s) q = bankAt s q := tabGet_tabSet_ne _ _ h
theorem trigAt_setTrig_ne {p q : Nat} (v : Trigger) (h : q ≠ p) : trigAt (setTrig p v s) q = trigAt s q := tabGet_tabSet_ne _ _ h
/-- And the one that is, where its table is in canonical form. -/
theorem portAt_modPort (p : Nat) (f : PortState → PortState) (w : tabWf {} s.ports = true) : portAt (modPort p f s) p = f (portAt s p) := by
  unfold portAt modPort; rw [tabGet_tabSet _ _ _ _ w]; simp [portAt]
theorem txAt_modTx (p : Nat) (f : TxPort → TxPort) (w : tabWf {} s.txs = true) : txAt (modTx p f s) p = f (txAt s p) := by
  unfold txAt modTx; rw [tabGet_tabSet _ _ _ _ w]; simp [txAt]
theorem rxAt_modRx (p : Nat) (f : RxPort → RxPort) (w : tabWf {} s.rxs = true) : rxAt (modRx p f s) p = f (rxAt s p) := by
  unfold rxAt modRx; rw [tabGet_tabSet _ _ _ _ w]; simp [rxAt]
theorem bankAt_setBank (b : Nat) (v : Bank3) (w : tabWf {} s.led.banks = true) : bankAt (setBank b v s) b = v := by
  unfold bankAt setBank; rw [tabGet_tabSet _ _ _ _ w]; simp
theorem streamAt_setStream (k : Nat) (v : Stream) (w : tabWf {} s.tal.streams = true) : streamAt (setStream k v s) k = v := by
  unfold streamAt setStream; rw [tabGet_tabSet _ _ _ _ w]; simp

end Sys2Proof.Laws
end

