-- ==== Sys2Proof/Laws/Ops.lean ====
section
/-! SUPPORT. What the shared operations can do, said once: the frame that every TCS command's meaning runs in, the issue of a Harp
instruction, interrupts, events and answers; and that the canonical form of memory, counters and latches survives them. -/
namespace Sys2Proof.Laws
open Sys2Proof Sys2Proof.Machine

/-! ### Outcomes -/

@[simp] theorem onUnit_true (s : State) : onUnit true s = .next s := rfl
@[simp] theorem onUnit_false (s : State) : onUnit false s = .fault .noSuchUnit := rfl

/-- `onUnit` answers a next state exactly when the unit is there. -/
theorem onUnit_next {b : Bool} {s t : State} : onUnit b s = .next t ↔ b = true ∧ s = t := by cases b <;> simp [onUnit]

/-! ### TCS commands (R366, R380) -/

/-- Handed to a running Titimus, a command does what its own rules say. -/
theorem tcsCommand_handed {s : State} {v : Via} {code : Nat} {args : List W32} {r : Request} (h : Handed s v code args r)
    (body : List W32 → State → Ans) :
    tcsCommand code body v args s = match body args s with
      | .reply c res t => .next (answer v r c res t)
      | .pending k t => .next (startJob v r k t)
      | .wait => .next s := by
  obtain ⟨h1, h2, h3, h4, h5⟩ := h
  unfold tcsCommand
  simp only [h1, h2, h3, h4, h5, if_true, decide_true, Bool.and_self]
  all_goals (cases body args s <;> rfl)


/-- A command that no channel holds changes nothing. -/
theorem tcsCommand_absent {s : State} {v : Via} {code : Nat} {args : List W32} (hv : viaOk v = true)
    (h : ∀ r, channelAt s v = .handed r → ¬ (mayTake s v = true ∧ cmdCode r.cmd = code ∧ argWords r = args)) (body : List W32 → State → Ans) :
    tcsCommand code body v args s = .next s := by
  unfold tcsCommand
  simp only [hv, if_true]
  split
  · rename_i r hr
    have := h r hr
    split
    · rename_i hc; simp at hc; exact absurd ⟨hc.1.1, hc.1.2, hc.2⟩ this
    · rfl
  · rfl

/-- A command answers a next state exactly when its channel exists. -/
theorem tcsCommand_next_iff (code : Nat) (body : List W32 → State → Ans) (v : Via) (args : List W32) (s : State) :
    (∃ t, tcsCommand code body v args s = .next t) ↔ viaOk v = true := by
  unfold tcsCommand
  cases hv : viaOk v
  · simp
  · simp only [if_true, iff_true]
    repeat' split
    all_goals exact ⟨_, rfl⟩

/-- A command is never refused, and its only stop is a channel that does not exist. -/
theorem tcsCommand_stop (code : Nat) (body : List W32 → State → Ans) (v : Via) (args : List W32) (s : State) (hv : viaOk v = false) :
    tcsCommand code body v args s = .fault .noSuchUnit := by simp [tcsCommand, hv]

/-- No check refuses: the effect. -/
theorem checked_pass {cs : List (Bool × Nat)} (h : ∀ c ∈ cs, c.1 = false) (f : State → Ans) (s : State) : checked cs f s = f s := by
  have : cs.find? (fun c => c.1) = none := List.find?_eq_none.2 fun c hc => by simp [h c hc]
  simp [checked, this]

/-- The first check that applies refuses. -/
theorem checked_refuse {c : Nat} (cs : List (Bool × Nat)) (f : State → Ans) (s : State) : checked ((true, c) :: cs) f s = refuse c s := rfl

/-- A check that does not apply is skipped. -/
theorem checked_skip {c : Nat} (cs : List (Bool × Nat)) (f : State → Ans) (s : State) : checked ((false, c) :: cs) f s = checked cs f s := rfl

@[simp] theorem checked_nil (f : State → Ans) (s : State) : checked [] f s = f s := rfl

/-! ### Harp instructions (R86, R95, R96, R110) -/

/-- A thread that fetches its instruction issues it once the value it reads is there. -/
theorem harpIssue_fetches {s : State} {th : Thr} {n : Nat} {c : Chit} {t : Thread} {i : Instr} (h : Fetches s th n c t i)
    (eff : Nat → Chit → Thread → State → State) :
    harpIssue th i eff s = .next (if instrReady i c t then eff n c (issued t) (afterIssue th n (issued t) s) else s) := by
  obtain ⟨h1, h2, h3, h4, h5, h6⟩ := h
  unfold harpIssue
  simp only [h1, h2, h3, h4, h5, h6, if_true, Bool.false_eq_true, if_false, Bool.not_true]
  split <;> rfl

/-- Setting a chit's parse twice leaves the second. -/
theorem setThread_setThread (n : Nat) (t u : Thread) (s : State) : setThread n t (setThread n u s) = setThread n t s := by
  unfold setThread modChit
  cases h : chitAt s n with
  | none => simp [h]
  | some c =>
    have hs : chitAt (setChit n (some { c with parse := some u }) s) n = some { c with parse := some u } := by simp
    simp only [hs]
    unfold setChit
    simp [tabSet_tabSet]

/-! ### Interrupts, events and answers -/

/-- Counting changes counters alone. -/
theorem bumpIf_frame (c : Bool) (a : Nat) (s : State) : bumpIf c a s = { s with ctr := (bumpIf c a s).ctr } := by cases c <;> rfl

/-- Raising a vector changes `up` alone. -/
theorem raise_frame (v : Nat) (s : State) : raise v s = { s with up := (raise v s).up } := by
  unfold raise; dsimp only
  generalize (if v < 64 then s.up.cfg0 else s.up.cfg1) = c
  cases c.msixEnable && !c.functionMask && !(msixAt s v).masked && !c.d3hot <;> rfl

/-- Of `up`, only the vector tables and the messages sent. -/
theorem raise_up (v : Nat) (s : State) : (raise v s).up = { s.up with msix := (raise v s).up.msix, msgs := (raise v s).up.msgs } := by
  unfold raise; dsimp only
  generalize (if v < 64 then s.up.cfg0 else s.up.cfg1) = c
  cases c.msixEnable && !c.functionMask && !(msixAt s v).masked && !c.d3hot <;> rfl

/-- An event changes `up` and counters alone. -/
theorem postEventAt_frame (i c n : Nat) (d : List W32) (s : State) :
    postEventAt i c n d s = { s with up := (postEventAt i c n d s).up, ctr := (postEventAt i c n d s).ctr } := by
  unfold postEventAt; dsimp only; repeat' split
  all_goals rfl

/-- The same of an event that occurs now. -/
theorem postEvent_frame (c n : Nat) (d : List W32) (s : State) :
    postEvent c n d s = { s with up := (postEvent c n d s).up, ctr := (postEvent c n d s).ctr } := postEventAt_frame _ _ _ _ _

/-- And of an event of Titimus, posted or held until it runs. -/
theorem postOpen_frame (c u : Nat) (s : State) : postOpen c u s = { s with up := (postOpen c u s).up, ctr := (postOpen c u s).ctr } := by
  unfold postOpen; split <;> [exact postEventAt_frame _ _ _ _ _; rfl]

/-- Consuming downstream entries changes their index, counters and `up` alone. -/
theorem advanceDs_frame (n : Nat) (s : State) :
    advanceDs n s = { s with hif := (advanceDs n s).hif, up := (advanceDs n s).up, ctr := (advanceDs n s).ctr } := by
  unfold advanceDs; dsimp only; split <;> [(rw [raise_frame]; rfl); rfl]

/-- So does the end of a ring command that named a host buffer. -/
theorem releaseChain_frame (s : State) :
    releaseChain s = { s with hif := (releaseChain s).hif, up := (releaseChain s).up, ctr := (releaseChain s).ctr } := by
  unfold releaseChain; split
  · rfl
  · rw [advanceDs_frame]

/-- A ring completion changes `up` and counters alone. -/
theorem postCompletion_frame (e : List Byte) (s : State) :
    postCompletion e s = { s with up := (postCompletion e s).up, ctr := (postCompletion e s).ctr } := by
  unfold postCompletion; split
  · rfl
  · cases s.up.waiting.isEmpty <;> rfl

/-- An answer in a mailbox changes the mailboxes and `up` alone. -/
theorem answerBox_frame (n t c : Nat) (res : List Byte) (s : State) :
    answerBox n t c res s = { s with boxes := (answerBox n t c res s).boxes, up := (answerBox n t c res s).up } := by
  unfold answerBox; dsimp only; rw [raise_frame]; rfl

/-- An answer changes the channels, the mailboxes, the consumed entries of the ring, `up` and counters alone. -/
theorem answer_frame (v : Via) (r : Request) (c : Nat) (res : List Byte) (s : State) :
    answer v r c res s = { s with
      tcs := { s.tcs with channels := (answer v r c res s).tcs.channels }, boxes := (answer v r c res s).boxes
      hif := (answer v r c res s).hif, up := (answer v r c res s).up, ctr := (answer v r c res s).ctr } := by
  unfold answer
  cases v with
  | ring => dsimp only; rw [postCompletion_frame, releaseChain_frame]; rfl
  | f0 m => dsimp only; rw [answerBox_frame]; rfl
  | f1 m => dsimp only; rw [answerBox_frame]; rfl

/-! ### The canonical form -/

/-- Another state with the same memory, counters and latches is canonical as well. -/
theorem canonical_of_eq {s t : State} (h1 : t.hostMem = s.hostMem) (h2 : t.ctr = s.ctr) (h3 : t.latch = s.latch) (h : canonical s) : canonical t := by
  unfold canonical; rw [h1, h2, h3]; exact h

theorem canonical_bumpBy {a n : Nat} {s : State} (h : canonical s) : canonical (bumpBy a n s) := ⟨h.1, tabSet_wf _ _ _ h.2.1, h.2.2⟩
theorem canonical_bump {a : Nat} {s : State} (h : canonical s) : canonical (bump a s) := canonical_bumpBy h
theorem canonical_bumpIf {c : Bool} {a : Nat} {s : State} (h : canonical s) : canonical (bumpIf c a s) := by
  cases c <;> [exact h; exact canonical_bump h]
theorem canonical_bumpMac {f : Nat → Nat} {p n : Nat} {s : State} (h : canonical s) : canonical (bumpMac f p n s) := by
  unfold bumpMac; split <;> [exact canonical_bumpBy h; exact h]
theorem canonical_hostWrite {a : Nat} {bs : List Byte} {s : State} (h : canonical s) : canonical (hostWrite a bs s) :=
  ⟨tabWrite_wf _ _ _ h.1, h.2⟩
theorem canonical_raise {v : Nat} {s : State} (h : canonical s) : canonical (raise v s) := by rw [raise_frame]; exact h
theorem canonical_logAccess {c : AccCause} {b : Bool} {o : Nat} {x : W32} {be : BitVec 4} {s : State} (h : canonical s) :
    canonical (logAccess c b o x be s) := h
theorem canonical_modChit {n : Nat} {f : Chit → Chit} {s : State} (h : canonical s) : canonical (modChit n f s) := by
  unfold modChit; split <;> exact h
theorem canonical_pushReady {j : UpJob} {s : State} (h : canonical s) : canonical (pushReady j s) := h
theorem canonical_postEventAt {i c n : Nat} {d : List W32} {s : State} (h : canonical s) : canonical (postEventAt i c n d s) := by
  unfold postEventAt; dsimp only; repeat' split
  · exact canonical_bump (s := { s with up := _ }) h
  · exact h
  · exact h
theorem canonical_postEvent {c n : Nat} {d : List W32} {s : State} (h : canonical s) : canonical (postEvent c n d s) := canonical_postEventAt h
theorem canonical_postOpen {c u : Nat} {s : State} (h : canonical s) : canonical (postOpen c u s) := by
  unfold postOpen; split <;> [exact canonical_postEventAt h; exact h]
theorem canonical_postCompletion {e : List Byte} {s : State} (h : canonical s) : canonical (postCompletion e s) := by
  unfold postCompletion; split
  · exact h
  · exact canonical_bumpIf (s := { s with up := _ }) h
theorem canonical_advanceDs {n : Nat} {s : State} (h : canonical s) : canonical (advanceDs n s) := by
  unfold advanceDs; dsimp only
  have h' : canonical (bumpBy Ctr.hifDsEntries n { s with hif := { s.hif with dsCons := (s.hif.dsCons + n) % (2 * 2 ^ s.hif.dsLog2) } }) :=
    canonical_bumpBy (s := { s with hif := _ }) h
  split <;> [exact canonical_raise h'; exact h']
theorem canonical_releaseChain {s : State} (h : canonical s) : canonical (releaseChain s) := by
  unfold releaseChain; split <;> [exact h; exact canonical_advanceDs (s := { s with hif := _ }) h]
theorem canonical_answer {v : Via} {r : Request} {c : Nat} {res : List Byte} {s : State} (h : canonical s) : canonical (answer v r c res s) := by
  unfold answer; cases v with
  | ring => exact canonical_postCompletion (canonical_releaseChain (s := setChannel .ring .idle s) h)
  | f0 m => exact canonical_raise (s := setBox _ _ (setChannel (.f0 m) .idle s)) h
  | f1 m => exact canonical_raise (s := setBox _ _ (setChannel (.f1 m) .idle s)) h
theorem canonical_mirrorJournal {s : State} (h : canonical s) : canonical (mirrorJournal s) := by unfold mirrorJournal; split <;> exact h
theorem canonical_startJob {v : Via} {r : Request} {k : JobKind} {s : State} (h : canonical s) : canonical (startJob v r k s) := by
  have m : canonical (mirrorJournal { setChannel v (.running ⟨r, k, none, false, false⟩) s with
      tcs := { (setChannel v (.running ⟨r, k, none, false, false⟩) s).tcs with
        journal := (setChannel v (.running ⟨r, k, none, false, false⟩) s).tcs.journal ++ [⟨viaNum v, r.cmd⟩] } }) := canonical_mirrorJournal h
  unfold startJob; dsimp only; split
  · exact m
  · exact canonical_raise m
theorem canonical_clockCycle {s : State} (h : canonical s) : canonical (clockCycle s) := h

/-- A fold of steps that keep the form keeps it. -/
theorem canonical_foldl {α : Type} {f : State → α → State} (hf : ∀ s x, canonical s → canonical (f s x)) (l : List α) {s : State} (h : canonical s) :
    canonical (l.foldl f s) := by
  induction l generalizing s with
  | nil => exact h
  | cons x l ih => exact ih (hf s x h)

/-- A table with some entries taken out stays in canonical form. -/
theorem filter_wfFrom {β : Type} [DecidableEq β] {d : β} (p : Nat × β → Bool) (m : Tab β) {lo : Nat} (w : tabWfFrom d lo m = true) :
    tabWfFrom d lo (m.filter p) = true := by
  induction m generalizing lo with
  | nil => rfl
  | cons e m ih =>
    obtain ⟨k, x⟩ := e
    simp only [tabWfFrom, Bool.and_eq_true, decide_eq_true_eq] at w
    have h := ih w.2
    by_cases hp : p (k, x) = true
    · simp [hp, tabWfFrom, w.1.1, w.1.2, h]
    · simp only [List.filter_cons, hp]
      exact tabWfFrom_mono _ (by omega) h

/-- Clearing a run of counters keeps the form. -/
theorem canonical_clearCtrs {lo hi : Nat} {s : State} (h : canonical s) : canonical (clearCtrs lo hi s) :=
  ⟨h.1, filter_wfFrom _ _ h.2.1, h.2.2⟩

/-- The frame of a TCS command keeps the form when the command's own rules do. -/
theorem canonical_tcsCommand {code : Nat} {body : List W32 → State → Ans} {v : Via} {args : List W32} {s t : State}
    (hb : ∀ c res u, body args s = .reply c res u → canonical u) (hp : ∀ k u, body args s = .pending k u → canonical u)
    (h : canonical s) (e : tcsCommand code body v args s = .next t) : canonical t := by
  unfold tcsCommand at e
  repeat' split at e
  all_goals first
    | (cases e; exact h)
    | (cases e; exact canonical_answer (hb _ _ _ ‹_›))
    | (cases e; exact canonical_startJob (hp _ _ ‹_›))
    | cases e

end Sys2Proof.Laws
end

