-- ==== Sys2Proof/Laws/PerInstr.lean ====
section
/-! SUPPORT. One law per command, as syntax: the word of a Harp instruction fits 64 bits, whatever its operands (R109), and no other command
has such a word. -/
namespace Sys2Proof.Laws.HarpWord
open Sys2Proof Sys2Proof.Machine

/-- The command's Harp word, if it has one, fits 64 bits. -/
def Statement (i : Instr) : Prop := ∀ w, harpEncode i = some w → w < 2 ^ 64

/-- A packed word fits 64 bits when its fields do. -/
theorem pack_lt {op rd ra rb low : Nat} (h1 : op < 2 ^ 6) (h2 : rd < 2 ^ 4) (h3 : ra < 2 ^ 4) (h4 : rb < 2 ^ 4) (h5 : low < 2 ^ 46) :
    harpPack op rd ra rb low < 2 ^ 64 := by unfold harpPack; omega
/-- Bits [45:0] of format X fit. -/
theorem lowX_lt (o : BitVec 11) (l p : BitVec 5) (m x : BitVec 1) : lowX o.toNat l.toNat p.toNat m.toNat x.toNat < 2 ^ 46 := by
  have := o.isLt; have := l.isLt; have := p.isLt; have := m.isLt; have := x.isLt; unfold lowX; omega
/-- Bits [45:0] of format D fit. -/
theorem lowD_lt (q l p : BitVec 5) (m : BitVec 1) : lowD q.toNat l.toNat p.toNat m.toNat < 2 ^ 46 := by
  have := q.isLt; have := l.isLt; have := p.isLt; have := m.isLt; unfold lowD; omega
/-- Bits [45:0] of format B fit when its fields do. -/
theorem lowB_lt {t f i e k : Nat} (h1 : t < 2 ^ 13) (h2 : f < 2) (h3 : i < 2 ^ 24) (h4 : e < 2 ^ 3) (h5 : k < 2 ^ 5) : lowB t f i e k < 2 ^ 46 := by
  unfold lowB; omega
/-- Bits [45:0] of format L fit. -/
theorem lowL_lt (t n : BitVec 3) (c w : BitVec 1) : lowL t.toNat n.toNat c.toNat w.toNat < 2 ^ 46 := by
  have := t.isLt; have := n.isLt; have := c.isLt; have := w.isLt; unfold lowL; omega
/-- Bits [45:0] of format E fit. -/
theorem lowE_lt (m : BitVec 6) (c : BitVec 2) (o : BitVec 16) : lowE m.toNat c.toNat o.toNat < 2 ^ 46 := by
  have := m.isLt; have := c.isLt; have := o.isLt; unfold lowE; omega
/-- A bit vector of at most 46 bits fits bits [45:0]. -/
theorem low_lt {n : Nat} (v : BitVec n) (h : n ≤ 46) : v.toNat < 2 ^ 46 := Nat.lt_of_lt_of_le v.isLt (Nat.pow_le_pow_right (by decide) h)

/-- The law for sysReset. -/
theorem sysReset (via : Via) (args : List W32) : Statement (.sysReset via args) := fun _ h => nomatch h
/-- The law for sysSplitSet. -/
theorem sysSplitSet (via : Via) (args : List W32) : Statement (.sysSplitSet via args) := fun _ h => nomatch h
/-- The law for sysConfigStore. -/
theorem sysConfigStore (via : Via) (args : List W32) : Statement (.sysConfigStore via args) := fun _ h => nomatch h
/-- The law for sysFwLoad. -/
theorem sysFwLoad (via : Via) (args : List W32) : Statement (.sysFwLoad via args) := fun _ h => nomatch h
/-- The law for sysFwActivate. -/
theorem sysFwActivate (via : Via) (args : List W32) : Statement (.sysFwActivate via args) := fun _ h => nomatch h
/-- The law for sysFwCommit. -/
theorem sysFwCommit (via : Via) (args : List W32) : Statement (.sysFwCommit via args) := fun _ h => nomatch h
/-- The law for sysSwap. -/
theorem sysSwap (via : Via) (args : List W32) : Statement (.sysSwap via args) := fun _ h => nomatch h
/-- The law for sysSvnLock. -/
theorem sysSvnLock (via : Via) (args : List W32) : Statement (.sysSvnLock via args) := fun _ h => nomatch h
/-- The law for sysInfo. -/
theorem sysInfo (via : Via) (args : List W32) : Statement (.sysInfo via args) := fun _ h => nomatch h
/-- The law for sysFwStatus. -/
theorem sysFwStatus (via : Via) (args : List W32) : Statement (.sysFwStatus via args) := fun _ h => nomatch h
/-- The law for portConfig. -/
theorem portConfig (via : Via) (args : List W32) : Statement (.portConfig via args) := fun _ h => nomatch h
/-- The law for portEnable. -/
theorem portEnable (via : Via) (args : List W32) : Statement (.portEnable via args) := fun _ h => nomatch h
/-- The law for portDisable. -/
theorem portDisable (via : Via) (args : List W32) : Statement (.portDisable via args) := fun _ h => nomatch h
/-- The law for portLaneMap. -/
theorem portLaneMap (via : Via) (args : List W32) : Statement (.portLaneMap via args) := fun _ h => nomatch h
/-- The law for portStationSet. -/
theorem portStationSet (via : Via) (args : List W32) : Statement (.portStationSet via args) := fun _ h => nomatch h
/-- The law for portFlowctlSet. -/
theorem portFlowctlSet (via : Via) (args : List W32) : Statement (.portFlowctlSet via args) := fun _ h => nomatch h
/-- The law for portPreemptSet. -/
theorem portPreemptSet (via : Via) (args : List W32) : Statement (.portPreemptSet via args) := fun _ h => nomatch h
/-- The law for portDampSet. -/
theorem portDampSet (via : Via) (args : List W32) : Statement (.portDampSet via args) := fun _ h => nomatch h
/-- The law for portLpiSet. -/
theorem portLpiSet (via : Via) (args : List W32) : Statement (.portLpiSet via args) := fun _ h => nomatch h
/-- The law for portExpressSet. -/
theorem portExpressSet (via : Via) (args : List W32) : Statement (.portExpressSet via args) := fun _ h => nomatch h
/-- The law for portStatus. -/
theorem portStatus (via : Via) (args : List W32) : Statement (.portStatus via args) := fun _ h => nomatch h
/-- The law for harpLoad. -/
theorem harpLoad (via : Via) (args : List W32) : Statement (.harpLoad via args) := fun _ h => nomatch h
/-- The law for harpCommit. -/
theorem harpCommit (via : Via) (args : List W32) : Statement (.harpCommit via args) := fun _ h => nomatch h
/-- The law for harpRaSet. -/
theorem harpRaSet (via : Via) (args : List W32) : Statement (.harpRaSet via args) := fun _ h => nomatch h
/-- The law for harpRaTpid. -/
theorem harpRaTpid (via : Via) (args : List W32) : Statement (.harpRaTpid via args) := fun _ h => nomatch h
/-- The law for harpEngineCheck. -/
theorem harpEngineCheck (via : Via) (args : List W32) : Statement (.harpEngineCheck via args) := fun _ h => nomatch h
/-- The law for harpHashSeed. -/
theorem harpHashSeed (via : Via) (args : List W32) : Statement (.harpHashSeed via args) := fun _ h => nomatch h
/-- The law for harpStatus. -/
theorem harpStatus (via : Via) (args : List W32) : Statement (.harpStatus via args) := fun _ h => nomatch h
/-- The law for classRangeSet. -/
theorem classRangeSet (via : Via) (args : List W32) : Statement (.classRangeSet via args) := fun _ h => nomatch h
/-- The law for classRulesSet. -/
theorem classRulesSet (via : Via) (args : List W32) : Statement (.classRulesSet via args) := fun _ h => nomatch h
/-- The law for classTmapSet. -/
theorem classTmapSet (via : Via) (args : List W32) : Statement (.classTmapSet via args) := fun _ h => nomatch h
/-- The law for classRulesGet. -/
theorem classRulesGet (via : Via) (args : List W32) : Statement (.classRulesGet via args) := fun _ h => nomatch h
/-- The law for classStatus. -/
theorem classStatus (via : Via) (args : List W32) : Statement (.classStatus via args) := fun _ h => nomatch h
/-- The law for tableConfig. -/
theorem tableConfig (via : Via) (args : List W32) : Statement (.tableConfig via args) := fun _ h => nomatch h
/-- The law for tableSeedSet. -/
theorem tableSeedSet (via : Via) (args : List W32) : Statement (.tableSeedSet via args) := fun _ h => nomatch h
/-- The law for tableInsert. -/
theorem tableInsert (via : Via) (args : List W32) : Statement (.tableInsert via args) := fun _ h => nomatch h
/-- The law for tableDelete. -/
theorem tableDelete (via : Via) (args : List W32) : Statement (.tableDelete via args) := fun _ h => nomatch h
/-- The law for tableSearch. -/
theorem tableSearch (via : Via) (args : List W32) : Statement (.tableSearch via args) := fun _ h => nomatch h
/-- The law for tableNext. -/
theorem tableNext (via : Via) (args : List W32) : Statement (.tableNext via args) := fun _ h => nomatch h
/-- The law for tableHits. -/
theorem tableHits (via : Via) (args : List W32) : Statement (.tableHits via args) := fun _ h => nomatch h
/-- The law for tableWalkClose. -/
theorem tableWalkClose (via : Via) (args : List W32) : Statement (.tableWalkClose via args) := fun _ h => nomatch h
/-- The law for tableFlushPort. -/
theorem tableFlushPort (via : Via) (args : List W32) : Statement (.tableFlushPort via args) := fun _ h => nomatch h
/-- The law for tableFlushTable. -/
theorem tableFlushTable (via : Via) (args : List W32) : Statement (.tableFlushTable via args) := fun _ h => nomatch h
/-- The law for tableInsertBulk. -/
theorem tableInsertBulk (via : Via) (args : List W32) : Statement (.tableInsertBulk via args) := fun _ h => nomatch h
/-- The law for tableDeleteBulk. -/
theorem tableDeleteBulk (via : Via) (args : List W32) : Statement (.tableDeleteBulk via args) := fun _ h => nomatch h
/-- The law for tableSearchBulk. -/
theorem tableSearchBulk (via : Via) (args : List W32) : Statement (.tableSearchBulk via args) := fun _ h => nomatch h
/-- The law for tableStatus. -/
theorem tableStatus (via : Via) (args : List W32) : Statement (.tableStatus via args) := fun _ h => nomatch h
/-- The law for meterSet. -/
theorem meterSet (via : Via) (args : List W32) : Statement (.meterSet via args) := fun _ h => nomatch h
/-- The law for meterProfileSet. -/
theorem meterProfileSet (via : Via) (args : List W32) : Statement (.meterProfileSet via args) := fun _ h => nomatch h
/-- The law for meterTenantSet. -/
theorem meterTenantSet (via : Via) (args : List W32) : Statement (.meterTenantSet via args) := fun _ h => nomatch h
/-- The law for meterGet. -/
theorem meterGet (via : Via) (args : List W32) : Statement (.meterGet via args) := fun _ h => nomatch h
/-- The law for meterTenantGet. -/
theorem meterTenantGet (via : Via) (args : List W32) : Statement (.meterTenantGet via args) := fun _ h => nomatch h
/-- The law for tellerQueueSet. -/
theorem tellerQueueSet (via : Via) (args : List W32) : Statement (.tellerQueueSet via args) := fun _ h => nomatch h
/-- The law for tellerGroupSet. -/
theorem tellerGroupSet (via : Via) (args : List W32) : Statement (.tellerGroupSet via args) := fun _ h => nomatch h
/-- The law for tellerPortSet. -/
theorem tellerPortSet (via : Via) (args : List W32) : Statement (.tellerPortSet via args) := fun _ h => nomatch h
/-- The law for tellerClassMap. -/
theorem tellerClassMap (via : Via) (args : List W32) : Statement (.tellerClassMap via args) := fun _ h => nomatch h
/-- The law for tellerGateSet. -/
theorem tellerGateSet (via : Via) (args : List W32) : Statement (.tellerGateSet via args) := fun _ h => nomatch h
/-- The law for tellerLagSet. -/
theorem tellerLagSet (via : Via) (args : List W32) : Statement (.tellerLagSet via args) := fun _ h => nomatch h
/-- The law for tellerEcmpSet. -/
theorem tellerEcmpSet (via : Via) (args : List W32) : Statement (.tellerEcmpSet via args) := fun _ h => nomatch h
/-- The law for tellerMemberAdd. -/
theorem tellerMemberAdd (via : Via) (args : List W32) : Statement (.tellerMemberAdd via args) := fun _ h => nomatch h
/-- The law for tellerMemberRemove. -/
theorem tellerMemberRemove (via : Via) (args : List W32) : Statement (.tellerMemberRemove via args) := fun _ h => nomatch h
/-- The law for tellerMirrorSet. -/
theorem tellerMirrorSet (via : Via) (args : List W32) : Statement (.tellerMirrorSet via args) := fun _ h => nomatch h
/-- The law for tellerTelemetrySet. -/
theorem tellerTelemetrySet (via : Via) (args : List W32) : Statement (.tellerTelemetrySet via args) := fun _ h => nomatch h
/-- The law for tellerGateStatus. -/
theorem tellerGateStatus (via : Via) (args : List W32) : Statement (.tellerGateStatus via args) := fun _ h => nomatch h
/-- The law for tellerGroupGet. -/
theorem tellerGroupGet (via : Via) (args : List W32) : Statement (.tellerGroupGet via args) := fun _ h => nomatch h
/-- The law for mintPoolSet. -/
theorem mintPoolSet (via : Via) (args : List W32) : Statement (.mintPoolSet via args) := fun _ h => nomatch h
/-- The law for mintPortMap. -/
theorem mintPortMap (via : Via) (args : List W32) : Statement (.mintPortMap via args) := fun _ h => nomatch h
/-- The law for mintColorSet. -/
theorem mintColorSet (via : Via) (args : List W32) : Statement (.mintColorSet via args) := fun _ h => nomatch h
/-- The law for mintEcnSet. -/
theorem mintEcnSet (via : Via) (args : List W32) : Statement (.mintEcnSet via args) := fun _ h => nomatch h
/-- The law for mintReclaim. -/
theorem mintReclaim (via : Via) (args : List W32) : Statement (.mintReclaim via args) := fun _ h => nomatch h
/-- The law for mintStatus. -/
theorem mintStatus (via : Via) (args : List W32) : Statement (.mintStatus via args) := fun _ h => nomatch h
/-- The law for ledgerConfig. -/
theorem ledgerConfig (via : Via) (args : List W32) : Statement (.ledgerConfig via args) := fun _ h => nomatch h
/-- The law for ledgerKeySet. -/
theorem ledgerKeySet (via : Via) (args : List W32) : Statement (.ledgerKeySet via args) := fun _ h => nomatch h
/-- The law for ledgerAck. -/
theorem ledgerAck (via : Via) (args : List W32) : Statement (.ledgerAck via args) := fun _ h => nomatch h
/-- The law for ledgerReplay. -/
theorem ledgerReplay (via : Via) (args : List W32) : Statement (.ledgerReplay via args) := fun _ h => nomatch h
/-- The law for ledgerRowGet. -/
theorem ledgerRowGet (via : Via) (args : List W32) : Statement (.ledgerRowGet via args) := fun _ h => nomatch h
/-- The law for ledgerStatus. -/
theorem ledgerStatus (via : Via) (args : List W32) : Statement (.ledgerStatus via args) := fun _ h => nomatch h
/-- The law for timeTriggerSet. -/
theorem timeTriggerSet (via : Via) (args : List W32) : Statement (.timeTriggerSet via args) := fun _ h => nomatch h
/-- The law for timeStatus. -/
theorem timeStatus (via : Via) (args : List W32) : Statement (.timeStatus via args) := fun _ h => nomatch h
/-- The law for consoleClockSet. -/
theorem consoleClockSet (via : Via) (args : List W32) : Statement (.consoleClockSet via args) := fun _ h => nomatch h
/-- The law for consoleFrameSet. -/
theorem consoleFrameSet (via : Via) (args : List W32) : Statement (.consoleFrameSet via args) := fun _ h => nomatch h
/-- The law for consoleInputSet. -/
theorem consoleInputSet (via : Via) (args : List W32) : Statement (.consoleInputSet via args) := fun _ h => nomatch h
/-- The law for consoleOutletSet. -/
theorem consoleOutletSet (via : Via) (args : List W32) : Statement (.consoleOutletSet via args) := fun _ h => nomatch h
/-- The law for consoleOutletGet. -/
theorem consoleOutletGet (via : Via) (args : List W32) : Statement (.consoleOutletGet via args) := fun _ h => nomatch h
/-- The law for consoleCycleSet. -/
theorem consoleCycleSet (via : Via) (args : List W32) : Statement (.consoleCycleSet via args) := fun _ h => nomatch h
/-- The law for consoleOutputSet. -/
theorem consoleOutputSet (via : Via) (args : List W32) : Statement (.consoleOutputSet via args) := fun _ h => nomatch h
/-- The law for consoleFanSet. -/
theorem consoleFanSet (via : Via) (args : List W32) : Statement (.consoleFanSet via args) := fun _ h => nomatch h
/-- The law for consoleTripSet. -/
theorem consoleTripSet (via : Via) (args : List W32) : Statement (.consoleTripSet via args) := fun _ h => nomatch h
/-- The law for consoleTripClear. -/
theorem consoleTripClear (via : Via) (args : List W32) : Statement (.consoleTripClear via args) := fun _ h => nomatch h
/-- The law for consoleEnable. -/
theorem consoleEnable (via : Via) (args : List W32) : Statement (.consoleEnable via args) := fun _ h => nomatch h
/-- The law for consoleDisable. -/
theorem consoleDisable (via : Via) (args : List W32) : Statement (.consoleDisable via args) := fun _ h => nomatch h
/-- The law for consoleStatus. -/
theorem consoleStatus (via : Via) (args : List W32) : Statement (.consoleStatus via args) := fun _ h => nomatch h
/-- The law for pairConfig. -/
theorem pairConfig (via : Via) (args : List W32) : Statement (.pairConfig via args) := fun _ h => nomatch h
/-- The law for pairGroupSet. -/
theorem pairGroupSet (via : Via) (args : List W32) : Statement (.pairGroupSet via args) := fun _ h => nomatch h
/-- The law for pairRelease. -/
theorem pairRelease (via : Via) (args : List W32) : Statement (.pairRelease via args) := fun _ h => nomatch h
/-- The law for pairStatus. -/
theorem pairStatus (via : Via) (args : List W32) : Statement (.pairStatus via args) := fun _ h => nomatch h
/-- The law for powerDomainSet. -/
theorem powerDomainSet (via : Via) (args : List W32) : Statement (.powerDomainSet via args) := fun _ h => nomatch h
/-- The law for powerWakeSet. -/
theorem powerWakeSet (via : Via) (args : List W32) : Statement (.powerWakeSet via args) := fun _ h => nomatch h
/-- The law for powerStatus. -/
theorem powerStatus (via : Via) (args : List W32) : Statement (.powerStatus via args) := fun _ h => nomatch h
/-- The law for tuneRun. -/
theorem tuneRun (via : Via) (args : List W32) : Statement (.tuneRun via args) := fun _ h => nomatch h
/-- The law for tuneCapoSet. -/
theorem tuneCapoSet (via : Via) (args : List W32) : Statement (.tuneCapoSet via args) := fun _ h => nomatch h
/-- The law for tuneIntervalSet. -/
theorem tuneIntervalSet (via : Via) (args : List W32) : Statement (.tuneIntervalSet via args) := fun _ h => nomatch h
/-- The law for tuneStatus. -/
theorem tuneStatus (via : Via) (args : List W32) : Statement (.tuneStatus via args) := fun _ h => nomatch h
/-- The law for tuneHistory. -/
theorem tuneHistory (via : Via) (args : List W32) : Statement (.tuneHistory via args) := fun _ h => nomatch h
/-- The law for memRemapSet. -/
theorem memRemapSet (via : Via) (args : List W32) : Statement (.memRemapSet via args) := fun _ h => nomatch h
/-- The law for memScrubSet. -/
theorem memScrubSet (via : Via) (args : List W32) : Statement (.memScrubSet via args) := fun _ h => nomatch h
/-- The law for memFill. -/
theorem memFill (via : Via) (args : List W32) : Statement (.memFill via args) := fun _ h => nomatch h
/-- The law for memStatus. -/
theorem memStatus (via : Via) (args : List W32) : Statement (.memStatus via args) := fun _ h => nomatch h
/-- The law for memLog. -/
theorem memLog (via : Via) (args : List W32) : Statement (.memLog via args) := fun _ h => nomatch h
/-- The law for tallySelect. -/
theorem tallySelect (via : Via) (args : List W32) : Statement (.tallySelect via args) := fun _ h => nomatch h
/-- The law for tallySweepSet. -/
theorem tallySweepSet (via : Via) (args : List W32) : Statement (.tallySweepSet via args) := fun _ h => nomatch h
/-- The law for tallyUnprivSet. -/
theorem tallyUnprivSet (via : Via) (args : List W32) : Statement (.tallyUnprivSet via args) := fun _ h => nomatch h
/-- The law for tallyCaptureSet. -/
theorem tallyCaptureSet (via : Via) (args : List W32) : Statement (.tallyCaptureSet via args) := fun _ h => nomatch h
/-- The law for tallyStatus. -/
theorem tallyStatus (via : Via) (args : List W32) : Statement (.tallyStatus via args) := fun _ h => nomatch h
/-- The law for diagLoopback. -/
theorem diagLoopback (via : Via) (args : List W32) : Statement (.diagLoopback via args) := fun _ h => nomatch h
/-- The law for diagPrbs. -/
theorem diagPrbs (via : Via) (args : List W32) : Statement (.diagPrbs via args) := fun _ h => nomatch h
/-- The law for diagPrbsGet. -/
theorem diagPrbsGet (via : Via) (args : List W32) : Statement (.diagPrbsGet via args) := fun _ h => nomatch h
/-- The law for diagEcho. -/
theorem diagEcho (via : Via) (bytes : List Byte) : Statement (.diagEcho via bytes) := fun _ h => nomatch h
/-- The law for commandComplete. -/
theorem commandComplete (via : Via) : Statement (.commandComplete via) := fun _ h => nomatch h
/-- The law for mailboxDoorbell. -/
theorem mailboxDoorbell (via : Via) (val : W32) (be : BitVec 4) : Statement (.mailboxDoorbell via val be) := fun _ h => nomatch h
/-- The law for dsDoorbell. -/
theorem dsDoorbell (val : W32) (be : BitVec 4) : Statement (.dsDoorbell val be) := fun _ h => nomatch h
/-- The law for usConsWrite. -/
theorem usConsWrite (val : W32) (be : BitVec 4) : Statement (.usConsWrite val be) := fun _ h => nomatch h
/-- The law for arenaRelease. -/
theorem arenaRelease (val : W32) (be : BitVec 4) : Statement (.arenaRelease val be) := fun _ h => nomatch h
/-- The law for ringEnable. -/
theorem ringEnable (up : Bool) (val : W32) : Statement (.ringEnable up val) := fun _ h => nomatch h
/-- The law for ringDisable. -/
theorem ringDisable (up : Bool) (val : W32) : Statement (.ringDisable up val) := fun _ h => nomatch h
/-- The law for arenaEnable. -/
theorem arenaEnable (val : W32) : Statement (.arenaEnable val) := fun _ h => nomatch h
/-- The law for arenaDisable. -/
theorem arenaDisable (val : W32) : Statement (.arenaDisable val) := fun _ h => nomatch h
/-- The law for exportConsWrite. -/
theorem exportConsWrite (stream : Nat) (val : W32) : Statement (.exportConsWrite stream val) := fun _ h => nomatch h
/-- The law for timeNowRead. -/
theorem timeNowRead (fn : Fn) : Statement (.timeNowRead fn) := fun _ h => nomatch h
/-- The law for tsqMetaRead. -/
theorem tsqMetaRead (slice : Nat) : Statement (.tsqMetaRead slice) := fun _ h => nomatch h
/-- The law for evMetaRead. -/
theorem evMetaRead (input : Nat) : Statement (.evMetaRead input) := fun _ h => nomatch h
/-- The law for ppsInRead. -/
theorem ppsInRead : Statement .ppsInRead := fun _ h => nomatch h
/-- The law for counterLowRead. -/
theorem counterLowRead (fn : Fn) (addr : Nat) : Statement (.counterLowRead fn addr) := fun _ h => nomatch h
/-- The law for incrCommit. -/
theorem incrCommit (val : W32) : Statement (.incrCommit val) := fun _ h => nomatch h
/-- The law for stepArm. -/
theorem stepArm (val : W32) : Statement (.stepArm val) := fun _ h => nomatch h
/-- The law for hwmClr. -/
theorem hwmClr (slice : Nat) (val : W32) : Statement (.hwmClr slice val) := fun _ h => nomatch h
/-- The law for peerRstReq. -/
theorem peerRstReq (val : W32) : Statement (.peerRstReq val) := fun _ h => nomatch h
/-- The law for peerWakeReq. -/
theorem peerWakeReq (val : W32) : Statement (.peerWakeReq val) := fun _ h => nomatch h
/-- The law for padRelease. -/
theorem padRelease (high : Bool) (val : W32) : Statement (.padRelease high val) := fun _ h => nomatch h
/-- The law for blockResetHold. -/
theorem blockResetHold (val : W32) : Statement (.blockResetHold val) := fun _ h => nomatch h
/-- The law for blockResetRelease. -/
theorem blockResetRelease (val : W32) : Statement (.blockResetRelease val) := fun _ h => nomatch h
/-- The law for registerWrite. -/
theorem registerWrite (sp : Space) (addr : Nat) (val : W32) (be : BitVec 4) : Statement (.registerWrite sp addr val be) := fun _ h => nomatch h
/-- The law for nop. -/
theorem nop (th : Thr) : Statement (.nop th) := by
  intro w h; cases h; exact pack_lt (by decide) (by decide) (by decide) (by decide) (by decide)
/-- The law for add. -/
theorem add (th : Thr) (rd ra rb : BitVec 4) : Statement (.add th rd ra rb) := by
  intro w h; cases h; exact pack_lt (by decide) rd.isLt ra.isLt rb.isLt (by decide)
/-- The law for sub. -/
theorem sub (th : Thr) (rd ra rb : BitVec 4) : Statement (.sub th rd ra rb) := by
  intro w h; cases h; exact pack_lt (by decide) rd.isLt ra.isLt rb.isLt (by decide)
/-- The law for andR. -/
theorem andR (th : Thr) (rd ra rb : BitVec 4) : Statement (.andR th rd ra rb) := by
  intro w h; cases h; exact pack_lt (by decide) rd.isLt ra.isLt rb.isLt (by decide)
/-- The law for orR. -/
theorem orR (th : Thr) (rd ra rb : BitVec 4) : Statement (.orR th rd ra rb) := by
  intro w h; cases h; exact pack_lt (by decide) rd.isLt ra.isLt rb.isLt (by decide)
/-- The law for xorR. -/
theorem xorR (th : Thr) (rd ra rb : BitVec 4) : Statement (.xorR th rd ra rb) := by
  intro w h; cases h; exact pack_lt (by decide) rd.isLt ra.isLt rb.isLt (by decide)
/-- The law for shl. -/
theorem shl (th : Thr) (rd ra rb : BitVec 4) : Statement (.shl th rd ra rb) := by
  intro w h; cases h; exact pack_lt (by decide) rd.isLt ra.isLt rb.isLt (by decide)
/-- The law for shr. -/
theorem shr (th : Thr) (rd ra rb : BitVec 4) : Statement (.shr th rd ra rb) := by
  intro w h; cases h; exact pack_lt (by decide) rd.isLt ra.isLt rb.isLt (by decide)
/-- The law for addi. -/
theorem addi (th : Thr) (rd ra : BitVec 4) (imm : W32) : Statement (.addi th rd ra imm) := by
  intro w h; cases h; exact pack_lt (by decide) rd.isLt ra.isLt (by decide) (low_lt imm (by decide))
/-- The law for andi. -/
theorem andi (th : Thr) (rd ra : BitVec 4) (imm : W32) : Statement (.andi th rd ra imm) := by
  intro w h; cases h; exact pack_lt (by decide) rd.isLt ra.isLt (by decide) (low_lt imm (by decide))
/-- The law for ori. -/
theorem ori (th : Thr) (rd ra : BitVec 4) (imm : W32) : Statement (.ori th rd ra imm) := by
  intro w h; cases h; exact pack_lt (by decide) rd.isLt ra.isLt (by decide) (low_lt imm (by decide))
/-- The law for xori. -/
theorem xori (th : Thr) (rd ra : BitVec 4) (imm : W32) : Statement (.xori th rd ra imm) := by
  intro w h; cases h; exact pack_lt (by decide) rd.isLt ra.isLt (by decide) (low_lt imm (by decide))
/-- The law for shli. -/
theorem shli (th : Thr) (rd ra : BitVec 4) (imm : W32) : Statement (.shli th rd ra imm) := by
  intro w h; cases h; exact pack_lt (by decide) rd.isLt ra.isLt (by decide) (low_lt imm (by decide))
/-- The law for shri. -/
theorem shri (th : Thr) (rd ra : BitVec 4) (imm : W32) : Statement (.shri th rd ra imm) := by
  intro w h; cases h; exact pack_lt (by decide) rd.isLt ra.isLt (by decide) (low_lt imm (by decide))
/-- The law for movi. -/
theorem movi (th : Thr) (rd : BitVec 4) (imm : W32) : Statement (.movi th rd imm) := by
  intro w h; cases h; exact pack_lt (by decide) rd.isLt (by decide) (by decide) (low_lt imm (by decide))
/-- The law for xtr. -/
theorem xtr (th : Thr) (rd ra : BitVec 4) (bitoff : BitVec 11) (lenm1 dpos : BitVec 5) (merge idx : BitVec 1) : Statement (.xtr th rd ra bitoff lenm1 dpos merge idx) := by
  intro w h; cases h; exact pack_lt (by decide) rd.isLt ra.isLt (by decide) (lowX_lt bitoff lenm1 dpos merge idx)
/-- The law for dep. -/
theorem dep (th : Thr) (rd ra : BitVec 4) (spos lenm1 dpos : BitVec 5) (merge : BitVec 1) : Statement (.dep th rd ra spos lenm1 dpos merge) := by
  intro w h; cases h; exact pack_lt (by decide) rd.isLt ra.isLt (by decide) (lowD_lt spos lenm1 dpos merge)
/-- The law for jmp. -/
theorem jmp (th : Thr) (target : BitVec 13) : Statement (.jmp th target) := by
  intro w h; cases h; exact pack_lt (by decide) (by decide) (by decide) (by decide) (lowB_lt target.isLt (by decide) (by decide) (by decide) (by decide))
/-- The law for beq. -/
theorem beq (th : Thr) (ra rb : BitVec 4) (target : BitVec 13) (immf : BitVec 1) (imm : BitVec 24) : Statement (.beq th ra rb target immf imm) := by
  intro w h; cases h; exact pack_lt (by decide) (by decide) ra.isLt rb.isLt (lowB_lt target.isLt immf.isLt imm.isLt (by decide) (by decide))
/-- The law for bne. -/
theorem bne (th : Thr) (ra rb : BitVec 4) (target : BitVec 13) (immf : BitVec 1) (imm : BitVec 24) : Statement (.bne th ra rb target immf imm) := by
  intro w h; cases h; exact pack_lt (by decide) (by decide) ra.isLt rb.isLt (lowB_lt target.isLt immf.isLt imm.isLt (by decide) (by decide))
/-- The law for bltu. -/
theorem bltu (th : Thr) (ra rb : BitVec 4) (target : BitVec 13) (immf : BitVec 1) (imm : BitVec 24) : Statement (.bltu th ra rb target immf imm) := by
  intro w h; cases h; exact pack_lt (by decide) (by decide) ra.isLt rb.isLt (lowB_lt target.isLt immf.isLt imm.isLt (by decide) (by decide))
/-- The law for bgeu. -/
theorem bgeu (th : Thr) (ra rb : BitVec 4) (target : BitVec 13) (immf : BitVec 1) (imm : BitVec 24) : Statement (.bgeu th ra rb target immf imm) := by
  intro w h; cases h; exact pack_lt (by decide) (by decide) ra.isLt rb.isLt (lowB_lt target.isLt immf.isLt imm.isLt (by decide) (by decide))
/-- The law for bbs. -/
theorem bbs (th : Thr) (ra : BitVec 4) (target : BitVec 13) (bit : BitVec 5) : Statement (.bbs th ra target bit) := by
  intro w h; cases h; exact pack_lt (by decide) (by decide) ra.isLt (by decide) (lowB_lt target.isLt (by decide) (by decide) (by decide) bit.isLt)
/-- The law for bbc. -/
theorem bbc (th : Thr) (ra : BitVec 4) (target : BitVec 13) (bit : BitVec 5) : Statement (.bbc th ra target bit) := by
  intro w h; cases h; exact pack_lt (by decide) (by decide) ra.isLt (by decide) (lowB_lt target.isLt (by decide) (by decide) (by decide) bit.isLt)
/-- The law for bmiss. -/
theorem bmiss (th : Thr) (target : BitVec 13) (sel : BitVec 3) : Statement (.bmiss th target sel) := by
  intro w h; cases h; exact pack_lt (by decide) (by decide) (by decide) (by decide) (lowB_lt target.isLt (by decide) (by decide) sel.isLt (by decide))
/-- The law for lkp. -/
theorem lkp (th : Thr) (ra rb : BitVec 4) (table nm1 : BitVec 3) (src topw : BitVec 1) : Statement (.lkp th ra rb table nm1 src topw) := by
  intro w h; cases h; exact pack_lt (by decide) (by decide) ra.isLt rb.isLt (lowL_lt table nm1 src topw)
/-- The law for rng. -/
theorem rng (th : Thr) (ra rb : BitVec 4) : Statement (.rng th ra rb) := by
  intro w h; cases h; exact pack_lt (by decide) (by decide) ra.isLt rb.isLt (by decide)
/-- The law for rds. -/
theorem rds (th : Thr) (rd ra : BitVec 4) (sel : BitVec 3) : Statement (.rds th rd ra sel) := by
  intro w h; cases h; exact pack_lt (by decide) rd.isLt ra.isLt (by decide) (low_lt sel (by decide))
/-- The law for hsh. -/
theorem hsh (th : Thr) (rd ra : BitVec 4) (nm1 : BitVec 3) : Statement (.hsh th rd ra nm1) := by
  intro w h; cases h; exact pack_lt (by decide) rd.isLt ra.isLt (by decide) (low_lt nm1 (by decide))
/-- The law for emit. -/
theorem emit (th : Thr) (ra : BitVec 4) (wmask : BitVec 6) (dsrc : BitVec 2) (w0or : BitVec 16) : Statement (.emit th ra wmask dsrc w0or) := by
  intro w h; cases h; exact pack_lt (by decide) (by decide) ra.isLt (by decide) (lowE_lt wmask dsrc w0or)
/-- The law for done. -/
theorem done (th : Thr) : Statement (.done th) := by
  intro w h; cases h; exact pack_lt (by decide) (by decide) (by decide) (by decide) (by decide)
/-- The law for drop. -/
theorem drop (th : Thr) : Statement (.drop th) := by
  intro w h; cases h; exact pack_lt (by decide) (by decide) (by decide) (by decide) (by decide)
/-- The law for trap. -/
theorem trap (th : Thr) (reason : BitVec 8) : Statement (.trap th reason) := by
  intro w h; cases h; exact pack_lt (by decide) (by decide) (by decide) (by decide) (low_lt reason (by decide))
/-- The law for lookupResult. -/
theorem lookupResult (chit slot : Nat) : Statement (.lookupResult chit slot) := fun _ h => nomatch h
/-- The law for rangeResult. -/
theorem rangeResult (chit : Nat) : Statement (.rangeResult chit) := fun _ h => nomatch h
/-- The law for frameStart. -/
theorem frameStart (port chit : Nat) (pmac : Bool) (bytes : List Byte) : Statement (.frameStart port chit pmac bytes) := fun _ h => nomatch h
/-- The law for preDecode. -/
theorem preDecode (chit : Nat) : Statement (.preDecode chit) := fun _ h => nomatch h
/-- The law for runAheadResult. -/
theorem runAheadResult (chit : Nat) : Statement (.runAheadResult chit) := fun _ h => nomatch h
/-- The law for expressDecision. -/
theorem expressDecision (chit : Nat) : Statement (.expressDecision chit) := fun _ h => nomatch h
/-- The law for cellAllocate. -/
theorem cellAllocate (chit : Nat) (room : Bool) : Statement (.cellAllocate chit room) := fun _ h => nomatch h
/-- The law for frameEnd. -/
theorem frameEnd (mac : MacRef) (rx : RxEnd) : Statement (.frameEnd mac rx) := fun _ h => nomatch h
/-- The law for fragmentReceive. -/
theorem fragmentReceive (port : Nat) (frag : Frag) : Statement (.fragmentReceive port frag) := fun _ h => nomatch h
/-- The law for harpDispatch. -/
theorem harpDispatch (chit engine thread : Nat) : Statement (.harpDispatch chit engine thread) := fun _ h => nomatch h
/-- The law for harpSwap. -/
theorem harpSwap (slice : Nat) : Statement (.harpSwap slice) := fun _ h => nomatch h
/-- The law for classUpdateBoundary. -/
theorem classUpdateBoundary (slice : Nat) : Statement (.classUpdateBoundary slice) := fun _ h => nomatch h
/-- The law for engineFault. -/
theorem engineFault (slice engine : Nat) : Statement (.engineFault slice engine) := fun _ h => nomatch h
/-- The law for engineCheckDone. -/
theorem engineCheckDone (slice engine : Nat) (good : Bool) : Statement (.engineCheckDone slice engine good) := fun _ h => nomatch h
/-- The law for classify. -/
theorem classify (chit : Nat) : Statement (.classify chit) := fun _ h => nomatch h
/-- The law for police. -/
theorem police (chit : Nat) : Statement (.police chit) := fun _ h => nomatch h
/-- The law for enqueueRequest. -/
theorem enqueueRequest (chit : Nat) : Statement (.enqueueRequest chit) := fun _ h => nomatch h
/-- The law for tellerEnqueue. -/
theorem tellerEnqueue (chit : Nat) : Statement (.tellerEnqueue chit) := fun _ h => nomatch h
/-- The law for trapAccept. -/
theorem trapAccept (chit : Nat) : Statement (.trapAccept chit) := fun _ h => nomatch h
/-- The law for tellerSelect. -/
theorem tellerSelect (port : Nat) (express : Bool) (cut : Nat) : Statement (.tellerSelect port express cut) := fun _ h => nomatch h
/-- The law for egressFcs. -/
theorem egressFcs (port : Nat) : Statement (.egressFcs port) := fun _ h => nomatch h
/-- The law for copyEnd. -/
theorem copyEnd (port : Nat) : Statement (.copyEnd port) := fun _ h => nomatch h
/-- The law for txUnderrun. -/
theorem txUnderrun (port : Nat) : Statement (.txUnderrun port) := fun _ h => nomatch h
/-- The law for injectFrame. -/
theorem injectFrame (chit : Nat) : Statement (.injectFrame chit) := fun _ h => nomatch h
/-- The law for pauseReceive. -/
theorem pauseReceive (port : Nat) : Statement (.pauseReceive port) := fun _ h => nomatch h
/-- The law for pauseExpire. -/
theorem pauseExpire (port prio : Nat) : Statement (.pauseExpire port prio) := fun _ h => nomatch h
/-- The law for xoffRefresh. -/
theorem xoffRefresh (port prio : Nat) : Statement (.xoffRefresh port prio) := fun _ h => nomatch h
/-- The law for pwdFire. -/
theorem pwdFire (port prio : Nat) : Statement (.pwdFire port prio) := fun _ h => nomatch h
/-- The law for pwdRestore. -/
theorem pwdRestore (port prio : Nat) : Statement (.pwdRestore port prio) := fun _ h => nomatch h
/-- The law for verifyTimeout. -/
theorem verifyTimeout (port : Nat) : Statement (.verifyTimeout port) := fun _ h => nomatch h
/-- The law for verifyReceive. -/
theorem verifyReceive (port : Nat) : Statement (.verifyReceive port) := fun _ h => nomatch h
/-- The law for respondReceive. -/
theorem respondReceive (port : Nat) : Statement (.respondReceive port) := fun _ h => nomatch h
/-- The law for dampCapabilitySend. -/
theorem dampCapabilitySend (port : Nat) : Statement (.dampCapabilitySend port) := fun _ h => nomatch h
/-- The law for dampCapabilityReceive. -/
theorem dampCapabilityReceive (port : Nat) (caps : BitVec 4) (dampEn : Bool) : Statement (.dampCapabilityReceive port caps dampEn) := fun _ h => nomatch h
/-- The law for dampWindowEnd. -/
theorem dampWindowEnd (port : Nat) : Statement (.dampWindowEnd port) := fun _ h => nomatch h
/-- The law for shedRequestReceive. -/
theorem shedRequestReceive (port lanes : Nat) : Statement (.shedRequestReceive port lanes) := fun _ h => nomatch h
/-- The law for shedGrantReceive. -/
theorem shedGrantReceive (port lanes : Nat) : Statement (.shedGrantReceive port lanes) := fun _ h => nomatch h
/-- The law for shedGrantTimeout. -/
theorem shedGrantTimeout (port : Nat) : Statement (.shedGrantTimeout port) := fun _ h => nomatch h
/-- The law for switchMarkerReceive. -/
theorem switchMarkerReceive (port lanes : Nat) : Statement (.switchMarkerReceive port lanes) := fun _ h => nomatch h
/-- The law for realignTimeout. -/
theorem realignTimeout (port : Nat) : Statement (.realignTimeout port) := fun _ h => nomatch h
/-- The law for lockReportReceive. -/
theorem lockReportReceive (port : Nat) : Statement (.lockReportReceive port) := fun _ h => nomatch h
/-- The law for lpiEntry. -/
theorem lpiEntry (side : LpiSide) : Statement (.lpiEntry side) := fun _ h => nomatch h
/-- The law for lpiWakeDone. -/
theorem lpiWakeDone (side : LpiSide) : Statement (.lpiWakeDone side) := fun _ h => nomatch h
/-- The law for linkUp. -/
theorem linkUp (port : Nat) : Statement (.linkUp port) := fun _ h => nomatch h
/-- The law for linkDown. -/
theorem linkDown (port : Nat) : Statement (.linkDown port) := fun _ h => nomatch h
/-- The law for prbsLock. -/
theorem prbsLock (port lane : Nat) : Statement (.prbsLock port lane) := fun _ h => nomatch h
/-- The law for prbsLockLoss. -/
theorem prbsLockLoss (port lane : Nat) : Statement (.prbsLockLoss port lane) := fun _ h => nomatch h
/-- The law for gateCycleStart. -/
theorem gateCycleStart (port : Nat) : Statement (.gateCycleStart port) := fun _ h => nomatch h
/-- The law for gateEntryEnd. -/
theorem gateEntryEnd (port : Nat) : Statement (.gateEntryEnd port) := fun _ h => nomatch h
/-- The law for telemetrySample. -/
theorem telemetrySample (slice : Nat) : Statement (.telemetrySample slice) := fun _ h => nomatch h
/-- The law for treasurySweep. -/
theorem treasurySweep : Statement .treasurySweep := fun _ h => nomatch h
/-- The law for meterRefresh. -/
theorem meterRefresh (slice meter : Nat) : Statement (.meterRefresh slice meter) := fun _ h => nomatch h
/-- The law for learnFilterExpire. -/
theorem learnFilterExpire (slice : Nat) : Statement (.learnFilterExpire slice) := fun _ h => nomatch h
/-- The law for walkTimeout. -/
theorem walkTimeout (walk : Nat) : Statement (.walkTimeout walk) := fun _ h => nomatch h
/-- The law for tablePoisonRepair. -/
theorem tablePoisonRepair (loc : Nat) : Statement (.tablePoisonRepair loc) := fun _ h => nomatch h
/-- The law for mintReclaimDone. -/
theorem mintReclaimDone : Statement .mintReclaimDone := fun _ h => nomatch h
/-- The law for ledgerEpochBoundary. -/
theorem ledgerEpochBoundary : Statement .ledgerEpochBoundary := fun _ h => nomatch h
/-- The law for graceWindowEnd. -/
theorem graceWindowEnd : Statement .graceWindowEnd := fun _ h => nomatch h
/-- The law for bankSeal. -/
theorem bankSeal : Statement .bankSeal := fun _ h => nomatch h
/-- The law for drainStart. -/
theorem drainStart : Statement .drainStart := fun _ h => nomatch h
/-- The law for drainResume. -/
theorem drainResume : Statement .drainResume := fun _ h => nomatch h
/-- The law for drainDone. -/
theorem drainDone : Statement .drainDone := fun _ h => nomatch h
/-- The law for tick. -/
theorem tick : Statement .tick := fun _ h => nomatch h
/-- The law for triggerFire. -/
theorem triggerFire (trigger : Nat) : Statement (.triggerFire trigger) := fun _ h => nomatch h
/-- The law for ppsWidthEnd. -/
theorem ppsWidthEnd : Statement .ppsWidthEnd := fun _ h => nomatch h
/-- The law for ppsInEdge. -/
theorem ppsInEdge : Statement .ppsInEdge := fun _ h => nomatch h
/-- The law for eventInputEdge. -/
theorem eventInputEdge (input : Nat) (rising : Bool) : Statement (.eventInputEdge input rising) := fun _ h => nomatch h
/-- The law for pllLock. -/
theorem pllLock : Statement .pllLock := fun _ h => nomatch h
/-- The law for decimatorStart. -/
theorem decimatorStart (group : Nat) : Statement (.decimatorStart group) := fun _ h => nomatch h
/-- The law for decimatorOutput. -/
theorem decimatorOutput (group : Nat) (streams : List (Nat × List Bool)) : Statement (.decimatorOutput group streams) := fun _ h => nomatch h
/-- The law for consoleFrameCheck. -/
theorem consoleFrameCheck : Statement .consoleFrameCheck := fun _ h => nomatch h
/-- The law for consoleCycleStart. -/
theorem consoleCycleStart : Statement .consoleCycleStart := fun _ h => nomatch h
/-- The law for controlTaskCommit. -/
theorem controlTaskCommit : Statement .controlTaskCommit := fun _ h => nomatch h
/-- The law for inputFaultOnset. -/
theorem inputFaultOnset (input : Nat) : Statement (.inputFaultOnset input) := fun _ h => nomatch h
/-- The law for inputFaultEnd. -/
theorem inputFaultEnd (input : Nat) : Statement (.inputFaultEnd input) := fun _ h => nomatch h
/-- The law for tachEdge. -/
theorem tachEdge (fan : Nat) : Statement (.tachEdge fan) := fun _ h => nomatch h
/-- The law for tachStall. -/
theorem tachStall (fan : Nat) : Statement (.tachStall fan) := fun _ h => nomatch h
/-- The law for tempoWindowEnd. -/
theorem tempoWindowEnd (monitor count : Nat) : Statement (.tempoWindowEnd monitor count) := fun _ h => nomatch h
/-- The law for avsWrite. -/
theorem avsWrite (answered : Bool) : Statement (.avsWrite answered) := fun _ h => nomatch h
/-- The law for avsReadback. -/
theorem avsReadback (mv current : Nat) (answered : Bool) (tj : List Int) : Statement (.avsReadback mv current answered tj) := fun _ h => nomatch h
/-- The law for tuningPass. -/
theorem tuningPass : Statement .tuningPass := fun _ h => nomatch h
/-- The law for stressUpdate. -/
theorem stressUpdate : Statement .stressUpdate := fun _ h => nomatch h
/-- The law for hostLinkReset. -/
theorem hostLinkReset : Statement .hostLinkReset := fun _ h => nomatch h
/-- The law for f1Flr. -/
theorem f1Flr : Statement .f1Flr := fun _ h => nomatch h
/-- The law for dsChainFetch. -/
theorem dsChainFetch : Statement .dsChainFetch := fun _ h => nomatch h
/-- The law for fence. -/
theorem fence : Statement .fence := fun _ h => nomatch h
/-- The law for dmaError. -/
theorem dmaError (write : Bool) : Statement (.dmaError write) := fun _ h => nomatch h
/-- The law for upstreamPost. -/
theorem upstreamPost : Statement .upstreamPost := fun _ h => nomatch h
/-- The law for usIrqTimer. -/
theorem usIrqTimer : Statement .usIrqTimer := fun _ h => nomatch h
/-- The law for clusterWatchdogExpire. -/
theorem clusterWatchdogExpire : Statement .clusterWatchdogExpire := fun _ h => nomatch h
/-- The law for switchOver. -/
theorem switchOver : Statement .switchOver := fun _ h => nomatch h
/-- The law for switchOverDone. -/
theorem switchOverDone : Statement .switchOverDone := fun _ h => nomatch h
/-- The law for standbyReadySet. -/
theorem standbyReadySet : Statement .standbyReadySet := fun _ h => nomatch h
/-- The law for checkpoint. -/
theorem checkpoint : Statement .checkpoint := fun _ h => nomatch h
/-- The law for roleSwap. -/
theorem roleSwap : Statement .roleSwap := fun _ h => nomatch h
/-- The law for roleSwapDone. -/
theorem roleSwapDone : Statement .roleSwapDone := fun _ h => nomatch h
/-- The law for roleSwapFail. -/
theorem roleSwapFail : Statement .roleSwapFail := fun _ h => nomatch h
/-- The law for claimRequest. -/
theorem claimRequest : Statement .claimRequest := fun _ h => nomatch h
/-- The law for claimConfirm. -/
theorem claimConfirm : Statement .claimConfirm := fun _ h => nomatch h
/-- The law for peerClaimEdge. -/
theorem peerClaimEdge (level : Bool) : Statement (.peerClaimEdge level) := fun _ h => nomatch h
/-- The law for ownerWatchdogLapse. -/
theorem ownerWatchdogLapse : Statement .ownerWatchdogLapse := fun _ h => nomatch h
/-- The law for heartbeatSend. -/
theorem heartbeatSend : Statement .heartbeatSend := fun _ h => nomatch h
/-- The law for heartbeatReceive. -/
theorem heartbeatReceive (msg : PairMsg) : Statement (.heartbeatReceive msg) := fun _ h => nomatch h
/-- The law for mirrorReceive. -/
theorem mirrorReceive (msg : PairMsg) : Statement (.mirrorReceive msg) := fun _ h => nomatch h
/-- The law for heartbeatLoss. -/
theorem heartbeatLoss : Statement .heartbeatLoss := fun _ h => nomatch h
/-- The law for holdoffExpire. -/
theorem holdoffExpire : Statement .holdoffExpire := fun _ h => nomatch h
/-- The law for peerResetRequest. -/
theorem peerResetRequest : Statement .peerResetRequest := fun _ h => nomatch h
/-- The law for groupMessage. -/
theorem groupMessage (msg : GroupMsg) : Statement (.groupMessage msg) := fun _ h => nomatch h
/-- The law for leaseRenew. -/
theorem leaseRenew (role : Nat) : Statement (.leaseRenew role) := fun _ h => nomatch h
/-- The law for leaseExpire. -/
theorem leaseExpire (role : Nat) : Statement (.leaseExpire role) := fun _ h => nomatch h
/-- The law for powerOn. -/
theorem powerOn : Statement .powerOn := fun _ h => nomatch h
/-- The law for rstColdN. -/
theorem rstColdN : Statement .rstColdN := fun _ h => nomatch h
/-- The law for rstWarmN. -/
theorem rstWarmN : Statement .rstWarmN := fun _ h => nomatch h
/-- The law for resetReleaseStep. -/
theorem resetReleaseStep : Statement .resetReleaseStep := fun _ h => nomatch h
/-- The law for ddrTrainingDone. -/
theorem ddrTrainingDone (rate : Option Nat) (density : Nat) : Statement (.ddrTrainingDone rate density) := fun _ h => nomatch h
/-- The law for fillDone. -/
theorem fillDone : Statement .fillDone := fun _ h => nomatch h
/-- The law for sliceTransition. -/
theorem sliceTransition (slice : Nat) : Statement (.sliceTransition slice) := fun _ h => nomatch h
/-- The law for sliceToPlain. -/
theorem sliceToPlain (slice : Nat) : Statement (.sliceToPlain slice) := fun _ h => nomatch h
/-- The law for domainDrainDone. -/
theorem domainDrainDone (domain : Nat) : Statement (.domainDrainDone domain) := fun _ h => nomatch h
/-- The law for domainDrainTimeout. -/
theorem domainDrainTimeout (domain : Nat) : Statement (.domainDrainTimeout domain) := fun _ h => nomatch h
/-- The law for domainWakeDone. -/
theorem domainWakeDone (domain : Nat) : Statement (.domainWakeDone domain) := fun _ h => nomatch h
/-- The law for wake. -/
theorem wake (source : Nat) : Statement (.wake source) := fun _ h => nomatch h
/-- The law for dozeEntry. -/
theorem dozeEntry : Statement .dozeEntry := fun _ h => nomatch h
/-- The law for scrubRead. -/
theorem scrubRead (cls addr : Nat) (syndrome : Nat) (uncorrectable : Bool) : Statement (.scrubRead cls addr syndrome uncorrectable) := fun _ h => nomatch h
/-- The law for voteRepair. -/
theorem voteRepair (upset : Upset) : Statement (.voteRepair upset) := fun _ h => nomatch h
/-- The law for remapInstall. -/
theorem remapInstall (cls addr : Nat) : Statement (.remapInstall cls addr) := fun _ h => nomatch h
/-- The law for tallySweep. -/
theorem tallySweep : Statement .tallySweep := fun _ h => nomatch h
/-- The law for tallyExport. -/
theorem tallyExport (stream : Nat) : Statement (.tallyExport stream) := fun _ h => nomatch h
/-- The law for f0FunctionLevelReset. -/
theorem f0FunctionLevelReset : Statement .f0FunctionLevelReset := fun _ h => nomatch h
/-- The law for pcieTunnelEstablished. -/
theorem pcieTunnelEstablished (fast : Bool) : Statement (.pcieTunnelEstablished fast) := fun _ h => nomatch h
/-- The law for resetSourceRelease. -/
theorem resetSourceRelease (source : Nat) : Statement (.resetSourceRelease source) := fun _ h => nomatch h
/-- The law for sysResetAssert. -/
theorem sysResetAssert : Statement .sysResetAssert := fun _ h => nomatch h
/-- The law for titimusBootComplete. -/
theorem titimusBootComplete : Statement .titimusBootComplete := fun _ h => nomatch h
/-- The law for clusterWatchdogFeed. -/
theorem clusterWatchdogFeed : Statement .clusterWatchdogFeed := fun _ h => nomatch h
/-- The law for ownerWatchdogFeed. -/
theorem ownerWatchdogFeed : Statement .ownerWatchdogFeed := fun _ h => nomatch h
/-- The law for shaperRefill. -/
theorem shaperRefill (port : Nat) (shaper : Nat) : Statement (.shaperRefill port shaper) := fun _ h => nomatch h
/-- The law for mirroredSetStale. -/
theorem mirroredSetStale : Statement .mirroredSetStale := fun _ h => nomatch h

end Sys2Proof.Laws.HarpWord
end

