-- ==== Sys2Proof/Tests/Slice0.lean ====
section
/-! SUPPORT. Tests of single commands on small states, and witnesses that the hypotheses of the statements can be met. -/
namespace Sys2Proof.Tests
open Sys2Proof Sys2Proof.Machine

/-- Thread 0 of engine 0 of slice 0. -/
abbrev thr0 : Thr := ⟨0, 0, 0⟩
/-- A parse at its first word. -/
abbrev thread0 : Thread := { th := 0, bank := 0, pc := 0, regs := List.replicate 16 5#32 }
/-- A frame that thread 0 parses. -/
abbrev chit0 : Chit := { port := 0, bytes := List.replicate 64 7#8, rxAt := 0, order := 0, parse := some thread0 }
/-- A state in which thread 0 parses chit 0 and fetches the word. -/
abbrev harpRun (w : Nat) : State :=
  { harps := [(0, { threads := [(0, some 0)], bank0 := { words := [(0, BitVec.ofNat 64 w)] } })], chits := [(0, some chit0)] }
/-- A frame whose parse has these slots. -/
abbrev askedChit (q : Slot) (r : RangeSlot) : Chit := { chit0 with parse := some { thread0 with slot0 := q, range := r } }
/-- A state that holds it as chit 0. -/
abbrev askedRun (q : Slot) (r : RangeSlot) : State := { chits := [(0, some (askedChit q r))] }
/-- A request with a command code and argument words. -/
abbrev req (code : Nat) (a : List W32) : Request := ⟨1, packW [(0, code), (16, 1)], 4 * a.length, bytesOf a⟩
/-- Titimus runs and F0 mailbox 0 has handed it a request. -/
abbrev asks (code : Nat) (a : List W32) : State :=
  { tcs := { running := true, channels := [(0, .handed (req code a))] }, dev := { step := 12, plain := 0, booted := true } }
/-- The same with a ready standby. -/
abbrev withStandby (code : Nat) (a : List W32) : State := { asks code a with pair := { ready := true } }
/-- The same in a firmware trial. -/
abbrev inTrial (code : Nat) (a : List W32) : State := { asks code a with tcs := { (asks code a).tcs with trial := true } }
/-- The same with the Tally domain off. -/
abbrev tallyOff (code : Nat) (a : List W32) : State := { asks code a with pwr := { off := 2 ^ 36 } }
/-- The same with a remap entry and an entry in the error history. -/
abbrev remapped (code : Nat) (a : List W32) : State :=
  { asks code a with mem := { remaps := [(2, 7)], history := [⟨2, true, 3, 7, 0⟩] } }
/-- A command with its outcome. -/
abbrev theJob : Job := ⟨req 0x0202 [5], .portEnable 5, some (0, []), false, false⟩
/-- It stands in F0 mailbox 0. -/
abbrev jobDone : State := { tcs := { running := true, channels := [(0, .running theJob)] } }
/-- A power-down of port cluster 0 and slice 0. -/
abbrev goingOff : State := { pwr := { req := some { on := false, todo := [16, 0], mask := 0x10001 } } }
/-- A wake of slice 0 and port cluster 0. -/
abbrev comingOn : State := { pwr := { off := 0x10001, req := some { on := true, todo := [0, 16], mask := 0x10001 } } }
/-- The pin source is enabled. -/
abbrev wakes : State := { pwr := { srcEn := 32 } }
/-- Doze has been accepted. -/
abbrev dozes : State := { cycles := 1000000, pwr := { doze := some 0 } }
/-- LPDDR5X is in use. -/
abbrev trained : State := { mem := { ddrReady := true } }
/-- LPDDR5X trains. -/
abbrev untrained : State := { dev := { step := 2 } }
/-- The fill after a cold reset runs. -/
abbrev filling : State := { mem := { filling := some 0x13F } }
/-- Three detections at one address. -/
abbrev seenThrice : State := { tcs := { running := true }, mem := { detect := List.replicate 3 (2, 7, 0) } }
/-- Arguments of PORT.FLOWCTL_SET and PORT.PREEMPT_SET at their limits. -/
abbrev flowArgs : List W32 := [511, 2, 0xFFFF] ++ List.replicate 16 15#32 ++ [1000, 1, 1000]
abbrev preArgs : List W32 := [511, 1] ++ List.replicate 16 1#32 ++ [3, 1, 128]
/-- Port 3 configured as 400GbE on a lane pair's first lane pair. -/
abbrev cfg3 : PortCfg := { speed := 3, laneRate := 2 }
/-- Port 3 is configured. -/
abbrev portReady (code : Nat) (a : List W32) : State := { asks code a with ports := [(3, { cfg := cfg3 })] }
/-- Port 3 is enabled. -/
abbrev portOn (code : Nat) (a : List W32) : State := { asks code a with ports := [(3, { cfg := { cfg3 with enabled := true } })] }
/-- A PORT.ENABLE without outcome stands in F0 mailbox 0. -/
abbrev enablingNow : State := { tcs := { running := true, channels := [(0, .running { theJob with outcome := none })] } }
/-- Port 3 is lit, with or without a link, in full service. -/
abbrev litPort (up : Bool) : State := { dev := { plain := 0 }, ports := [(3, { cfg := { cfg3 with enabled := true, lit := true }, linkUp := up })] }
/-- Lane 3 checks a pattern. -/
abbrev prbsPort (lock : Bool) : State := { litPort false with prbs := [(3, { pattern := 1, dir := 2, lock := lock })] }
/-- A PFC frame. -/
abbrev pauseFrame : RxFrame :=
  { chit := none, bytes := [1, 0x80, 0xC2, 0, 0, 1, 2, 3, 4, 5, 6, 7, 0x88, 0x08, 1, 1, 0, 0x80] ++ List.replicate 46 0xFF#8 }
/-- Port 3 in PFC mode, priority 7 paused, stopped and with a frame waiting. -/
abbrev pausing (mode : Nat) : State :=
  { cycles := 2000000, rxs := [(3, { ctls := [pauseFrame] })], mint := { pools := [(0, { stopped := [31] })] }
    ports := [(3, { cfg := cfg3, linkUp := true, fc := { mode := mode, quanta := 9, pwdTime := 1, prioOf := List.replicate 16 7, paused := [(7, some ⟨0, 1000000⟩)] } })]
    txs := [(3, { queues := [(0, [⟨.forward, 0, 0, 1, 64, 0, false⟩])] })] }
/-- The watchdog drops priority 7 of port 3. -/
abbrev dropping : State := { cycles := 2000000, ports := [(3, { fc := { pwdActive := [(7, true)], pwdRestore := 1 } })] }
/-- Damping agreed on eight lanes, with a proposal, a marker and a restoration open. -/
abbrev dampedKnobs : PortDamp :=
  { en := true, agreed := true, txLanes := 3, rxLanes := 3, shed := some 2, rxMarker := some 1, restoring := true }
/-- Port 504 damps on eight lanes. -/
abbrev damped : State :=
  { ports := [(504, { cfg := { speed := 6, laneRate := 2, enabled := true }, linkUp := true, damp := dampedKnobs })] }
/-- Ports 0 and 1 verify; port 0 has low-power idle and wakes. -/
abbrev verifying : State :=
  { ports := [(0, { linkUp := true, pre := { en := true, verify := 2, attempts := 2 }, damp := { lpiEn := true, waking := true } }),
      (1, { pre := { en := true, verify := 2, attempts := 3 } })] }
/-- The word of DONE. -/
abbrev imageWord0 : Nat := 0x31 * 2 ^ 58
/-- Host memory holds, at address 0, an image of that one word with its CRC-32. -/
abbrev imageState (a : List W32) : State :=
  { asks 0x0301 a with
    hostMem := tabWrite 0#8 [] 0 (leBytes 4 0x49505248 ++ leBytes 4 1 ++ leBytes 4 1 ++ leBytes 12 0 ++ leBytes 4 (crc32 (leBytes 8 imageWord0)) ++ leBytes 36 0 ++ leBytes 8 imageWord0)
    hif := { tunnelUp := true }, up := { cfg0 := { bme := true } } }
/-- Arguments of HARP.RA_SET for the replay port, at their limits. -/
abbrev raArgs : List W32 := [528, 0xFFFFFF, 15, 15, 0, 1, 2, 3, 4, 5, 6, 1, 7]
/-- Logical table 2 has 224-bit keys. -/
abbrev cfg2 : TabCfg := ⟨0, 224, 0⟩
/-- A wide entry of table 2 with HIT set. -/
abbrev entry2 : Entry := { tid := 2, wide := true, data := 9, key := 5, hit := 1 }
/-- Table 2 is configured and the space holds these entries. -/
abbrev tableReady (code : Nat) (a : List W32) (es : Tab (Option Entry)) : State :=
  { asks code a with tbl := { cfgs := [(2, some cfg2)], slots := es } }
/-- An entry record of table 2 with key 5. -/
abbrev newRec : List W32 := [2, 0xFFFFFF, 5, 0, 0, 0, 0, 0, 0, 0]
/-- Walk 1 has been silent for 10 s. -/
abbrev walking (a : List W32) : State := { asks 0x0507 a with cycles := 10000000000, tbl := { walks := [⟨1, 255, 0, 0, []⟩] } }
/-- Table 3 is a MAC table. -/
abbrev macTable (a : List W32) : State := { asks 0x0508 a with tbl := { cfgs := [(3, some ⟨1, 48, 0⟩)] } }
/-- A bulk command of one record with reachable host memory. -/
abbrev bulkState (code : Nat) : State := { asks code [0, 0, 1] with hif := { tunnelUp := true }, up := { cfg0 := { bme := true } } }
/-- Pool 31 is in use. -/
abbrev losslessPool (a : List W32) : State := { asks 0x0801 a with mint := { pools := [(31, { kind := 3 })] } }
/-- Pool 30 is in use. -/
abbrev losslessPool2 (a : List W32) : State := { asks 0x0802 a with mint := { pools := [(30, { kind := 2 })] } }
/-- The map of the replay port onto pool 30. -/
abbrev mapArgs : List W32 := 528 :: List.replicate 16 0xFE
/-- A class map of port 511. -/
abbrev mapArgs0 : List W32 := 511 :: List.replicate 16 15
/-- A reclaim sweep runs. -/
abbrev sweeping : State := { mint := { reclaim := true } }
/-- Trigger 15 has a period of 1 ms. -/
abbrev gating (a : List W32) : State := { asks 0x0705 a with time := { triggers := [(15, { act := { period := 1000000 } })] } }
/-- The same for TELLER.TELEMETRY_SET. -/
abbrev gatingT (a : List W32) : State := { asks 0x070B a with time := { triggers := [(15, { act := { period := 1000000 } })] } }
/-- LAG 255 has members 7 and 8. -/
abbrev grouped (code : Nat) (a : List W32) : State := { asks code a with groups := [(255, { members := [7, 8], buckets := List.replicate 4096 0 })] }
/-- A frame that has ended and waits for its first cell. -/
abbrev endedChit : Chit := { chit0 with parse := none, preDone := true, ended := true }
/-- The same, of a class whose pool 30 has no room. -/
abbrev trapChit : Chit := { endedChit with port := 1 }
/-- 60 bytes and their FCS. -/
abbrev goodBytes : List Byte := let b := List.replicate 60 4#8; b ++ fcsOf b
/-- The eMAC of port 0 receives it as chit 0. -/
abbrev goodRx : RxFrame := { chit := some (0, 0), bytes := goodBytes }
/-- Two ports of slice 0 with a link, port 1 mapped to pool 30, and a frame in chit 0. -/
abbrev frameIn (c : Chit) : State :=
  { litPort true with
    dev := { plain := 0, step := 12 }, chits := [(0, some c)], rxs := [(0, { emac := some goodRx })], mint := { pools := [(0, { kind := 1 }), (30, { kind := 2 })], portMap := [(1, List.replicate 16 30)] } }
/-- A frame with a good FCS, for which a run-ahead lookup may be launched. -/
abbrev goodChit : Chit := { chit0 with parse := none, bytes := goodBytes, depth := 2, ra := { raEn := true, raTable := 3 } }
/-- Its run-ahead lookup is in flight. -/
abbrev askingChit : Chit := { goodChit with preDone := true, raAsked := some (3, 5) }
/-- The table holds its key with these data. -/
abbrev macHit (d : Nat) : State :=
  { frameIn askingChit with tbl := { cfgs := [(3, some ⟨1, 48, 0⟩)], slots := [(stashBase, some { tid := 3, wide := false, data := d, key := 5 })] } }
/-- It has decided for queue 1 of port 5. -/
abbrev decidingChit : Chit := { goodChit with preDone := true, raDec := some (5, 1) }
/-- Port 5 can take it express. -/
abbrev expressState : State :=
  { frameIn decidingChit with
    ports := [(0, { cfg := { cfg3 with enabled := true, lit := true }, linkUp := true }),
      (5, { cfg := { cfg3 with enabled := true, lit := true, expClass := 1, expMinLen := 64 }, linkUp := true })] }
/-- The pMAC of port 3 assembles the frame of chit 7. -/
abbrev asmRx : RxFrame := { chit := some (7, 0), bytes := List.replicate 64 7#8 }
abbrev assembling : State := { litPort true with rxs := [(3, { pmac := some asmRx })], chits := [(7, some { chit0 with port := 3 })] }
/-- An inject chain of one buffer of 60 bytes. -/
abbrev inject60 : Inject := { words := [1, 64, 0, 0], buffers := [(0x1000, 60)], entries := 2 }
/-- It is in execution. -/
abbrev injecting : State :=
  { dev := { plain := 0, step := 12 }, hif := { tunnelUp := true, inject := some inject60 }, up := { cfg0 := { bme := true } } }
/-- A frame at the head of slice 0's line, with engine 63 good, engine 0 under check, a swap and a rule set waiting. -/
abbrev lined : State := { frameIn endedChit with
  harps := [(0, { waiting := [0], swap := true, conds := [(0, .checking), (63, .good)] })], classes := [(0, { next := some {} })] }
/-- Engine 0 is under check and every spare is bad. -/
abbrev noSpares : State :=
  { harps := [(0, { conds := (0, EngineCond.checking) :: (List.range 67).map fun i => (i + 1, EngineCond.bad) })] }
/-- A frame whose thread has emitted an empty record. -/
abbrev emittedChit : Chit := { chit0 with parse := none, record := some (List.replicate 8 0) }
/-- A frame for port 5 that agrees with its run-ahead decision. -/
abbrev confirmChit : Chit := { chit0 with parse := none, raDec := some (5, 0) }
/-- A classified frame. -/
abbrev classedChit : Chit := { chit0 with parse := none, cls := some {} }
/-- Tenant 0 has spent its purse in slice 0. -/
abbrev brokeTenant : State := { frameIn classedChit with tenants := [(0, { en := true, rate := 1, burst := 1, actEn := true, actRate := 1, actBurst := 1 })] }
/-- Meter 0 of slice 0 turns everything red and drops it. -/
abbrev redMeter : State := { frameIn classedChit with meters := [(0, { cfg := { mode := 1, rDrop := true } })] }
/-- A record for port 5, and one for the host. -/
abbrev toPort5 : Rec := { dest := 5 }
abbrev toHost : Rec := { action := 2 }
/-- An admitted frame for port 5 with a whole chain. -/
abbrev admittedChit : Chit :=
  { goodChit with preDone := true, ended := true, fcsGood := true, admitted := true, cls := some toPort5, chain := [(0, false)] }
/-- It has requested its enqueue. -/
abbrev requestedChit : Chit := { admittedChit with requested := true }
/-- The yellow floor exceeds what is free in pool 0, and pool 31 has no room. -/
abbrev yellowFull : State := { mint := { yelFloor := 0xFFFF, pools := [(31, { kind := 3, size := 16, used := 16 })] } }
/-- A copy of chit 0 in queue 1. -/
abbrev copyOf (k : CopyKind) : Copy := ⟨k, 0, 1, 1, 64, 0, false⟩
/-- It waits on port 5. -/
abbrev queued : State := { expressState with txs := [(5, { queues := [(1, [copyOf .forward])] })] }
/-- It is being sent. -/
abbrev txOf (k : CopyKind) : Tx := { copy := copyOf k, txAt := 0, fragAt := 0, bytes := goodBytes }
abbrev sending (k : CopyKind) : State := { expressState with chits := [(0, some admittedChit)], txs := [(5, { tx := some (txOf k) })] }
/-- Its FCS has gone out. -/
abbrev sentCopy : State := { expressState with txs := [(5, { tx := some { txOf .forward with fcs := some true } })] }
/-- A gate list of two entries. -/
abbrev gates5 : GateList := { trigger := 15, entries := [(1, 8), (2, 8)] }
/-- It waits on port 5, runs on port 6, and telemetry of slice 0 has an instant to take. -/
abbrev gateTurns : State :=
  { expressState with
    txs := [(5, { gate := { pending := some (some gates5) } }), (6, { gate := { oper := some gates5 } })]
    time := { ns := 1000, triggers := [(15, { fires := 1 })] }, tele := [(0, { on := true, trigger := 15 })] }
/-- The ledger trigger 3 has fired and the Ledger has not acted on it. -/
abbrev closing : State := { dev := { step := 12 }, led := { trigSet := true, trigger := 3, zero := false, due := [⟨3, 1, 0, 0⟩] } }
/-- The same while the Ledger merges. -/
abbrev closingLate : State := { closing with led := { closing.led with merging := true }, tmp := { capo := 0 } }
/-- Bank 2 was closed 100 us ago. -/
abbrev closed : State := { cycles := 100000, led := { banks := [(0, { state := 1 }), (2, { state := 2, span := 2 })] } }
/-- Bank 1 is sealed. -/
abbrev sealed : State := { led := { banks := [(0, { state := 1 }), (1, { state := 3 })], sealed := [1] } }
/-- Its drain has written all and had paused. -/
abbrev draining : State := { led := { banks := [(0, { state := 1 }), (1, { state := 4 })], drain := some ⟨1, [], [[1]], true⟩ } }
/-- Trigger 15 has a period of 3,600 s. -/
abbrev seconds (a : List W32) : State := { asks 0x0901 a with time := { triggers := [(15, { act := { period := 3600000000000 } })] } }
/-- Epoch 7 is archived and has been sent, and epoch 8 is open. -/
abbrev archived (code : Nat) (a : List W32) : State :=
  { asks code a with led := { banks := [(0, { state := 1, epoch := 8 })], epoch := 8, arch := [{ epoch := 7, records := [[1]], sent := 1, once := true }] } }
/-- Trigger 15 is due at 5 ns. -/
abbrev firing : State := { dev := { step := 2 }, time := { triggers := [(15, { act := { en := true, period := 1000 }, next := some 5 })] } }
/-- The 1PPS output is high, event inputs 2 and 3 take edges, and a timestamp waits. -/
abbrev pins : State :=
  { cycles := 1000, dev := { step := 2 }
    time := { ppsOut := true, ppsAct := 0x10, evs := [(2, { act := 1, queue := [7] }), (3, { act := 0x5, queue := List.replicate 8 1 })]
              tsqs := [(15, { entries := [⟨1, 2, 3⟩] })] } }
/-- A pair of INCR words is committed. -/
abbrev committed : State := { time := { incrCommit := some (5, 1) } }
/-- The console frames on trigger 15, of period 3,600 s. -/
abbrev framing (a : List W32) : State := { asks 0x0B02 a with
  con := { frameEn := true }, time := { triggers := [(15, { act := { period := 3600000000000 } })] } }
/-- Arguments of CONSOLE.OUTPUT_SET at their limits. -/
abbrev outArgs : List W32 := [0xFFFFFFFF, 5, 6] ++ List.replicate 8 1000 ++ [255]
/-- Output 0 is tripped and control cycles run. -/
abbrev clearing (a : List W32) : State := { asks 0x0B09 a with con := { cycleEn := true, acts := [(0, { tripped := true })] } }
/-- Every output has been given a level. -/
abbrev allGiven (a : List W32) : State := { asks 0x0B0A a with
  con := { acts := (List.range 32).map fun i => (i, { given := true }), fans := (List.range 8).map fun i => (i, { given := true }) } }
/-- A console whose group 0 waits to start, group 3 runs, input 0 is faulted, output 31 tripped and a task released. -/
abbrev sampling : State :=
  { cycles := 1000000000, time := { triggers := [(0, { fires := 1 })] }, dev := { step := 12 }
    con := { frameEn := true, cycleEn := true, task := some (5, [1]), groups := [(0, { en := true, armed := some 0 }), (3, { en := true, run := true, osr := 64, div := 40 })]
             inputs := [(0, { actEn := true, fault := true }), (63, { actEn := true, actClk := 3 })], acts := [(31, { tripped := true })] } }
/-- The same, its cycle acted on. -/
abbrev sampling2 : State := { sampling with con := { sampling.con with cycleSeen := 1 } }
/-- A released task in MODE pair without a confirmed claim. -/
abbrev pairTask : State := { con := { task := some (5, [1]) }, pair := { mode := 1 } }
/-- A frame instant to check, no group running. -/
abbrev framed : State := { dev := { step := 12 }, con := { frameEn := true }, time := { triggers := [(0, { fires := 1 })] } }
/-- A target below its goal, a pass due and a new second. -/
abbrev rising : State := { dev := { step := 12 }, tcs := { running := true }, time := { sec := 1 }, tmp := { target := 60, goal := 80, passes := [.run] } }
/-- A target above its goal. -/
abbrev falling : State := { tmp := { target := 80, goal := 60 } }
/-- In Brisk a monitor of the control domain exceeds the guard. -/
abbrev slowRing : State := { tmp := { capo := 0, target := 60, goal := 60, mons := [(64, { tempo := 4095, valid := true })] } }
/-- One pass is on record. -/
abbrev passed1 (a : List W32) : State := { asks 0x0E82 a with tmp := { history := [⟨1, 2, 3, 4⟩] } }
/-- The cluster watchdog has lapsed with a ready standby. -/
abbrev lapsedWatchdog : State := { cycles := 5000000, tcs := { running := true, standby := some {} }, pair := { ready := true } }
/-- A switch-over is under way. -/
abbrev switching : State := { pair := { switching := true } }
/-- A SYS.SWAP job stands in F0 mailbox 0. -/
abbrev swapAsked : State := { tcs := { running := true, channels := [(0, .running { theJob with kind := .swap, outcome := none })] } }
/-- Its swap has begun. -/
abbrev swapBegun : State := { swapAsked with pair := { swapping := some 0, switching := true } }
/-- Another command holds the swap up. -/
abbrev swapStuck : State :=
  { cycles := 500000000, tcs := { running := true, channels := [(1, .handed (req 0 []))] }, pair := { swapping := some 0, switching := true } }
/-- The cell has been handed over. -/
abbrev handedOver : State := { pair := { handed := true, switching := true, swapping := some 0 } }
/-- The standby holds an image and is not ready. -/
abbrev standbyUp : State := { tcs := { running := true, standby := some {} } }
/-- A heartbeat of an owner whose console is enabled. -/
abbrev pairMsg0 : PairMsg := { good := true, pairId := false, epoch := 9, owner := true, console := true, levels := 5, duties := [1], tripped := 0 }
/-- MODE pair with a quiet peer line. -/
abbrev claimable : State := { cycles := 60000000, tcs := { running := true }, pair := { mode := 1 } }
/-- Device B claims, with everything that can lapse overdue. -/
abbrev claiming (b : Bool) : State :=
  { cycles := 100000000, dev := { straps := { pairId := b } }, pair := { mode := 1, claim := true, hbLast := some 0, hbOk := true, holdoff := true } }
/-- A member of a group holds role 1 in epoch 5. -/
abbrev leased : State :=
  { tcs := { running := true }, pair := { mode := 2, members := 3, role1 := { hold := true, holder := some 0, epoch := 5 } } }
/-- MODE group. -/
abbrev inGroupMode (a : List W32) : State := { asks 0x0C02 a with pair := { mode := 2 } }
/-- Arguments of PAIR.GROUP_SET. -/
abbrev groupArgs : List W32 := [7, 8] ++ List.replicate 15 0 ++ [0x80000000, 5, 6]
/-- A confirmed owner whose peer is ready to take over. -/
abbrev owning : State := { asks 0x0C03 [] with pair := { mode := 1, claim := true, confirmed := true, hbOk := true, peer := some pairMsg0 } }
/-- A mailbox before a Titimus that runs. -/
abbrev boxed (n : Nat) (b : Mailbox) : State := { tcs := { running := true }, boxes := [(n, b)] }
/-- Rings of 64 entries and an arena of 1 MiB, enabled, with an entry and 64 bytes in use upstream. -/
abbrev ringOn : State :=
  { hif := { dsEn := true, dsLog2 := 6, usEn := true, usLog2 := 6, usProd := 1 }, up := { rxaEn := true, rxaLog2 := 20, rxaW := 64 } }
/-- A downstream ring of 64 entries, one before the doorbell whose header is `w`. -/
abbrev downstream (w : Nat) : State :=
  { ringOn with
    tcs := { running := true }, dev := { plain := 0 }, hostMem := tabWrite 0#8 [] 0 (leBytes 4 w)
    hif := { ringOn.hif with tunnelUp := true, dsDb := 1 }, up := { cfg0 := { bme := true } } }
/-- A device with these reset sources asserted, a SYS.RESET acknowledged and PEER_RST_EN set. -/
abbrev resetting (k : Nat) : State := { cycles := 5, dev := { asserted := k, peerRstEn := true }, tcs := { resetAt := some 5 } }
/-- A device after release step `n` in Plain service with all that a transition to CAPO `c` waits for. -/
abbrev bringing (n c : Nat) : State :=
  { dev := { step := n, fillsOk := true, firstPass := true, booted := true }, tcs := { running := true }, tmp := { capo := c } }
/-- Step 4 is done; slot 1 holds a valid image, or neither slot does. -/
abbrev unbooted (v : Bool) : State := { dev := { step := 4 }, flash := { slot1 := { valid := v } } }
/-- An outlet trips on its own. -/
abbrev tripping : State := { con := { outlets := [(0, { trip := { en := true } })] } }
/-- LPDDR5X is in use, before a Titimus that has been asked. -/
abbrev storing (code : Nat) (a : List W32) : State := { asks code a with mem := { ddrReady := true } }
/-- A sweep every 10 us, with a record of stream 17 to export. -/
abbrev sweeping17 : State :=
  { time := { ns := 10000 }, dev := { step := 5 }, mem := { ddrReady := true }, hif := { tunnelUp := true }, up := { cfg0 := { bme := true } }
    tal := { period := 10, streams := [(17, { en := true, mib := 1, ulog2 := 10, store := [List.replicate 64 1] })] } }

/-! ### Ill-formed operands are refused by their checks -/

theorem test_illformed_channels :
    Instr.wf (.sysInfo (.f0 16) []) = false ∧ Instr.wf (.sysInfo (.f1 2) []) = false ∧ Instr.wf (.commandComplete (.f0 16)) = false
    ∧ Instr.wf (.mailboxDoorbell .ring 0 15) = false := by decide
theorem test_illformed_threads :
    Instr.wf (.nop ⟨16, 0, 0⟩) = false ∧ Instr.wf (.nop ⟨0, 64, 0⟩) = false ∧ Instr.wf (.nop ⟨0, 0, 8⟩) = false := by decide
theorem test_illformed_chits :
    Instr.wf (.frameEnd ⟨529, false⟩ {}) = false ∧ Instr.wf (.harpDispatch 0 64 0) = false ∧ Instr.wf (.harpDispatch 0 0 8) = false
    ∧ Instr.wf (.lookupResult 0 2) = false := by decide
theorem test_illformed_ports :
    Instr.wf (.linkUp 512) = false ∧ Instr.wf (.copyEnd 529) = false ∧ Instr.wf (.pauseExpire 0 8) = false ∧ Instr.wf (.shaperRefill 0 21) = false
    ∧ Instr.wf (.prbsLock 0 512) = false := by decide
theorem test_illformed_slices :
    Instr.wf (.harpSwap 16) = false ∧ Instr.wf (.engineFault 0 64) = false ∧ Instr.wf (.meterRefresh 0 16384) = false := by decide
theorem test_illformed_memory :
    Instr.wf (.remapInstall 9 0) = false ∧ Instr.wf (.tablePoisonRepair (2 ^ 32)) = false ∧ Instr.wf (.voteRepair ⟨64, 0, 0⟩) = false ∧ Instr.wf (.voteRepair ⟨0, 3, 0⟩) = false := by decide
theorem test_illformed_power :
    Instr.wf (.domainDrainDone 38) = false ∧ Instr.wf (.wake 6) = false ∧ Instr.wf (.resetSourceRelease 6) = false := by decide
theorem test_illformed_time :
    Instr.wf (.triggerFire 16) = false ∧ Instr.wf (.tsqMetaRead 16) = false ∧ Instr.wf (.evMetaRead 4) = false
    ∧ Instr.wf (.eventInputEdge 4 true) = false := by decide
theorem test_illformed_console :
    Instr.wf (.decimatorStart 4) = false ∧ Instr.wf (.inputFaultOnset 64) = false ∧ Instr.wf (.tachEdge 8) = false
    ∧ Instr.wf (.tempoWindowEnd 68 0) = false ∧ Instr.wf (.leaseRenew 2) = false := by decide
theorem test_illformed_accesses :
    Instr.wf (.tallyExport 18) = false ∧ Instr.wf (.counterLowRead .f0 (2 ^ 28)) = false ∧ Instr.wf (.counterLowRead .f1 2) = false
    ∧ Instr.wf (.registerWrite .bar2 0x10000 0 15) = false := by decide

/-! ### Single commands -/

/-- Chapter 15, wrapping chain: N = 256, HIF_DS_CONS and HIF_DS_DB 500; a doorbell write of 11 is accepted, since (11 − 500) mod 512 = 23. -/
abbrev wrapping : State := { hif := { dsEn := true, dsLog2 := 8, dsCons := 500, dsDb := 500 } }
theorem test_doorbell_wraps : ∃ t, exec (.dsDoorbell 11 15) wrapping = .next t ∧ t.hif.dsDb = 11 := ⟨_, rfl, by decide⟩
/-- (245 − 500) mod 512 = 257 exceeds N = 256: rejected (R354). -/
theorem test_doorbell_past_full : ∃ t, exec (.dsDoorbell 245 15) wrapping = .next t ∧ t.hif.dsDb = 500 ∧ ctrAt t Ctr.hifDbReject = 1 := ⟨_, rfl, by decide⟩
/-- The last entry that fits: (244 − 500) mod 512 = 256 = N. -/
theorem test_doorbell_full : ∃ t, exec (.dsDoorbell 244 15) wrapping = .next t ∧ t.hif.dsDb = 244 := ⟨_, rfl, by decide⟩
/-- The check value of CRC-32C as RFC 3720 defines it, for "123456789" (R122). -/
theorem test_crc32c : crc32c 0xFFFFFFFF [0x31, 0x32, 0x33, 0x34, 0x35, 0x36, 0x37, 0x38, 0x39] = 0xE3069283 := by decide +kernel
/-- The check value of IEEE 802.3's CRC-32 (R125). -/
theorem test_crc32 : crc32 [0x31, 0x32, 0x33, 0x34, 0x35, 0x36, 0x37, 0x38, 0x39] = 0xCBF43926 := by decide +kernel
/-- ADDI wraps modulo 2^32: 5 + 0xFFFFFFFF = 4, written to g3 from g0 (word from Tables 04-1 and 04-3). -/
theorem test_addi_wraps : ∃ t, exec (.addi thr0 3 0 0xFFFFFFFF) (harpRun 0x30C00000FFFFFFFF) = .next t
    ∧ ((chitAt t 0).bind Chit.parse).map (fun p => reg p 3) = some 4#32 := ⟨_, rfl, by decide⟩
/-- An instruction that the thread does not fetch does nothing. -/
theorem test_other_instruction_waits : ∃ t, exec (.sub thr0 3 0 0) (harpRun 0x30C00000FFFFFFFF) = .next t
    ∧ t.ctr = [] ∧ chitAt t 0 = some chit0 := ⟨_, rfl, by decide⟩
/-- Device time carries from NS to SEC at 10^9 (R278). -/
theorem test_second_carries :
    (clockCycle { time := { sec := 7, ns := 999999999, incr := 2 ^ 32 } }).time.sec = 8
    ∧ (clockCycle { time := { sec := 7, ns := 999999999, incr := 2 ^ 32 } }).time.ns = 0 := by decide
/-- An F0 write to a hole is logged with cause 7 and COUNT 1 (R475, Table 21-5). -/
theorem test_hole_logged : ∃ t, exec (.registerWrite .bar0 0x0FFFFFFC 5 15) State.reset = .next t ∧ t.up.accErr = 0x000101E7 := ⟨_, rfl, by decide⟩
/-- A port that does not exist stops under its own name. -/
theorem test_no_such_port : exec (.linkUp 512) State.reset = .fault .noSuchUnit := rfl
/-- With nothing asked, F0 mailbox 0 locks at a doorbell once Titimus runs, and its request is handed on. -/
theorem test_doorbell_hands : ∃ t, exec (.mailboxDoorbell (.f0 0) 0 15) (boxed 0 { command := 0x00010181 }) = .next t
    ∧ (boxAt t 0).locked = true ∧ channelAt t (.f0 0) = .handed ⟨0, 0x00010181, 0, []⟩ := ⟨_, rfl, by decide⟩
/-- Before Titimus runs the same mailbox reads BUSY, unlocked (R368). -/
theorem test_doorbell_busy : ∃ t, exec (.mailboxDoorbell (.f0 0) 0 15) State.reset = .next t
    ∧ (boxAt t 0).status = 4 ∧ (boxAt t 0).locked = false := ⟨_, rfl, by decide⟩
/-- An F1 mailbox refuses what is not a query: DENIED, 0x44 (R369). -/
theorem test_f1_denied : ∃ t, exec (.mailboxDoorbell (.f1 0) 0 15) (boxed 16 { command := 0x00010101 }) = .next t
    ∧ (boxAt t 16).error = 0x44 ∧ (boxAt t 16).rlength = 12 := ⟨_, rfl, by decide⟩
/-- A counter wraps modulo 2^64 (R469), and its entry leaves the canonical table at 0. -/
theorem test_counter_wraps : (bump 8 { ctr := [(8, 0xFFFFFFFFFFFFFFFF)] }).ctr = [] := by decide
/-- Writing the byte an unlisted address reads as removes the entry. -/
theorem test_memory_canonical : (hostWrite 5 [0] { hostMem := [(5, 9)] }).hostMem = [] := by decide
/-- Power-on with a release of its source: cause 1, no warm count (R422, R437). -/
theorem test_power_on : ∃ t, exec .powerOn State.reset = .next t ∧ t.dev.asserted = 1
    ∧ (sourceRelease 0 t).dev.cause = 1 ∧ (sourceRelease 0 t).ctr = [] := ⟨_, rfl, by decide +kernel⟩
/-- A Harp word whose NOP field bits are not zero is illegal (R110). -/
theorem test_illegal_word : harpDecode thr0 0x0400000000000001 = none ∧ harpDecode thr0 0 = none := by decide

/-! ### Witnesses: the hypotheses of the statements can be met -/

/-- Witness for StepRunsFrontCommand. -/
theorem wit_StepRunsFrontCommand : State.reset.pending = [] ∧ State.reset.dev.step < 2 ∧ (∀ e ∈ State.reset.groups, e.2.moves = [] ∧ e.2.leaving = none)
    ∧ State.reset.tbl.fixup = [] ∧ State.reset.tbl.work = none := by and_intros <;> decide

/-- Witness for EveryCommandCompletesWhereItsUnitIs. -/
theorem wit_EveryCommandCompletesWhereItsUnitIs :
    unitThere State.reset (.linkUp 512) = false ∧ unitThere State.reset (.linkUp 511) = true := by decide

/-- Witness for EveryStepKeepsCanonicalForm. -/
theorem wit_EveryStepKeepsCanonicalForm : canonical State.reset ∧ (∃ t, step State.reset = .next t) := ⟨by decide, ⟨_, rfl⟩⟩

/-- Witness for HarpDecodeOfEncode. -/
theorem wit_HarpDecodeOfEncode :
    harpLegal (.emit ⟨0, 0, 0⟩ 10#4 0x3F#6 2#2 0xFFFF#16) = true
    ∧ harpThr (.emit ⟨0, 0, 0⟩ 10#4 0x3F#6 2#2 0xFFFF#16) = some ⟨0, 0, 0⟩ := by and_intros <;> decide

/-- Witness for HarpEncodeOfDecode. -/
theorem wit_HarpEncodeOfDecode : harpDecode ⟨0, 0, 0⟩ 0x0400000000000000#64 = some (.nop ⟨0, 0, 0⟩) := by and_intros <;> decide

/-- Witness for HarpArithmeticWritesItsRegister. -/
theorem wit_HarpArithmetic_registers :
    Fetches (harpRun 0x0400000000000000) thr0 0 chit0 thread0 (.nop thr0) ∧ Fetches (harpRun 0x13FFC00000000000) thr0 0 chit0 thread0 (.add thr0 15 15 15)
    ∧ Fetches (harpRun 0x1400000000000000) thr0 0 chit0 thread0 (.sub thr0 0 0 0) ∧ Fetches (harpRun 0x1800000000000000) thr0 0 chit0 thread0 (.andR thr0 0 0 0)
    ∧ Fetches (harpRun 0x1C00000000000000) thr0 0 chit0 thread0 (.orR thr0 0 0 0) ∧ Fetches (harpRun 0x2000000000000000) thr0 0 chit0 thread0 (.xorR thr0 0 0 0)
    ∧ Fetches (harpRun 0x2400000000000000) thr0 0 chit0 thread0 (.shl thr0 0 0 0) ∧ Fetches (harpRun 0x2800000000000000) thr0 0 chit0 thread0 (.shr thr0 0 0 0) := by
  and_intros <;> decide
theorem wit_HarpArithmetic_immediates :
    Fetches (harpRun 0x30000000FFFFFFFF) thr0 0 chit0 thread0 (.addi thr0 0 0 0xFFFFFFFF) ∧ Fetches (harpRun 0x3400000000000001) thr0 0 chit0 thread0 (.andi thr0 0 0 1)
    ∧ Fetches (harpRun 0x3800000000000001) thr0 0 chit0 thread0 (.ori thr0 0 0 1) ∧ Fetches (harpRun 0x3C00000000000001) thr0 0 chit0 thread0 (.xori thr0 0 0 1)
    ∧ Fetches (harpRun 0x400000000000001F) thr0 0 chit0 thread0 (.shli thr0 0 0 31) ∧ Fetches (harpRun 0x4400000000000000) thr0 0 chit0 thread0 (.shri thr0 0 0 0)
    ∧ Fetches (harpRun 0x4BC00000FFFFFFFF) thr0 0 chit0 thread0 (.movi thr0 15 0xFFFFFFFF) := by and_intros <;> decide

/-- Witness for HarpFieldInstructionsDepositTheField. -/
theorem wit_HarpFieldInstructions :
    Fetches (harpRun 0x60003FFFC1800000) thr0 0 chit0 thread0 (.xtr thr0 0 0 2047 31 0 1 1) ∧ windowPoison (harpRun 0x60003FFFC1800000) chit0 2047 32 = false
    ∧ Fetches (harpRun 0x640000F83E000000) thr0 0 chit0 thread0 (.dep thr0 0 0 31 0 31 0) := by and_intros <;> decide

/-- Witness for HarpBranchesSetTheNextWord. -/
theorem wit_HarpBranches :
    Fetches (harpRun 0x80003FFE00000000) thr0 0 chit0 thread0 (.jmp thr0 8191) ∧ Fetches (harpRun 0x84003FFFFFFFFF00) thr0 0 chit0 thread0 (.beq thr0 0 0 8191 1 0xFFFFFF)
    ∧ Fetches (harpRun 0x8803C00000000000) thr0 0 chit0 thread0 (.bne thr0 0 15 0 0 0) ∧ Fetches (harpRun 0x8C00000100000000) thr0 0 chit0 thread0 (.bltu thr0 0 0 0 1 0)
    ∧ Fetches (harpRun 0x9000000100000000) thr0 0 chit0 thread0 (.bgeu thr0 0 0 0 1 0) ∧ Fetches (harpRun 0x940000000000001F) thr0 0 chit0 thread0 (.bbs thr0 0 0 31)
    ∧ Fetches (harpRun 0x9800000000000000) thr0 0 chit0 thread0 (.bbc thr0 0 0 0) ∧ Fetches (harpRun 0x9C00000000000020) thr0 0 chit0 thread0 (.bmiss thr0 0 1)
    ∧ landed (slotOf thread0 1) = true ∧ slotOf thread0 1 = .empty ∧ landed (slotOf { thread0 with slot0 := .asked 7 5 true } 0) = false := by
  and_intros <;> decide

/-- Witness for HarpRequestsEnterTheirSlots. -/
theorem wit_HarpRequests :
    Fetches (harpRun 0xA027B84000000000) thr0 0 chit0 thread0 (.lkp thr0 9 14 7 0 0 1) ∧ Fetches (harpRun 0xA433C00000000000) thr0 0 chit0 thread0 (.rng thr0 12 15)
    ∧ coreRuns (askedRun .empty (.asked [1, 2] 255)) 0 = true ∧ chitAt (askedRun .empty (.asked [1, 2] 255)) 0 = some (askedChit .empty (.asked [1, 2] 255))
    ∧ (askedRun .empty (.asked [1, 2] 255)).mem.poison = []
    ∧ chitAt (askedRun (.asked 7 5 true) .empty) 0 = some (askedChit (.asked 7 5 true) .empty) := by and_intros <;> decide

/-- Witness for HarpReadsAndHashesWriteTheirRegister. -/
theorem wit_HarpReads :
    Fetches (harpRun 0xA800000000000000) thr0 0 chit0 thread0 (.rds thr0 0 0 0) ∧ rdsReady 0 chit0 thread0 = true
    ∧ Fetches (harpRun 0xA800000000000005) thr0 0 chit0 thread0 (.rds thr0 0 0 5) ∧ rdsReady 5 chit0 thread0 = false
    ∧ Fetches (harpRun 0xB02C000000000004) thr0 0 chit0 thread0 (.hsh thr0 0 11 4) := by and_intros <;> decide

/-- Witness for HarpEndsHandTheRecordOn. -/
theorem wit_HarpEnds :
    Fetches (harpRun 0xC0283F000000FFFF) thr0 0 chit0 thread0 (.emit thr0 10 0x3F 0 0xFFFF) ∧ Fetches (harpRun 0xC400000000000000) thr0 0 chit0 thread0 (.done thr0)
    ∧ thread0.record = none ∧ Fetches (harpRun 0xC800000000000000) thr0 0 chit0 thread0 (.drop thr0) ∧ Fetches (harpRun 0xCC000000000000FF) thr0 0 chit0 thread0 (.trap thr0 255) := by and_intros <;> decide

/-- Witness for HarpStopsVoidTheFrame. -/
theorem wit_HarpStops :
    harpThr (.add thr0 0 0 0) = some thr0 ∧ chit0.status = .provisional ∧ tabWf none (harpRun 0).chits = true
    ∧ tabWf none (harpAt (harpRun 0) 0).threads = true
    ∧ thrOk thr0 = true ∧ hasTurn (harpRun 0) thr0 = true ∧ threadOf (harpRun 0) thr0 = some (0, chit0, thread0) ∧ poisoned (harpRun 0) (.harpWord 0 0 0) = false
    ∧ harpDecode thr0 (fetchWord (harpRun 0) 0 thread0) = none := by and_intros <;> decide

/-- Witness for HarpIssueFrame. -/
theorem wit_HarpIssueFrame :
    Fetches (harpRun 0x13FFC00000000000) thr0 0 chit0 thread0 (.add thr0 15 15 15) ∧ (harpRun 0x13FFC00000000000).mem.poison = [] := by and_intros <;> decide

/-- Witness for SysCommandsTakeEffect. -/
theorem wit_SysCommands :
    Handed (asks 0x0101 [1]) (.f0 0) 0x0101 [1] (req 0x0101 [1]) ∧ Handed (asks 0x0103 [7]) (.f0 0) 0x0103 [7] (req 0x0103 [7])
    ∧ (asks 0x0103 [7]).tcs.fwBusy = false ∧ Handed (asks 0x0108 []) (.f0 0) 0x0108 [] (req 0x0108 []) ∧ (asks 0x0108 []).tcs.trial = false
    ∧ (asks 0x0108 []).tcs.standby = none ∧ (asks 0x0108 []).tcs.image.svn ≤ 64
    ∧ Handed (asks 0x0181 []) (.f0 0) 0x0181 [] (req 0x0181 []) ∧ Handed (asks 0x0182 []) (.f0 0) 0x0182 [] (req 0x0182 [])
    ∧ channelAt (asks 0x1181 [5]) (.f0 0) = .handed (req 0x1181 [5]) ∧ (req 0x1181 [5]).bytes.take (req 0x1181 [5]).len = [5, 0, 0, 0] := by and_intros <;> decide

/-- Witness for FirmwareSwapAndSplitCommandsStartTheirJobs. -/
theorem wit_SwapAndSplit :
    Handed (withStandby 0x0105 []) (.f0 0) 0x0105 [] (req 0x0105 []) ∧ swapInProgress (withStandby 0x0105 []) = false
    ∧ handover (withStandby 0x0105 []) = false ∧ standbyOk (withStandby 0x0105 []) = true
    ∧ Handed (inTrial 0x0106 []) (.f0 0) 0x0106 [] (req 0x0106 []) ∧ (inTrial 0x0106 []).tcs.trial = true
    ∧ Handed (withStandby 0x0107 []) (.f0 0) 0x0107 [] (req 0x0107 []) ∧ (withStandby 0x0107 []).tcs.swapBlock = false
    ∧ Handed (asks 0x0102 [2]) (.f0 0) 0x0102 [2] (req 0x0102 [2]) ∧ (asks 0x0102 [2]).mem.filling = none ∧ quiesced (asks 0x0102 [2]) = true
    ∧ poolSizes (asks 0x0102 [2]) + 4096 ≤ splitCells 2 := by and_intros <;> decide

/-- Witness for CommandAnswersReachTheirChannel. -/
theorem wit_CommandComplete :
    channelAt jobDone (.f0 0) = .running theJob ∧ theJob.outcome = some (0, []) ∧ theJob.orphan = false ∧ theJob.byPrevious = false
    ∧ jobDone.tcs.running = true ∧ viaOk (.f0 0) = true := by and_intros <;> decide

/-- Witness for PowerCommandsSetDomainsAndSources. -/
theorem wit_PowerCommands :
    Handed (asks 0x0D01 [0, 2, 0, 0]) (.f0 0) 0x0D01 [0, 2, 0, 0] (req 0x0D01 [0, 2, 0, 0]) ∧ requestBusy (asks 0x0D01 [0, 2, 0, 0]) = false ∧ wake 3 (wake 2 (asks 0x0D01 [0, 2, 0, 0])) = asks 0x0D01 [0, 2, 0, 0]
    ∧ domainOn (asks 0x0D01 [0, 2, 0, 0]) 33 = true ∧ offRefused (asks 0x0D01 [0, 2, 0, 0]) (2 ^ 33) 33 = false
    ∧ Handed (tallyOff 0x0D01 [0, 16, 1, 1]) (.f0 0) 0x0D01 [0, 16, 1, 1] (req 0x0D01 [0, 16, 1, 1]) ∧ domainOn (tallyOff 0x0D01 [0, 16, 1, 1]) 36 = false
    ∧ requestBusy (tallyOff 0x0D01 [0, 16, 1, 1]) = false
    ∧ Handed (asks 0x0D02 [63, 15, 0xFFFF, 0, 0x3F]) (.f0 0) 0x0D02 [63, 15, 0xFFFF, 0, 0x3F] (req 0x0D02 [63, 15, 0xFFFF, 0, 0x3F])
    ∧ badDomains (asks 0x0D02 [63, 15, 0xFFFF, 0, 0x3F]) (0x3F * 2 ^ 32) = false ∧ Handed (asks 0x0D81 []) (.f0 0) 0x0D81 [] (req 0x0D81 []) := by
  and_intros <;> decide

/-- Witness for DomainEventsSwitchDomains. -/
theorem wit_DomainEvents :
    goingOff.pwr.req = some { on := false, todo := [16, 0], mask := 0x10001 } ∧ drained goingOff 16 = true
    ∧ comingOn.pwr.req = some { on := true, todo := [0, 16], mask := 0x10001 } ∧ bit wakes.pwr.srcEn 5 = true ∧ sourceFires wakes 5 = true
    ∧ wakes.pwr.req = none ∧ wakes.pwr.doze = none ∧ wakes.pwr.wokenAt = none
    ∧ dozes.pwr.doze = some 0 ∧ dozes.cycles ≥ 0 + 1000000 ∧ jobEnded dozes = true := by and_intros <;> decide

/-- Witness for MemoryCommandsSetTheirMachinery. -/
theorem wit_MemoryCommands :
    Handed (asks 0x0F01 [2, 1048575, 0, 1]) (.f0 0) 0x0F01 [2, 1048575, 0, 1] (req 0x0F01 [2, 1048575, 0, 1])
    ∧ classAddr (asks 0x0F01 [2, 1048575, 0, 1]) 2 1048575 = true ∧ remapUsed (asks 0x0F01 [2, 1048575, 0, 1]) 2 < 16
    ∧ Handed (remapped 0x0F01 [2, 7, 0, 0]) (.f0 0) 0x0F01 [2, 7, 0, 0] (req 0x0F01 [2, 7, 0, 0]) ∧ (remapped 0x0F01 [2, 7, 0, 0]).mem.remaps.contains (2, 7) = true
    ∧ classAddr (remapped 0x0F01 [2, 7, 0, 0]) 2 7 = true
    ∧ Handed (asks 0x0F02 [511, 1, 0xFFFFFF, 15]) (.f0 0) 0x0F02 [511, 1, 0xFFFFFF, 15] (req 0x0F02 [511, 1, 0xFFFFFF, 15])
    ∧ Handed (asks 0x0F03 [0x100]) (.f0 0) 0x0F03 [0x100] (req 0x0F03 [0x100]) ∧ (0x100 : Nat) &&& 0x3F = 0
    ∧ Handed (asks 0x0F81 []) (.f0 0) 0x0F81 [] (req 0x0F81 []) ∧ Handed (remapped 0x0F82 [0, 64]) (.f0 0) 0x0F82 [0, 64] (req 0x0F82 [0, 64])
    ∧ 0 < (remapped 0x0F82 [0, 64]).mem.history.length := by and_intros <;> decide

/-- Witness for MemoryEventsCorrectPoisonAndRemap. -/
theorem wit_MemoryEvents :
    classAddr trained 8 (7 * 2 ^ 27 - 1) = true ∧ (scrubAt trained 8).en = true ∧ classOn trained 8 = true ∧ poisonedAt trained 8 0 = false
    ∧ oddSyndrome 0xFE = true ∧ detections seenThrice 2 7 ≥ seenThrice.mem.thr ∧ remapUsed seenThrice 2 < 16 ∧ seenThrice.tcs.running = true
    ∧ untrained.dev.step ≥ 2 ∧ untrained.mem.ddrReady = false ∧ filling.mem.filling = some 0x13F ∧ filling.dev.fillsOk = false
    ∧ spaceLoc State.reset 0 = true := by and_intros <;> decide

/-- Witness for PortSettingCommandsSetThePort. -/
theorem wit_PortSettings :
    Handed (asks 0x0201 [504, 6, 2, 1, 16352, 1]) (.f0 0) 0x0201 [504, 6, 2, 1, 16352, 1] (req 0x0201 [504, 6, 2, 1, 16352, 1])
    ∧ badFront (asks 0x0201 [504, 6, 2, 1, 16352, 1]) 504 = false ∧ modeLanes 6 2 = some 8 ∧ 504 % 8 = 0
    ∧ lanesTaken (asks 0x0201 []) 504 8 = false ∧ quadClash (asks 0x0201 []) 504 8 2 = false ∧ (fullAt (asks 0x0201 []) 504).cfg.enabled = false
    ∧ Handed (asks 0x0204 [63, 7, 6, 5, 4, 3, 2, 1, 0, 0xFFFF]) (.f0 0) 0x0204 [63, 7, 6, 5, 4, 3, 2, 1, 0, 0xFFFF] (req 0x0204 [63, 7, 6, 5, 4, 3, 2, 1, 0, 0xFFFF])
    ∧ (∀ i, i < 8 → i ∈ (List.range 8).map fun j => arg [63, 7, 6, 5, 4, 3, 2, 1, 0, 0xFFFF] (1 + j))
    ∧ Handed (asks 0x0205 [511, 7, 1, 0xFFFF, 1]) (.f0 0) 0x0205 [511, 7, 1, 0xFFFF, 1] (req 0x0205 [511, 7, 1, 0xFFFF, 1])
    ∧ Handed (asks 0x020A [0, 0xFFFF, 16352]) (.f0 0) 0x020A [0, 0xFFFF, 16352] (req 0x020A [0, 0xFFFF, 16352])
    ∧ Handed (asks 0x0281 [511]) (.f0 0) 0x0281 [511] (req 0x0281 [511]) ∧ gated (asks 0x0281 [511]) 511 = false := by and_intros <;> decide
theorem wit_PortFlowAndPreempt :
    Handed (asks 0x0206 flowArgs) (.f0 0) 0x0206 flowArgs (req 0x0206 flowArgs) ∧ (∀ i, i < 16 → arg flowArgs (3 + i) ≤ 15)
    ∧ Handed (asks 0x0207 preArgs) (.f0 0) 0x0207 preArgs (req 0x0207 preArgs) ∧ (∀ i, i < 16 → arg preArgs (2 + i) ≤ 1) ∧ arg preArgs 20 = 128
    ∧ Handed (asks 0x0208 [0, 1, 1000, 9]) (.f0 0) 0x0208 [0, 1, 1000, 9] (req 0x0208 [0, 1, 1000, 9])
    ∧ Handed (asks 0x0209 [0, 1, 10000]) (.f0 0) 0x0209 [0, 1, 10000] (req 0x0209 [0, 1, 10000]) := by and_intros <;> decide

/-- Witness for PortLifeCommandsTakeEffect. -/
theorem wit_PortLife :
    Handed (portReady 0x0202 [3]) (.f0 0) 0x0202 [3] (req 0x0202 [3]) ∧ (fullAt (portReady 0x0202 [3]) 3).cfg.speed ≠ 0
    ∧ enabling (portReady 0x0202 [3]) 3 = false ∧ domainOn (portReady 0x0202 [3]) 16 = true
    ∧ lanesTaken (portReady 0x0202 [3]) 3 1 = false ∧ (fullAt (portReady 0x0202 [3]) 3).cfg.enabled = false
    ∧ channelAt enablingNow (.f0 0) = .running { theJob with outcome := none } ∧ domainOn enablingNow 16 = true
    ∧ Handed (asks 0x0203 [511]) (.f0 0) 0x0203 [511] (req 0x0203 [511]) ∧ enabling (asks 0x0203 [511]) 511 = false
    ∧ Handed (portOn 0x1101 [3, 2]) (.f0 0) 0x1101 [3, 2] (req 0x1101 [3, 2]) ∧ (fullAt (portOn 0x1101 [3, 2]) 3).cfg.enabled = true
    ∧ (fullAt (portOn 0x1101 [3, 2]) 3).damp.en = false ∧ (fullAt (portOn 0x1101 [3, 2]) 3).cfg.loopback ≠ 2
    ∧ tabWf {} (linkDown 3 (portOn 0x1101 [3, 2])).ports = true ∧ (portAt (linkDown 3 (portOn 0x1101 [3, 2])) 3).kept = none
    ∧ prbsRuns (portOn 0x1101 [3, 2]) 3 = false ∧ Handed (portOn 0x1102 [3, 1, 3, 3]) (.f0 0) 0x1102 [3, 1, 3, 3] (req 0x1102 [3, 1, 3, 3])
    ∧ 1 ≤ fullLanes (portOn 0x1102 [3, 1, 3, 3]) 3 ∧ Handed (portOn 0x1182 [3]) (.f0 0) 0x1182 [3] (req 0x1182 [3]) := by and_intros <;> decide

/-- Witness for LinkEventsRaiseAndDropLinks. -/
theorem wit_LinkEvents :
    (portAt (litPort false) 3).cfg.lit = true ∧ sliceOn (litPort false) 16 = true ∧ served (litPort false) 3 = true ∧ lineFree (litPort false) 3 = true
    ∧ portEnabledByFuse (litPort false) 511 = true ∧ (portAt (litPort true) 3).linkUp = true ∧ checks (prbsPort false) 3 3 = true
    ∧ (lanesOf (prbsPort true) 3).contains 3 = true ∧ (prbsAt (prbsPort true) 3).lock = true := by and_intros <;> decide

/-- Witness for PauseEventsStopAndReleasePriorities. -/
theorem wit_PauseEvents :
    (rxAt (pausing 2) 3).ctls = [pauseFrame] ∧ portPrio (pausing 2) 3 7 = true ∧ half (pauseFrame.bytes.set 14 0) 15 = 1 ∧ half pauseFrame.bytes 15 = 0x101 ∧ (portAt (pausing 1) 3).fc.mode = 1
    ∧ tabWf {} (pausing 1).ports = true ∧ tabWf none (portAt (pausing 1) 3).fc.paused = true
    ∧ tabGet none (portAt (pausing 2) 3).fc.paused 7 = some ⟨0, 1000000⟩ ∧ bit (stopMask (pausing 2) 3) 7 = true
    ∧ prioHolds (pausing 2) 3 7 = true ∧ (portAt (pausing 2) 3).fc.pwdTime * 1000000 ≤ (pausing 2).cycles
    ∧ tabGet false (portAt (dropping) 3).fc.pwdActive 7 = true := by and_intros <;> decide

/-- Witness for VerifyDampingAndIdleEventsMoveTheirPort. -/
theorem wit_DampingEvents :
    portEnabledByFuse damped 504 = true ∧ dampable damped 504 = true ∧ dampable State.reset 504 = false ∧ (portAt damped 504).damp.shed = some 2
    ∧ (portAt damped 504).damp.rxLanes = 3 ∧ (portAt damped 504).damp.rxMarker = some 1 ∧ (portAt damped 504).damp.restoring = true
    ∧ (portAt damped 504).damp.capsSent < 10 ∧ damped.cycles ≤ (portAt damped 504).damp.upAt + 10000000
    ∧ (portAt verifying 0).pre.verify = 2 ∧ (portAt verifying 0).pre.attempts = 2 ∧ (portAt verifying 0).pre.en = true ∧ (portAt verifying 0).linkUp = true
    ∧ (portAt verifying 0).damp.lpiEn = true ∧ portIdle verifying 0 = true ∧ (portAt verifying 0).damp.waking = true ∧ (portAt verifying 1).pre.attempts = 3
    ∧ (portAt verifying 1).pre.verify = 2 := by and_intros <;> decide

/-- Witness for HarpCommandsTakeEffect. -/
theorem wit_HarpImage :
    Handed (imageState [1, 0, 0, 72]) (.f0 0) 0x0301 [1, 0, 0, 72] (req 0x0301 [1, 0, 0, 72]) ∧ badMask (imageState [1, 0, 0, 72]) 1 = false
    ∧ canDma (imageState [1, 0, 0, 72]) = true ∧ loading (imageState [1, 0, 0, 72]) 1 = false ∧ loading (asks 0x0302 [0x8000]) 0x8000 = false ∧ stagedBusy (imageState [1, 0, 0, 72]) 1 = false
    ∧ imageRefusal (imageState []) (hostRead (imageState []) 0 72) 72 = none := by and_intros <;> decide +kernel
theorem wit_HarpCommands :
    Handed (asks 0x0302 [0x8000]) (.f0 0) 0x0302 [0x8000] (req 0x0302 [0x8000]) ∧ badMask (asks 0x0302 [0x8000]) 0x8000 = false
    ∧ (∀ j ∈ maskSlices 0x8000, (harpAt (asks 0x0302 [0x8000]) j).swap = false ∧ plainSlice (asks 0x0302 [0x8000]) j = false
          ∧ (bankOf (harpAt (asks 0x0302 [0x8000]) j) (1 - (harpAt (asks 0x0302 [0x8000]) j).active)).undefinedImage = false)
    ∧ Handed (asks 0x0303 raArgs) (.f0 0) 0x0303 raArgs (req 0x0303 raArgs) ∧ badPort (asks 0x0303 raArgs) 528 = false
    ∧ (∀ i, i < 8 → arg raArgs (3 + i) ≤ 15)
    ∧ Handed (asks 0x0304 [15, 0xFFFF]) (.f0 0) 0x0304 [15, 0xFFFF] (req 0x0304 [15, 0xFFFF]) ∧ badSlice (asks 0x0304 [15, 0xFFFF]) 15 = false
    ∧ Handed (asks 0x0305 [15, 63]) (.f0 0) 0x0305 [15, 63] (req 0x0305 [15, 63]) ∧ physEngine (harpAt (asks 0x0305 [15, 63]) 15) 63 = some 63
    ∧ engineCond (harpAt (asks 0x0305 [15, 63]) 15) 63 ≠ .checking ∧ onEngine (asks 0x0305 [15, 63]) 15 63 = []
    ∧ Handed (asks 0x0306 [9]) (.f0 0) 0x0306 [9] (req 0x0306 [9]) ∧ Handed (asks 0x0381 [0]) (.f0 0) 0x0381 [0] (req 0x0381 [0]) := by
  and_intros <;> decide

/-- Witness for ClassAndMeterCommandsTakeEffect. -/
theorem wit_ClassCommands :
    Handed (asks 0x0401 [1, 511, 1, 31, 0xFFFFFFFF]) (.f0 0) 0x0401 [1, 511, 1, 31, 0xFFFFFFFF] (req 0x0401 [1, 511, 1, 31, 0xFFFFFFFF])
    ∧ setWaits (asks 0x0401 []) 1 = false
    ∧ Handed (asks 0x0402 [1, 8191, 1, 5, 0, 7, 0, 0, 0, 0, 0]) (.f0 0) 0x0402 [1, 8191, 1, 5, 0, 7, 0, 0, 0, 0, 0] (req 0x0402 [1, 8191, 1, 5, 0, 7, 0, 0, 0, 0, 0])
    ∧ badRule [5, 0, 7, 0, 0, 0, 0, 0] = false
    ∧ Handed (asks 0x0403 [0x8000, 0, 9]) (.f0 0) 0x0403 [0x8000, 0, 9] (req 0x0403 [0x8000, 0, 9]) ∧ badMask (asks 0x0403 [0x8000, 0, 9]) 0x8000 = false
    ∧ Handed (asks 0x0481 [15, 8128, 64]) (.f0 0) 0x0481 [15, 8128, 64] (req 0x0481 [15, 8128, 64])
    ∧ Handed (asks 0x0482 [15]) (.f0 0) 0x0482 [15] (req 0x0482 [15]) ∧ badSlice (asks 0x0482 [15]) 15 = false := by and_intros <;> decide
theorem wit_MeterCommands :
    Handed (asks 0x0601 [1, 16383, 1, 1, 1, 5, 0, 9, 9]) (.f0 0) 0x0601 [1, 16383, 1, 1, 1, 5, 0, 9, 9] (req 0x0601 [1, 16383, 1, 1, 1, 5, 0, 9, 9])
    ∧ badMeter [1, 5, 0, 9, 9] = false
    ∧ Handed (asks 0x0602 [1, 15, 0x400, 0x7FF, 0]) (.f0 0) 0x0602 [1, 15, 0x400, 0x7FF, 0] (req 0x0602 [1, 15, 0x400, 0x7FF, 0])
    ∧ Handed (asks 0x0603 [16383, 1, 1600000, 16777215]) (.f0 0) 0x0603 [16383, 1, 1600000, 16777215] (req 0x0603 [16383, 1, 1600000, 16777215])
    ∧ Handed (asks 0x0681 [15, 16383]) (.f0 0) 0x0681 [15, 16383] (req 0x0681 [15, 16383]) ∧ badSlice (asks 0x0681 [15, 16383]) 15 = false
    ∧ Handed (asks 0x0682 [16383]) (.f0 0) 0x0682 [16383] (req 0x0682 [16383]) := by and_intros <;> decide

/-- Witness for TableEntryCommandsChangeOneEntry. -/
theorem wit_TableEntries :
    Handed (tableReady 0x0503 newRec []) (.f0 0) 0x0503 newRec (req 0x0503 newRec) ∧ tabCfgAt (tableReady 0x0503 newRec []) (recTable newRec) = some cfg2
    ∧ badData (tableReady 0x0503 newRec []) 0 0xFFFFFF = false ∧ findEntry (tableReady 0x0503 newRec []) 2 224 (recKey newRec 224) = none
    ∧ tableTurn (tableReady 0x0503 newRec []) (.f0 0) = true ∧ places (tableReady 0x0503 newRec []) true (bucketsOf (tableReady 0x0503 newRec []) 2 224 5).1 ≠ []
    ∧ findEntry (tableReady 0x0504 newRec [(stashBase, some entry2)]) 2 224 5 = some (stashBase, entry2)
    ∧ stashReturn (removeEntry stashBase entry2 (tableReady 0x0504 newRec [(stashBase, some entry2)])) = []
    ∧ Handed (tableReady 0x0504 newRec [(stashBase, some entry2)]) (.f0 0) 0x0504 newRec (req 0x0504 newRec)
    ∧ Handed (tableReady 0x0581 newRec [(stashBase, some entry2)]) (.f0 0) 0x0581 newRec (req 0x0581 newRec)
    ∧ bit (newRec.getD 0 0#32).toNat 8 = false := by and_intros <;> decide +kernel

/-- Witness for TableSetupWalkAndFlushCommands. -/
theorem wit_TableSetup :
    Handed (asks 0x0501 [7, 0, 224, 0]) (.f0 0) 0x0501 [7, 0, 224, 0] (req 0x0501 [7, 0, 224, 0]) ∧ widthOk 0 224 = true ∧ widthOk 0 1 = true
    ∧ usedSlots (asks 0x0501 [7, 0, 224, 0]) 7 = 0 ∧ Handed (asks 0x0502 [1, 2, 3, 4]) (.f0 0) 0x0502 [1, 2, 3, 4] (req 0x0502 [1, 2, 3, 4])
    ∧ Handed (tableReady 0x0505 [0, 255, 1] [(0, some entry2)]) (.f0 0) 0x0505 [0, 255, 1] (req 0x0505 [0, 255, 1])
    ∧ Handed (tableReady 0x0506 [0, 2, 96, 1, 1] [(0, some entry2)]) (.f0 0) 0x0506 [0, 2, 96, 1, 1] (req 0x0506 [0, 2, 96, 1, 1])
    ∧ Handed (walking [1]) (.f0 0) 0x0507 [1] (req 0x0507 [1]) ∧ (walkAt (walking [1]) 1).isSome = true
    ∧ (walking [1]).cycles ≥ 10000000000 ∧ sliceEnabled (asks 0 []) 15 = true
    ∧ Handed (tableReady 0x0509 [2] []) (.f0 0) 0x0509 [2] (req 0x0509 [2]) ∧ Handed (tableReady 0x0582 [] []) (.f0 0) 0x0582 [] (req 0x0582 [])
    ∧ Handed (macTable [8, 1, 255]) (.f0 0) 0x0508 [8, 1, 255] (req 0x0508 [8, 1, 255])
    ∧ tableTurn (macTable [8, 1, 255]) (.f0 0) = true ∧ tabCfgAt (macTable [8, 1, 255]) 3 = some ⟨1, 48, 0⟩ := by and_intros <;> decide
theorem wit_TableBulk :
    Handed (bulkState 0x050A) (.f0 0) 0x050A [0, 0, 1] (req 0x050A [0, 0, 1]) ∧ Handed (bulkState 0x050B) (.f0 0) 0x050B [0, 0, 1] (req 0x050B [0, 0, 1])
    ∧ Handed (bulkState 0x050C) (.f0 0) 0x050C [0, 0, 1] (req 0x050C [0, 0, 1]) ∧ canDma (bulkState 0x050A) = true := by and_intros <;> decide

/-- Witness for MintCommandsSetPoolsAndMaps. -/
theorem wit_MintCommands :
    Handed (losslessPool [31, 3, 16, 0, 0, 0, 0xFFFF0]) (.f0 0) 0x0801 [31, 3, 16, 0, 0, 0, 0xFFFF0] (req 0x0801 [31, 3, 16, 0, 0, 0, 0xFFFF0])
    ∧ kindOk 31 3 = true ∧ badUnits 0xFFFF0 = false ∧ (poolAt (losslessPool [31, 3, 16, 0, 0, 0, 0xFFFF0]) 31).kind = 3
    ∧ ((List.range 32).map fun i => if i = 0 then 0 else max (if i = 31 then 16 else (poolAt (losslessPool []) i).size)
        ((poolAt (losslessPool []) i).used - (poolAt (losslessPool []) i).borrowed)).sum + 4096 ≤ cellsTotal (losslessPool [])
    ∧ Handed (losslessPool2 mapArgs) (.f0 0) 0x0802 mapArgs (req 0x0802 mapArgs) ∧ badPort (losslessPool2 mapArgs) 528 = false
    ∧ (∀ i, i < 16 → arg mapArgs (1 + i) ≤ 255 ∧ arg mapArgs (1 + i) % 32 ≠ 31 ∧ (poolAt (losslessPool2 mapArgs) (arg mapArgs (1 + i) % 32)).kind ≠ 0)
    ∧ Handed (asks 0x0803 [0xFFFF0, 16]) (.f0 0) 0x0803 [0xFFFF0, 16] (req 0x0803 [0xFFFF0, 16])
    ∧ Handed (asks 0x0804 [511, 0x8000, 0xFFFFF]) (.f0 0) 0x0804 [511, 0x8000, 0xFFFFF] (req 0x0804 [511, 0x8000, 0xFFFFF])
    ∧ Handed (asks 0x0805 []) (.f0 0) 0x0805 [] (req 0x0805 []) ∧ (asks 0x0805 []).mint.reclaim = false
    ∧ sweeping.mint.reclaim = true ∧ Handed (asks 0x0881 [31]) (.f0 0) 0x0881 [31] (req 0x0881 [31]) := by and_intros <;> decide

/-- Witness for TellerCommandsSetTheirUnits. -/
theorem wit_TellerSettings :
    Handed (asks 0x0701 [511, 0x8000, 3, 1, 64, 1600000, 16777215]) (.f0 0) 0x0701 [511, 0x8000, 3, 1, 64, 1600000, 16777215]
      (req 0x0701 [511, 0x8000, 3, 1, 64, 1600000, 16777215]) ∧ quantumOk 64 = true ∧ shapeOk 1600000 16777215 = true
    ∧ Handed (asks 0x0702 [0, 3, 0, 1048575, 0, 0]) (.f0 0) 0x0702 [0, 3, 0, 1048575, 0, 0] (req 0x0702 [0, 3, 0, 1048575, 0, 0])
    ∧ Handed (asks 0x0703 [511, 0, 0]) (.f0 0) 0x0703 [511, 0, 0] (req 0x0703 [511, 0, 0])
    ∧ Handed (asks 0x0704 mapArgs0) (.f0 0) 0x0704 mapArgs0 (req 0x0704 mapArgs0) ∧ (∀ j, j < 16 → arg mapArgs0 (1 + j) ≤ 15)
    ∧ Handed (gating [511, 15, 1, 1, 0xFFFF, 8]) (.f0 0) 0x0705 [511, 15, 1, 1, 0xFFFF, 8] (req 0x0705 [511, 15, 1, 1, 0xFFFF, 8])
    ∧ gateListOk (gating []) 15 1 (gateEntries [511, 15, 1, 1, 0xFFFF, 8] 1) = true ∧ (txAt (gating []) 511).gate.pending = none
    ∧ Handed (asks 0x0781 [511]) (.f0 0) 0x0781 [511] (req 0x0781 [511]) := by and_intros <;> decide
theorem wit_TellerGroups :
    Handed (asks 0x0706 [255, 2, 7, 8]) (.f0 0) 0x0706 [255, 2, 7, 8] (req 0x0706 [255, 2, 7, 8])
    ∧ (∀ m ∈ memberList [255, 2, 7, 8], badMember (asks 0x0706 []) true m = false) ∧ (memberList [255, 2, 7, 8]).Nodup
    ∧ Handed (asks 0x0707 [1023, 1, 511]) (.f0 0) 0x0707 [1023, 1, 511] (req 0x0707 [1023, 1, 511]) ∧ badMember (asks 0 []) false 511 = false
    ∧ changing (asks 0 []) 255 = false ∧ changing (grouped 0 []) 255 = false ∧ groupIndex 1 255 = some 255 ∧ groupIndex 2 1023 = some 1279
    ∧ Handed (grouped 0x0708 [1, 255, 9]) (.f0 0) 0x0708 [1, 255, 9] (req 0x0708 [1, 255, 9]) ∧ badMember (grouped 0 []) true 9 = false
    ∧ 9 ∉ (groupAt (grouped 0 []) 255).members ∧ Handed (grouped 0x0709 [1, 255, 8]) (.f0 0) 0x0709 [1, 255, 8] (req 0x0709 [1, 255, 8])
    ∧ 8 ∈ (groupAt (grouped 0 []) 255).members ∧ Handed (asks 0x0782 [2, 0]) (.f0 0) 0x0782 [2, 0] (req 0x0782 [2, 0])
    ∧ Handed (asks 0x070A [15, 0x41FF, 65536]) (.f0 0) 0x070A [15, 0x41FF, 65536] (req 0x070A [15, 0x41FF, 65536])
    ∧ badMirror (asks 0 []) 0x41FF = false ∧ Handed (gatingT [15, 15, 1]) (.f0 0) 0x070B [15, 15, 1] (req 0x070B [15, 15, 1])
    ∧ 1000 ≤ trigPeriod (gatingT []) 15 ∧ trigPeriod (gatingT []) 15 ≤ 1000000 ∧ badSlice (gatingT [15, 15, 1]) 15 = false := by and_intros <;> decide

/-- Witness for FramesEnterThroughTheirEvents. -/
theorem wit_FrameStart :
    receives (litPort true) 3 = true ∧ sliceEnabled (litPort true) 0 = true ∧ exhausted (litPort true) 0 = false ∧ freeChit (litPort true) 0 16383 = true
    ∧ coreRuns (litPort true) 0 = true ∧ (litPort true).dev.moving ≠ some 0 ∧ cellTooLong (portAt (frameIn endedChit) 0).cfg.maxLen 0 endedChit = false ∧ cellDue endedChit = true ∧ grant (frameIn endedChit) (framePool (frameIn endedChit) 0 endedChit).1 = some false
    ∧ findCell (frameIn endedChit) (cellsTotal (frameIn endedChit)) 0 = some 0 ∧ chitAt (frameIn endedChit) 0 = some endedChit
    ∧ grant (frameIn trapChit) (framePool (frameIn trapChit) 0 trapChit).1 = none ∧ cellDue trapChit = true := by and_intros <;> decide
theorem wit_FrameEnd :
    coreRuns (frameIn goodChit) 0 = true ∧ goodRx.bytes.length = 64
    ∧ goodFcs goodChit.bytes = true ∧ isMacControl goodChit.bytes = false ∧ goodFcs chit0.bytes = false
    ∧ rxFrame (frameIn goodChit) 0 false = some goodRx ∧ rxChit (frameIn goodChit) goodRx = some 0 ∧ portEnabledByFuse (frameIn goodChit) 0 = true
    ∧ (rxAt assembling 3).pmac = some asmRx ∧ rxChit assembling asmRx = some 7 ∧ receives assembling 3 = true := by and_intros <;> decide +kernel
theorem wit_Inject :
    coreRuns injecting 0 = true ∧ canDma injecting = true ∧ injecting.hif.inject = some inject60 ∧ exhausted injecting 0 = false
    ∧ freeChit injecting 0 16383 = true ∧ receives injecting 512 = true ∧ fld (inject60.words.getD 1 0#32) 13 0 = 64
    ∧ (inject60.buffers.map fun b => b.2).sum = 60 := by and_intros <;> decide

/-- Witness for RunAheadAndExpressDecideEarly. -/
theorem wit_RunAhead :
    coreRuns (frameIn goodChit) 0 = true ∧ chitAt (frameIn goodChit) 0 = some goodChit ∧ goodChit.preDone = false ∧ 64 ≤ goodChit.bytes.length
    ∧ launches goodChit = true ∧ askingChit.raAsked = some (3, 5) ∧ chitAt (frameIn askingChit) 0 = some askingChit
    ∧ (lookupIn (frameIn askingChit) 0 3 5).hit = false ∧ (lookupIn (macHit 0) 0 3 5).hit = true ∧ bits (lookupIn (macHit 0) 0 3 5).data 11 10 = 0
    ∧ bits (lookupIn (macHit 0x400) 0 3 5).data 11 10 = 1 ∧ decidingChit.raDec = some (5, 1) ∧ decidingChit.depth = 2
    ∧ (portAt (frameIn decidingChit) 5).cfg.expMinLen ≤ decidingChit.bytes.length ∧ expressOk (frameIn decidingChit) 0 decidingChit 5 1 = false := by
  and_intros <;> decide +kernel
theorem wit_Express : expressOk expressState 0 decidingChit 5 1 = true ∧ chitAt expressState 0 = some decidingChit ∧ coreRuns expressState 0 = true := by
  and_intros <;> decide +kernel

/-- Witness for DispatchSwapAndEngineEvents. -/
theorem wit_Dispatch :
    chitAt lined 0 = some endedChit ∧ (harpAt lined 0).waiting.head? = some 0 ∧ engineCond (harpAt lined 0) 63 = .good ∧ coreRuns lined 0 = true
    ∧ tabGet none (harpAt lined 0).threads (8 * 63 + 7) = none ∧ (harpAt lined 0).swap = true ∧ sliceEnabled lined 0 = true
    ∧ (classAt lined 0).next = some {} ∧ physEngine (harpAt lined 0) 63 = some 63 ∧ engineCond (harpAt lined 0) 0 = .checking
    ∧ physEngine (harpAt lined 0) 0 = some 0 ∧ spares (setCond 0 .bad (harpAt noSpares 0)) = [] ∧ engineCond (harpAt noSpares 0) 0 = .checking := by
  and_intros <;> decide +kernel

/-- Witness for ClassificationAppliesTheFirstMatchingRule. -/
theorem wit_Classify :
    coreRuns (frameIn emittedChit) 0 = true ∧ chitAt (frameIn emittedChit) 0 = some emittedChit ∧ returned emittedChit = true
    ∧ inOrder (frameIn emittedChit) 0 emittedChit (fun d => d.cls.isSome) = true
    ∧ (classified 0 0 emittedChit (List.replicate 8 0#32) (frameIn emittedChit)).1.action ≠ 1
    ∧ (classified 0 0 emittedChit (List.replicate 8 0#32) (frameIn emittedChit)).1.raConfirm = false
    ∧ (classified 0 0 emittedChit (List.replicate 8 0x100#32) (frameIn emittedChit)).1.action = 1
    ∧ (classified 0 0 confirmChit [0, 0, 0, 5, 0, 0, 0, 0] (frameIn confirmChit)).1.raConfirm = true
    ∧ (classified 0 0 confirmChit [0, 0, 0, 5, 0, 0, 0, 0] (frameIn confirmChit)).1.raConfirm = true ∧ ptpEvent (classified 0 0 confirmChit [0, 0, 0, 5, 0, 0, 0, 0] (frameIn confirmChit)).1 confirmChit.bytes = false := by and_intros <;> decide +kernel

/-- Witness for PolicingChargesMetersAndPurses. -/
theorem wit_Police :
    coreRuns (frameIn classedChit) 0 = true ∧ chitAt (frameIn classedChit) 0 = some classedChit ∧ classedChit.cls = some {} ∧ classedChit.admitted = false ∧ classedChit.pmac = false
    ∧ inOrder (frameIn classedChit) 0 classedChit (fun d => d.admitted) = true ∧ (runMeters 0 0 64 {} (frameIn classedChit)).1.drop = false
    ∧ (spend 0 0 64 (frameIn classedChit)).1 = true ∧ (spend 0 0 64 brokeTenant).1 = false
    ∧ (runMeters 0 0 64 { meter0En := true } redMeter).1.drop = true
    ∧ (refreshed 5 (meterAt redMeter 0 0)).cfg.mode ≠ 0 ∧ poisoned redMeter (.meter 0 0) = false ∧ brokeTenant.mem.poison = []
    ∧ tabWf {} brokeTenant.tenants = true ∧ tabWf 0 (tenantAt brokeTenant 0).purses = true := by and_intros <;> decide +kernel

/-- Witness for EnqueueTrapAndSelection. -/
theorem wit_Enqueue :
    coreRuns (frameIn admittedChit) 0 = true ∧ chitAt (frameIn admittedChit) 0 = some admittedChit ∧ chainWhole admittedChit = true
    ∧ forHost toPort5 = false ∧ specServes (frameIn admittedChit) 0 admittedChit toPort5 = false
    ∧ overtakes (frameIn requestedChit) 0 requestedChit toPort5 = false ∧ colorRefuses (frameIn requestedChit) requestedChit = false ∧ (finalDest (frameIn requestedChit) toPort5).map (fun x => portSlice x.1) = some 0
    ∧ colorRefuses yellowFull { requestedChit with color := 1 } = true ∧ forHost toHost = true
    ∧ (poolAt yellowFull 31).size < (poolAt yellowFull 31).used + 1 := by and_intros <;> decide +kernel
theorem wit_Select :
    portEnabledByFuse queued 5 = true ∧ mayStart queued 5 = true ∧ (txAt queued 5).tx = none ∧ plainSlice queued 0 = false ∧ (txAt (pruneHeads 5 (catchUp 5 queued)) 5).tx = none ∧ (txAt (pruneHeads 5 (catchUp 5 queued)) 5).susp = none
    ∧ (selectQueue (pruneHeads 5 (catchUp 5 queued)) 5 (fun _ => true)).map (fun x => x.1) = some 1 ∧ mayStart { queued with dev := { step := 12 } } 5 = true
    ∧ plainSlice { queued with dev := { step := 12 } } 0 = true ∧ (portAt (pruneHeads 5 (catchUp 5 queued)) 5).pre.active = false := by and_intros <;> decide +kernel

/-- Witness for CopiesEndAndGatesTurn. -/
theorem wit_Copies :
    (txAt (sending .forward) 5).tx = some (txOf .forward) ∧ chitAt (sending .forward) 0 = some admittedChit ∧ chainPoisoned (sending .forward) admittedChit = (none, false)
    ∧ portEnabledByFuse (sending .forward) 5 = true ∧ (txOf .express).fcs = none ∧ (txOf .express).began = true ∧ (txOf .express).closeAt = none ∧ admittedChit.refs < 1023 ∧ (txOf .forward).copy.again = false
    ∧ (txAt sentCopy 5).tx = some { txOf .forward with fcs := some true }
    ∧ chitAt (sending .cut) 0 = some admittedChit ∧ (txAt gateTurns 5).gate.pending = some (some gates5) ∧ (trigAt gateTurns 15).fires ≠ (txAt gateTurns 5).gate.pendSeen
    ∧ (txAt gateTurns 6).gate.oper = some gates5 ∧ (txAt gateTurns 6).gate.entryAt + (gates5.entries.getD 0 (0, 0)).2 ≤ timeTotal gateTurns
    ∧ (tabGet {} gateTurns.tele 0).on = true ∧ (trigAt gateTurns 15).fires ≠ (tabGet {} gateTurns.tele 0).seen := by and_intros <;> decide +kernel

/-- Witness for LedgerEpochsCloseSealAndDrain. -/
theorem wit_LedgerEpochs :
    closing.led.due = [⟨3, 1, 0, 0⟩] ∧ closing.led.zero = false ∧ mustMerge closing = false ∧ (bankAt closing ((closing.led.open_ + 1) % 3)).state = 0
    ∧ closing.dev.asserted = 0 ∧ 5 ≤ closing.dev.step ∧ mustMerge closingLate = true ∧ closingLate.led.due = [⟨3, 1, 0, 0⟩]
    ∧ (bankAt closing closing.led.open_).state = 1 ∧ (bankAt closed 2).state = 2 ∧ (bankAt closed 2).grace = false ∧ energyDue closed (bankAt closed 2) = false
    ∧ (∀ i, i < 3 → i ≠ 2 → (bankAt closed i).state ≠ 2 ∨ (bankAt closed i).grace = true)
    ∧ (bankAt closed 2).closedAt + 100000 ≤ closed.cycles ∧ sealed.led.drain = none ∧ sealed.led.sealed = [1] ∧ sealed.mem.poison = []
    ∧ draining.led.drain = some ⟨1, [], [[1]], true⟩ := by and_intros <;> decide

/-- Witness for LedgerCommandsSetAndReport. -/
theorem wit_LedgerCommands :
    Handed (seconds [15, 256]) (.f0 0) 0x0901 [15, 256] (req 0x0901 [15, 256]) ∧ ledgerPeriod (trigAt (seconds []) 15).act.period = true
    ∧ (seconds []).led.arch = [] ∧ (seconds []).led.drain = none ∧ (seconds []).led.trigSet = false ∧ closing.led.trigSet = true
    ∧ Handed (asks 0x0902 [255, 1, 2, 3, 4, 5, 6]) (.f0 0) 0x0902 [255, 1, 2, 3, 4, 5, 6] (req 0x0902 [255, 1, 2, 3, 4, 5, 6])
    ∧ Handed (archived 0x0903 [7]) (.f0 0) 0x0903 [7] (req 0x0903 [7]) ∧ (∀ x ∈ (archived 0 []).led.arch, x.epoch ≤ 7 → x.once = true)
    ∧ (∀ b, b < 3 → (bankAt (archived 0 []) b).state = 0 ∨ 7 < (bankAt (archived 0 []) b).epoch)
    ∧ Handed (archived 0x0904 [7]) (.f0 0) 0x0904 [7] (req 0x0904 [7]) ∧ oldestEpoch (archived 0 []) ≤ 7
    ∧ Handed (asks 0x0981 [16383]) (.f0 0) 0x0981 [16383] (req 0x0981 [16383])
    ∧ Handed (asks 0x0982 []) (.f0 0) 0x0982 [] (req 0x0982 []) := by and_intros <;> decide

/-- Witness for TimeEventsAdvanceFireAndCapture. -/
theorem wit_TimeEvents :
    timeRuns firing = true ∧ dueBefore firing 5 = false ∧ (trigAt firing 15).next = some 5 ∧ 5 < firing.time.nextTick ∧ timeTotal firing < 5
    ∧ timeRuns pins = true ∧ dueBefore pins pins.time.nextTick = false ∧ pins.time.ppsOut = true ∧ pins.time.ppsAt + 1000 * ppsWidth pins ≤ pins.cycles
    ∧ evQualifies (evAt pins 3) false = true ∧ (evAt pins 3).queue.length = 8 ∧ evQualifies (evAt pins 2) true = true ∧ (evAt pins 2).queue = [7]
    ∧ (tsqAt pins 15).entries = [⟨1, 2, 3⟩] ∧ firing.time.incr ≠ 0 := by and_intros <;> decide

/-- Witness for TimeCommandsAndArming. -/
theorem wit_TimeCommands :
    Handed (asks 0x0A01 [15, 1, 999999999, 5, 0xFFFF, 1000, 0]) (.f0 0) 0x0A01 [15, 1, 999999999, 5, 0xFFFF, 1000, 0]
      (req 0x0A01 [15, 1, 999999999, 5, 0xFFFF, 1000, 0]) ∧ badPeriod 1000 = false ∧ badPeriod 0 = false ∧ badPeriod 3600000000000 = false
    ∧ periodFits (asks 0 []) 15 1000 = true ∧ jobRunning (fun k => match k with | .trigger u .. => decide (u = 15) | _ => false) (asks 0 []) = false
    ∧ Handed (asks 0x0A81 []) (.f0 0) 0x0A81 [] (req 0x0A81 []) ∧ committed.time.incrCommit = some (5, 1) := by and_intros <;> decide

/-- Witness for ConsoleCommandsSetTheConsole. -/
theorem wit_ConsoleSettings :
    Handed (asks 0x0B01 [3, 1, 100, 1024]) (.f0 0) 0x0B01 [3, 1, 100, 1024] (req 0x0B01 [3, 1, 100, 1024]) ∧ (asks 0 []).con.frameEn = false
    ∧ Handed (framing [15, 1]) (.f0 0) 0x0B02 [15, 1] (req 0x0B02 [15, 1]) ∧ framePeriod (conGroups (framing [])) 3600000000000 = true
    ∧ (trigAt (framing []) 15).act.period = 3600000000000 ∧ (∀ k, k < 4 → (groupOf (framing []) k).armed = none)
    ∧ Handed (asks 0x0B03 [63, 1, 3, 1]) (.f0 0) 0x0B03 [63, 1, 3, 1] (req 0x0B03 [63, 1, 3, 1])
    ∧ Handed (asks 0x0B04 [31, 1, 63, 62, 4000000, 1, 0xFFFF, 0]) (.f0 0) 0x0B04 [31, 1, 63, 62, 4000000, 1, 0xFFFF, 0]
      (req 0x0B04 [31, 1, 63, 62, 4000000, 1, 0xFFFF, 0]) ∧ (inputAt (asks 0 []) 63).clk = (inputAt (asks 0 []) 62).clk
    ∧ Handed (asks 0x0B81 [31]) (.f0 0) 0x0B81 [31] (req 0x0B81 [31]) ∧ Handed (asks 0x0B05 [15, 0]) (.f0 0) 0x0B05 [15, 0] (req 0x0B05 [15, 0])
    ∧ Handed (asks 0x0B07 [7, 1, 1000, 255, 128, 4]) (.f0 0) 0x0B07 [7, 1, 1000, 255, 128, 4] (req 0x0B07 [7, 1, 1000, 255, 128, 4])
    ∧ Handed (asks 0x0B08 [31, 1, 4000000, 16, 0xFFFFFFFF, 5]) (.f0 0) 0x0B08 [31, 1, 4000000, 16, 0xFFFFFFFF, 5]
      (req 0x0B08 [31, 1, 4000000, 16, 0xFFFFFFFF, 5]) := by and_intros <;> decide
theorem wit_ConsoleOutputs :
    Handed (asks 0x0B06 outArgs) (.f0 0) 0x0B06 outArgs (req 0x0B06 outArgs) ∧ (∀ f, f < 8 → arg outArgs (3 + f) ≤ 1000) ∧ arg outArgs 11 = 255
    ∧ noClaim (asks 0 []) = false ∧ Handed (clearing [0xFFFFFFFF]) (.f0 0) 0x0B09 [0xFFFFFFFF] (req 0x0B09 [0xFFFFFFFF])
    ∧ (∀ i, i < 32 → bit 0xFFFFFFFF i = true → tripHolds (clearing []) i = false)
    ∧ Handed (allGiven []) (.f0 0) 0x0B0A [] (req 0x0B0A []) ∧ (∀ i, i < 32 → (actAt (allGiven []) i).given = true)
    ∧ (∀ f, f < 8 → (fanAt (allGiven []) f).given = true) ∧ (allGiven []).pair.mode = 0 ∧ (allGiven []).con.outEn = false
    ∧ Handed (asks 0x0B0B []) (.f0 0) 0x0B0B [] (req 0x0B0B []) ∧ Handed (asks 0x0B82 []) (.f0 0) 0x0B82 [] (req 0x0B82 []) := by
  and_intros <;> decide +kernel

/-- Witness for ConsoleEventsSampleTripAndCycle. -/
theorem wit_ConsoleEvents :
    (groupOf sampling 0).armed = some 0 ∧ (groupOf sampling 0).en = true ∧ filterOn sampling = true ∧ (trigAt sampling sampling.con.frameTrig).fires ≠ 0
    ∧ (groupOf sampling 3).run = true ∧ tabWf {} sampling.con.groups = true ∧ (inputAt sampling 63).actEn = true ∧ (inputAt sampling 63).fault = false
    ∧ (inputAt sampling 0).fault = true ∧ sampling.con.cycleEn = true
    ∧ (trigAt sampling sampling.con.cycleTrig).fires ≠ sampling.con.cycleSeen ∧ cycleDue sampling2 = false ∧ sampling2.con.task = some (5, [1]) ∧ sampling2.pair.mode = 0
    ∧ pairTask.con.task = some (5, [1]) ∧ cycleDue pairTask = false ∧ pairTask.pair.mode = 1 ∧ pairTask.pair.confirmed = false ∧ (actAt sampling 31).tripped = true
    ∧ (fanAt sampling 7).edges.headD 0 + 1000000000 ≤ sampling.cycles ∧ framed.con.frameEn = true
    ∧ (trigAt framed framed.con.frameTrig).fires ≠ framed.con.frameSeen ∧ (∀ k, k < 4 → (groupOf framed k).run = false) ∧ filterOn framed = true := by
  and_intros <;> decide

/-- Witness for TempoMonitorsGuardAndStepTheSupply. -/
theorem wit_Tempo :
    monitorOn rising 67 = true ∧ overGuard slowRing = true ∧ slowRing.tmp.target < 80 ∧ slowRing.tmp.guardWin = none
    ∧ rising.tmp.target < rising.tmp.goal ∧ rising.tmp.target + 1 ≠ rising.tmp.goal ∧ falling.tmp.goal < falling.tmp.target ∧ falling.tmp.avsFault = false
    ∧ falling.tmp.target - 1 ≠ falling.tmp.goal ∧ rising.time.sec ≠ rising.tmp.lastSec ∧ rising.tcs.running = true ∧ rising.tmp.passes.head? = some .run
    ∧ treq (passSetting slowRing .run) = some 416667 ∧ Handed (asks 0x0E01 []) (.f0 0) 0x0E01 [] (req 0x0E01 [])
    ∧ jobRunning (fun j => decide (j = .tuneCapo)) (asks 0 []) = false ∧ Handed (asks 0x0E02 [3]) (.f0 0) 0x0E02 [3] (req 0x0E02 [3])
    ∧ Handed (asks 0x0E03 [168, 1]) (.f0 0) 0x0E03 [168, 1] (req 0x0E03 [168, 1]) ∧ Handed (asks 0x0E81 []) (.f0 0) 0x0E81 [] (req 0x0E81 [])
    ∧ Handed (passed1 [0, 64]) (.f0 0) 0x0E82 [0, 64] (req 0x0E82 [0, 64]) ∧ 0 < (passed1 []).tmp.history.length := by and_intros <;> decide

/-- Witness for ClustersSwitchAndSwap. -/
theorem wit_Clusters :
    lapsedWatchdog.tcs.running = true ∧ lapsedWatchdog.pair.fedAt + 5000000 ≤ lapsedWatchdog.cycles ∧ lapsedWatchdog.pair.ready = true
    ∧ switching.pair.switching = true ∧ switching.pair.swapping = none ∧ switching.tcs.running = false
    ∧ lapsedWatchdog.con.cycleEn = false ∧ lapsedWatchdog.tcs.standby ≠ none ∧ jobRunning swapJob swapAsked = true ∧ swapAsked.pair.switching = false
    ∧ swapAsked.tcs.running = true ∧ swapAsked.pair.swapping = none ∧ swapBegun.pair.swapping = some 0 ∧ commandsDone swapBegun = true
    ∧ swapBegun.pair.handed = false ∧ commandsDone swapStuck = false ∧ 0 + 500000000 ≤ swapStuck.cycles ∧ swapStuck.pair.swapping = some 0
    ∧ handedOver.pair.handed = true ∧ handedOver.pair.swapping = some 0 ∧ handedOver.cycles ≤ 0 + 2000000 ∧ standbyOk lapsedWatchdog = true ∧ domainOn standbyUp (standbyDomain standbyUp) = true ∧ loadingImage standbyUp = none
    ∧ standbyUp.tcs.standby = some {} ∧ standbyUp.pair.ready = false := by and_intros <;> decide

/-- Witness for PairClaimsHeartbeatsAndGroupLeases. -/
theorem wit_Claims :
    claimable.tcs.running = true ∧ claimable.pair.mode = 1 ∧ claimable.pair.quietAt + 10000 ≤ claimable.cycles
    ∧ claimable.pair.quietAt + claimWait claimable ≤ claimable.cycles ∧ (claiming true).pair.claim = true ∧ (claiming true).pair.confirmed = false
    ∧ (claiming true).pair.claimAt + 2000 ≤ (claiming true).cycles ∧ (claiming true).dev.straps.pairId = true
    ∧ (claiming true).pair.ownerFed + 20000000 ≤ (claiming true).cycles ∧ (claiming true).pair.hbLast = some 0 ∧ (claiming true).pair.hbOk = true
    ∧ messageOk pairMsg0 claimable = true ∧ pairMsg0.owner = true ∧ claimable.pair.setAt + staleAfter claimable < claimable.cycles
    ∧ (claiming true).pair.holdoff = true ∧ (claiming true).pair.holdAt + 100000000 ≤ (claiming true).cycles
    ∧ leased.pair.mode = 2 ∧ leased.tcs.running = true ∧ (roleOf leased 1).hold = true ∧ (roleOf leased 1).holder ≠ none
    ∧ (roleOf leased 1).leaseEnd ≤ timeTotal leased ∧ (roleOf leased 1).epoch = 5 := by and_intros <;> decide

/-- Witness for PairCommandsTakeEffect. -/
theorem wit_PairCommands :
    Handed (asks 0x0C01 [2, 100000, 168]) (.f0 0) 0x0C01 [2, 100000, 168] (req 0x0C01 [2, 100000, 168]) ∧ (asks 0 []).con.outEn = false
    ∧ (asks 0 []).pair.claim = false ∧ Handed (inGroupMode groupArgs) (.f0 0) 0x0C02 groupArgs (req 0x0C02 groupArgs)
    ∧ (inGroupMode []).pair.mode = 2 ∧ badFront (inGroupMode []) 511 = false ∧ arg groupArgs 17 = 0x80000000 ∧ (∀ i, i < 15 → arg groupArgs (2 + i) = 0)
    ∧ Handed owning (.f0 0) 0x0C03 [] (req 0x0C03 []) ∧ owning.pair.confirmed = true ∧ owning.pair.hbOk = true ∧ peerStale owning = false
    ∧ owning.pair.peer = some pairMsg0 ∧ pairMsg0.console = true ∧ Handed (asks 0x0C81 []) (.f0 0) 0x0C81 [] (req 0x0C81 []) := by
  and_intros <;> decide

/-- Witness for MailboxDoorbellsHandRequestsOn. -/
theorem wit_MailboxDoorbell_locked :
    (boxAt (boxed 0 { locked := true }) (viaNum (.f0 0))).locked = true ∧ (boxAt (boxed 17 { locked := true }) (viaNum (.f1 1))).locked = true
    ∧ (boxAt State.reset (viaNum (.f0 15))).locked = false ∧ viaOk (.f0 15) = true ∧ viaOk (.f1 1) = true
    ∧ fld 1#32 15 0 ≠ (boxAt State.reset (viaNum (.f0 15))).seq ∧ fld 0#32 15 0 = (boxAt State.reset (viaNum (.f0 15))).seq
    ∧ ctrlAvail State.reset = false := by and_intros <;> decide
theorem wit_MailboxDoorbell_requests :
    ctrlAvail (boxed 0 { command := 0x00010181 }) = true
    ∧ requestRefusal (.f0 0) ⟨0, 0x00010181, 0, []⟩ 4032 = none ∧ requestRefusal (.f0 0) ⟨0, 0x00010181, 4, []⟩ 4032 = some Code.badLen
    ∧ cmdInfo (cmdCode 0x00010000) = none ∧ (cmdInfo (cmdCode 0x00010101)).isSome = true ∧ cmdLevel 0x00020101 ≠ 1 ∧ cmdLevel 0x00010101 = 1
    ∧ isQuery 0x00010101 = false ∧ isQuery 0x00010181 = true ∧ (cmdInfo (cmdCode 0x00010181)).isSome = true := by and_intros <;> decide

/-- Witness for RingRegistersMoveTheRings. -/
theorem wit_RingRegisters :
    (let h := ringOn.hif; ringUsed h.dsLog2 h.dsDb h.dsCons ≤ ringUsed h.dsLog2 64 h.dsCons ∧ ringUsed h.dsLog2 64 h.dsCons ≤ 2 ^ h.dsLog2)
    ∧ (let h := ringOn.hif; ¬ ringUsed h.dsLog2 65 h.dsCons ≤ 2 ^ h.dsLog2) ∧ (let h := ringOn.hif; ringUsed h.usLog2 1 h.usCons ≤ ringUsed h.usLog2 h.usProd h.usCons)
    ∧ (let h := ringOn.hif; ¬ ringUsed h.usLog2 2 h.usCons ≤ ringUsed h.usLog2 h.usProd h.usCons)
    ∧ (let u := ringOn.up; ringUsed u.rxaLog2 64 u.rxaRel ≤ ringUsed u.rxaLog2 u.rxaW u.rxaRel) ∧ (let u := ringOn.up; ¬ ringUsed u.rxaLog2 128 u.rxaRel ≤ ringUsed u.rxaLog2 u.rxaW u.rxaRel)
    ∧ State.reset.hif.dsEn = false ∧ State.reset.hif.usEn = false ∧ State.reset.up.rxaEn = false ∧ State.reset.hif.inject = none
    ∧ fld 0x20#32 5 1 = 16 ∧ fld 0x0C#32 5 1 = 6 ∧ fld 0x28#32 5 1 = 20 ∧ fld 0x3C#32 5 1 = 30
    ∧ ringOn.hif.dsEn = true ∧ ringOn.hif.usEn = true ∧ ringOn.up.rxaEn = true := by and_intros <;> decide

/-- Witness for RingsFetchPostAndHalt. -/
theorem wit_RingsFetch_empty :
    dsMayFetch State.reset = false ∧ dsMayFetch (downstream 0) = true ∧ dsHead (downstream 0) = .malformed 1
    ∧ dsHead { downstream 0 with hif := { (downstream 0).hif with dsDb := 0 } } = .empty
    ∧ dsHead (downstream 0x100) = .partialChain ∧ dsHead (downstream 0x00070703) = .malformed 1 := by and_intros <;> decide
theorem wit_RingsFetch_chains :
    dsHead (downstream 0x00070700) = .chain [[0x00070700, 0, 0, 0, 0, 0, 0, 0]] ∧ entryKind [0x00070700] = 0
    ∧ dsHead (downstream 0x302) = .chain [[0x302, 0, 0, 0, 0, 0, 0, 0]] ∧ entryKind [0x302] = 2 ∧ ctrlAvail (downstream 0x302) = true
    ∧ channelAt (downstream 0x302) .ring = .idle ∧ dsHead (downstream 0x301) = .chain [[0x301, 0, 0, 0, 0, 0, 0, 0]] ∧ entryKind [0x301] = 1
    ∧ bit (downstream 0x301).dev.plain 0 = false ∧ canDma (downstream 0) = true ∧ (downstream 0).hif.dsHalt = false
    ∧ (downstream 0).hif.dsEn = true ∧ (downstream 0).hif.usEn = true := by and_intros <;> decide

/-- Witness for ResetSourcesReachWhatTheyReset. -/
theorem wit_ResetSources :
    (resetting 0).dev.asserted = 0 ∧ (resetting 0).tcs.resetAt = some 5 ∧ 5 ≤ (resetting 0).cycles ∧ (resetting 0).dev.peerRstEn = true ∧ (resetting 0).pair.confirmed = false
    ∧ State.reset.dev.peerRstEn = false ∧ bit (resetting 36).dev.asserted 0 = false ∧ bit (resetting 36).dev.asserted 1 = false
    ∧ bit (resetting 36).dev.asserted 5 = true ∧ bit (resetting 36).dev.asserted 2 = true ∧ (resetting 36).dev.asserted ≠ 2 ^ 5
    ∧ (resetting 32).dev.asserted = 2 ^ 5 ∧ (resetting 1).dev.asserted = 2 ^ 0 := by and_intros <;> decide

/-- Witness for ReleaseStepsAndBlockResets. -/
theorem wit_ReleaseSteps :
    (bringing 0 3).dev.asserted = 0 ∧ (bringing 0 3).dev.step + 1 ≤ 12 ∧ (bringing 12 3).dev.step = 12 ∧ (bringing 7 3).tcs.running = true
    ∧ (unbooted true).tcs.running = false ∧ (unbooted true).pair.switching = false ∧ (unbooted true).dev.asserted = 0 ∧ (unbooted true).dev.step = 4
    ∧ inDoze (unbooted true) = false ∧ bootSlot (unbooted true) = some 1 ∧ bootSlot (unbooted false) = none
    ∧ domainWorks (bringing 3 3) 33 = true ∧ anyTrip tripping = true ∧ bit (0x20000#32).toNat 17 = true
    ∧ tripping.dev.blockRst.toNat % 2 ^ 16 = (0x20000#32).toNat % 2 ^ 16 ∧ bit tripping.dev.blockRst.toNat 17 = false ∧ anyTrip State.reset = false := by
  and_intros <;> decide
theorem wit_SliceMoves :
    sliceEnabled (bringing 12 2) 0 = true ∧ (bringing 12 2).tmp.capo < 3 ∧ plainSlice (bringing 12 2) 0 = true
    ∧ below (bringing 12 2) 0 (fun j => !plainSlice (bringing 12 2) j) = true ∧ sliceEmpty (bringing 12 2) 0 = true
    ∧ bit (bringing 12 2).dev.blockRst.toNat 0 = false ∧ (bringing 12 2).dev.fillsOk = true ∧ (bringing 12 2).dev.firstPass = true
    ∧ (let s : State := { bringing 12 3 with dev := { (bringing 12 3).dev with plain := 0 } }
       plainSlice s 0 = false ∧ below s 0 (plainSlice s) = true ∧ sliceEmpty s 0 = true ∧ s.tmp.capo = 3 ∧ s.tcs.running = true) := by
  and_intros <;> decide

/-- Witness for TallySelectsSweepsAndExports. -/
theorem wit_TallyCommands :
    Handed (asks 0x1001 [267, 7, 0, 0, 1]) (.f0 0) 0x1001 [267, 7, 0, 0, 1] (req 0x1001 [267, 7, 0, 0, 1]) ∧ isInstance 267 = true
    ∧ fusedInstance (asks 0 []) 267 = false ∧ eventOk 267 0 0 = true
    ∧ Handed (storing 0x1002 [10000000, 1, 0, 0, 24, 0, 0]) (.f0 0) 0x1002 [10000000, 1, 0, 0, 24, 0, 0] (req 0x1002 [10000000, 1, 0, 0, 24, 0, 0])
    ∧ otherStores (storing 0 []) 16 + 1 * 2 ^ 20 ≤ storeSpace (storing 0 []) ∧ (streamAt (storing 0 []) 16).en = false
    ∧ Handed (asks 0x1003 (List.replicate 9 0)) (.f0 0) 0x1003 (List.replicate 9 0) (req 0x1003 (List.replicate 9 0))
    ∧ Handed (storing 0x1004 [17, 1, 1, 0, 0, 10, 0, 0]) (.f0 0) 0x1004 [17, 1, 1, 0, 0, 10, 0, 0] (req 0x1004 [17, 1, 1, 0, 0, 10, 0, 0])
    ∧ otherStores (storing 0 []) 17 + 1 * 2 ^ 20 ≤ storeSpace (storing 0 [])
    ∧ Handed (asks 0x1081 []) (.f0 0) 0x1081 [] (req 0x1081 []) := by and_intros <;> decide
theorem wit_TallyEngine :
    sweeping17.tal.period ≠ 0 ∧ sweepIndex sweeping17 ≠ sweeping17.tal.due ∧ tallyRuns sweeping17 = true ∧ State.reset.tal.period = 0
    ∧ (streamAt sweeping17 17).en = true ∧ canDma sweeping17 = true ∧ canStore sweeping17 = true ∧ (streamAt sweeping17 17).wb = 0
    ∧ (streamAt sweeping17 17).store = [List.replicate 64 1#8] ∧ sweeping17.mem.poison = [] ∧ tabWf 0#8 sweeping17.hostMem = true
    ∧ (let st := streamAt sweeping17 17
       st.prod % 2 ^ st.ulog2 + 64 / 64 ≤ 2 ^ st.ulog2 ∧ 64 / 64 ≤ 2 ^ st.ulog2 - ringUsed st.ulog2 st.prod st.cons
       ∧ ringUsed st.ulog2 0 st.cons ≤ ringUsed st.ulog2 st.prod st.cons ∧ ¬ ringUsed st.ulog2 1 st.cons ≤ ringUsed st.ulog2 st.prod st.cons)
    ∧ domainOn sweeping17 36 = true ∧ bit sweeping17.dev.blockRst.toNat 16 = false := by and_intros <;> decide

/-- Witness for RegisterAccessesTakeEffectOrAreLogged. -/
theorem wit_RegisterAccesses :
    reach 0x0FFFFFFC = none ∧ (reach 0x24).isSome = true ∧ ((reach (Region.tally + 0x204)).map (blockOff (tallyOff 0 []))) = some true
    ∧ (boxAt State.reset 15).locked = false ∧ ((reach 0x100).map fun e => (e.pair, e.addr % 8)) = some (true, 0) ∧ ((reach 0x104).map fun e => (e.pair, e.addr % 8)) = some (true, 4)
    ∧ ((reach 0x24).map fun e => e.pair) = some false ∧ mirrorPlace 0x10000 = some (0, 0) ∧ mirrorPlace 0x10044 = some (0, 68) ∧ mirrorPlace 0x95FF8 = some (267, 0x7F8)
    ∧ domainOn State.reset 0 = true ∧ domainOn State.reset 15 = true ∧ bit State.reset.dev.blockRst.toNat 15 = false
    ∧ tabWf {} State.reset.lkps = true ∧ tabWf {} State.reset.boxes = true := by and_intros <;> decide

/-- Witness for StatusQueriesReturnTheirWords. -/
theorem wit_StatusQueries :
    Handed (asks 0x0381 [15]) (.f0 0) 0x0381 [15] (req 0x0381 [15]) ∧ sliceEnabled (asks 0 []) 15 = true ∧ sliceEnabled (asks 0 []) 16 = false
    ∧ Handed (asks 0x0482 [15]) (.f0 0) 0x0482 [15] (req 0x0482 [15]) ∧ Handed (asks 0x0582 []) (.f0 0) 0x0582 [] (req 0x0582 []) ∧ tableTurn (asks 0x0582 []) (.f0 0) = true
    ∧ Handed (asks 0x0881 [31]) (.f0 0) 0x0881 [31] (req 0x0881 [31]) ∧ Handed (asks 0x0781 [511]) (.f0 0) 0x0781 [511] (req 0x0781 [511])
    ∧ sliceEnabled (asks 0 []) (portSlice 511) = true ∧ Handed (asks 0x0982 []) (.f0 0) 0x0982 [] (req 0x0982 []) := by and_intros <;> decide

end Sys2Proof.Tests
end

section
/-! SUPPORT. What a command answers where the unit that it names is there and where it is not (log 7), family by family, and the statement
of it for all commands. -/
namespace Sys2Proof.Proofs.Scope
open Sys2Proof Sys2Proof.Machine Sys2Proof.Laws

/-! ### Completing where a unit is there -/

/-- The outcome is that of a command whose unit is there or not: some next state, or the stop. -/
def CompletesWhere (there : Bool) (o : Out) : Prop := ∃ t, o = onUnit there t

/-- A command that answers a next state completes. -/
theorem completesWhere_next (t : State) : CompletesWhere true (.next t) := ⟨t, rfl⟩

/-- An event whose check is the shared one completes where the check passes. -/
theorem completesWhere_onUnit (there : Bool) (t : State) : CompletesWhere there (onUnit there t) := ⟨t, rfl⟩

/-- A check whose other branch is the stop completes where it passes and the rest completes. -/
theorem CompletesWhere.guard {there : Bool} {o : Out} (h : CompletesWhere true o) :
    CompletesWhere there (if there then o else .fault .noSuchUnit) := by
  cases there with
  | true => exact h
  | false => exact ⟨State.reset, rfl⟩

/-- A command that names a unit only through its operands has no further condition. -/
theorem CompletesWhere.and_true {there : Bool} {o : Out} (h : CompletesWhere there o) : CompletesWhere (there && true) o :=
  (Bool.and_true there).symm ▸ h

/-- The same unit, its conditions written in another way. -/
theorem CompletesWhere.congr {b there : Bool} {o : Out} (h : CompletesWhere b o) (e : there = b) : CompletesWhere there o := e ▸ h

/-- What completing where a unit is there means for the three outcomes. -/
theorem CompletesWhere.outcomes {there : Bool} {o : Out} (h : CompletesWhere there o) :
    ((∃ t, o = .next t) ↔ there = true) ∧ (there = false → o = .fault .noSuchUnit) ∧ ∀ r : Refusal, o ≠ .refused r := by
  obtain ⟨t, rfl⟩ := h
  cases there with
  | true => simp
  | false => simp

/-! ### The shared frames of commands -/

/-- A TCS command completes where its channel exists (R371). -/
theorem tcsCommand_completesWhere (code : Nat) (body : List W32 → State → Ans) (v : Via) (args : List W32) (s : State) :
    CompletesWhere v.wf (tcsCommand code body v args s) := by
  change CompletesWhere (viaOk v) _
  cases hv : viaOk v with
  | true => exact (tcsCommand_next_iff code body v args s).2 hv
  | false => exact ⟨s, tcsCommand_stop code body v args s hv⟩

/-- A TABLE command, which may wait for those before it, completes where its channel exists. -/
theorem tableCommand_completesWhere (code : Nat) (body : List W32 → State → Ans) (v : Via) (args : List W32) (s : State) :
    CompletesWhere v.wf (tableCommand code body v args s) := tcsCommand_completesWhere ..

/-- DIAG.ECHO completes where its channel exists (R375). -/
theorem execDiagEcho_completesWhere (v : Via) (bytes : List Byte) (s : State) : CompletesWhere v.wf (execDiagEcho v bytes s) := by
  refine .guard ?_
  split
  · split <;> exact completesWhere_next _
  · exact completesWhere_next _

/-- A mailbox doorbell completes where the channel is a mailbox that exists (R365). -/
theorem execMailboxDoorbell_completesWhere (v : Via) (val : W32) (be : BitVec 4) (s : State) :
    CompletesWhere (v.wf && v.isBox) (execMailboxDoorbell v val be s) := by
  cases v with
  | f0 m => exact .and_true (.guard (completesWhere_next _))
  | f1 m => exact .and_true (.guard (completesWhere_next _))
  | ring => exact ⟨s, rfl⟩

/-- A Harp instruction completes where its thread exists (R81, R84): whether it issues, waits or ends the parse, a state follows. -/
theorem harpIssue_completesWhere (th : Thr) (i : Instr) (eff : Nat → Chit → Thread → State → State) (s : State) :
    CompletesWhere th.wf (harpIssue th i eff s) := by
  refine .guard ?_
  dsimp only
  repeat' split
  all_goals exact completesWhere_next _

/-- An event of a chit completes where the chit's number is one of the device (R24). -/
theorem onChit_completesWhere (n : Nat) (f : Nat → State → State) (s : State) : CompletesWhere (chitWf n) (onChit n f s) :=
  completesWhere_onUnit _ _

/-! ### Units whose operand check follows from the state's -/

/-- An operand check that the state's check implies is redundant beside one of another operand as well. -/
theorem and_and_of_and_eq {a b c : Bool} (h : (a && c) = c) : (a && b && c) = (c && b) := by
  rw [Bool.and_right_comm, h]

/-- A slice that no fuse disables is one of the sixteen. -/
theorem sliceWf_and_sliceEnabled (s : State) (k : Nat) : (sliceWf k && sliceEnabled s k) = sliceEnabled s k :=
  Bool.and_self_left ..

/-- A word of a class of memory lies in one of the nine classes. -/
theorem class_and_classAddr (s : State) (c a : Nat) : (decide (c < 9) && classAddr s c a) = classAddr s c a :=
  Bool.and_self_left ..

/-- The largest split has 2^19 buckets (Table 06-1). -/
theorem buckets_le (s : State) : buckets s ≤ 2 ^ 19 :=
  Nat.pow_le_pow_right (by decide) (by unfold bucketBits; omega)

/-- Every location of the exact-match space fits the 32 bits of its operand. -/
theorem lt_of_spaceLoc {s : State} {l : Nat} (h : spaceLoc s l = true) : l < 2 ^ 32 := by
  have hb := buckets_le s
  rw [spaceLoc, stashBase] at h
  simp only [Bool.or_eq_true, Bool.and_eq_true, decide_eq_true_eq] at h
  omega

/-! ### Every command -/

/-- Every command completes where `unitThere` says its unit is there. -/
theorem exec_completesWhere (i : Instr) (s : State) : CompletesWhere (unitThere s i) (exec i s) := by
  unfold exec
  cases i with
  -- TCS commands and what else names a channel
  | sysReset | sysSplitSet | sysConfigStore | sysFwLoad | sysFwActivate | sysFwCommit | sysSwap | sysSvnLock | sysInfo | sysFwStatus
  | portConfig | portEnable | portDisable | portLaneMap | portStationSet | portFlowctlSet | portPreemptSet | portDampSet | portLpiSet
  | portExpressSet | portStatus | harpLoad | harpCommit | harpRaSet | harpRaTpid | harpEngineCheck | harpHashSeed | harpStatus
  | classRangeSet | classRulesSet | classTmapSet | classRulesGet | classStatus | meterSet | meterProfileSet | meterTenantSet | meterGet
  | meterTenantGet | tellerQueueSet | tellerGroupSet | tellerPortSet | tellerClassMap | tellerGateSet | tellerLagSet | tellerEcmpSet
  | tellerMemberAdd | tellerMemberRemove | tellerMirrorSet | tellerTelemetrySet | tellerGateStatus | tellerGroupGet | mintPoolSet
  | mintPortMap | mintColorSet | mintEcnSet | mintReclaim | mintStatus | ledgerConfig | ledgerKeySet | ledgerAck | ledgerReplay
  | ledgerRowGet | ledgerStatus | timeTriggerSet | timeStatus | consoleClockSet | consoleFrameSet | consoleInputSet | consoleOutletSet
  | consoleOutletGet | consoleCycleSet | consoleOutputSet | consoleFanSet | consoleTripSet | consoleTripClear | consoleEnable
  | consoleDisable | consoleStatus | pairConfig | pairGroupSet | pairRelease | pairStatus | powerDomainSet | powerWakeSet | powerStatus
  | tuneRun | tuneCapoSet | tuneIntervalSet | tuneStatus | tuneHistory | memRemapSet | memScrubSet | memFill | memStatus | memLog
  | tallySelect | tallySweepSet | tallyUnprivSet | tallyCaptureSet | tallyStatus | diagLoopback | diagPrbs | diagPrbsGet =>
    exact .and_true (tcsCommand_completesWhere ..)
  | tableConfig | tableSeedSet | tableInsert | tableDelete | tableSearch | tableNext | tableHits | tableWalkClose | tableFlushPort
  | tableFlushTable | tableInsertBulk | tableDeleteBulk | tableSearchBulk | tableStatus =>
    exact .and_true (tableCommand_completesWhere ..)
  | diagEcho => exact .and_true (execDiagEcho_completesWhere ..)
  | commandComplete => exact .and_true (.guard (completesWhere_next _))
  | mailboxDoorbell => exact .and_true (execMailboxDoorbell_completesWhere ..)
  -- Harp instructions
  | nop | add | sub | andR | orR | xorR | shl | shr | addi | andi | ori | xori | shli | shri | movi | xtr | dep | jmp | beq | bne | bltu
  | bgeu | bbs | bbc | bmiss | lkp | rng | rds | hsh | emit | done | drop | trap =>
    exact .and_true (harpIssue_completesWhere ..)
  -- events of a chit
  | rangeResult | preDecode | runAheadResult | expressDecision | cellAllocate | classify | police | enqueueRequest | tellerEnqueue
  | trapAccept | injectFrame =>
    exact .and_true (onChit_completesWhere ..)
  -- events of a port
  | frameStart => exact (completesWhere_next _).guard.congr (Bool.and_right_comm ..)
  | fragmentReceive => exact .guard (completesWhere_next _)
  | frameEnd mac => cases mac; exact (completesWhere_onUnit ..).congr (Bool.and_self_left ..).symm
  | tellerSelect | egressFcs | copyEnd | txUnderrun | pauseReceive | verifyTimeout | verifyReceive | respondReceive | dampCapabilitySend
  | dampCapabilityReceive | dampWindowEnd | shedRequestReceive | shedGrantReceive | shedGrantTimeout | switchMarkerReceive | realignTimeout
  | lockReportReceive | lpiEntry | lpiWakeDone | linkUp | linkDown | gateCycleStart | gateEntryEnd =>
    exact completesWhere_onUnit ..
  | pauseExpire | xoffRefresh | pwdFire | pwdRestore | prbsLock | prbsLockLoss | shaperRefill =>
    exact (completesWhere_onUnit ..).congr (Bool.and_right_comm ..)
  -- events of a slice
  | harpSwap | classUpdateBoundary | telemetrySample | learnFilterExpire | sliceTransition | sliceToPlain =>
    exact (completesWhere_onUnit ..).congr (sliceWf_and_sliceEnabled ..)
  | engineFault | engineCheckDone | meterRefresh =>
    exact (completesWhere_onUnit ..).congr (and_and_of_and_eq (sliceWf_and_sliceEnabled ..))
  -- words of a memory
  | scrubRead => exact (completesWhere_onUnit ..).congr (and_and_of_and_eq (class_and_classAddr ..))
  | remapInstall => exact (completesWhere_onUnit ..).congr (class_and_classAddr ..)
  | tablePoisonRepair =>
    exact (completesWhere_onUnit ..).congr (Bool.and_eq_right_iff_imp.2 fun h => decide_eq_true (lt_of_spaceLoc h))
  -- other units, numbered
  | counterLowRead fn => cases fn <;> exact .and_true (completesWhere_onUnit ..)
  | ddrTrainingDone rate => cases rate <;> exact .and_true (completesWhere_onUnit ..)
  | exportConsWrite | tsqMetaRead | evMetaRead | hwmClr | registerWrite | lookupResult | harpDispatch | triggerFire | eventInputEdge
  | decimatorStart | decimatorOutput | inputFaultOnset | inputFaultEnd | tachEdge | tachStall | tempoWindowEnd | groupMessage | leaseRenew
  | leaseExpire | domainDrainDone | domainDrainTimeout | domainWakeDone | wake | voteRepair | tallyExport | resetSourceRelease =>
    exact .and_true (completesWhere_onUnit ..)
  -- no operand names a unit
  | dsDoorbell | usConsWrite | arenaRelease | ringEnable | ringDisable | arenaEnable | arenaDisable | timeNowRead | ppsInRead | incrCommit
  | stepArm | peerRstReq | peerWakeReq | padRelease | blockResetHold | blockResetRelease | treasurySweep | walkTimeout | mintReclaimDone
  | ledgerEpochBoundary | graceWindowEnd | bankSeal | drainStart | drainResume | drainDone | tick | ppsWidthEnd | ppsInEdge | pllLock
  | consoleFrameCheck | consoleCycleStart | controlTaskCommit | avsWrite | avsReadback | tuningPass | stressUpdate | hostLinkReset | f1Flr
  | dsChainFetch | fence | dmaError | upstreamPost | usIrqTimer | clusterWatchdogExpire | switchOver | switchOverDone | standbyReadySet
  | checkpoint | roleSwap | roleSwapDone | roleSwapFail | claimRequest | claimConfirm | peerClaimEdge | ownerWatchdogLapse | heartbeatSend
  | heartbeatReceive | mirrorReceive | heartbeatLoss | holdoffExpire | peerResetRequest | powerOn | rstColdN | rstWarmN | resetReleaseStep
  | fillDone | dozeEntry | tallySweep | f0FunctionLevelReset | pcieTunnelEstablished | sysResetAssert | titimusBootComplete
  | clusterWatchdogFeed | ownerWatchdogFeed | mirroredSetStale =>
    exact completesWhere_next _

/-- Settles O2: every command is the shared unit check with `unitThere` as its condition. -/
theorem everyCommandCompletesWhereItsUnitIs : Obligations.EveryCommandCompletesWhereItsUnitIs := by
  unfold Obligations.EveryCommandCompletesWhereItsUnitIs
  exact fun i s => (exec_completesWhere i s).outcomes

end Sys2Proof.Proofs.Scope
end

section
/-! SUPPORT. The PORT setting commands (chapter 02): with arguments in range none of their checks refuses, and what is left is their effect. -/
namespace Sys2Proof.Proofs.PortSettings
open Sys2Proof Sys2Proof.Machine Sys2Proof.Laws

/-- A command whose rules answer DONE is answered so in its channel. -/
theorem handed_done {s t : State} {v : Via} {code : Nat} {a : List W32} {r : Request} {body : List W32 → State → Ans} {ws : List W32}
    (h : Handed s v code a r) (hb : body a s = ok ws t) : tcsCommand code body v a s = .next (answer v r Code.done (bytesOf ws) t) := by
  rw [tcsCommand_handed h, hb]; rfl

/-! ### Masks -/

/-- The model's bit test is the library's. -/
theorem bit_eq_testBit (v i : Nat) : bit v i = v.testBit i := by
  rw [bit, Nat.testBit_eq_decide_div_mod_eq]; rfl

/-- A sum of `n` binary digits, each times its power of two, stays below 2^n. -/
theorem sum_digits_lt (d : Nat → Nat) (n : Nat) (h : ∀ i < n, d i ≤ 1) : ((List.range n).map fun i => d i * 2 ^ i).sum < 2 ^ n := by
  induction n with
  | zero => simp
  | succ n ih =>
    have hd := Nat.mul_le_mul_right (2 ^ n) (h n n.lt_succ_self)
    have hs := ih fun i hi => h i (Nat.lt_succ_of_lt hi)
    rw [List.range_succ, List.map_append, List.sum_append, List.map_singleton, List.sum_singleton, Nat.pow_succ]
    omega

/-- Bit `i` of such a sum is digit `i`. -/
theorem bit_sum_digits (d : Nat → Nat) (n : Nat) (h : ∀ i < n, d i ≤ 1) {i : Nat} (hi : i < n) :
    bit ((List.range n).map fun j => d j * 2 ^ j).sum i = (d i == 1) := by
  rw [bit_eq_testBit]
  induction n with
  | zero => omega
  | succ n ih =>
    have hs := sum_digits_lt d n fun i hi => h i (Nat.lt_succ_of_lt hi)
    rw [List.range_succ, List.map_append, List.sum_append, List.map_singleton, List.sum_singleton, Nat.add_comm, Nat.mul_comm,
      Nat.testBit_two_pow_mul_add _ hs]
    split
    · exact ih (fun i hi => h i (Nat.lt_succ_of_lt hi)) ‹_›
    · obtain rfl : i = n := by omega
      obtain h0 | h1 : d i = 0 ∨ d i = 1 := by have := h i hi; omega
      · simp [h0]
      · simp [h1]

/-! ### The commands (Table 02-4) -/

/-- PORT.PREEMPT_SET with arguments in range sets the port's preemption alone: the enable, the mask of the pMAC's queues, the fragment size and
verify (R59). -/
theorem preemptSetCmd_accepted (s : State) {a : List W32} (hf : badFront s (arg a 0) = false) (h1 : arg a 1 ≤ 1)
    (hq : ∀ i, i < 16 → arg a (2 + i) ≤ 1) (h18 : arg a 18 ≤ 3) (h19 : arg a 19 ≤ 1) (h20 : 1 ≤ arg a 20) (h20' : arg a 20 ≤ 128) :
    ∃ f : PortState → PortState, preemptSetCmd a s = ok [] (modFull (arg a 0) f s)
        ∧ ∀ q, (f q).cfg = q.cfg ∧ (f q).fc = q.fc ∧ (f q).damp = q.damp ∧ (f q).linkUp = q.linkUp ∧ (f q).pre.en = (arg a 1 == 1)
          ∧ (f q).pre.addFrag = arg a 18 ∧ (f q).pre.verifyDis = (arg a 19 == 1) ∧ (f q).pre.verifyTime = arg a 20
          ∧ ∀ i, i < 16 → bit (f q).pre.pmacMask i = (arg a (2 + i) == 1) := by
  have hd : ∀ i < 16, ((List.range 16).map fun i => arg a (2 + i)).getD i 0 = arg a (2 + i) := fun i hi => by simp [hi]
  unfold preemptSetCmd
  rw [checked_pass]
  · refine ⟨_, rfl, fun q => ⟨rfl, rfl, rfl, rfl, rfl, rfl, rfl, rfl, fun i hi => ?_⟩⟩
    have hbit := bit_sum_digits (fun j => ((List.range 16).map fun i => arg a (2 + i)).getD j 0) 16
      (fun j hj => (hd j hj).trans_le (hq j hj)) hi
    exact hbit.trans (by rw [hd i hi])
  · simpa [hf, badBool, h1, h18, h19, h20', Nat.one_le_iff_ne_zero.1 h20] using hq

/-- Settles O24: of each command's checks none applies to arguments in range, and its effect is the one stated. -/
theorem portSettingCommandsSetThePort : Obligations.PortSettingCommandsSetThePort := by
  unfold Obligations.PortSettingCommandsSetThePort
  intro v r s a n
  refine ⟨?config, ?laneMap, ?station, ?flowctl, ?preempt, ?damp, ?lpi, ?express, ?status⟩
  case config =>
    intro h hf hm hp hn h3 h4 h4' h5 hl hq he
    refine handed_done (ws := []) h ?_
    unfold portConfigCmd
    rw [hm, checked_pass]
    · rfl
    · simp [hf, hl, hq, he, badBool, max_eq_right (Nat.succ_le_of_lt hn)]
      omega
  case laneMap =>
    intro h ho hf hpol hall hoff
    refine handed_done (ws := []) h ?_
    unfold laneMapCmd
    rw [checked_pass]
    have hfree : s.ports.any (fun e => let c := (fullOf e.2).cfg; c.enabled && decide (e.1 < 8 * arg a 0 + 8)
        && decide (8 * arg a 0 < e.1 + cfgLanes c)) = false := List.any_eq_false.2 fun e he => by simp [hoff e he]
    simpa [hf, ho, hfree] using And.intro hall hpol
  case station =>
    intro h hf h1 h3 h4
    refine handed_done (ws := []) h ?_
    unfold stationSetCmd
    rw [checked_pass]
    simp [hf, badBool]
    omega
  case flowctl =>
    intro h hf h1 h2 hq h19 h20 h21 h21'
    refine handed_done (ws := []) h ?_
    unfold flowctlSetCmd
    rw [checked_pass]
    simpa [hf, h1, h19, h20, h21', Nat.one_le_iff_ne_zero.1 h21] using And.intro h2 hq
  case preempt =>
    intro h hf h1 hq h18 h19 h20 h20'
    obtain ⟨f, hb, hq⟩ := preemptSetCmd_accepted s hf h1 hq h18 h19 h20 h20'
    exact ⟨f, handed_done (ws := []) h hb, hq⟩
  case damp =>
    intro h hf h1 h2 h2' hg hl
    refine handed_done (ws := []) h ?_
    unfold dampSetCmd
    rw [checked_pass]
    · simp [h1]
    · simp [hf, h1, hg, hl, badBool]
      omega
  case lpi =>
    intro h hf h1 h2 h2' hc hg
    refine handed_done (ws := []) h ?_
    unfold lpiSetCmd
    rw [checked_pass]
    · simp [h1]
    · simp [hf, h1, hg, hc, badBool]
      omega
  case express =>
    intro h hf h1 h2 h2'
    refine handed_done (ws := []) h ?_
    unfold expressSetCmd
    rw [checked_pass]
    simp [hf]
    omega
  case status =>
    intro h hf
    refine handed_done h ?_
    unfold portStatusCmd
    rw [checked_pass]
    simp [hf]

end Sys2Proof.Proofs.PortSettings
end

section
/-! SUPPORT. Front ports: when they are there for their events, and what counting in their MACs leaves alone. -/
namespace Sys2Proof.Proofs.FrontPorts
open Sys2Proof Sys2Proof.Machine Sys2Proof.Laws

/-- A front port is there for the events of front ports when no fuse disables it. -/
theorem isFront_and_enabled {s : State} {p : Nat} (hp : p < 512) (he : portEnabledByFuse s p = true) :
    (isFront p && portEnabledByFuse s p) = true := by rw [he]; simp [isFront, hp]

/-- It is there for the events of all ports as well. -/
theorem isPort_and_enabled {s : State} {p : Nat} (hp : p < 512) (he : portEnabledByFuse s p = true) :
    (isPort p && portEnabledByFuse s p) = true := by rw [he]; simp only [isPort, Bool.and_true, decide_eq_true_eq]; omega

/-- Counting in a MAC changes counters alone. -/
theorem bumpMac_frame (f : Nat → Nat) (p n : Nat) (s : State) : bumpMac f p n s = { s with ctr := (bumpMac f p n s).ctr } := by
  unfold bumpMac; split <;> rfl

/-- So it leaves every chit alone. -/
theorem chitAt_bumpMac (f : Nat → Nat) (p n m : Nat) (s : State) : chitAt (bumpMac f p n s) m = chitAt s m := by
  rw [bumpMac_frame]; rfl

end Sys2Proof.Proofs.FrontPorts
end

section
/-! SUPPORT. Frames on their way in (chapters 01, 02, 09 and 15): what a frame's start, its cells, fragments and end, and an inject chain leave
behind. -/
namespace Sys2Proof.Proofs.Ingress
open Sys2Proof Sys2Proof.Machine Sys2Proof.Laws Sys2Proof.Proofs.FrontPorts

/-! ### The Ledger's boundaries -/

/-- At most the Ledger, the console and counters differ: what taking an epoch boundary can change. -/
def LedgerOnly (s t : State) : Prop := ∃ l c m, t = { s with led := l, con := c, ctr := m }

theorem LedgerOnly.refl (s : State) : LedgerOnly s s := ⟨s.led, s.con, s.ctr, rfl⟩

theorem LedgerOnly.trans {s t u : State} : LedgerOnly s t → LedgerOnly t u → LedgerOnly s u := by
  rintro ⟨_, _, _, rfl⟩ ⟨l, c, m, rfl⟩
  exact ⟨l, c, m, rfl⟩

/-- A fold of steps that change no more changes no more. -/
theorem LedgerOnly.foldl {α : Type} {f : State → α → State} (hf : ∀ s x, LedgerOnly s (f s x)) (xs : List α) (s : State) :
    LedgerOnly s (xs.foldl f s) :=
  List.foldlRecOn (motive := LedgerOnly s) xs f (.refl s) fun t h x _ => h.trans (hf t x)

/-- The OPEN bank's close delivers energy and turns the banks. -/
theorem swapBanks_ledgerOnly (at_ cycle : Nat) (s : State) : LedgerOnly s (swapBanks at_ cycle s) := by
  have hd : LedgerOnly s (deliverEnergy s.led.open_ s) := .foldl (fun _ _ => ⟨_, _, _, rfl⟩) _ s
  exact hd.trans ⟨_, _, _, rfl⟩

theorem mergeEpochs_ledgerOnly (n : Nat) (s : State) : LedgerOnly s (mergeEpochs n s) := ⟨_, _, _, rfl⟩

theorem takeBuffered_ledgerOnly (s : State) : LedgerOnly s (takeBuffered s) := ⟨_, _, _, rfl⟩

theorem epochBoundary_ledgerOnly (merge : Bool) (x : Instant) (s : State) : LedgerOnly s (epochBoundary merge x s) := by
  unfold epochBoundary
  split
  · exact .refl s
  · refine LedgerOnly.trans ?_ (takeBuffered_ledgerOnly _)
    split
    · exact mergeEpochs_ledgerOnly _ s
    · refine LedgerOnly.trans ?_ (swapBanks_ledgerOnly _ _ _)
      split
      · exact mergeEpochs_ledgerOnly _ s
      · exact .refl s

/-- A Ledger boundary changes no more than the Ledger, the console and counters. -/
theorem ledgerBoundary_ledgerOnly (s : State) : LedgerOnly s (ledgerBoundary s) := by
  unfold ledgerBoundary
  split
  · refine LedgerOnly.trans (t := { s with led := { s.led with due := [] } }) ⟨_, _, _, rfl⟩ (.foldl (fun t x => ?_) _ _)
    split
    · exact epochBoundary_ledgerOnly _ x t
    · exact .refl t
  · exact .refl s

/-! ### The Frame boundary (Table 00-4) -/

/-- MAC_PTP takes effect in the ports and the access log alone. -/
theorem ptpBoundary_frame (p : Nat) (s : State) : ∃ q u, ptpBoundary p s = { s with ports := q, up := u } := by
  unfold ptpBoundary
  dsimp only
  split <;> exact ⟨_, _, rfl⟩

/-- LKP_SPEC_CFG takes effect in the lookup units and the access log alone. -/
theorem specBoundary_frame (k : Nat) (s : State) : ∃ l u, specBoundary k s = { s with lkps := l, up := u } := by
  unfold specBoundary
  dsimp only
  split <;> exact ⟨_, _, rfl⟩

/-- A Frame boundary changes the ports, the lookup units and the access log alone. -/
theorem frameBoundary_frame (p : Nat) (s : State) : ∃ q l u, frameBoundary p s = { s with ports := q, lkps := l, up := u } := by
  unfold frameBoundary
  obtain ⟨l, u, hs⟩ := specBoundary_frame (portSlice p) (modLkp (portSlice p) (fun u => { u with cfgAct := u.cfg }) s)
  rw [hs]
  split
  · obtain ⟨q, u', hp⟩ := ptpBoundary_frame p { modLkp (portSlice p) (fun u => { u with cfgAct := u.cfg }) s with lkps := l, up := u }
    exact ⟨q, l, u', hp⟩
  · exact ⟨s.ports, l, u, rfl⟩

@[simp] theorem exhausted_frameBoundary (p k : Nat) (s : State) : exhausted (frameBoundary p s) k = exhausted s k := by
  obtain ⟨_, _, _, h⟩ := frameBoundary_frame p s; rw [h]; rfl

@[simp] theorem freeChit_frameBoundary (p k n : Nat) (s : State) : freeChit (frameBoundary p s) k n = freeChit s k n := by
  obtain ⟨_, _, _, h⟩ := frameBoundary_frame p s; rw [h]; rfl

@[simp] theorem slicesMove_frameBoundary (p k : Nat) (s : State) : slicesMove (frameBoundary p s) k = slicesMove s k := by
  obtain ⟨_, _, _, h⟩ := frameBoundary_frame p s; rw [h]; rfl

@[simp] theorem timeTotal_frameBoundary (p : Nat) (s : State) : timeTotal (frameBoundary p s) = timeTotal s := by
  obtain ⟨_, _, _, h⟩ := frameBoundary_frame p s; rw [h]; rfl

/-! ### The new chit (R24, R48, R182) -/

@[simp] theorem stationMatch_ledgerBoundary (p : Nat) (bs : List Byte) (s : State) : stationMatch (ledgerBoundary s) p bs = stationMatch s p bs := by
  obtain ⟨_, _, _, h⟩ := ledgerBoundary_ledgerOnly s; rw [h]; rfl

@[simp] theorem timeTotal_ledgerBoundary (s : State) : timeTotal (ledgerBoundary s) = timeTotal s := by
  obtain ⟨_, _, _, h⟩ := ledgerBoundary_ledgerOnly s; rw [h]; rfl

/-- A Tally event of a frame's chit keeps what does not depend on the events that the chit holds in escrow (R482). -/
theorem chitAt_tallyEvent {P : Chit → Prop} (hP : ∀ c es, P c → P { c with tally := es }) {s : State} {n i ev amt : Nat} {q : Nat → Bool}
    (h : ∃ c, chitAt s n = some c ∧ P c) : ∃ c, chitAt (tallyEvent i ev amt q (some n) s) n = some c ∧ P c := by
  unfold tallyEvent
  refine List.foldlRecOn (motive := fun t => ∃ c, chitAt t n = some c ∧ P c) _ _ h ?_
  rintro t ⟨c, hc, hPc⟩ k -
  have hkeep (j : Nat) : ∃ d, chitAt (addTally j amt t) n = some d ∧ P d := ⟨c, hc, hPc⟩
  simp only [hc]
  split
  · split
    · split
      · exact ⟨_, chitAt_modChit t _ hc, hP _ _ hPc⟩
      · split
        · exact hkeep _
        · exact ⟨c, hc, hPc⟩
    · exact hkeep _
  · exact ⟨c, hc, hPc⟩

/-- A lookup unit's change leaves every chit alone. -/
theorem chitAt_modLkp (k m : Nat) (f : LkpState → LkpState) (s : State) : chitAt (modLkp k f s) m = chitAt s m := rfl

/-- Writing a chit's escrow words afresh leaves every chit alone. -/
theorem chitAt_cleanseEscrow (n m : Nat) (ws : List Nat) (s : State) :
    chitAt (ws.foldl (fun s w => cleanse (.escrow n w) s) s) m = chitAt s m :=
  List.foldlRecOn (motive := fun t => chitAt t m = chitAt s m) ws _ rfl fun _ h _ _ => h

/-- A frame has just started: its chit is provisional and held, with its bytes, port, station match and time of arrival. -/
def Started (p : Nat) (bs : List Byte) (station : Option Nat) (at_ : Nat) (c : Chit) : Prop :=
  c.status = .provisional ∧ c.port = p ∧ c.bytes = bs ∧ c.station = station ∧ c.rxAt = at_ ∧ c.hold = true

/-- The chit that a frame of a port gets. -/
theorem chitAt_allocate (p n : Nat) (pm : Bool) (bs : List Byte) (s : State) :
    ∃ c, chitAt (allocate p n pm bs none s) n = some c ∧ Started p bs (stationMatch s p bs) (timeTotal s) c := by
  have hcount (b : Bool) (t : State) : chitAt (if b then bumpMac Ctr.macRxStation p 1 t else t) n = chitAt t n := by
    cases b
    · rfl
    · exact chitAt_bumpMac ..
  unfold allocate tallyFrame
  refine chitAt_tallyEvent (fun _ _ h => h) (chitAt_tallyEvent (fun _ _ h => h) ?_)
  rw [hcount, chitAt_modLkp, chitAt_cleanseEscrow, chitAt_setChit]
  exact ⟨_, rfl, rfl, rfl, rfl, stationMatch_ledgerBoundary .., timeTotal_ledgerBoundary s, rfl⟩

/-! ### FRAME_START (R25, R47) -/

/-- A front port that is not in near-end loopback receives what the line brings. -/
theorem frameSource_line {s : State} {p : Nat} (hp : p < 512) (hl : (portAt s p).cfg.loopback ≠ 1) (bs : List Byte) :
    frameSource s p false bs = some (false, bs) := by
  have hr : ¬ 513 ≤ p := by omega
  simp [frameSource, isRecirc, hl, hr]

/-- The line keeps no frame. -/
theorem popSource_line {s : State} {p : Nat} (hp : p < 512) (hl : (portAt s p).cfg.loopback ≠ 1) : popSource p s = s := by
  have hr : ¬ 513 ≤ p := by omega
  simp [popSource, isRecirc, hl, hr]

section FirstByte
variable {s : State} {p n : Nat} {bs : List Byte}
  (hp : p < 512) (hr : receives s p = true) (hb : bs ≠ []) (hl : (portAt s p).cfg.loopback ≠ 1) (he : (rxAt s p).emac = none)
  (hm : slicesMove s (portSlice p) = false)
include hp hr hb hl he hm

/-- A frame that starts on an idle eMAC gets the free chit that is offered. -/
theorem frameStart_allocates (hx : exhausted s (portSlice p) = false) (hf : freeChit s (portSlice p) n = true) :
    frameStart p n false bs s =
      let u := frameBoundary p s
      setRx p false (some { chit := some (n, u.chitSeq), bytes := bs }) (allocate p n false bs none u) := by
  simp [frameStart, frameSource_line hp hl, popSource_line hp hl, hr, hb, he, hm, hx, hf]

/-- In a slice with no chit to give the eMAC receives it without one, and it is counted (R25). -/
theorem frameStart_exhausted (hx : exhausted s (portSlice p) = true) :
    frameStart p n false bs s = bump (Ctr.lkpChitExh (portSlice p)) (setRx p false (some { chit := none, bytes := bs }) (frameBoundary p s)) := by
  simp [frameStart, frameSource_line hp hl, popSource_line hp hl, hr, hb, he, hm, hx]

end FirstByte

/-! ### CELL_ALLOCATE (R207, R212) -/

/-- Sending a pause frame leaves the chits alone. -/
@[simp] theorem chits_sendPause (p prio time : Nat) (s : State) : (sendPause p prio time s).chits = s.chits := by
  unfold sendPause loopBack bumpMac
  dsimp only
  repeat' split
  all_goals rfl

/-- So does what a MAC answers when its stops change. -/
@[simp] theorem chits_macSignal (p before after : Nat) (s : State) : (macSignal p before after s).chits = s.chits := by
  unfold macSignal
  dsimp only
  split
  · split
    · split
      · exact chits_sendPause ..
      · split
        · exact chits_sendPause ..
        · rfl
    · split
      · refine List.foldlRecOn (motive := fun t : State => t.chits = s.chits) _ _ rfl fun t ht k _ => ?_
        split
        · exact (chits_sendPause ..).trans ht
        · split
          · exact (chits_sendPause ..).trans ht
          · exact ht
      · rfl
  · rfl

/-- So does a pool's change. -/
@[simp] theorem chits_changePool (p : Nat) (f : Pool → Pool) (s : State) : (changePool p f s).chits = s.chits :=
  List.foldlRecOn (motive := fun t : State => t.chits = s.chits) _ _ rfl fun _ ht _ _ => (chits_macSignal ..).trans ht

/-- So does taking a cell. -/
@[simp] theorem chits_takeCell (cell n gen p pair : Nat) (borrow : Bool) (s : State) : (takeCell cell n gen p pair borrow s).chits = s.chits := by
  unfold takeCell addUse
  rw [bumpIf_frame]
  cases borrow <;> simp

/-- Two changes of a held chit that agree on it are the same. -/
theorem modChit_congr {s : State} {n : Nat} {c : Chit} {f g : Chit → Chit} (hc : chitAt s n = some c) (h : f c = g c) :
    modChit n f s = modChit n g s := by
  rw [modChit, modChit, hc]
  exact congrArg (fun d => setChit n (some d) s) h

section FirstCell
variable {s : State} {n : Nat} {c : Chit} (hc : chitAt s n = some c) (hd : cellDue c = true) (h0 : c.chain = [])
  (hlong : (isFront c.port && cellTooLong (portAt s c.port).cfg.maxLen 0 c) = false)
include hc hd h0 hlong

/-- The first cell of a frame that the Mint grants starts its chain, and the frame joins the dispatcher's line. -/
theorem cellAllocate_first {borrow : Bool} {cell : Nat} (hg : grant s (framePool s n c).1 = some borrow)
    (hf : findCell s (if c.plain then 131072 else cellsTotal s) (chitIndex n % 16) = some cell) :
    cellAllocate n true s = bridgeFeed n (plainFinish n (joinLine n
      (modChit n (fun c => { c with chain := c.chain ++ [(cell, borrow)], pool := (framePool s n c).1, pri := (framePool s n c).2 })
        (cleanseCell cell (if c.pmac && !c.ended then 32 else cellWords c.bytes.length 0)
          (takeCell cell n (tabGet 0 s.gens n) (framePool s n c).1 (c.port * 8 + (framePool s n c).2) borrow s))))) := by
  have hc' (k w : Nat) : chitAt (cleanseCell cell k (takeCell cell n (tabGet 0 s.gens n) (framePool s n c).1 w borrow s)) n = some c :=
    (congrArg (tabGet none · n) (chits_takeCell ..)).trans hc
  rw [modChit_congr (g := fun d => { d with chain := d.chain ++ [(cell, borrow)], pool := (framePool s n c).1, pri := (framePool s n c).2 })
    (hc' _ _) rfl]
  simp [cellAllocate, hc, hd, h0, hlong, hg, hf]

/-- A first cell that the Mint does not grant is refused. -/
theorem cellAllocate_refused (hg : grant s (framePool s n c).1 = none) :
    cellAllocate n true s = refuseCell n (framePool s n c).1 c s := by
  simp [cellAllocate, hc, hd, h0, hlong, hg]

end FirstCell

/-! ### The frame that a MAC receives (R24) -/

/-- A frame that a MAC receives holds chit `n` exactly when its chit number is `n` and that chit is still the one allocated to it. -/
theorem rxChit_eq_some {s : State} {f : RxFrame} {n : Nat} : rxChit s f = some n ↔ ∃ c, f.chit = some (n, c.order) ∧ chitAt s n = some c := by
  unfold rxChit
  cases f.chit with
  | none => simp
  | some x =>
    obtain ⟨m, o⟩ := x
    dsimp only
    rw [Option.ite_none_right_eq_some, Option.any_eq_true]
    constructor
    · rintro ⟨⟨c, hc, ho⟩, ⟨⟩⟩
      exact ⟨c, by rw [of_decide_eq_true ho], hc⟩
    · rintro ⟨c, ⟨⟩, hc⟩
      exact ⟨⟨c, hc, decide_eq_true rfl⟩, rfl⟩

/-- Counting in a MAC does not change which chit a frame holds. -/
@[simp] theorem rxChit_bumpMac (f : Nat → Nat) (p n : Nat) (s : State) (g : RxFrame) : rxChit (bumpMac f p n s) g = rxChit s g := by
  rw [bumpMac_frame]; rfl

/-! ### FRAGMENT_RECEIVE (R63) -/

/-- The last fragment of the pMAC frame that a port assembles, in sequence, is appended. -/
theorem fragmentReceive_last {s : State} {p n : Nat} {f : Frag} {g : RxFrame} (hr : receives s p = true) (hs : f.start = false)
    (hg : (rxAt s p).pmac = some g) (hn : rxChit s g = some n) (hc : f.fragCnt = ((rxAt s p).frag + 1) % 4) (hl : f.last = true) :
    fragmentReceive p f s = modRx p (fun x => { x with frag := f.fragCnt, pmac := some { g with bytes := g.bytes ++ f.bytes } })
      (modChit n (fun c => { c with bytes := c.bytes ++ f.bytes }) (bumpMac Ctr.macRxFrag p 1 s)) := by
  obtain ⟨c, hchit, -⟩ := rxChit_eq_some.1 hn
  simp [fragmentReceive, hr, hs, hg, hchit, hc, hl, hn]

/-! ### FRAME_END (R40, R46) -/

/-- What the MAC's verdict on a frame finds: the decoder's report counted, its receive side idle again, its chit told of the end. -/
def frameEnded (s : State) (p n : Nat) (pm : Bool) (r : PcsRx) : State :=
  bridgeFeed n (modChit n (fun c => { c with ended := true }) (setRx p pm none (countPcs p r s)))

/-- The decoder's report changes counters alone. -/
theorem countPcs_frame (p : Nat) (r : PcsRx) (s : State) : ∃ c, countPcs p r s = { s with ctr := c } := by
  unfold countPcs
  split
  · refine List.foldlRecOn (motive := fun t => ∃ c, t = { s with ctr := c }) _ _ ?_ ?_
    · exact ⟨_, rfl⟩
    · rintro t ⟨c, rfl⟩ i -
      exact ⟨_, rfl⟩
  · exact ⟨s.ctr, rfl⟩

@[simp] theorem rxFrame_countPcs (p q : Nat) (pm : Bool) (r : PcsRx) (s : State) : rxFrame (countPcs p r s) q pm = rxFrame s q pm := by
  obtain ⟨_, h⟩ := countPcs_frame p r s; rw [h]; rfl

@[simp] theorem chitAt_countPcs (p m : Nat) (r : PcsRx) (s : State) : chitAt (countPcs p r s) m = chitAt s m := by
  obtain ⟨_, h⟩ := countPcs_frame p r s; rw [h]; rfl

@[simp] theorem portAt_countPcs (p q : Nat) (r : PcsRx) (s : State) : portAt (countPcs p r s) q = portAt s q := by
  obtain ⟨_, h⟩ := countPcs_frame p r s; rw [h]; rfl

/-- A chit's change leaves every port alone. -/
@[simp] theorem portAt_modChit (n q : Nat) (f : Chit → Chit) (s : State) : portAt (modChit n f s) q = portAt s q := by
  unfold modChit; split <;> rfl

/-- Feeding a speculative copy's bridge changes the transmit sides alone. -/
theorem bridgeFeed_frame (n : Nat) (s : State) : ∃ t, bridgeFeed n s = { s with txs := t } := by
  unfold bridgeFeed
  repeat' split
  all_goals exact ⟨_, rfl⟩

@[simp] theorem chitAt_bridgeFeed (n m : Nat) (s : State) : chitAt (bridgeFeed n s) m = chitAt s m := by
  obtain ⟨_, h⟩ := bridgeFeed_frame n s; rw [h]; rfl

@[simp] theorem portAt_bridgeFeed (n q : Nat) (s : State) : portAt (bridgeFeed n s) q = portAt s q := by
  obtain ⟨_, h⟩ := bridgeFeed_frame n s; rw [h]; rfl

theorem portAt_frameEnded (s : State) (p n q : Nat) (pm : Bool) (r : PcsRx) : portAt (frameEnded s p n pm r) q = portAt s q :=
  (portAt_bridgeFeed ..).trans ((portAt_modChit ..).trans (portAt_countPcs ..))

section LastByte
variable {s : State} {p n : Nat} {pm : Bool} {g : RxFrame}

/-- The frame still holds its chit when the MAC judges it. -/
theorem rxChit_frameEnded (hn : rxChit s g = some n) (r : PcsRx) : rxChit (frameEnded s p n pm r) g = some n := by
  obtain ⟨c, hchit, hc⟩ := rxChit_eq_some.1 hn
  exact rxChit_eq_some.2 ⟨{ c with ended := true }, hchit,
    (chitAt_bridgeFeed ..).trans (chitAt_modChit _ _ ((chitAt_countPcs ..).trans hc))⟩

/-- At a frame's last byte the MAC judges it. -/
theorem frameEnd_judges (hg : rxFrame s p pm = some g) (hcut : g.cut = false) (hn : rxChit s g = some n) (room : Bool) (r : PcsRx) :
    frameEnd p pm room r s = judgeFrame p room r.hit g (frameEnded s p n pm r) := by
  obtain ⟨c, hchit, hc⟩ := rxChit_eq_some.1 hn
  have hn' : rxChit (setRx p pm none (countPcs p r s)) g = some n := rxChit_eq_some.2 ⟨c, hchit, (chitAt_countPcs ..).trans hc⟩
  simp [frameEnd, hg, hchit, hcut, hn', frameEnded]

end LastByte

/-! The verdict on a frame of at least 64 bytes that holds chit `n`, on a front port. -/

section Verdict
variable {u : State} {p n : Nat} {g : RxFrame} (hn : rxChit u g = some n)
include hn

/-- An overrun of the receive bridge voids it with cause 3. -/
theorem judgeFrame_overrun (hp : p < 512) (hit : Bool) : judgeFrame p false hit g u = voidChit n 3 (bumpMac Ctr.macRxBridgeOvr p 1 u) := by
  simp [judgeFrame, isFront, hp, voidRx, hn]

/-- A frame longer than MAX_LEN voids with cause 2. -/
theorem judgeFrame_oversize (hp : p < 512) (hit : Bool) (hl : (portAt u p).cfg.maxLen < g.bytes.length) :
    judgeFrame p true hit g u = voidChit n 2 (bumpMac Ctr.macRxOversize p 1 u) := by
  simp [judgeFrame, isFront, hp, hl, voidRx, hn]

/-- A bad FCS, or a byte in an uncorrectable codeword, voids it with cause 1. -/
theorem judgeFrame_badFcs {hit : Bool} (h64 : 64 ≤ g.bytes.length) (hl : g.bytes.length ≤ (portAt u p).cfg.maxLen)
    (hbad : hit = true ∨ goodFcs g.bytes = false) : judgeFrame p true hit g u = voidChit n 1 (bumpMac Ctr.macRxFcsErr p 1 u) := by
  have hgood : (!hit && goodFcs g.bytes) = false := by obtain h | h := hbad <;> simp [h]
  simp [judgeFrame, Nat.not_lt.2 hl, Nat.not_lt.2 h64, hgood, voidRx, hn]

/-- Otherwise it is counted and may settle. -/
theorem judgeFrame_good (h64 : 64 ≤ g.bytes.length) (hl : g.bytes.length ≤ (portAt u p).cfg.maxLen)
    (hgood : goodFcs g.bytes = true) (hctl : isMacControl g.bytes = false) :
    judgeFrame p true false g u = plainFinish n (settleSpec n (modChit n (fun c => { c with fcsGood := true })
      (bumpMac Ctr.macRxOctets p g.bytes.length (bumpMac Ctr.macRxFrames p 1 u)))) := by
  simp [judgeFrame, Nat.not_lt.2 hl, Nat.not_lt.2 h64, hgood, hctl, hn]

end Verdict

/-! ### INJECT_FRAME (R358) -/

section Chain
variable {s : State} {j : Inject} (hd : canDma s = true) (hj : s.hif.inject = some j)
include hd hj

/-- A chain whose length is out of range or not that of its buffers is discarded and counted. -/
theorem injectFrame_bad (n : Nat) (hbad : fld (j.words.getD 1 0#32) 13 0 < 64 ∨ fld (j.words.getD 1 0#32) 13 0 > 16352
      ∨ (j.buffers.map fun b => b.2).sum ≠ fld (j.words.getD 1 0#32) 13 0 - 4) :
    injectFrame n s = endInject j (bump Ctr.hifInjBad s) := by
  simp only [injectFrame, hj, hd, if_true]
  exact if_pos (hbad.imp_right (Or.imp_right .inl))

/-- A good one that is not DIRECT enters S0 on port 512 with the free chit that is offered. -/
theorem injectFrame_good {n : Nat} (h64 : 64 ≤ fld (j.words.getD 1 0#32) 13 0) (hmax : fld (j.words.getD 1 0#32) 13 0 ≤ 16352)
    (hsum : (j.buffers.map fun b => b.2).sum = fld (j.words.getD 1 0#32) 13 0 - 4) (hdirect : bit (j.words.getD 1 0#32).toNat 21 = false)
    (hx : exhausted s 0 = false) (hf : freeChit s 0 n = true) (hr : receives s 512 = true) (he : (rxAt s 512).emac = none) :
    injectFrame n s =
      let w1 := j.words.getD 1 0#32
      let body := (j.buffers.map fun b => hostRead s b.1 b.2).flatten
      let bytes := body ++ fcsOf body
      let info : InjectInfo := ⟨bit w1.toNat 14, bit w1.toNat 15, fld (j.words.getD 3 0#32) 31 16, false, fld (j.words.getD 2 0#32) 23 0
        , fld w1 20 17, bit w1.toNat 16⟩
      endInject j (bump Ctr.hifInjFrames (setRx 512 false (some { chit := some (n, s.chitSeq), bytes := bytes })
        (allocate 512 n false bytes (some info) (frameBoundary 512 s)))) := by
  simp [-List.getD_eq_getElem?_getD, injectFrame, hj, hd, Nat.not_lt.2 h64, Nat.not_lt.2 hmax, hsum, hdirect, hx, hf, hr, he]

end Chain

/-- An event of a chit happens while the chit's slice runs. -/
theorem onChit_runs {n : Nat} {s : State} (hn : n < 262144) (hr : coreRuns s (chitSlice n) = true) (f : Nat → State → State) :
    onChit n f s = .next (f n s) := by
  rw [onChit, if_pos hr]
  exact onUnit_next.2 ⟨decide_eq_true hn, rfl⟩

/-- Settles O35: the hypotheses of each clause choose one case of its event's meaning, which the lemmas above state. -/
theorem framesEnterThroughTheirEvents : Obligations.FramesEnterThroughTheirEvents := by
  unfold Obligations.FramesEnterThroughTheirEvents
  intro s p n bs f c g
  refine ⟨?start, ?cell, ?fragment, ?frameEnd, ?inject⟩
  case start =>
    intro hp hk hr hb hn hl he hm
    have hm' : slicesMove s (portSlice p) = false := decide_eq_false hm
    have hexec : exec (.frameStart p n false bs) s = .next (frameStart p n false bs s) := by
      change execFrameStart p n false bs s = _
      have h512 : p ≠ 512 := by omega
      have hport : p ≤ 528 := by omega
      simp [execFrameStart, isPort, hport, hk, hn, h512]
    rw [hexec]
    refine ⟨fun hx hf => ?_, fun hx => ?_⟩
    · obtain ⟨d, hd, hstart⟩ := chitAt_allocate p n false bs (frameBoundary p s)
      obtain ⟨hs, hport, hbytes, hstation, hat, hhold⟩ := hstart
      rw [timeTotal_frameBoundary] at hat
      rw [frameStart_allocates hp hr hb hl he hm' hx hf]
      exact ⟨d, rfl, hd, hs, hport, hbytes, hstation, hat, hhold⟩
    · rw [frameStart_exhausted hp hr hb hl he hm' hx]
  case cell =>
    intro hn hr hc hd h0 hlong
    have hexec : exec (.cellAllocate n true) s = .next (cellAllocate n true s) := onChit_runs hn hr fun n => cellAllocate n true
    rw [hexec]
    refine ⟨fun borrow cell hg hf => ?_, fun hg => ?_⟩
    · rw [cellAllocate_first hc hd h0 hlong hg hf]
    · rw [cellAllocate_refused hc hd h0 hlong hg]
  case fragment =>
    intro hp he hr hs hg hn hc hl
    change execFragmentReceive p f s = _
    rw [execFragmentReceive, if_pos (isFront_and_enabled hp he), fragmentReceive_last hr hs hg hn hc hl]
  case frameEnd =>
    intro pm r hp he hr hg hcut hn h64
    have hexec (room : Bool) : exec (.frameEnd ⟨p, pm⟩ ⟨room, r⟩) s = .next (judgeFrame p room r.hit g (frameEnded s p n pm r)) := by
      change execFrameEnd ⟨p, pm⟩ ⟨room, r⟩ s = _
      rw [execFrameEnd, if_pos hr, frameEnd_judges hg hcut hn]
      exact onUnit_next.2 ⟨isPort_and_enabled hp he, rfl⟩
    have hn' := rxChit_frameEnded (p := p) (pm := pm) hn r
    have hmax := portAt_frameEnded s p n p pm r
    rw [hexec, hexec, ← hmax]
    refine ⟨fun hl hhit hgood hctl => ?_, fun hl hbad => ?_, fun hl => ?_, ?_⟩
    · rw [hhit, judgeFrame_good hn' h64 hl hgood hctl]; rfl
    · rw [judgeFrame_badFcs hn' h64 hl hbad]; rfl
    · rw [judgeFrame_oversize hn' hp _ hl]; rfl
    · rw [judgeFrame_overrun hn' hp]; rfl
  case inject =>
    intro j hn hr hd hj
    have hslice : chitSlice n = 0 := Nat.div_eq_of_lt hn
    have hexec : exec (.injectFrame n) s = .next (injectFrame n s) := onChit_runs (by omega) (hslice ▸ hr) _
    rw [hexec]
    refine ⟨fun hbad => ?_, fun h64 hmax hsum hdirect hx hf hrec he => ?_⟩
    · rw [injectFrame_bad hd hj n hbad]
    · rw [injectFrame_good hd hj h64 hmax hsum hdirect hx hf hrec he]

end Sys2Proof.Proofs.Ingress
end

section
/-! SUPPORT. Frames on their way out (chapters 07, 09 and 10): how a copy in progress gets its FCS, ends or underruns, how gates turn and when
telemetry samples. -/
namespace Sys2Proof.Proofs.Egress
open Sys2Proof Sys2Proof.Machine Sys2Proof.Laws Sys2Proof.Proofs.FrontPorts

/-! ### The copy in progress -/

section InProgress
variable {s : State} {p : Nat} {t : Tx} {c : Chit}

/-- A copy whose gate closes at no known instant is not held. -/
theorem gateHold_of_closeAt_none (ht : (txAt s p).tx = some t) (hc : t.closeAt = none) : gateHold p s = s := by
  simp [gateHold, ht, hc]

section Begun
variable (ht : (txAt s p).tx = some t) (hf : t.fcs = none) (hb : t.began = true)
include ht hf hb

/-- A buffer copy whose chain reads without poison goes out whole (R223). -/
theorem egressFcs_clean (hg : t.closeAt = none) (hc : chitAt s t.copy.chit = some c) {m : Nat}
    (hk : t.copy.kind = .forward ∨ t.copy.kind = .mirror m) (hclean : chainPoisoned s c = (none, false)) : egressFcs p s = sendGood p t c s := by
  unfold egressFcs
  obtain hk | hk := hk <;> simp [gateHold_of_closeAt_none ht hg, ht, hf, hb, hc, hk, hclean]

/-- A speculative copy of a settled frame goes out whole (R181). -/
theorem egressFcs_settled (hg : t.closeAt = none) (hc : chitAt s t.copy.chit = some c) (hk : t.copy.kind = .express ∨ t.copy.kind = .cut)
    (hs : c.status = .settled) : egressFcs p s = sendGood p t c s := by
  unfold egressFcs
  obtain hk | hk := hk <;> simp [gateHold_of_closeAt_none ht hg, ht, hf, hb, hc, hk, hs]

/-- One of a frame that has ended and voided is stomped at its FCS (R29, R181). -/
theorem egressFcs_voided (hg : t.closeAt = none) (hc : chitAt s t.copy.chit = some c) (hk : t.copy.kind = .express ∨ t.copy.kind = .cut)
    (hs : c.status = .voided) (he : c.ended = true) : egressFcs p s = stompSpec t.copy.chit .void true s := by
  unfold egressFcs
  obtain hk | hk := hk <;> simp [gateHold_of_closeAt_none ht hg, ht, hf, hb, hc, hk, hs, he]

/-- An underrun fails a speculative copy, which is sent again if its frame has settled (R45). -/
theorem txUnderrun_spec (hk : t.copy.kind = .express ∨ t.copy.kind = .cut) :
    txUnderrun p s = redispatch t.copy.chit (failSpec p t (bumpMac Ctr.macTxUnderrun p 1 s)) := by
  unfold txUnderrun
  obtain hk | hk := hk <;> simp [ht, hf, hb, hk]

/-- An underrun of a buffer copy sent for the first time queues it again at the head, with a reference of its own (R45, R219). -/
theorem txUnderrun_first (hc : chitAt s t.copy.chit = some c) (hk : t.copy.kind = .forward) (ha : t.copy.again = false) (hr : c.refs < 1023) :
    txUnderrun p s = stompTx p t t.copy.len
      (modTx p (fun x => setQueue t.copy.queue ({ t.copy with again := true } :: queueAt x t.copy.queue) x)
        (modChit t.copy.chit (fun c => { c with refs := c.refs + 1 }) (bumpMac Ctr.macTxUnderrun p 1 s))) := by
  unfold txUnderrun
  simp [ht, hf, hb, hk, ha, hr, addRef, chitAt_bumpMac, hc]

/-- An underrun of one sent again loses it (R45). -/
theorem txUnderrun_again (hk : t.copy.kind = .forward) (ha : t.copy.again = true) :
    txUnderrun p s = stompTx p t t.copy.len (loseCopy p t.copy (bumpMac Ctr.macTxUnderrun p 1 s)) := by
  unfold txUnderrun
  simp [ht, hf, hb, hk, ha]

end Begun

/-- A copy whose FCS has gone out ends on a front port: what it sent counts toward damping, and its reference ends (R66, R219). -/
theorem copyEnd_front (hp : p < 512) (ht : (txAt s p).tx = some t) (hf : t.fcs ≠ none) :
    copyEnd p s =
      let e := modPort p (fun q => { q with damp := { q.damp with idleAt := s.cycles } }) (modTx p (fun x => { x with tx := none }) s)
      dropRef t.copy.chit (if t.bytes.isEmpty then e
        else loopBack p (isPmac e p t.copy.queue) t.bytes (noteSent p (8 * (t.bytes.length + 20)) e)) := by
  unfold copyEnd
  simp [ht, Option.isSome_iff_ne_none.2 hf, isFront, hp]

end InProgress

/-! ### Gates (R238, R239) -/

section Gates
variable {s : State} {p : Nat} {l : GateList}

/-- A waiting list comes into force at an instant of its trigger that the port has not seen. -/
theorem gateCycle_pending (hl : (txAt s p).gate.pending = some (some l)) (hn : (trigAt s l.trigger).fires ≠ (txAt s p).gate.pendSeen) :
    gateCycle p s = modTx p (fun x => { x with gate := { x.gate with
      oper := some l, entry := 0, entryAt := (trigAt s l.trigger).lastAt, cycleAt := (trigAt s l.trigger).lastAt, pending := none
      seen := (trigAt s l.trigger).fires } }) s := by
  simp [gateCycle, hl, hn]

/-- An entry whose interval has passed gives way to the next. -/
theorem gateEntry_due (hl : (txAt s p).gate.oper = some l) (hn : (txAt s p).gate.entry + 1 < l.entries.length)
    (hd : (txAt s p).gate.entryAt + (l.entries.getD (txAt s p).gate.entry (0, 0)).2 ≤ timeTotal s) :
    gateEntry p s = modTx p (fun x => { x with gate := { x.gate with
      entry := (txAt s p).gate.entry + 1
      entryAt := (txAt s p).gate.entryAt + (l.entries.getD (txAt s p).gate.entry (0, 0)).2 } }) s := by
  simp only [gateEntry, hl]
  exact if_pos ⟨hn, hd⟩

end Gates

/-! ### Telemetry (R245) -/

/-- A slice that samples, with no change waiting, samples its ports at an instant that it has not seen. -/
theorem telemetrySample_due {s : State} {k : Nat} {v : Telemetry} (hv : tabGet {} s.tele k = v) (hn : v.next = none) (ho : v.on = true)
    (hf : (trigAt s v.trigger).fires ≠ v.seen) :
    telemetrySample k s = (List.range 32).foldl (samplePort k (trigAt s v.trigger).lastAt v.mask)
      { s with tele := tabSet {} s.tele k { v with seen := (trigAt s v.trigger).fires } } := by
  simp [telemetrySample, hv, hn, ho, hf]

/-- Settles O41: the hypotheses of each clause choose one case of its event's meaning, which the lemmas above state. -/
theorem copiesEndAndGatesTurn : Obligations.CopiesEndAndGatesTurn := by
  unfold Obligations.CopiesEndAndGatesTurn
  intro s p k c t l
  refine ⟨?copy, ?cycle, ?entry, ?telemetry, ?gates⟩
  case copy =>
    intro hp he ht
    have hfcs : exec (.egressFcs p) s = .next (egressFcs p s) := onUnit_next.2 ⟨isPort_and_enabled hp he, rfl⟩
    have hend : exec (.copyEnd p) s = .next (copyEnd p s) := onUnit_next.2 ⟨isPort_and_enabled hp he, rfl⟩
    have hrun : exec (.txUnderrun p) s = .next (txUnderrun p s) := onUnit_next.2 ⟨isFront_and_enabled hp he, rfl⟩
    rw [hfcs, hend, hrun]
    refine ⟨fun hf hb hg hc => ⟨fun m hk hclean => ?_, fun hk => ⟨fun hs => ?_, fun hs hended => ?_, ?_⟩, fun hk ha hr => ?_,
      fun hk ha => ?_⟩, fun hf => ?_⟩
    · rw [egressFcs_clean ht hf hb hg hc hk hclean]
    · rw [egressFcs_settled ht hf hb hg hc hk hs]
    · rw [egressFcs_voided ht hf hb hg hc hk hs hended]
    · rw [txUnderrun_spec ht hf hb hk]
    · rw [txUnderrun_first ht hf hb hc hk ha hr]
    · rw [txUnderrun_again ht hf hb hk ha]
    · rw [copyEnd_front hp ht hf]
  case cycle =>
    intro hp he hl hn
    exact onUnit_next.2 ⟨isFront_and_enabled hp he, congrArg (gateHold p) (gateCycle_pending hl hn)⟩
  case entry =>
    intro hp he hl hn hd
    exact onUnit_next.2 ⟨isFront_and_enabled hp he, congrArg (gateHold p) (gateEntry_due hl hn hd)⟩
  case telemetry =>
    intro v hk hv hn ho hf
    exact onUnit_next.2 ⟨hk, telemetrySample_due hv hn ho hf⟩
  case gates =>
    intro x
    unfold gatesNow
    cases x.gate.oper <;> rfl

end Sys2Proof.Proofs.Egress
end

section
/-! SUPPORT. The PRBS tests of lanes stand apart from frames: no update of the path of a frame, of its cells, meters, copies and bills, writes
the lanes' test records, so that a link that goes down leaves them (R77, R78). -/
namespace Sys2Proof.Proofs.LaneTests
open Sys2Proof Sys2Proof.Machine Sys2Proof.Laws Sys2Proof.Proofs.FrontPorts

/-- A fold of steps that leave the lanes' tests alone leaves them alone. -/
theorem prbs_foldl {α : Type} {f : State → α → State} (hf : ∀ s x, (f s x).prbs = s.prbs) (xs : List α) (s : State) :
    (xs.foldl f s).prbs = s.prbs :=
  List.foldlRecOn (motive := fun t => t.prbs = s.prbs) xs f rfl fun t h x _ => (hf t x).trans h

/-! ### Counters, events and chits -/

@[simp] theorem prbs_bumpMac (f : Nat → Nat) (p n : Nat) (s : State) : (bumpMac f p n s).prbs = s.prbs := by rw [bumpMac_frame]

@[simp] theorem prbs_bumpIf (c : Bool) (a : Nat) (s : State) : (bumpIf c a s).prbs = s.prbs := by rw [bumpIf_frame]

@[simp] theorem prbs_countDefaults (cls n : Nat) (s : State) : (countDefaults cls n s).prbs = s.prbs := by
  unfold countDefaults
  split
  · rfl
  · rw [postEvent_frame]; rfl

@[simp] theorem prbs_modChit (n : Nat) (f : Chit → Chit) (s : State) : (modChit n f s).prbs = s.prbs := by
  unfold modChit; split <;> rfl

/-- One reference more, when the chit has room for it. -/
theorem prbs_of_addRef {n : Nat} {s t : State} (h : addRef n s = some t) : t.prbs = s.prbs := by
  unfold addRef at h
  split at h
  · split at h
    · cases h; exact prbs_modChit ..
    · cases h
  · cases h

@[simp] theorem prbs_tallyEvent (n ev amt : Nat) (q : Nat → Bool) (c : Option Nat) (s : State) :
    (tallyEvent n ev amt q c s).prbs = s.prbs := by
  refine prbs_foldl (fun s k => ?_) _ s
  dsimp only
  repeat' split
  all_goals simp [addTally]

/-! ### Cells and pools (chapter 09) -/

@[simp] theorem prbs_loopBack (p : Nat) (pm : Bool) (bs : List Byte) (s : State) : (loopBack p pm bs s).prbs = s.prbs := by
  unfold loopBack; dsimp only; split <;> rfl

@[simp] theorem prbs_sendPause (p k n : Nat) (s : State) : (sendPause p k n s).prbs = s.prbs := by
  unfold sendPause
  dsimp only
  split
  · split <;> simp
  · rfl

@[simp] theorem prbs_macSignal (p a b : Nat) (s : State) : (macSignal p a b s).prbs = s.prbs := by
  unfold macSignal
  dsimp only
  split
  · split
    · repeat' split
      all_goals simp
    · split
      · refine prbs_foldl (fun s k => ?_) _ s
        repeat' split
        all_goals simp
      · rfl
  · rfl

@[simp] theorem prbs_changePool (p : Nat) (f : Pool → Pool) (s : State) : (changePool p f s).prbs = s.prbs :=
  (prbs_foldl (fun _ _ => prbs_macSignal ..) _ _).trans rfl

@[simp] theorem prbs_dropUse (p k : Nat) (b : Bool) (s : State) : (dropUse p k b s).prbs = s.prbs := by
  cases b <;> simp [dropUse]

@[simp] theorem prbs_freeCell (n : Nat) (s : State) : (freeCell n s).prbs = s.prbs := by
  unfold freeCell; split <;> simp

@[simp] theorem prbs_freeChain (ch : List (Nat × Bool)) (s : State) : (freeChain ch s).prbs = s.prbs := by
  have h := prbs_foldl (fun s n => prbs_freeCell n s) (readChain s ch).1 s
  unfold freeChain
  dsimp only
  split
  · exact h
  · exact h

@[simp] theorem prbs_releaseIf (n : Nat) (s : State) : (releaseIf n s).prbs = s.prbs := by
  unfold releaseIf
  split
  · split
    · simp
    · rfl
  · rfl

@[simp] theorem prbs_dropRef (n : Nat) (s : State) : (dropRef n s).prbs = s.prbs := by simp [dropRef]

@[simp] theorem prbs_dropHold (n : Nat) (s : State) : (dropHold n s).prbs = s.prbs := by simp [dropHold]

/-! ### Stomped copies and voided frames (R30, R181) -/

@[simp] theorem prbs_stompAt (p : Nat) (t : Tx) (n : Nat) (s : State) : (stompAt p t n s).prbs = s.prbs := by
  unfold stompAt; split <;> simp

@[simp] theorem prbs_stompTx (p : Nat) (t : Tx) (n : Nat) (s : State) : (stompTx p t n s).prbs = s.prbs := by
  unfold stompTx stompPoint freeChoice; simp

@[simp] theorem prbs_stompSpec (n : Nat) (w : StompWhy) (b : Bool) (s : State) : (stompSpec n w b s).prbs = s.prbs := by
  unfold stompSpec
  dsimp only
  repeat' split
  all_goals simp

@[simp] theorem prbs_endParse (n : Nat) (s : State) : (endParse n s).prbs = s.prbs := by
  unfold endParse
  dsimp only
  split
  · rw [prbs_modChit]
    repeat' split
    all_goals rfl
  · rfl

/-- Refunding meter debits one after the other. -/
theorem prbs_refundMeters (k n i : Nat) (ds : List DebitEscrow) (a : State × Bool) : (refundMeters k n i ds a).1.prbs = a.1.prbs := by
  induction ds generalizing i a with
  | nil => rfl
  | cons d ds ih =>
    unfold refundMeters
    rw [ih]
    split <;> rfl

theorem prbs_refundPurse (k t amt : Nat) (s : State) : (refundPurse k t amt s).1.prbs = s.prbs := by
  unfold refundPurse; dsimp only; split <;> rfl

@[simp] theorem prbs_refundAll (k n : Nat) (c : Chit) (s : State) : (refundAll k n c s).prbs = s.prbs := by
  unfold refundAll
  dsimp only
  rw [prbs_bumpIf, prbs_bumpIf]
  split
  · split
    · exact prbs_refundMeters ..
    · exact (prbs_refundPurse ..).trans (prbs_refundMeters ..)
  · exact prbs_refundMeters ..

@[simp] theorem prbs_countEscrow (k bad : Nat) (s : State) : (countEscrow k bad s).prbs = s.prbs := by simp [countEscrow]

@[simp] theorem prbs_voidChit (n cause : Nat) (s : State) : (voidChit n cause s).prbs = s.prbs := by
  unfold voidChit
  dsimp only
  split
  · split
    · split <;> simp
    · rfl
  · rfl

/-! ### Billing (chapter 11) -/

@[simp] theorem prbs_ledgerBoundary (s : State) : (ledgerBoundary s).prbs = s.prbs := by
  obtain ⟨_, _, _, h⟩ := Ingress.ledgerBoundary_ledgerOnly s; rw [h]

@[simp] theorem prbs_addRow (b t : Nat) (d : Row) (s : State) : (addRow b t d s).prbs = s.prbs := by simp [addRow]

@[simp] theorem prbs_bill (k b t j len : Nat) (late : Bool) (s : State) : (bill k b t j len late s).prbs = s.prbs := by
  unfold bill
  dsimp only
  repeat' split
  all_goals simp

@[simp] theorem prbs_billCopy (k p d : Nat) (c : Chit) (s : State) : (billCopy k p d c s).prbs = s.prbs := by
  unfold billCopy
  dsimp only
  repeat' split
  all_goals simp [plainCount]

@[simp] theorem prbs_dropAdmitted (k p n : Nat) (s : State) : (dropAdmitted k p n s).prbs = s.prbs := by
  unfold dropAdmitted; split <;> simp

@[simp] theorem prbs_loseCopy (p : Nat) (c : Copy) (s : State) : (loseCopy p c s).prbs = s.prbs := by
  unfold loseCopy; split <;> simp

@[simp] theorem prbs_discardCopy (p : Nat) (c : Copy) (s : State) : (discardCopy p c s).prbs = s.prbs := by simp [discardCopy]

/-! ### Copies sent again (R45, R181) -/

@[simp] theorem prbs_gateCycle (p : Nat) (s : State) : (gateCycle p s).prbs = s.prbs := by
  unfold gateCycle
  dsimp only
  repeat' split
  all_goals rfl

@[simp] theorem prbs_gateEntry (p : Nat) (s : State) : (gateEntry p s).prbs = s.prbs := by
  unfold gateEntry
  dsimp only
  repeat' split
  all_goals rfl

@[simp] theorem prbs_entriesDue (p n : Nat) (s : State) : (entriesDue p n s).prbs = s.prbs := by
  induction n generalizing s with
  | zero => rfl
  | succ n ih => simp [entriesDue, ih]

@[simp] theorem prbs_gateHold (p : Nat) (s : State) : (gateHold p s).prbs = s.prbs := by
  unfold gateHold
  dsimp only
  repeat' split
  all_goals simp [suspend]

@[simp] theorem prbs_catchUp (p : Nat) (s : State) : (catchUp p s).prbs = s.prbs := by
  unfold catchUp; split <;> simp

@[simp] theorem prbs_noteHeld (p q : Nat) (s : State) : (noteHeld p q s).prbs = s.prbs := by
  unfold noteHeld
  repeat' split
  all_goals rfl

@[simp] theorem prbs_startRestore (p : Nat) (s : State) : (startRestore p s).prbs = s.prbs := by
  unfold startRestore; dsimp only; split <;> rfl

@[simp] theorem prbs_wakePort (p q : Nat) (s : State) : (wakePort p q s).prbs = s.prbs := by
  unfold wakePort
  dsimp only
  repeat' split
  all_goals simp

@[simp] theorem prbs_pushCopy (p : Nat) (c : Copy) (s : State) : (pushCopy p c s).prbs = s.prbs := by simp [pushCopy]

/-- A copy is queued or lost. -/
theorem prbs_enqueueCopy (p : Nat) (c : Copy) {lost : State → State} (hl : ∀ s, (lost s).prbs = s.prbs) (s : State) :
    (enqueueCopy p c lost s).prbs = s.prbs := by
  unfold enqueueCopy
  dsimp only
  split
  · simp [hl]
  · split
    · simp [hl]
    · split
      next h => simp [prbs_of_addRef h]
      · simp [hl]

@[simp] theorem prbs_makeForward (n : Nat) (s : State) : (makeForward n s).prbs = s.prbs := by
  unfold makeForward
  dsimp only
  repeat' split
  · rw [prbs_enqueueCopy _ _ (fun _ => prbs_dropAdmitted ..), prbs_countDefaults]
  · simp
  · rfl
  · rfl

@[simp] theorem prbs_redispatch (n : Nat) (s : State) : (redispatch n s).prbs = s.prbs := by
  unfold redispatch dispatchCopy
  repeat' split
  all_goals simp

@[simp] theorem prbs_failSpec (p : Nat) (t : Tx) (s : State) : (failSpec p t s).prbs = s.prbs := by simp [failSpec]

/-! ### Links (R73) -/

@[simp] theorem prbs_voidReceiving (p : Nat) (s : State) : (voidReceiving p s).prbs = s.prbs :=
  prbs_foldl (fun _ _ => prbs_voidChit ..) _ s

/-- Emptying a port's queues. -/
theorem prbs_discardQueues (p : Nat) (s : State) :
    ((List.range 16).foldl (fun s q => (queueAt (txAt s p) q).foldl (fun s c => discardCopy p c s) (modTx p (setQueue q []) s)) s).prbs
      = s.prbs := by
  refine prbs_foldl (fun s q => ?_) _ s
  rw [prbs_foldl fun _ _ => prbs_discardCopy ..]
  rfl

@[simp] theorem prbs_flushPort (p : Nat) (s : State) : (flushPort p s).prbs = s.prbs := by
  unfold flushPort
  dsimp only
  repeat' split
  all_goals simp [prbs_discardQueues]

/-- A link that goes down leaves the lanes' tests as they are. -/
@[simp] theorem prbs_linkDown (p : Nat) (s : State) : (linkDown p s).prbs = s.prbs := by
  unfold linkDown; dsimp only; split <;> simp

end Sys2Proof.Proofs.LaneTests
end

section
/-! SUPPORT. The life of a port (Table 02-5): how PORT.ENABLE is accepted and completes, how a port is disabled, and what loopback and PRBS
tests do to it (R72, R73, R76 to R78). -/
namespace Sys2Proof.Proofs.PortLife
open Sys2Proof Sys2Proof.Machine Sys2Proof.Laws Sys2Proof.Proofs.PortSettings Sys2Proof.Proofs.LaneTests

/-! ### Channels and jobs -/

/-- A command whose rules answer PENDING starts its job. -/
theorem handed_pending {s t : State} {v : Via} {code : Nat} {a : List W32} {r : Request} {body : List W32 → State → Ans} {k : JobKind}
    (h : Handed s v code a r) (hb : body a s = .pending k t) : tcsCommand code body v a s = .next (startJob v r k t) := by
  rw [tcsCommand_handed h, hb]

/-- The channels that exist have numbers of their own. -/
theorem viaNum_injective {v w : Via} (hv : viaOk v = true) (hw : viaOk w = true) (h : viaNum v = viaNum w) : v = w := by
  cases v <;> cases w
  all_goals simp only [viaOk, viaNum, decide_eq_true_eq, Via.f0.injEq, Via.f1.injEq, reduceCtorEq] at hv hw h ⊢
  all_goals omega

/-- A channel that is not the one written. -/
theorem channelAt_setChannel_ne {v w : Via} (hv : viaOk v = true) (hw : viaOk w = true) (h : w ≠ v) (c : Channel) (s : State) :
    channelAt (setChannel v c s) w = channelAt s w :=
  tabGet_tabSet_ne _ _ fun e => h (viaNum_injective hw hv e)

/-- The journal is not a channel. -/
theorem channelAt_dropJournal (v w : Via) (s : State) : channelAt (dropJournal v s) w = channelAt s w := by
  unfold dropJournal mirrorJournal; split <;> rfl

section Completion
variable {s : State} {v : Via} {j : Job}

/-- The calibration of a port whose cluster is on ends with its COMMAND_COMPLETE: the port is lit. -/
theorem lastWork_portEnable {p : Nat} (hc : channelAt s v = .running j) (hk : j.kind = .portEnable p) (ho : j.outcome = none)
    (hd : domainOn s (16 + portSlice p) = true) :
    lastWork v s = setChannel v (.running { j with outcome := some (Code.done, []) }) (portLit p s) := by
  simp [lastWork, hc, hk, ho, hd]

/-- Only a request that switches domains off dates the owner cluster's Doze. -/
theorem dozeFrom_portEnable {p : Nat} (hc : channelAt s v = .running j) (hk : j.kind = .portEnable p) : dozeFrom v s = s := by
  simp [dozeFrom, hc, hk]

/-- A job of this owner that has its outcome is answered and leaves the journal. -/
theorem commandComplete_answers {code : Nat} {res : List Byte} (hc : channelAt s v = .running j) (ho : j.outcome = some (code, res))
    (hr : s.tcs.running = true) (horph : j.orphan = false) (hprev : j.byPrevious = false) :
    commandComplete v s = answer v j.req code res (dropJournal v s) := by
  simp [commandComplete, hc, ho, hr, horph, hprev]

/-- A PORT.ENABLE completes DONE with its port lit. -/
theorem execCommandComplete_portEnable {p : Nat} (hv : viaOk v = true) (hc : channelAt s v = .running j) (hk : j.kind = .portEnable p)
    (ho : j.outcome = none) (horph : j.orphan = false) (hprev : j.byPrevious = false) (hr : s.tcs.running = true)
    (hd : domainOn s (16 + portSlice p) = true) :
    execCommandComplete v s = .next (answer v j.req Code.done []
      (dropJournal v (setChannel v (.running { j with outcome := some (Code.done, []) }) (portLit p s)))) := by
  have hrun : channelAt (setChannel v (.running { j with outcome := some (Code.done, []) }) (portLit p s)) v =
    .running { j with outcome := some (Code.done, []) } := channelAt_setChannel _ (by simp)
  unfold execCommandComplete
  rw [if_pos hv, lastWork_portEnable hc hk ho hd, dozeFrom_portEnable hrun hk, commandComplete_answers hrun rfl hr horph hprev]

end Completion

/-! ### Full-service settings -/

/-- A port that is not a plain port has its full-service settings in force. -/
theorem portAt_modFull {s : State} {p : Nat} (hk : (portAt s p).kept = none) (w : tabWf {} s.ports = true) (f : PortState → PortState) :
    portAt (modFull p f s) p = f (portAt s p) := by
  rw [modFull, portAt_modPort _ _ _ w, hk]

/-! ### Tests of lanes -/

/-- Writing the tests of lanes one after the other changes the lanes' records alone. -/
theorem foldl_setPrbs_frame (g : State → Nat → Prbs) (ls : List Nat) (s : State) :
    ∃ q, ls.foldl (fun s l => setPrbs l (g s l) s) s = { s with prbs := q } := by
  refine List.foldlRecOn (motive := fun t : State => ∃ q, t = { s with prbs := q }) ls _ ⟨s.prbs, rfl⟩ ?_
  rintro _ ⟨q, rfl⟩ l -
  exact ⟨_, rfl⟩

/-- Ending the tests of a port's lanes leaves the ports alone. -/
theorem disablePort_ports (p : Nat) (s : State) :
    (disablePort p s).ports = (modFull p (fun q => { q with cfg := { q.cfg with enabled := false, lit := false, loopback := 0 } })
      (if (portAt s p).kept.isSome then s else linkDown p s)).ports := by
  unfold disablePort
  dsimp only
  obtain ⟨q, h⟩ := foldl_setPrbs_frame (fun t l => prbsEnded t p l) (lanesOf (modFull p _ _) p) (modFull p _ _)
  rw [h]

/-- The lane mask 1 names the first lane alone. -/
theorem foldl_firstLane (f : Nat → State → State) (s : State) :
    (List.range 8).foldl (fun s i => if bit 1 i then f i s else s) s = f 0 s := rfl

/-- A started test reads back. -/
theorem prbsAt_setPrbs {l : Nat} {x : Prbs} (h : x ≠ {}) (s : State) : prbsAt (setPrbs l x s) l = x := tabGet_tabSet_self _ _ h

/-- A link that goes down leaves every test. -/
theorem prbsAt_linkDown (p l : Nat) (s : State) : prbsAt (linkDown p s) l = prbsAt s l := by
  rw [prbsAt, prbs_linkDown, prbsAt]

/-- DIAG.PRBS_GET returns four words of every lane and writes the lanes' records alone (R78). -/
theorem prbsGetCmd_spec {s : State} {a : List W32} (hf : badFront s (arg a 0) = false) :
    ∃ (ws : List W32) (q : Tab Prbs), ws.length = 4 * fullLanes s (arg a 0) ∧ prbsGetCmd a s = ok ws { s with prbs := q } := by
  obtain ⟨q, hq⟩ := foldl_setPrbs_frame (fun t l => prbsNow t (arg a 0) l) (lanesOf s (arg a 0)) s
  unfold prbsGetCmd
  rw [checked_pass (by simp [hf])]
  dsimp only
  rw [hq]
  refine ⟨_, q, ?_, rfl⟩
  have hlanes : fullLanes { s with prbs := q } (arg a 0) = fullLanes s (arg a 0) := rfl
  simp [List.length_flatten, Function.comp_def, two, lanesOf, hlanes, Nat.mul_comm]

/-- DIAG.PRBS of the first lane of a port in no loopback starts its test; the port's link, if it goes down, leaves the test (R77). -/
theorem prbsCmd_firstLane {s : State} {a : List W32} (hf : badFront s (arg a 0) = false) (h1 : arg a 1 = 1) (h2 : 1 ≤ arg a 2)
    (h2' : arg a 2 ≤ 3) (h3 : 1 ≤ arg a 3) (h3' : arg a 3 ≤ 3) (he : (fullAt s (arg a 0)).cfg.enabled = true)
    (hl : (fullAt s (arg a 0)).cfg.loopback = 0) (hn : 1 ≤ fullLanes s (arg a 0)) :
    ∃ t, prbsCmd a s = ok [] t ∧ prbsAt t (arg a 0) = { pattern := arg a 2, dir := arg a 3 } := by
  have hmask : 1 < 2 ^ fullLanes s (arg a 0) := Nat.one_lt_two_pow (by omega)
  have hpat : arg a 2 ≠ 0 := by omega
  have hset : ({ pattern := arg a 2, dir := arg a 3 } : Prbs) ≠ {} := fun e => hpat (congrArg Prbs.pattern e)
  unfold prbsCmd
  rw [checked_pass]
  · dsimp only
    rw [h1, foldl_firstLane, if_neg hpat]
    refine ⟨_, rfl, ?_⟩
    split
    · rw [prbsAt_linkDown]
      exact prbsAt_setPrbs hset s
    · exact prbsAt_setPrbs hset s
  · simp [hf, h1, he, hl]
    omega

/-- Settles O25: of each command's checks none applies, and what is left is its effect. -/
theorem portLifeCommandsTakeEffect : Obligations.PortLifeCommandsTakeEffect := by
  unfold Obligations.PortLifeCommandsTakeEffect
  intro v r s a
  refine ⟨?enable, ?complete, ?disable, ?disabled, ?loopback, ?prbs, ?prbsGet⟩
  case enable =>
    intro h hf hs hl hq he hb hd
    refine handed_pending h ?_
    unfold portEnableCmd
    rw [checked_pass (by simp [hf, hs, hl, hq, he, hb])]
    dsimp only
    rw [if_pos (show domainOn (modFull _ _ s) _ = true from hd)]
  case complete =>
    intro j hv hc hk ho horph hprev hr hd
    refine ⟨_, execCommandComplete_portEnable hv hc hk ho horph hprev hr hd, fun w hw hne => ?_, ?_⟩
    · rw [channelAt_dropJournal, channelAt_setChannel_ne hv hw hne]
      rfl
    · rw [dropJournal_frame]
      rfl
  case disable =>
    intro h hf hb
    refine handed_done (ws := []) h ?_
    unfold portDisableCmd
    rw [checked_pass (by simp [hf, hb])]
  case disabled =>
    intro hk hk' w
    change (tabGet {} (disablePort _ s).ports _).cfg = _
    rw [disablePort_ports, hk]
    exact congrArg PortState.cfg (portAt_modFull hk' w _)
  case loopback =>
    intro h hf hm he hd hp hne
    refine handed_done (ws := []) h ?_
    unfold loopbackCmd
    rw [checked_pass (by simp [hf, he, hd, hp, hm])]
    exact congrArg _ (if_neg hne)
  case prbs =>
    intro h hf h1 h2 h2' h3 h3' he hl hn
    obtain ⟨t, ht, hp⟩ := prbsCmd_firstLane hf h1 h2 h2' h3 h3' he hl hn
    exact ⟨t, handed_done (ws := []) h ht, hp⟩
  case prbsGet =>
    intro h hf
    obtain ⟨ws, q, hw, hb⟩ := prbsGetCmd_spec hf
    exact ⟨ws, q, hw, handed_done h hb⟩

end Sys2Proof.Proofs.PortLife
end

section
/-! SUPPORT. Links that come and go, and the lock of PRBS lanes (R72, R73, R77, R78). -/
namespace Sys2Proof.Proofs.Links
open Sys2Proof Sys2Proof.Machine Sys2Proof.Laws Sys2Proof.Proofs.FrontPorts

/-- A lit port without a link, whose line is free and whose slice works and serves it, gets its link (Table 02-5 step 6). -/
theorem linkUp_ready {s : State} {p : Nat} (hen : (portAt s p).cfg.enabled = true) (hlit : (portAt s p).cfg.lit = true)
    (hup : (portAt s p).linkUp = false) (hfree : lineFree s p = true) (hon : sliceOn s (16 + portSlice p) = true)
    (hrst : bit s.dev.blockRst.toNat (portSlice p) = false) (has : s.dev.asserted = 0) (hserved : served s p = true) :
    linkUp p s = postOpen 0 p (startLink p (modPort p (fun q => { q with linkUp := true, pcsLock := true }) s)) := by
  simp [linkUp, hen, hlit, hup, hfree, hon, hrst, has, hserved]

/-- A checking lane without lock locks and starts its counts of this lock. -/
theorem prbsLock_checking {s : State} {p l : Nat} (hc : checks s p l = true) (hl : (prbsAt s l).lock = false) :
    prbsLock p l s = setPrbs l { prbsAt s l with lock := true, lockAt := s.cycles, errAt := s.cycles, newErrs := 0 } s :=
  if_pos (by simp [hc, hl])

/-- A lane of the port that has lock loses it. -/
theorem prbsLockLoss_locked {s : State} {p l : Nat} (hc : (lanesOf s p).contains l = true) (hl : (prbsAt s l).lock = true) :
    prbsLockLoss p l s = setPrbs l (prbsUnlock s p l) s :=
  if_pos (by rw [hc, hl]; rfl)

/-- A lane of a front port is there for the events of PRBS lanes when no fuse disables the port. -/
theorem isFront_and_enabled_and_lane {s : State} {p l : Nat} (hp : p < 512) (he : portEnabledByFuse s p = true) (hl : l < 512) :
    (isFront p && portEnabledByFuse s p && decide (l < 512)) = true := by
  rw [isFront_and_enabled hp he, decide_eq_true hl]; rfl

/-- Settles O26: the hypotheses of each clause choose the branch of its event's meaning in which the event occurs. -/
theorem linkEventsRaiseAndDropLinks : Obligations.LinkEventsRaiseAndDropLinks := by
  unfold Obligations.LinkEventsRaiseAndDropLinks
  intro s p l
  refine ⟨?up, ?down, ?unlinked, ?lock, ?lockLoss, ?unlocked⟩
  case up =>
    intro hp he hen hlit hup hfree hon hrst has hserved
    exact onUnit_next.2 ⟨isFront_and_enabled hp he, linkUp_ready hen hlit hup hfree hon hrst has hserved⟩
  case down =>
    intro hp he hup
    exact onUnit_next.2 ⟨isFront_and_enabled hp he, if_pos hup⟩
  case unlinked => exact fun q => ⟨rfl, rfl, rfl, rfl, rfl, rfl⟩
  case lock =>
    intro hp he hl hc hlock
    exact onUnit_next.2 ⟨isFront_and_enabled_and_lane hp he hl, prbsLock_checking hc hlock⟩
  case lockLoss =>
    intro hp he hl hc hlock
    exact onUnit_next.2 ⟨isFront_and_enabled_and_lane hp he hl, prbsLockLoss_locked hc hlock⟩
  case unlocked => exact ⟨rfl, rfl⟩

end Sys2Proof.Proofs.Links
end

section
/-! SUPPORT. Pause and the pause watchdog (R49 to R58): what a received pause time, its expiry, a stop that persists and the watchdog's times
leave of their priority. -/
namespace Sys2Proof.Proofs.Pause
open Sys2Proof Sys2Proof.Machine Sys2Proof.Laws Sys2Proof.Proofs.FrontPorts

section Branches
variable {s : State} {p k : Nat}

/-- The oldest control frame is consumed, counts, acts and voids with cause 4 (R53). -/
theorem pauseReceive_oldest {f : RxFrame} {rest : List RxFrame} (h : (rxAt s p).ctls = f :: rest) :
    pauseReceive p s = voidRx f 4 (actPause p f.bytes (bumpMac Ctr.macRxPause p 1 (modRx p (fun x => { x with ctls := rest }) s))) := by
  unfold pauseReceive; rw [h]

/-- Under link pause a frame of opcode 0x0001 sets the port's pause time (R50). -/
theorem actPause_link {bs : List Byte} (hm : (portAt s p).fc.mode = 1) (ho : half bs 15 = 1) :
    actPause p bs s = setPause p 0 (half bs 17) s :=
  if_pos ⟨hm, ho⟩

/-- A pause time replaces what remained of the priority's pause; 0 ends it (R50, R51). -/
theorem paused_setPause (n : Nat) (w : tabWf {} s.ports = true) (wp : tabWf none (portAt s p).fc.paused = true) :
    (tabGet none (portAt (setPause p k n s) p).fc.paused k).map (fun x => x.till)
      = if n = 0 then none else some (s.cycles + quantaCycles s p n) := by
  unfold setPause
  dsimp only
  rw [portAt_modPort _ _ _ w, tabGet_tabSet _ _ _ _ wp, if_pos rfl]
  split <;> rfl

/-- A pause whose time has passed ends. -/
theorem pauseExpire_due {x : Pause} (hx : tabGet none (portAt s p).fc.paused k = some x) (ht : x.till ≤ s.cycles) :
    pauseExpire p k s = modPort p (fun q => { q with fc := { q.fc with paused := tabSet none q.fc.paused k none } }) s := by
  unfold pauseExpire; rw [hx]; exact if_pos ht

/-- While the stop of the priority, or of the port, persists, XOFF is sent again (R52). -/
theorem xoffRefresh_stopped (h : (portAt s p).fc.mode = 2 ∧ bit (stopMask s p) k = true
      ∨ (portAt s p).fc.mode = 1 ∧ k = 0 ∧ stopMask s p ≠ 0) :
    xoffRefresh p k s = sendPause p k (portAt s p).fc.quanta s := by
  refine if_pos ?_
  obtain ⟨hm, hb⟩ | ⟨hm, hk, hs⟩ := h
  · simp [hm, hb]
  · simp [hm, hk, hs]

/-- The watchdog of a priority that was paused and held a frame for PWD_TIME fires (R56). -/
theorem pwdFire_due {x : Pause} (hx : tabGet none (portAt s p).fc.paused k = some x) (hw : (portAt s p).fc.pwdTime ≠ 0)
    (ht : max x.since (tabGet 0 (portAt s p).fc.heldAt k) + (portAt s p).fc.pwdTime * 1000000 ≤ min s.cycles x.till)
    (hh : prioHolds s p k = true) (ha : tabGet false (portAt s p).fc.pwdActive k = false) :
    pwdFire p k s = postOpen 1 p (bumpMac Ctr.macPwdFire p 1
      (modPort p (fun q => { q with fc := { q.fc with pwdActive := tabSet false q.fc.pwdActive k true } }) s)) := by
  unfold pwdFire
  dsimp only
  rw [hx]
  exact if_pos (by rw [decide_eq_true hw, decide_eq_true ht, hh, ha]; rfl)

/-- The watchdog releases its priority after PWD_RESTORE without a pause (R58). -/
theorem pwdRestore_due (ha : tabGet false (portAt s p).fc.pwdActive k = true)
    (ht : tabGet 0 (portAt s p).fc.lastPause k + (portAt s p).fc.pwdRestore * 1000000 ≤ s.cycles) :
    pwdRestore p k s = modPort p (fun q => { q with fc := { q.fc with pwdActive := tabSet false q.fc.pwdActive k false } }) s :=
  if_pos (by rw [ha, decide_eq_true ht]; rfl)

end Branches

/-- Settles O27: each event's unit is there, and its hypotheses choose the branch that the lemmas above state. -/
theorem pauseEventsStopAndReleasePriorities : Obligations.PauseEventsStopAndReleasePriorities := by
  unfold Obligations.PauseEventsStopAndReleasePriorities
  intro s p k n
  refine ⟨?receive, ?link, ?time, ?expire, ?refresh, ?fire, ?restore⟩
  case receive =>
    intro f rest hp he hf
    exact onUnit_next.2 ⟨isFront_and_enabled hp he, pauseReceive_oldest hf⟩
  case link => exact fun bs hm ho => actPause_link hm ho
  case time => exact fun w _ wp => paused_setPause n w wp
  case expire => exact fun x hpk hx ht => onUnit_next.2 ⟨hpk, pauseExpire_due hx ht⟩
  case refresh => exact fun hpk hm => onUnit_next.2 ⟨hpk, xoffRefresh_stopped hm⟩
  case fire => exact fun x hpk hx hw ht hh ha => onUnit_next.2 ⟨hpk, pwdFire_due hx hw ht hh ha⟩
  case restore => exact fun hpk ha ht => onUnit_next.2 ⟨hpk, pwdRestore_due ha ht⟩

end Sys2Proof.Proofs.Pause
end

section
/-! SUPPORT. The status queries (R511 to R516): what each answers as its result words, with the state as it was. -/
namespace Sys2Proof.Proofs.StatusQueries
open Sys2Proof Sys2Proof.Machine Sys2Proof.Laws Sys2Proof.Proofs.PortSettings

/-- HARP.STATUS of a slice that no fuse disables returns the four words of its Harp block (R511). -/
theorem harpStatusCmd_ok {s : State} {a : List W32} (hk : badSlice s (arg a 0) = false) :
    harpStatusCmd a s = ok [hrpStatus s (arg a 0), w32 (harpAt s (arg a 0)).raTpid, (harpAt s (arg a 0)).seed, hrpBuildId s (arg a 0)] s :=
  checked_pass (by simp [hk]) _ _

/-- CLASS.STATUS of such a slice returns the two words of its class block (R512). -/
theorem classStatusCmd_ok {s : State} {a : List W32} (hk : badSlice s (arg a 0) = false) :
    classStatusCmd a s = ok [clsStatus s (arg a 0), clsTmap s (arg a 0)] s :=
  checked_pass (by simp [hk]) _ _

/-- A TABLE command whose turn it is and whose rules answer DONE is answered so in its channel. -/
theorem tableCommand_done {s t : State} {v : Via} {code : Nat} {a : List W32} {r : Request} {body : List W32 → State → Ans} {ws : List W32}
    (h : Handed s v code a r) (ht : tableTurn s v = true) (hb : body a s = ok ws t) :
    tableCommand code body v a s = .next (answer v r Code.done (bytesOf ws) t) :=
  handed_done h ((if_pos ht).trans hb)

/-- TABLE.STATUS returns TBL_STATUS and three words a logical table, the quota 0 where there is no table (R513). -/
theorem tableStatusCmd_ok (a : List W32) (s : State) :
    tableStatusCmd a s = ok (tblStatus s :: ((List.range 8).map fun t =>
      [ltabCfg s t, w32 (usedSlots s t), w32 (((tabCfgAt s t).map TabCfg.quota).getD 0)]).flatten) s := by
  unfold tableStatusCmd
  refine congrArg (fun ws : List (List W32) => ok (tblStatus s :: ws.flatten) s) (List.map_congr_left fun t _ => ?_)
  cases tabCfgAt s t <;> rfl

/-- MINT.STATUS of a pool returns MNT_STATUS, the pool's registers and its drop counter, low word first (R514). -/
theorem mintStatusCmd_ok {s : State} {a : List W32} (hp : arg a 0 ≤ 31) :
    mintStatusCmd a s = ok ([mntStatus s] ++ poolWords s (arg a 0) ++ two (ctrAt s (Ctr.mntPoolDrop (arg a 0))).toNat) s := by
  unfold mintStatusCmd
  rw [checked_pass (by simp [hp])]

/-- TELLER.GATE_STATUS of a front port that no fuse disables returns its two gate words (R515). -/
theorem gateStatusCmd_ok {s : State} {a : List W32} (hf : badFront s (arg a 0) = false) :
    gateStatusCmd a s = ok [tlrGate s (arg a 0), w32 (gatesNow (txAt s (arg a 0)))] s :=
  checked_pass (by simp [hf]) _ _

/-- LEDGER.STATUS returns its eight words, the newest epoch 0 while the archive is empty (R516). -/
theorem ledgerStatusCmd_ok (a : List W32) (s : State) :
    ledgerStatusCmd a s = ok [ldgStatus s, w32 s.led.arch.length, ldgOldest s, w32 (((s.led.arch.getLast?).map ArchEpoch.epoch).getD 0),
      w32 ((s.led.arch.map fun x => x.records.length).sum + (match s.led.drain with | some d => d.done.length | none => 0)),
      w32 s.led.keyId, w32 s.led.source, w32 (s.led.source / 2 ^ 32)] s := by
  unfold ledgerStatusCmd
  cases s.led.arch.getLast? <;> rfl

/-- A slice that no fuse disables is no bad slice argument. -/
theorem badSlice_of_enabled {s : State} {k : Nat} (hk : sliceEnabled s k = true) : badSlice s k = false := by simp [badSlice, hk]

/-- A front port of such a slice is no bad port argument. -/
theorem badFront_of_enabled {s : State} {p : Nat} (hp : p < 512) (hk : sliceEnabled s (portSlice p) = true) : badFront s p = false := by
  simp [badFront, badPort, hk]
  omega

/-- Settles O60: none of a query's checks applies, and its rules answer the words in the state as it was. -/
theorem statusQueriesReturnTheirWords : Obligations.StatusQueriesReturnTheirWords := by
  unfold Obligations.StatusQueriesReturnTheirWords
  intro v r s a
  refine ⟨fun h hk => ?harp, fun h hk => ?cls, fun h ht => ?table, fun h hp => ?mint, fun h hp hk => ?gate, fun h => ?ledger⟩
  case harp => exact handed_done h (harpStatusCmd_ok (badSlice_of_enabled hk))
  case cls => exact handed_done h (classStatusCmd_ok (badSlice_of_enabled hk))
  case table =>
    refine ⟨_, ?_, tableCommand_done h ht (tableStatusCmd_ok a s), rfl, fun t ht8 => ?_⟩
    · rfl
    · interval_cases t <;> exact ⟨rfl, rfl, rfl⟩
  case mint => exact ⟨_, rfl, handed_done h (mintStatusCmd_ok hp), rfl, rfl, rfl, rfl⟩
  case gate => exact handed_done h (gateStatusCmd_ok (badFront_of_enabled hp hk))
  case ledger => exact handed_done h (ledgerStatusCmd_ok a s)

end Sys2Proof.Proofs.StatusQueries
end

section
/-! SUPPORT. The Harps of the slices, what a change of one leaves readable in it and in the others; and the HARP commands: with good arguments none
of their checks refuses, and what is left is their effect. -/
namespace Sys2Proof.Proofs.Harps
open Sys2Proof Sys2Proof.Machine Sys2Proof.Laws

variable {s : State} {k : Nat} {f : HarpState → HarpState}

/-- A changed Harp reads back, where the table of Harps is in canonical form. -/
theorem harpAt_modHarp (w : tabWf {} s.harps = true) : harpAt (modHarp k f s) k = f (harpAt s k) := by
  unfold harpAt modHarp
  rw [tabGet_tabSet _ _ _ _ w, if_pos rfl]
  rfl

/-- So it does, whatever the table, when it does not become as at reset. -/
theorem harpAt_modHarp_of_ne (h : f (harpAt s k) ≠ {}) : harpAt (modHarp k f s) k = f (harpAt s k) := tabGet_tabSet_self _ _ h

/-- Changing the Harps of several slices changes Harps alone. -/
theorem foldl_modHarp_frame (f : HarpState → HarpState) (ks : List Nat) (s : State) :
    ∃ h, ks.foldl (fun s k => modHarp k f s) s = { s with harps := h } := by
  refine List.foldlRecOn (motive := fun t : State => ∃ h, t = { s with harps := h }) ks _ ⟨s.harps, rfl⟩ ?_
  rintro _ ⟨h, rfl⟩ k -
  exact ⟨_, rfl⟩

/-- Each of them is changed once, and no other. -/
theorem harpAt_foldl_modHarp {ks : List Nat} (hks : ks.Nodup) (w : tabWf {} s.harps = true) (j : Nat) :
    harpAt (ks.foldl (fun s k => modHarp k f s) s) j = if j ∈ ks then f (harpAt s j) else harpAt s j := by
  induction ks generalizing s with
  | nil => rfl
  | cons k ks ih =>
    obtain ⟨hk, hks⟩ := List.nodup_cons.1 hks
    rw [List.foldl_cons, ih hks (tabSet_wf _ _ _ w)]
    by_cases hj : j = k
    · subst hj
      simp [hk, harpAt_modHarp w]
    · simp [hj, harpAt_modHarp_ne s f hj]

end Sys2Proof.Proofs.Harps

/-! ### The HARP commands (chapter 03) -/

namespace Sys2Proof.Proofs.HarpCommands
open Sys2Proof Sys2Proof.Machine Sys2Proof.Laws Sys2Proof.Proofs.PortSettings Sys2Proof.Proofs.PortLife Sys2Proof.Proofs.StatusQueries
  Sys2Proof.Proofs.Harps

/-! ### Images (R125 to R127) -/

/-- What a table holds once a run of values has been written into it. -/
theorem tabGet_tabWrite {β : Type} [DecidableEq β] {d : β} (vs : List β) (m : Tab β) (a i : Nat) (w : tabWf d m = true) :
    tabGet d (tabWrite d m a vs) i = if a ≤ i ∧ i < a + vs.length then vs.getD (i - a) d else tabGet d m i := by
  induction vs generalizing m a with
  | nil => rw [if_neg (by simp)]; rfl
  | cons v vs ih =>
    rw [tabWrite, ih _ _ (tabSet_wf m a v w), tabGet_tabSet m a i v w, List.length_cons]
    obtain hi | rfl | hi : i < a ∨ i = a ∨ a < i := Nat.lt_trichotomy i a
    · rw [if_neg (by omega), if_neg (by omega), if_neg (by omega)]
    · rw [if_neg (by omega), if_pos rfl, if_pos (by omega), Nat.sub_self]
      rfl
    · obtain ⟨j, rfl⟩ := Nat.exists_eq_add_of_lt hi
      have hj : a + j + 1 - (a + 1) = j ∧ a + j + 1 - a = j + 1 := by omega
      rw [if_neg (show ¬ a + j + 1 = a by omega), hj.1, hj.2, List.getD_cons_succ]
      exact if_congr (by omega) rfl rfl

/-- A bank loaded with an image holds the image's words, and 0 beyond them (R127). -/
theorem tabGet_imageWords (bs : List Byte) (n i : Nat) :
    tabGet 0#64 (tabWrite 0#64 [] 0 (imageWords bs n)) i = if i < n then BitVec.ofNat 64 (imageWord bs (64 + 8 * i) 8) else 0 := by
  rw [tabGet_tabWrite _ _ _ _ rfl]
  by_cases hi : i < n
  · simp [imageWords, hi]
  · simp [imageWords, hi]

/-- HARP.LOAD of a good image for idle staged banks that no load is writing starts the load (R99, R126). -/
theorem harpLoadCmd_accepted {s : State} {a : List W32} (hm : badMask s (arg a 0) = false) (hl : loading s (arg a 0) = false)
    (hd : canDma s = true)
    (hi : imageRefusal s (hostRead s (arg a 1 + arg a 2 * 2 ^ 32) (max 64 (min (arg a 3) imageMax))) (arg a 3) = none)
    (hb : stagedBusy s (arg a 0) = false) :
    harpLoadCmd a s = .pending (.load (arg a 0)) ((maskSlices (arg a 0)).foldl
      (fun t j => writeImage (hostRead s (arg a 1 + arg a 2 * 2 ^ 32) (max 64 (min (arg a 3) imageMax))) j t) s) := by
  unfold harpLoadCmd
  dsimp only
  rw [hi]
  simp [hm, hl, hd, hb]

/-! ### Commits (R100) -/

/-- A slice mask that is accepted names a slice. -/
theorem maskSlices_ne_nil {s : State} {m : Nat} (hm : badMask s m = false) : maskSlices m ≠ [] := by
  simp only [badMask, Bool.or_eq_false_iff, decide_eq_false_iff_not, ge_iff_le, not_le] at hm
  obtain ⟨⟨h0, hlt⟩, -⟩ := hm
  have hbit : bit m m.log2 = true := (bit_eq_testBit ..).trans (Nat.testBit_log2 h0)
  exact List.ne_nil_of_mem (List.mem_filter.2 ⟨List.mem_range.2 ((Nat.log2_lt h0).2 hlt), hbit⟩)

/-- HARP.COMMIT of slices in full service whose staged images are defined, with no load and no swap in progress, waits for every slice's frame
boundary. -/
theorem harpCommitCmd_accepted {s : State} {a : List W32} (hm : badMask s (arg a 0) = false) (hl : loading s (arg a 0) = false)
    (hs : ∀ j ∈ maskSlices (arg a 0), (harpAt s j).swap = false ∧ plainSlice s j = false
      ∧ (bankOf (harpAt s j) (1 - (harpAt s j).active)).undefinedImage = false) :
    harpCommitCmd a s = .pending (.commit ((maskSlices (arg a 0)).map fun j => 2 ^ j).sum) ((maskSlices (arg a 0)).foldl
      (fun s j => if plainSlice s j then swapBank j s else modHarp j (fun h => { h with swap := true }) s) s) := by
  have hlater : (maskSlices (arg a 0)).filter (fun k => !plainSlice s k) = maskSlices (arg a 0) :=
    List.filter_eq_self.2 fun j hj => by simp [(hs j hj).2.1]
  have hne : (maskSlices (arg a 0)).isEmpty = false := by simpa using maskSlices_ne_nil hm
  have hswap : ((maskSlices (arg a 0)).any fun k => (harpAt s k).swap) = false := List.any_eq_false.2 fun j hj => by simp [(hs j hj).1]
  have hdef : ((maskSlices (arg a 0)).any fun k => (bankOf (harpAt s k) (1 - (harpAt s k).active)).undefinedImage) = false :=
    List.any_eq_false.2 fun j hj => by simp [(hs j hj).2.2]
  unfold harpCommitCmd
  rw [checked_pass (by simp [hm, hl, hswap, hdef])]
  dsimp only
  rw [hlater, hne]
  rfl

/-! ### Run-ahead settings (R79, R80) -/

/-- The base of four-bit digits. -/
theorem two_pow_four_mul (n : Nat) : 2 ^ (4 * n) = 16 ^ n := pow_mul 2 4 n

/-- Four-bit fields packed side by side are the digits of a number in base 16. -/
theorem foldl_nibbles (v : Nat → Nat) (n : Nat) :
    ((List.range n).map fun i => (4 * i, v i)).foldl (fun a f => a + f.2 * 2 ^ f.1) 0 = Nat.ofDigits 16 ((List.range n).map v) := by
  induction n with
  | zero => rfl
  | succ n ih =>
    rw [List.range_succ, List.map_append, List.foldl_append, ih, List.map_append, Nat.ofDigits_append, List.length_map, List.length_range]
    simp [two_pow_four_mul, Nat.mul_comm (v n)]

/-- Each of up to eight four-bit fields of a word reads back. -/
theorem fld_packW_nibbles (v : Nat → Nat) (hv : ∀ i, i < 8 → v i ≤ 15) {i : Nat} (hi : i < 8) :
    fld (packW ((List.range 8).map fun i => (4 * i, v i))) (4 * i + 3) (4 * i) = v i := by
  have hdigits : ∀ x ∈ (List.range 8).map v, x < 16 := by
    simp only [List.mem_map, List.mem_range]
    rintro _ ⟨j, hj, rfl⟩
    exact Nat.lt_succ_of_le (hv j hj)
  have hlt : Nat.ofDigits 16 ((List.range 8).map v) < 2 ^ 32 := by
    simpa using Nat.ofDigits_lt_base_pow_length (by decide) hdigits
  have hdrop : ((List.range 8).map v).drop i = v i :: ((List.range 8).map v).drop (i + 1) := by
    rw [List.drop_eq_getElem_cons (by simpa using hi)]
    simp
  have hwidth : 4 * i + 3 + 1 - 4 * i = 4 := by omega
  rw [fld, bits, packW, foldl_nibbles, w32, BitVec.toNat_ofNat, Nat.mod_eq_of_lt hlt, hwidth, two_pow_four_mul,
    Nat.ofDigits_div_pow_eq_ofDigits_drop i (by decide) _ hdigits, hdrop, Nat.ofDigits_cons]
  have := hv i hi
  simp
  omega

/-- HARP.RA_SET with arguments in range sets the port's run-ahead settings, entry `i` of PCP_MAP to argument 3 + i. -/
theorem harpRaSetCmd_accepted {s : State} {a : List W32} (h512 : arg a 0 ≠ 512) (hp : badPort s (arg a 0) = false) (h1 : arg a 1 < 2 ^ 24)
    (h2 : arg a 2 ≤ 15) (hm : ∀ i, i < 8 → arg a (3 + i) ≤ 15) (h11 : arg a 11 ≤ 1) (h12 : arg a 12 ≤ 7) :
    ∃ pcp, harpRaSetCmd a s = ok [] (setRa (arg a 0)
        { defSeg := arg a 1, defClass := arg a 2, raEn := arg a 11 == 1, raTable := arg a 12, pcpMap := pcp } s)
      ∧ ∀ i, i < 8 → fld pcp (4 * i + 3) (4 * i) = arg a (3 + i) := by
  have hget (i : Nat) (hi : i < 8) : ((List.range 8).map fun i => arg a (3 + i)).getD i 0 = arg a (3 + i) := by simp [hi]
  unfold harpRaSetCmd
  rw [checked_pass]
  · refine ⟨_, rfl, fun i hi => ?_⟩
    exact (fld_packW_nibbles _ (fun j hj => (hget j hj).trans_le (hm j hj)) hi).trans (hget i hi)
  · simpa [h512, hp, h2, badBool, h11, h12] using And.intro h1 hm

/-- HARP.RA_TPID with arguments in range sets the slice's TPID. -/
theorem harpRaTpidCmd_accepted {s : State} {a : List W32} (hk : badSlice s (arg a 0) = false) (h1 : arg a 1 < 2 ^ 16) :
    harpRaTpidCmd a s = ok [] (modHarp (arg a 0) (fun h => { h with raTpid := arg a 1 }) s) := by
  unfold harpRaTpidCmd
  rw [checked_pass (by simpa [hk] using h1)]

/-! ### Engine checks (R107) and the hash seed (R122) -/

/-- HARP.ENGINE_CHECK of a mapped engine without a thread puts it under check. -/
theorem engineCheckCmd_accepted {s : State} {a : List W32} {x : Nat} (hk : badSlice s (arg a 0) = false) (he : arg a 1 ≤ 63)
    (hx : physEngine (harpAt s (arg a 0)) (arg a 1) = some x) (hc : engineCond (harpAt s (arg a 0)) (arg a 1) ≠ .checking)
    (hd : engineCond (harpAt s (arg a 0)) (arg a 1) ≠ .draining) (hn : onEngine s (arg a 0) (arg a 1) = []) :
    engineCheckCmd a s = .pending (.engineCheck (arg a 0) (arg a 1))
      (countWaits (arg a 0) (modHarp (arg a 0) (setCond x .checking) s)) := by
  unfold engineCheckCmd
  dsimp only
  rw [checked_pass (by simp [hk, he, hc, hd]), hx, hn]
  rfl

/-- HARP.HASH_SEED sets the seed of all sixteen slices and nothing else. -/
theorem hashSeedCmd_spec (a : List W32) (s : State) :
    ∃ t, hashSeedCmd a s = ok [] t ∧ t = { s with harps := t.harps }
      ∧ (tabWf {} s.harps = true → ∀ j, harpAt t j = if j < 16 then { harpAt s j with seed := a.getD 0 0#32 } else harpAt s j) := by
  refine ⟨_, rfl, ?_, fun w j => ?_⟩
  · obtain ⟨h, hh⟩ := foldl_modHarp_frame (fun h => { h with seed := a.getD 0 0#32 }) (List.range 16) s
    rw [hh]
  · rw [harpAt_foldl_modHarp List.nodup_range w]
    simp

/-- Settles O29: of each command's checks none applies to good arguments, and its effect is the one stated. -/
theorem harpCommandsTakeEffect : Obligations.HarpCommandsTakeEffect := by
  unfold Obligations.HarpCommandsTakeEffect
  intro v r s a
  refine ⟨?load, ?words, ?commit, ?raSet, ?raTpid, ?engineCheck, ?hashSeed, ?status⟩
  case load => exact fun h hm hl hd hi hb => handed_pending h (harpLoadCmd_accepted hm hl hd hi hb)
  case words => exact fun bs n i _ => tabGet_imageWords bs n i
  case commit => exact fun h hm hl hs => handed_pending h (harpCommitCmd_accepted hm hl hs)
  case raSet =>
    intro h h512 hp h1 h2 hm h11 h12
    obtain ⟨pcp, hb, hpcp⟩ := harpRaSetCmd_accepted h512 hp h1 h2 hm h11 h12
    exact ⟨pcp, handed_done (ws := []) h hb, hpcp⟩
  case raTpid => exact fun h hk h1 => handed_done (ws := []) h (harpRaTpidCmd_accepted hk h1)
  case engineCheck => exact fun x h hk he hx hc hd hn => handed_pending h (engineCheckCmd_accepted hk he hx hc hd hn)
  case hashSeed =>
    intro h
    obtain ⟨t, hb, ht, hseed⟩ := hashSeedCmd_spec a s
    exact ⟨t, handed_done (ws := []) h hb, ht, hseed⟩
  case status => exact fun h hk => handed_done h (harpStatusCmd_ok hk)

end Sys2Proof.Proofs.HarpCommands
end

section
/-! SUPPORT. The early decisions on a frame (R79 to R82, R172): its pre-decode, the result of its run-ahead lookup and its express decision. -/
namespace Sys2Proof.Proofs.EarlyDecisions
open Sys2Proof Sys2Proof.Machine Sys2Proof.Laws Sys2Proof.Proofs.Ingress

variable {s : State} {n : Nat} {c : Chit} (hc : chitAt s n = some c)

section Predecode
include hc

/-- At byte 64 of a frame that no inject chain brought, the pre-decoder reads the tag, forms the class and launches the lookup (R79, R80). -/
theorem preDecode_due (hd : c.preDone = false) (h64 : 64 ≤ c.bytes.length) (hs : c.status = .provisional) (hi : c.inject = none) :
    let k := chitSlice n
    let tag := outerTag s k c.bytes
    let tci := half c.bytes 15
    let key := runAheadKey c.bytes (if tag then tci % 4096 else 0) c.ra.defSeg
    preDecode n s = bumpIf (launches c) (Ctr.hrpRaLaunch k) (modChit n (fun c => { c with
      preDone := true, tagged := tag, raLaunched := launches c, raAsked := if launches c then some (c.ra.raTable, key) else none
      provCls := if tag then fld c.ra.pcpMap (4 * bits tci 15 13 + 3) (4 * bits tci 15 13) else c.ra.defClass }) s) := by
  unfold preDecode
  simp only [hc]
  rw [if_pos (by simp [hd, h64, hs]), hi]
  exact congrArg _ (modChit_congr hc rfl)

end Predecode

/-- What the return of a run-ahead lookup leaves before its outcome counts: the lookup counted, and no longer in flight. -/
def raReturned (s : State) (n t x : Nat) : State :=
  modChit n (fun c => { c with raAsked := none }) (countLookup (chitSlice n) t (some n) (lookupIn s (chitSlice n / 4) t x) s)

section Result
variable {t x : Nat} (ha : c.raAsked = some (t, x))
include hc ha

/-- A miss is counted (R81). -/
theorem runAheadResult_miss (hh : (lookupIn s (chitSlice n / 4) t x).hit = false) :
    runAheadResult n s = bump (Ctr.hrpRaMiss (chitSlice n)) (raReturned s n t x) := by
  simp [runAheadResult, raReturned, hc, ha, hh]

/-- A hit whose entry names no port is deferred (R81). -/
theorem runAheadResult_defer (hh : (lookupIn s (chitSlice n / 4) t x).hit = true)
    (hb : bits (lookupIn s (chitSlice n / 4) t x).data 11 10 ≠ 0) :
    runAheadResult n s = bump (Ctr.hrpRaDefer (chitSlice n)) (raReturned s n t x) := by
  simp [runAheadResult, raReturned, hc, ha, hh, hb]

/-- A hit whose entry names a port decides port and queue (R81). -/
theorem runAheadResult_hit (hh : (lookupIn s (chitSlice n / 4) t x).hit = true)
    (hb : bits (lookupIn s (chitSlice n / 4) t x).data 11 10 = 0) :
    let p := bits (lookupIn s (chitSlice n / 4) t x).data 9 0
    runAheadResult n s = bump (Ctr.hrpRaHit (chitSlice n))
      (modChit n (fun c => { c with raDec := some (p, queueFor (raReturned s n t x) p c.provCls) }) (raReturned s n t x)) := by
  simp [runAheadResult, raReturned, hc, ha, hh, hb]

end Result

section Decision
variable {p q : Nat} (hr : c.raDec = some (p, q)) (hd : c.decided = false) (hs : c.status = .provisional) (h2 : c.depth = 2)
  (hl : (portAt s p).cfg.expMinLen ≤ c.bytes.length)
include hc hr hd hs h2 hl

/-- The decision of a depth-2 frame falls once, on the gates of its port as they stand then (R172). -/
theorem expressDecision_due :
    let u := catchUp p (modChit n (fun c => { c with decided := true }) s)
    expressDecision n s = if expressOk u n c p q && c.specPort.isNone then
      settleSpec n (if expressWrong c then stompSpec n .wrong false (startSpec .express n p q u) else startSpec .express n p q u)
    else u := by
  unfold expressDecision
  simp only [hc, hr]
  exact if_pos (by simp [hd, hs, h2, hl])

end Decision

/-- What the express conditions of Table 07-2 ask of the frame, its ports and the egress queue. -/
theorem expressOk_conditions {p q : Nat} (h : expressOk s n c p q = true) :
    c.depth = 2 ∧ c.station = none ∧ isFront c.port = true ∧ isFront p = true ∧ (txAt s p).tx = none ∧ queueAt (txAt s p) q = []
      ∧ bit (portAt s p).cfg.expClass c.provCls = true := by
  simp only [expressOk, speculable, Bool.and_eq_true, decide_eq_true_eq, Option.isNone_iff_eq_none, List.isEmpty_iff, and_assoc] at h
  obtain ⟨hdepth, hcls, -, hin, hout, -, hqueue, -, -, htx, -, -, -, -, -, hstation, -⟩ := h
  exact ⟨hdepth, hstation, hin, hout, htx, hqueue, hcls⟩

/-- Settles O36: each event happens while its chit's slice runs, and its hypotheses choose the case that the lemmas above state. -/
theorem runAheadAndExpressDecideEarly : Obligations.RunAheadAndExpressDecideEarly := by
  unfold Obligations.RunAheadAndExpressDecideEarly
  intro s n p q c hn hrun hc
  have hpre : exec (.preDecode n) s = .next (preDecode n s) := onChit_runs hn hrun preDecode
  have hres : exec (.runAheadResult n) s = .next (runAheadResult n s) := onChit_runs hn hrun runAheadResult
  have hexp : exec (.expressDecision n) s = .next (expressDecision n s) := onChit_runs hn hrun expressDecision
  rw [hpre, hres, hexp]
  refine ⟨?preDecode, ?result, ?decision, fun h => expressOk_conditions h⟩
  case preDecode =>
    intro hd h64 hs hi
    rw [preDecode_due hc hd h64 hs hi]
  case result =>
    intro t x ha
    refine ⟨fun hh => ?_, fun hh hb => ?_, fun hh hb => ?_⟩
    · rw [runAheadResult_miss hc ha hh]; rfl
    · rw [runAheadResult_defer hc ha hh hb]; rfl
    · rw [runAheadResult_hit hc ha hh hb]; rfl
  case decision =>
    intro hr hd hs h2 hl
    rw [expressDecision_due hc hr hd hs h2 hl]
    refine ⟨fun hok hspec => ?_, fun hok => ?_⟩
    · rw [if_pos (by simp [hok, hspec])]
    · rw [if_neg (by simp [hok])]

end Sys2Proof.Proofs.EarlyDecisions
end

section
/-! SUPPORT. Dispatch, the swap of banks, the update boundary and engines (R83, R84, R100 to R106, R142). -/
namespace Sys2Proof.Proofs.HarpEvents
open Sys2Proof Sys2Proof.Machine Sys2Proof.Laws Sys2Proof.Proofs.Ingress Sys2Proof.Proofs.Harps

/-! ### What counting a frame leaves alone (R482) -/

/-- An event of a frame's chit leaves the Harps and every other chit alone. -/
theorem tallyEvent_leaves (i ev amt : Nat) (q : Nat → Bool) (n : Nat) (s : State) :
    (tallyEvent i ev amt q (some n) s).harps = s.harps ∧ ∀ m, m ≠ n → chitAt (tallyEvent i ev amt q (some n) s) m = chitAt s m := by
  refine List.foldlRecOn (motive := fun t : State => t.harps = s.harps ∧ ∀ m, m ≠ n → chitAt t m = chitAt s m) _ _ ⟨rfl, fun _ _ => rfl⟩ ?_
  rintro t ⟨hh, hm⟩ j -
  have hmod (f : Chit → Chit) : (modChit n f t).harps = s.harps ∧ ∀ m, m ≠ n → chitAt (modChit n f t) m = chitAt s m := by
    refine ⟨?_, fun m hne => (chitAt_modChit_ne t f hne).trans (hm m hne)⟩
    unfold modChit
    split <;> exact hh
  dsimp only
  repeat' split
  · exact hmod _
  all_goals exact ⟨hh, hm⟩

/-- So does counting its frame and octets. -/
theorem tallyFrame_leaves (i port len n : Nat) (s : State) :
    (tallyFrame i port len n s).harps = s.harps ∧ ∀ m, m ≠ n → chitAt (tallyFrame i port len n s) m = chitAt s m := by
  unfold tallyFrame
  dsimp only
  generalize (fun x => decide (x = 0x3FF) || decide (x = port)) = q
  obtain ⟨h1, m1⟩ := tallyEvent_leaves i 1 1 q n s
  obtain ⟨h2, m2⟩ := tallyEvent_leaves i 2 len q n (tallyEvent i 1 1 q (some n) s)
  exact ⟨h2.trans h1, fun m hm => (m2 m hm).trans (m1 m hm)⟩

/-! ### HARP_DISPATCH (R84, R87) -/

/-- The frame that leaves the dispatcher's line for thread `t` of engine `e`: the thread is taken, the frame is in parse. -/
def dispatched (n e t : Nat) (s : State) : State :=
  let k := chitSlice n
  let h := harpAt s k
  modChit n (fun c => { c with
      parse := some { th := 8 * e + t, bank := h.active, pc := (bankOf h h.active).entry, regs := dispatchRegs n c }
      disp := some (lkpAt s k).dispSeq, setVer := (classAt s k).ver, seed := h.seed })
    (modLkp k (fun u => { u with dispSeq := (lkpAt s k).dispSeq + 1 })
      (modHarp k (fun h => { h with waiting := h.waiting.tail, threads := tabSet none h.threads (8 * e + t) (some n) }) s))

/-- The chit of a frame that has just been dispatched holds its thread's parse, its dispatch number and the set it uses, with the bytes it had
(R87, R142). Counting the frame changes none of these. -/
def InParse (n e t : Nat) (c : Chit) (s : State) (d : Chit) : Prop :=
  let h := harpAt s (chitSlice n)
  d.parse = some { th := 8 * e + t, bank := h.active, pc := (bankOf h h.active).entry, regs := dispatchRegs n c }
    ∧ d.disp = some (lkpAt s (chitSlice n)).dispSeq ∧ d.setVer = (classAt s (chitSlice n)).ver ∧ d.bytes = c.bytes

section Dispatch
variable {s : State} {n e t : Nat} {c : Chit} (hc : chitAt s n = some c)
include hc

/-- The head of the line gets the free thread of a good engine, and is counted. -/
theorem harpDispatch_head (hw : (harpAt s (chitSlice n)).waiting.head? = some n)
    (ht : tabGet none (harpAt s (chitSlice n)).threads (8 * e + t) = none) (he : engineCond (harpAt s (chitSlice n)) e = .good)
    (hr : coreRuns s (chitSlice n) = true) :
    harpDispatch n e t s
      = tallyFrame (16 * chitSlice n) c.port c.bytes.length n (bump (Ctr.hrpFrames (chitSlice n)) (dispatched n e t s)) := by
  have hc' : chitAt (modLkp (chitSlice n) (fun u => { u with dispSeq := (lkpAt s (chitSlice n)).dispSeq + 1 })
      (modHarp (chitSlice n) (fun h => { h with waiting := h.waiting.tail, threads := tabSet none h.threads (8 * e + t) (some n) }) s)) n
    = some c := hc
  unfold harpDispatch
  simp only [hc]
  rw [if_pos ⟨hw, by simp [ht], he, hr⟩]
  exact congrArg (fun u => tallyFrame _ _ _ _ (bump _ u)) (modChit_congr hc' rfl)

/-- Its chit is in parse. -/
theorem chitAt_dispatched (i port len : Nat) :
    ∃ d, chitAt (tallyFrame i port len n (bump (Ctr.hrpFrames (chitSlice n)) (dispatched n e t s))) n = some d
      ∧ InParse n e t c s d := by
  have hd : ∃ d, chitAt (bump (Ctr.hrpFrames (chitSlice n)) (dispatched n e t s)) n = some d ∧ InParse n e t c s d :=
    ⟨_, chitAt_modChit _ _ hc, rfl, rfl, rfl, rfl⟩
  unfold tallyFrame
  exact chitAt_tallyEvent (fun _ _ h => h) (chitAt_tallyEvent (fun _ _ h => h) hd)

end Dispatch

/-- The dispatch changes the Harp of the chit's slice alone: the line loses its head, and the thread has the frame. -/
theorem harps_dispatched (n e t : Nat) (s : State) :
    (harpAt (dispatched n e t s) (chitSlice n)).waiting = (harpAt s (chitSlice n)).waiting.tail
      ∧ tabGet none (harpAt (dispatched n e t s) (chitSlice n)).threads (8 * e + t) = some n := by
  have hthread : tabGet none (tabSet none (harpAt s (chitSlice n)).threads (8 * e + t) (some n)) (8 * e + t) = some n :=
    tabGet_tabSet_self _ _ (by simp)
  have hne : { harpAt s (chitSlice n) with
      waiting := (harpAt s (chitSlice n)).waiting.tail
      threads := tabSet none (harpAt s (chitSlice n)).threads (8 * e + t) (some n) } ≠ ({} : HarpState) := by
    intro h
    rw [show tabSet none (harpAt s (chitSlice n)).threads (8 * e + t) (some n) = [] from congrArg HarpState.threads h] at hthread
    cases hthread
  have hharps : (dispatched n e t s).harps = (modHarp (chitSlice n) (fun h => { h with
      waiting := h.waiting.tail, threads := tabSet none h.threads (8 * e + t) (some n) }) s).harps := by
    unfold dispatched modChit
    dsimp only
    split <;> rfl
  rw [harpAt, hharps, ← harpAt, harpAt_modHarp_of_ne hne]
  exact ⟨rfl, hthread⟩

/-! ### CLASS_UPDATE_BOUNDARY (R142) -/

/-- A set of a slice's classification that is not the first reads back. -/
theorem classAt_modClass {s : State} {k : Nat} {f : ClassState → ClassState} (h : (f (classAt s k)).ver ≠ 0) :
    classAt (modClass k f s) k = f (classAt s k) :=
  tabGet_tabSet_self _ _ fun e => h (congrArg ClassState.ver e)

/-- The waiting set is in force under the next version, and none waits any more. -/
theorem classAt_applySet {s : State} {k : Nat} {v : ClassSet} (hv : (classAt s k).next = some v) :
    (classAt (applySet k s) k).now = v ∧ (classAt (applySet k s) k).next = none
      ∧ (classAt (applySet k s) k).ver = (classAt s k).ver + 1 := by
  have happly : classAt (modClass k (fun c => { c with olds := c.olds ++ [(c.ver, c.now)], ver := c.ver + 1, now := v, next := none }) s) k
    = { classAt s k with olds := (classAt s k).olds ++ [((classAt s k).ver, (classAt s k).now)], ver := (classAt s k).ver + 1
                         now := v, next := none } := classAt_modClass (Nat.succ_ne_zero _)
  simp only [applySet, hv, pruneSets]
  rw [classAt_modClass (by rw [happly]; exact Nat.succ_ne_zero _), happly]
  exact ⟨rfl, rfl, rfl⟩

/-! ### Engines (R104 to R106) -/

section Engines
variable {s : State} {k e x : Nat}

/-- A slice's engine is there for the events of engines when no fuse disables the slice. -/
theorem enabled_and_engine (hk : sliceEnabled s k = true) (he : e < 64) : (sliceEnabled s k && decide (e < 64)) = true := by
  rw [hk, decide_eq_true he]; rfl

/-- An engine that is no longer under check completes its HARP.ENGINE_CHECK. -/
theorem engineChecked_settles (h : engineCond (harpAt s k) e ≠ .checking) :
    engineChecked k e s = settleJobs (fun j => decide (j = .engineCheck k e)) Code.done [] s := if_neg h

/-- A check that ends with an engine that is not under check any more completes the command. -/
theorem engineCheckDone_settles {good : Bool} {u : State} (hc : engineCond (harpAt s k) e = .checking)
    (hu : (if good then modHarp k (fun h => match physEngine h e with | some x => setCond x .good h | none => h) s else repairEngine k e s) = u)
    (hend : engineCond (harpAt u k) e ≠ .checking) :
    engineCheckDone k e good s = settleJobs (fun j => decide (j = .engineCheck k e)) Code.done [] u := by
  unfold engineCheckDone
  dsimp only
  rw [if_pos (.inl hc)]
  exact (congrArg _ hu).trans (engineChecked_settles hend)

/-- A Harp whose engine `e`, if it is mapped, has been found good. -/
def foundGood (e : Nat) (h : HarpState) : HarpState :=
  match physEngine h e with
  | some x => setCond x .good h
  | none => h

/-- A mapped engine found good is good. -/
theorem engineCond_foundGood (hx : physEngine (harpAt s k) e = some x) : engineCond (harpAt (modHarp k (foundGood e) s) k) e = .good := by
  have hf : foundGood e (harpAt s k) = setCond x .good (harpAt s k) := by rw [foundGood, hx]
  have hcond : tabGet EngineCond.untested (setCond x .good (harpAt s k)).conds x = .good := tabGet_tabSet_self _ _ (by decide)
  have hne : setCond x .good (harpAt s k) ≠ {} := by
    intro h
    rw [h] at hcond
    cases hcond
  have hx' : physEngine (setCond x .good (harpAt s k)) e = some x := hx
  rw [harpAt_modHarp_of_ne (by rw [hf]; exact hne), hf, engineCond, hx']
  exact hcond

/-- A Harp whose engine `e` is mapped out, its physical engine `x` bad. -/
def mappedOut (x e : Nat) (h : HarpState) : HarpState := { setCond x .bad h with map := tabSet 0 h.map e 69 }

/-- Its repair map names no engine for the number. -/
theorem map_mappedOut (x e : Nat) (h : HarpState) : tabGet 0 (mappedOut x e h).map e = 69 := tabGet_tabSet_self _ _ (by decide)

/-- An engine without a spare left is mapped out: it is bad (R105, R106). -/
theorem engineCond_repairEngine (hx : physEngine (harpAt s k) e = some x) (hs : spares (setCond x .bad (harpAt s k)) = []) :
    engineCond (harpAt (repairEngine k e s) k) e = .bad := by
  have hrepair : repairEngine k e s = bump (Ctr.hrpRepair k) (modHarp k (fun _ => mappedOut x e (harpAt s k)) s) := by
    unfold repairEngine
    simp only [hx, hs]
    rfl
  have hne : mappedOut x e (harpAt s k) ≠ {} := by
    intro h
    have hmap := map_mappedOut x e (harpAt s k)
    rw [h] at hmap
    cases hmap
  have hread : harpAt (bump (Ctr.hrpRepair k) (modHarp k (fun _ => mappedOut x e (harpAt s k)) s)) k = mappedOut x e (harpAt s k) :=
    harpAt_modHarp_of_ne hne
  have hphys : physEngine (mappedOut x e (harpAt s k)) e = none := by simp [physEngine, map_mappedOut]
  rw [hrepair, hread, engineCond, hphys]

end Engines

/-- Settles O37: each event's unit is there, and its hypotheses choose the case that the lemmas above state. -/
theorem dispatchSwapAndEngineEvents : Obligations.DispatchSwapAndEngineEvents := by
  unfold Obligations.DispatchSwapAndEngineEvents
  intro s n e t k c good
  refine ⟨?dispatch, ?swap, ?swapped, ?boundary, ?fault, ?good, ?ended⟩
  case dispatch =>
    intro hn he ht hc hw hfree hgood hr
    obtain ⟨hharps, hothers⟩ := tallyFrame_leaves (16 * chitSlice n) c.port c.bytes.length n
      (bump (Ctr.hrpFrames (chitSlice n)) (dispatched n e t s))
    obtain ⟨d, hd, hparse, hdisp, hver, hbytes⟩ := chitAt_dispatched (e := e) (t := t) hc (16 * chitSlice n) c.port c.bytes.length
    obtain ⟨hwaiting, hthread⟩ := harps_dispatched n e t s
    refine ⟨_, d, onUnit_next.2 ⟨by simp [hn, he, ht], harpDispatch_head hc hw hfree hgood hr⟩, hd, hparse, hdisp, hver, hbytes, ?_, ?_,
      fun m hm => (hothers m hm).trans (chitAt_modChit_ne _ _ hm)⟩
    · rw [harpAt, hharps]; exact hwaiting
    · rw [harpAt, hharps]; exact hthread
  case swap => exact fun hk hs => onUnit_next.2 ⟨hk, if_pos hs⟩
  case swapped =>
    intro w
    refine ⟨?_, ?_, fun j hj => harpAt_modHarp_ne s _ hj⟩
    · rw [swapBank, harpAt_modHarp w]
    · rw [swapBank, harpAt_modHarp w]
  case boundary => exact fun v hk hv => ⟨onUnit_next.2 ⟨hk, if_pos (by rw [hv]; rfl)⟩, classAt_applySet hv⟩
  case fault => exact fun hk he hx => onUnit_next.2 ⟨enabled_and_engine hk he, if_pos hx⟩
  case good =>
    intro x hk he hc hx
    exact onUnit_next.2 ⟨enabled_and_engine hk he, engineCheckDone_settles hc rfl
      (ne_of_eq_of_ne (engineCond_foundGood hx) (by decide))⟩
  case ended =>
    intro x hk he hc hx hs
    refine onUnit_next.2 ⟨enabled_and_engine hk he, engineCheckDone_settles hc rfl ?_⟩
    cases good with
    | true => exact ne_of_eq_of_ne (engineCond_foundGood hx) (by decide)
    | false => exact ne_of_eq_of_ne (engineCond_repairEngine hx hs) (by decide)

end Sys2Proof.Proofs.HarpEvents
end

section
/-! SUPPORT. The stops of a Harp thread (R95, R96, R110): the causes with which its frame voids, and when a voided frame leaves its thread
free. -/
namespace Sys2Proof.Proofs.HarpStops
open Sys2Proof Sys2Proof.Machine Sys2Proof.Laws Sys2Proof.Proofs.FrontPorts Sys2Proof.Proofs.Harps

/-! ### The stops (R95, R96, R110) -/

/-- Every Harp instruction is an issue of the thread that it names. -/
theorem exec_eq_harpIssue {op : Instr} {th : Thr} (h : harpThr op = some th) (s : State) : ∃ eff, exec op s = harpIssue th op eff s := by
  unfold exec
  cases op with
  | nop | add | sub | andR | orR | xorR | shl | shr | addi | andi | ori | xori | shli | shri | movi | xtr | dep | jmp | beq | bne | bltu
  | bgeu | bbs | bbc | bmiss | lkp | rng | rds | hsh | emit | done | drop | trap =>
    cases h
    exact ⟨_, rfl⟩
  | _ => cases h

/-- The limits of R95, each in its words. -/
theorem overrun_iff (op : Instr) (t : Thread) :
    overrun op t = true ↔ 256 ≤ t.issues ∨ ((∃ th a b tb nm sr tw, op = .lkp th a b tb nm sr tw) ∧ 2 ≤ t.lkps)
      ∨ ((∃ th a b, op = .rng th a b) ∧ 1 ≤ t.rngs) := by
  unfold overrun
  split
  · simp
  · simp
  next hlkp hrng =>
    have h1 : ¬ ∃ th a b tb nm sr tw, op = .lkp th a b tb nm sr tw := fun ⟨_, _, _, _, _, _, _, e⟩ => hlkp _ _ _ _ _ _ _ e
    have h2 : ¬ ∃ th a b, op = .rng th a b := fun ⟨_, _, _, e⟩ => hrng _ _ _ e
    simp [h1, h2]

section Stops
variable {s : State} {th : Thr} {n : Nat} {c : Chit} {t : Thread} {op : Instr} (ho : harpThr op = some th) (hok : thrOk th = true)
  (ht : threadOf s th = some (n, c, t)) (hturn : hasTurn s th = true)
include ho hok ht hturn

/-- A poisoned word voids the frame with cause 8 and raises the alarm of its bank (R96). -/
theorem exec_poisoned (hp : poisoned s (.harpWord th.slice t.bank t.pc) = true) :
    exec op s = .next (voidChit n 8 (modHarp th.slice (fun h => setBankOf t.bank { bankOf h t.bank with alarm := true } h)
      (bump (Ctr.memPoisonRead 5) (bump (Ctr.hrpPoisonAbort th.slice) s)))) := by
  obtain ⟨eff, h⟩ := exec_eq_harpIssue ho s
  rw [h, harpIssue, if_pos hok, ht]
  simp only [hturn, hp]
  rfl

/-- An illegal word voids it with cause 9 (R110). -/
theorem exec_illegal (hp : poisoned s (.harpWord th.slice t.bank t.pc) = false) (hd : harpDecode th (fetchWord s th.slice t) = none) :
    exec op s = .next (voidChit n 9 (bump (Region.slice th.slice + 0x1160) s)) := by
  obtain ⟨eff, h⟩ := exec_eq_harpIssue ho s
  rw [h, harpIssue, if_pos hok, ht]
  simp only [hturn, hp, hd]
  rfl

/-- An issue over the limits voids it with cause 7 before it executes (R95). -/
theorem exec_overrun (hp : poisoned s (.harpWord th.slice t.bank t.pc) = false) (hd : harpDecode th (fetchWord s th.slice t) = some op)
    (hover : overrun op t = true) : exec op s = .next (voidChit n 7 (bump (Ctr.hrpOverrun th.slice) s)) := by
  obtain ⟨eff, h⟩ := exec_eq_harpIssue ho s
  rw [h, harpIssue, if_pos hok, ht]
  simp only [hturn, hp, hd, hover]
  rfl

end Stops

/-! ### What voiding leaves of chits and Harps -/

/-- The chits and the Harps are those of the state before. -/
def SameFrames (s t : State) : Prop := t.chits = s.chits ∧ t.harps = s.harps

theorem SameFrames.refl (s : State) : SameFrames s s := ⟨rfl, rfl⟩

theorem SameFrames.trans {s t u : State} (h : SameFrames s t) (g : SameFrames t u) : SameFrames s u := ⟨g.1.trans h.1, g.2.trans h.2⟩

/-- A fold of steps that leave them leaves them. -/
theorem SameFrames.foldl {α : Type} {f : State → α → State} (hf : ∀ s x, SameFrames s (f s x)) (xs : List α) (s : State) :
    SameFrames s (xs.foldl f s) :=
  List.foldlRecOn (motive := SameFrames s) xs f (.refl s) fun t h x _ => h.trans (hf t x)

theorem bumpIf_sameFrames (b : Bool) (a : Nat) (s : State) : SameFrames s (bumpIf b a s) := by rw [bumpIf_frame]; exact ⟨rfl, rfl⟩

theorem bump_sameFrames (a : Nat) (s : State) : SameFrames s (bump a s) := ⟨rfl, rfl⟩

theorem bumpMac_sameFrames (f : Nat → Nat) (p n : Nat) (s : State) : SameFrames s (bumpMac f p n s) := by rw [bumpMac_frame]; exact ⟨rfl, rfl⟩

/-- An event that no chit holds in escrow counts at once or not at all. -/
theorem tallyEvent_none_sameFrames (i ev amt : Nat) (q : Nat → Bool) (s : State) : SameFrames s (tallyEvent i ev amt q none s) := by
  refine SameFrames.foldl (fun t k => ?_) _ s
  dsimp only
  repeat' split
  all_goals exact ⟨rfl, rfl⟩

theorem sendPause_sameFrames (p k n : Nat) (s : State) : SameFrames s (sendPause p k n s) := by
  unfold sendPause loopBack bumpMac
  dsimp only
  repeat' split
  all_goals exact ⟨rfl, rfl⟩

theorem macSignal_sameFrames (p a b : Nat) (s : State) : SameFrames s (macSignal p a b s) := by
  have hpause (k n : Nat) (t : State) : SameFrames t (sendPause p k n t) := sendPause_sameFrames ..
  unfold macSignal
  dsimp only
  split
  · split
    · split
      · exact hpause ..
      · split
        · exact hpause ..
        · exact .refl s
    · split
      · refine .foldl (fun t k => ?_) _ s
        split
        · exact hpause ..
        · split
          · exact hpause ..
          · exact .refl t
      · exact .refl s
  · exact .refl s

theorem changePool_sameFrames (p : Nat) (f : Pool → Pool) (s : State) : SameFrames s (changePool p f s) :=
  SameFrames.trans (t := setPool p _ s) ⟨rfl, rfl⟩ (.foldl (fun _ _ => macSignal_sameFrames ..) _ _)

theorem dropUse_sameFrames (p k : Nat) (b : Bool) (s : State) : SameFrames s (dropUse p k b s) := by
  unfold dropUse
  dsimp only
  split
  · exact (changePool_sameFrames ..).trans (changePool_sameFrames ..)
  · exact changePool_sameFrames ..

theorem freeCell_sameFrames (n : Nat) (s : State) : SameFrames s (freeCell n s) := by
  unfold freeCell
  split
  next c _ =>
    have h : SameFrames s { s with mint := { s.mint with cells := tabSet none s.mint.cells n none } } := ⟨rfl, rfl⟩
    exact (h.trans (dropUse_sameFrames ..)).trans (bump_sameFrames ..)
  · exact .refl s

theorem freeChain_sameFrames (ch : List (Nat × Bool)) (s : State) : SameFrames s (freeChain ch s) := by
  have h := SameFrames.foldl (fun s n => freeCell_sameFrames n s) (readChain s ch).1 s
  unfold freeChain
  dsimp only
  split
  · exact h.trans ⟨rfl, rfl⟩
  · exact h

theorem refundMeters_sameFrames (k n i : Nat) (ds : List DebitEscrow) (a : State × Bool) : SameFrames a.1 (refundMeters k n i ds a).1 := by
  induction ds generalizing i a with
  | nil => exact .refl _
  | cons d ds ih =>
    refine SameFrames.trans ?_ (ih ..)
    split <;> exact ⟨rfl, rfl⟩

theorem refundPurse_sameFrames (k t amt : Nat) (s : State) : SameFrames s (refundPurse k t amt s).1 := by
  unfold refundPurse
  dsimp only
  split <;> exact ⟨rfl, rfl⟩

theorem refundAll_sameFrames (k n : Nat) (c : Chit) (s : State) : SameFrames s (refundAll k n c s) := by
  have hm : SameFrames s (refundMeters k n 0 c.debits (s, false)).1 := refundMeters_sameFrames ..
  unfold refundAll
  dsimp only
  refine SameFrames.trans ?_ ((bumpIf_sameFrames ..).trans (bumpIf_sameFrames ..))
  split
  · split
    · exact hm
    · exact hm.trans (refundPurse_sameFrames ..)
  · exact hm

theorem countEscrow_sameFrames (k bad : Nat) (s : State) : SameFrames s (countEscrow k bad s) :=
  SameFrames.trans (t := bumpBy _ _ s) ⟨rfl, rfl⟩ (bumpIf_sameFrames ..)

theorem stompAt_sameFrames (p : Nat) (t : Tx) (n : Nat) (s : State) : SameFrames s (stompAt p t n s) := by
  unfold stompAt
  split
  · exact SameFrames.trans (t := modTx p _ s) ⟨rfl, rfl⟩ (bumpMac_sameFrames ..)
  · exact ⟨rfl, rfl⟩

theorem stompTx_sameFrames (p : Nat) (t : Tx) (n : Nat) (s : State) : SameFrames s (stompTx p t n s) :=
  SameFrames.trans (t := { s with freeCtr := s.freeCtr + 1 }) ⟨rfl, rfl⟩ (stompAt_sameFrames ..)

/-! ### The thread of a voided frame (log 64) -/

/-- A thread has the chit `n` or none, and the tables that say so are in canonical form. -/
structure HasAtMost (th : Thr) (n : Nat) (s : State) : Prop where
  harpsWf : tabWf {} s.harps = true
  threadsWf : tabWf none (harpAt s th.slice).threads = true
  chitsWf : tabWf none s.chits = true
  thread : ∀ m, tabGet none (harpAt s th.slice).threads (8 * th.engine + th.thread) = some m → m = n

namespace HasAtMost
variable {th : Thr} {n : Nat} {s : State} (h : HasAtMost th n s)
include h

theorem sameFrames {t : State} (g : SameFrames s t) : HasAtMost th n t := by
  obtain ⟨hchits, hharps⟩ := g
  have hat : harpAt t th.slice = harpAt s th.slice := by rw [harpAt, hharps, harpAt]
  exact ⟨hharps ▸ h.harpsWf, hat ▸ h.threadsWf, hchits ▸ h.chitsWf, hat ▸ h.thread⟩

theorem afterSetChit (m : Nat) (c : Option Chit) : HasAtMost th n (setChit m c s) :=
  ⟨h.harpsWf, h.threadsWf, tabSet_wf _ _ _ h.chitsWf, h.thread⟩

theorem afterModChit (m : Nat) (f : Chit → Chit) : HasAtMost th n (modChit m f s) := by
  unfold modChit
  split
  · exact h.afterSetChit ..
  · exact h

/-- A Harp's change that keeps its threads, or takes one of them from its chit. -/
theorem afterModHarp (k : Nat) {f : HarpState → HarpState}
    (hf : ∀ x, (f x).threads = x.threads ∨ ∃ i, (f x).threads = tabSet none x.threads i none) : HasAtMost th n (modHarp k f s) := by
  have hw : tabWf {} (modHarp k f s).harps = true := tabSet_wf _ _ _ h.harpsWf
  by_cases hk : th.slice = k
  · subst hk
    have hat : harpAt (modHarp th.slice f s) th.slice = f (harpAt s th.slice) := harpAt_modHarp h.harpsWf
    obtain hsame | ⟨i, hset⟩ := hf (harpAt s th.slice)
    · exact ⟨hw, by rw [hat, hsame]; exact h.threadsWf, h.chitsWf, by rw [hat, hsame]; exact h.thread⟩
    · refine ⟨hw, by rw [hat, hset]; exact tabSet_wf _ _ _ h.threadsWf, h.chitsWf, fun m hm => ?_⟩
      rw [hat, hset, tabGet_tabSet _ _ _ _ h.threadsWf] at hm
      split at hm
      · cases hm
      · exact h.thread m hm
  · have hat : harpAt (modHarp k f s) th.slice = harpAt s th.slice := harpAt_modHarp_ne s f hk
    exact ⟨hw, hat ▸ h.threadsWf, h.chitsWf, hat ▸ h.thread⟩

/-- Ending a speculative copy changes of the chits only which of them have one under way. -/
theorem afterStompSpec (m : Nat) (why : StompWhy) (atFcs : Bool) : HasAtMost th n (stompSpec m why atFcs s) := by
  unfold stompSpec
  split
  next c _ =>
    split
    next p _ =>
      split
      next t _ =>
        split
        · have hcopy : HasAtMost th n (if atFcs then stompAt p t (t.copy.len - 4) s else stompTx p t (arrived s c) s) := by
            split
            · exact h.sameFrames (stompAt_sameFrames ..)
            · exact h.sameFrames (stompTx_sameFrames ..)
          dsimp only
          split
          · exact (hcopy.afterModChit ..).sameFrames (bump_sameFrames ..)
          · exact hcopy.afterModChit ..
        · exact h
      · exact h
    · exact h
  · exact h

end HasAtMost

/-- The chit is in parse no more. -/
structure Unparsed (th : Thr) (n : Nat) (s : State) : Prop extends HasAtMost th n s where
  parse : ∀ c, chitAt s n = some c → c.parse = none

/-- Then the thread is free. -/
theorem Unparsed.threadOf_eq_none {th : Thr} {n : Nat} {s : State} (h : Unparsed th n s) : threadOf s th = none := by
  unfold threadOf
  split
  next m hm =>
    obtain rfl := h.thread m hm
    split
    next c hc => rw [h.parse c hc]; rfl
    · rfl
  · rfl

section Voiding
variable {th : Thr} {n : Nat} {s : State}

theorem Unparsed.sameFrames {t : State} (h : Unparsed th n s) (g : SameFrames s t) : Unparsed th n t := by
  refine ⟨h.toHasAtMost.sameFrames g, ?_⟩
  have hat : chitAt t n = chitAt s n := by rw [chitAt, g.1, chitAt]
  exact hat ▸ h.parse

/-- A change of the chit that leaves its parse ended. -/
theorem HasAtMost.modChit_unparsed (h : HasAtMost th n s) {f : Chit → Chit} (hf : ∀ c, chitAt s n = some c → (f c).parse = none) :
    Unparsed th n (modChit n f s) := by
  refine ⟨h.afterModChit n f, fun d hd => ?_⟩
  cases hc : chitAt s n with
  | none =>
    rw [modChit, hc] at hd
    cases hc.symm.trans hd
  | some c =>
    rw [chitAt_modChit s f hc] at hd
    cases hd
    exact hf c hc

/-- Ending a frame's parse ends it. -/
theorem endParse_unparsed (h : HasAtMost th n s) : Unparsed th n (endParse n s) := by
  have hline (t : State) (ht : HasAtMost th n t) : Unparsed th n (modChit n (fun c => { c with parse := none })
      (modHarp (chitSlice n) (fun h => { h with waiting := h.waiting.filter (fun x => x != n) }) t)) := by
    refine HasAtMost.modChit_unparsed (ht.afterModHarp _ ?_) ?_
    · exact fun _ => .inl rfl
    · exact fun _ _ => rfl
  unfold endParse
  split
  · dsimp only
    split
    · split
      · exact hline _ h
      · exact hline _ (h.afterModHarp _ fun _ => .inr ⟨_, rfl⟩)
    · exact hline _ h
  next hc => exact ⟨h, fun c hc' => by rw [hc] at hc'; cases hc'⟩

/-- A chit that loses its hold, and with it its number where nothing else holds it, stays out of parse. -/
theorem dropHold_unparsed (h : Unparsed th n s) : Unparsed th n (dropHold n s) := by
  have hd : Unparsed th n (modChit n (fun c => { c with hold := false }) s) := h.toHasAtMost.modChit_unparsed fun c hc => h.parse c hc
  unfold dropHold releaseIf
  split
  next c _ =>
    split
    · have hf := hd.sameFrames (freeChain_sameFrames c.chain _)
      refine ⟨hf.afterSetChit n none, fun d hd => ?_⟩
      have hnone : chitAt (setChit n none _) n = none := (tabGet_tabSet _ n n none hf.chitsWf).trans (if_pos rfl)
      cases hnone.symm.trans hd
    · exact hd
  · exact hd

/-- A frame that voids ends its parse, whatever the cause. -/
theorem voidChit_unparsed {c : Chit} (h : HasAtMost th n s) (hc : chitAt s n = some c) (hs : c.status = .provisional) (cause : Nat) :
    Unparsed th n (voidChit n cause s) := by
  have hread : HasAtMost th n (if cause = 14 then stompSpec n .void false s
      else countEscrow (chitSlice n) (badWords (stompSpec n .void false s) n (debitWords c)) (stompSpec n .void false s)) := by
    split
    · exact h.afterStompSpec ..
    · exact (h.afterStompSpec ..).sameFrames (countEscrow_sameFrames ..)
  have hend := endParse_unparsed (hread.sameFrames (refundAll_sameFrames (chitSlice n) n c _))
  unfold voidChit
  simp only [hc, hs, if_true]
  refine dropHold_unparsed (.sameFrames ?_ (tallyEvent_none_sameFrames ..))
  refine (Unparsed.sameFrames ?_ (bump_sameFrames ..)).sameFrames (bump_sameFrames ..)
  exact hend.toHasAtMost.modChit_unparsed fun d hd => hend.parse d hd

end Voiding

/-- The chit that a thread parses, as the tables hold it. -/
theorem threadOf_eq_some {s : State} {th : Thr} {n : Nat} {c : Chit} {t : Thread} (h : threadOf s th = some (n, c, t)) :
    tabGet none (harpAt s th.slice).threads (8 * th.engine + th.thread) = some n ∧ chitAt s n = some c := by
  unfold threadOf at h
  split at h
  next m hm =>
    split at h
    next d hd =>
      obtain ⟨_, -, he⟩ := Option.map_eq_some_iff.1 h
      cases he
      exact ⟨hm, hd⟩
    · cases h
  · cases h

/-- Where the tables of Harps, threads and chits are in canonical form, a frame over the limits leaves its thread free. -/
theorem threadOf_overrun {s : State} {th : Thr} {n : Nat} {c : Chit} {t : Thread} (ht : threadOf s th = some (n, c, t))
    (hs : c.status = .provisional) (wh : tabWf {} s.harps = true) (wt : tabWf none (harpAt s th.slice).threads = true)
    (wc : tabWf none s.chits = true) : threadOf (voidChit n 7 (bump (Ctr.hrpOverrun th.slice) s)) th = none := by
  obtain ⟨hthread, hchit⟩ := threadOf_eq_some ht
  have h : HasAtMost th n s := ⟨wh, wt, wc, fun m hm => Option.some.inj (hm.symm.trans hthread)⟩
  exact (voidChit_unparsed (h.sameFrames (bump_sameFrames ..)) hchit hs 7).threadOf_eq_none

/-! ### A table that is not in canonical form -/

/-- Thread 0 of engine 0 of slice 0. -/
def firstThread : Thr := ⟨0, 0, 0⟩

/-- A frame in parse on that thread. -/
def parsed : Chit := { port := 0, bytes := [], rxAt := 0, order := 0, parse := some { th := 0, bank := 0, pc := 0, regs := [] } }

/-- A state whose table of Harps lists slice 0 twice: its thread has chit 0 by the first entry and chit 1 by the second. -/
def listedTwice : State := { State.reset with
  harps := [(0, { threads := [(0, some 0)] }), (0, { threads := [(0, some 1)] })]
  chits := [(0, some parsed), (1, some parsed)] }

/-- The void of chit 0 leaves the first entry as at reset, which takes it out of the table; the thread then has chit 1. -/
theorem threadOf_listedTwice :
    (threadOf (voidChit 0 7 (bump (Ctr.hrpOverrun 0) listedTwice)) firstThread).map (fun x => x.1) = some 1 := by decide

/-- Refutes O15: that the thread of the voided frame is free asks the table of Harps for no canonical form. Where the table lists a slice twice, the
entry beneath the one that the void takes out gives the thread another frame. The causes, alarm and counters of the three stops are as stated
(`exec_poisoned`, `exec_illegal`, `exec_overrun` with `overrun_iff`), and with the table in canonical form the thread is free
(`threadOf_overrun`). -/
theorem not_harpStopsVoidTheFrame : ¬ Obligations.HarpStopsVoidTheFrame := by
  unfold Obligations.HarpStopsVoidTheFrame
  intro h
  obtain ⟨-, -, -, -, hfree⟩ := h listedTwice firstThread 0 parsed { th := 0, bank := 0, pc := 0, regs := [] } (.nop firstThread)
    rfl (by decide) (by decide) (by decide)
  have hnone := threadOf_listedTwice
  rw [show threadOf (voidChit 0 7 (bump (Ctr.hrpOverrun 0) listedTwice)) firstThread = none from hfree rfl (by decide) (by decide)] at hnone
  cases hnone

end Sys2Proof.Proofs.HarpStops
end

section
/-! SUPPORT. The words of Harp instructions (Tables 04-1 to 04-3): each field that the encoder packs reads back, so that the decoder undoes the
encoder. -/
namespace Sys2Proof.Proofs.HarpWords
open Sys2Proof Sys2Proof.Machine Sys2Proof.Laws Sys2Proof.Laws.HarpWord

/-! ### The fields of a packed word (Table 04-1) -/

section Pack
variable {op rd ra rb low : Nat}

theorem harpPack_op (hd : rd < 2 ^ 4) (ha : ra < 2 ^ 4) (hb : rb < 2 ^ 4) (hl : low < 2 ^ 46) :
    harpPack op rd ra rb low / 2 ^ 58 = op := by
  unfold harpPack
  omega

theorem harpPack_rd (d : BitVec 4) (ha : ra < 2 ^ 4) (hb : rb < 2 ^ 4) (hl : low < 2 ^ 46) :
    BitVec.ofNat 4 (harpPack op d.toNat ra rb low / 2 ^ 54) = d := by
  apply BitVec.eq_of_toNat_eq
  rw [BitVec.toNat_ofNat, harpPack]
  omega

theorem harpPack_ra (a : BitVec 4) (hb : rb < 2 ^ 4) (hl : low < 2 ^ 46) :
    BitVec.ofNat 4 (harpPack op rd a.toNat rb low / 2 ^ 50) = a := by
  apply BitVec.eq_of_toNat_eq
  rw [BitVec.toNat_ofNat, harpPack]
  omega

theorem harpPack_rb (b : BitVec 4) (hl : low < 2 ^ 46) : BitVec.ofNat 4 (harpPack op rd ra b.toNat low / 2 ^ 46) = b := by
  apply BitVec.eq_of_toNat_eq
  rw [BitVec.toNat_ofNat, harpPack]
  omega

/-- A field that lies in bits [45:0] is a field of those bits alone. -/
theorem harpPack_low {n k : Nat} (h : k + n ≤ 46) : BitVec.ofNat n (harpPack op rd ra rb low / 2 ^ k) = BitVec.ofNat n (low / 2 ^ k) := by
  obtain ⟨j, hj⟩ := Nat.exists_eq_add_of_le h
  have hpack : harpPack op rd ra rb low = low + 2 ^ k * (2 ^ n * (2 ^ j * (op * 2 ^ 12 + rd * 2 ^ 8 + ra * 2 ^ 4 + rb))) := by
    have h46 : 2 ^ k * (2 ^ n * (2 ^ j * (op * 2 ^ 12 + rd * 2 ^ 8 + ra * 2 ^ 4 + rb)))
        = 2 ^ 46 * (op * 2 ^ 12 + rd * 2 ^ 8 + ra * 2 ^ 4 + rb) := by
      rw [hj, pow_add, pow_add, mul_assoc, mul_assoc]
    rw [h46, harpPack]
    omega
  apply BitVec.eq_of_toNat_eq
  rw [hpack, BitVec.toNat_ofNat, BitVec.toNat_ofNat, Nat.add_mul_div_left _ _ (Nat.two_pow_pos k), Nat.add_mul_mod_self_left]

/-- So is one that starts at bit 0. -/
theorem harpPack_low_zero {n : Nat} (h : n ≤ 46) : BitVec.ofNat n (harpPack op rd ra rb low) = BitVec.ofNat n low := by
  have h0 := harpPack_low (op := op) (rd := rd) (ra := ra) (rb := rb) (low := low) (n := n) (k := 0) (by omega)
  rwa [pow_zero, Nat.div_one, Nat.div_one] at h0

end Pack

/-! ### The fields of bits [45:0] (Table 04-2) -/

theorem lowX_fields (o : BitVec 11) (l p : BitVec 5) (m x : BitVec 1) :
    let low := lowX o.toNat l.toNat p.toNat m.toNat x.toNat
    BitVec.ofNat 11 (low / 2 ^ 35) = o ∧ BitVec.ofNat 5 (low / 2 ^ 30) = l ∧ BitVec.ofNat 5 (low / 2 ^ 25) = p
      ∧ BitVec.ofNat 1 (low / 2 ^ 24) = m ∧ BitVec.ofNat 1 (low / 2 ^ 23) = x := by
  and_intros <;> apply BitVec.eq_of_toNat_eq <;> rw [BitVec.toNat_ofNat, lowX] <;> omega

theorem lowD_fields (q l p : BitVec 5) (m : BitVec 1) :
    let low := lowD q.toNat l.toNat p.toNat m.toNat
    BitVec.ofNat 5 (low / 2 ^ 35) = q ∧ BitVec.ofNat 5 (low / 2 ^ 30) = l ∧ BitVec.ofNat 5 (low / 2 ^ 25) = p
      ∧ BitVec.ofNat 1 (low / 2 ^ 24) = m := by
  and_intros <;> apply BitVec.eq_of_toNat_eq <;> rw [BitVec.toNat_ofNat, lowD] <;> omega

theorem bit_lt (f : BitVec 1) : f.toNat < 2 := f.isLt

/-- A branch uses some of the fields of format B; those it does not use are 0. -/
theorem lowB_fields (t : BitVec 13) {f i e k : Nat} (hf : f < 2) (hi : i < 2 ^ 24) (he : e < 2 ^ 3) (hk : k < 2 ^ 5) :
    let low := lowB t.toNat f i e k
    BitVec.ofNat 13 (low / 2 ^ 33) = t ∧ BitVec.ofNat 1 (low / 2 ^ 32) = BitVec.ofNat 1 f
      ∧ BitVec.ofNat 24 (low / 2 ^ 8) = BitVec.ofNat 24 i ∧ BitVec.ofNat 3 (low / 2 ^ 5) = BitVec.ofNat 3 e
      ∧ BitVec.ofNat 5 low = BitVec.ofNat 5 k := by
  and_intros <;> apply BitVec.eq_of_toNat_eq <;> simp only [BitVec.toNat_ofNat, lowB] <;> omega

theorem lowL_fields (t n : BitVec 3) (c w : BitVec 1) :
    let low := lowL t.toNat n.toNat c.toNat w.toNat
    BitVec.ofNat 3 (low / 2 ^ 43) = t ∧ BitVec.ofNat 3 (low / 2 ^ 40) = n ∧ BitVec.ofNat 1 (low / 2 ^ 39) = c
      ∧ BitVec.ofNat 1 (low / 2 ^ 38) = w := by
  and_intros <;> apply BitVec.eq_of_toNat_eq <;> rw [BitVec.toNat_ofNat, lowL] <;> omega

theorem lowE_fields (m : BitVec 6) (c : BitVec 2) (o : BitVec 16) :
    let low := lowE m.toNat c.toNat o.toNat
    BitVec.ofNat 6 (low / 2 ^ 40) = m ∧ BitVec.ofNat 2 (low / 2 ^ 38) = c ∧ BitVec.ofNat 16 low = o := by
  and_intros <;> apply BitVec.eq_of_toNat_eq <;> rw [BitVec.toNat_ofNat, lowE] <;> omega

/-! ### Encoder and decoder (R109, R110) -/

/-- The fields of an instruction's word are the instruction: format by format, each field that it uses reads back. -/
theorem harpFields_of_harpEncode {th : Thr} {i : Instr} {w : Nat} (h : harpThr i = some th) (hw : harpEncode i = some w) :
    harpFields th w = some i := by
  cases i with
  | nop | add | sub | andR | orR | xorR | shl | shr | rng | done | drop =>
    cases h; cases hw
    simp only [harpFields, harpPack_op, harpPack_rd, harpPack_ra, harpPack_rb, BitVec.isLt, Nat.two_pow_pos, -Nat.reducePow]
  | addi | andi | ori | xori | shli | shri | movi | rds | hsh | trap =>
    cases h; cases hw
    simp only [harpFields, harpPack_op, harpPack_rd, harpPack_ra, harpPack_low_zero, low_lt, BitVec.isLt, BitVec.ofNat_toNat,
      BitVec.setWidth_eq, Nat.two_pow_pos, Nat.reduceLeDiff, -Nat.reducePow]
  | xtr =>
    cases h; cases hw
    simp only [harpFields, harpPack_op, harpPack_rd, harpPack_ra, harpPack_low, lowX_lt, lowX_fields, BitVec.isLt, Nat.two_pow_pos,
      Nat.reduceAdd, Nat.reduceLeDiff, -Nat.reducePow]
  | dep =>
    cases h; cases hw
    simp only [harpFields, harpPack_op, harpPack_rd, harpPack_ra, harpPack_low, lowD_lt, lowD_fields, BitVec.isLt, Nat.two_pow_pos,
      Nat.reduceAdd, Nat.reduceLeDiff, -Nat.reducePow]
  | jmp | beq | bne | bltu | bgeu | bbs | bbc | bmiss =>
    cases h; cases hw
    simp only [harpFields, harpPack_op, harpPack_ra, harpPack_rb, harpPack_low, harpPack_low_zero, lowB_lt, lowB_fields, bit_lt,
      BitVec.isLt, BitVec.ofNat_toNat, BitVec.setWidth_eq, Nat.two_pow_pos, Nat.ofNat_pos, Nat.reduceAdd, Nat.reduceLeDiff,
      -Nat.reducePow]
  | lkp =>
    cases h; cases hw
    simp only [harpFields, harpPack_op, harpPack_ra, harpPack_rb, harpPack_low, lowL_lt, lowL_fields, BitVec.isLt, Nat.two_pow_pos,
      Nat.reduceAdd, Nat.reduceLeDiff, -Nat.reducePow]
  | emit =>
    cases h; cases hw
    simp only [harpFields, harpPack_op, harpPack_ra, harpPack_low, harpPack_low_zero, lowE_lt, lowE_fields, BitVec.isLt,
      Nat.two_pow_pos, Nat.reduceAdd, Nat.reduceLeDiff, -Nat.reducePow]
  | _ => cases h

/-- The fields of a word spell an instruction of the thread that fetches it. -/
theorem harpThr_of_harpFields {th : Thr} {w : Nat} {i : Instr} (h : harpFields th w = some i) : harpThr i = some th := by
  unfold harpFields at h
  dsimp only at h
  split at h <;> cases h <;> rfl

/-- A legal instruction is a thread's and has a word, which fits 64 bits. -/
theorem harpEncode_of_harpLegal {i : Instr} (h : harpLegal i = true) :
    ∃ th w, harpThr i = some th ∧ harpEncode i = some w ∧ HarpWord.Statement i := by
  cases i with
  | nop => exact ⟨_, _, rfl, rfl, HarpWord.nop _⟩
  | add => exact ⟨_, _, rfl, rfl, HarpWord.add _ _ _ _⟩
  | sub => exact ⟨_, _, rfl, rfl, HarpWord.sub _ _ _ _⟩
  | andR => exact ⟨_, _, rfl, rfl, HarpWord.andR _ _ _ _⟩
  | orR => exact ⟨_, _, rfl, rfl, HarpWord.orR _ _ _ _⟩
  | xorR => exact ⟨_, _, rfl, rfl, HarpWord.xorR _ _ _ _⟩
  | shl => exact ⟨_, _, rfl, rfl, HarpWord.shl _ _ _ _⟩
  | shr => exact ⟨_, _, rfl, rfl, HarpWord.shr _ _ _ _⟩
  | addi => exact ⟨_, _, rfl, rfl, HarpWord.addi _ _ _ _⟩
  | andi => exact ⟨_, _, rfl, rfl, HarpWord.andi _ _ _ _⟩
  | ori => exact ⟨_, _, rfl, rfl, HarpWord.ori _ _ _ _⟩
  | xori => exact ⟨_, _, rfl, rfl, HarpWord.xori _ _ _ _⟩
  | shli => exact ⟨_, _, rfl, rfl, HarpWord.shli _ _ _ _⟩
  | shri => exact ⟨_, _, rfl, rfl, HarpWord.shri _ _ _ _⟩
  | movi => exact ⟨_, _, rfl, rfl, HarpWord.movi _ _ _⟩
  | xtr => exact ⟨_, _, rfl, rfl, HarpWord.xtr _ _ _ _ _ _ _ _⟩
  | dep => exact ⟨_, _, rfl, rfl, HarpWord.dep _ _ _ _ _ _ _⟩
  | jmp => exact ⟨_, _, rfl, rfl, HarpWord.jmp _ _⟩
  | beq => exact ⟨_, _, rfl, rfl, HarpWord.beq _ _ _ _ _ _⟩
  | bne => exact ⟨_, _, rfl, rfl, HarpWord.bne _ _ _ _ _ _⟩
  | bltu => exact ⟨_, _, rfl, rfl, HarpWord.bltu _ _ _ _ _ _⟩
  | bgeu => exact ⟨_, _, rfl, rfl, HarpWord.bgeu _ _ _ _ _ _⟩
  | bbs => exact ⟨_, _, rfl, rfl, HarpWord.bbs _ _ _ _⟩
  | bbc => exact ⟨_, _, rfl, rfl, HarpWord.bbc _ _ _ _⟩
  | bmiss => exact ⟨_, _, rfl, rfl, HarpWord.bmiss _ _ _⟩
  | lkp => exact ⟨_, _, rfl, rfl, HarpWord.lkp _ _ _ _ _ _ _⟩
  | rng => exact ⟨_, _, rfl, rfl, HarpWord.rng _ _ _⟩
  | rds => exact ⟨_, _, rfl, rfl, HarpWord.rds _ _ _ _⟩
  | hsh => exact ⟨_, _, rfl, rfl, HarpWord.hsh _ _ _ _⟩
  | emit => exact ⟨_, _, rfl, rfl, HarpWord.emit _ _ _ _ _⟩
  | done => exact ⟨_, _, rfl, rfl, HarpWord.done _⟩
  | drop => exact ⟨_, _, rfl, rfl, HarpWord.drop _⟩
  | trap => exact ⟨_, _, rfl, rfl, HarpWord.trap _ _⟩
  | _ => cases h

/-- A word decodes to an instruction exactly when it is the word of that instruction, which is legal and the thread's. -/
theorem harpDecode_eq_some_iff {th : Thr} {w : W64} {i : Instr} :
    harpDecode th w = some i ↔ harpLegal i = true ∧ harpEncode i = some w.toNat ∧ harpThr i = some th := by
  unfold harpDecode
  constructor
  · intro h
    split at h
    next j hj =>
      split at h
      next hgood =>
        cases h
        obtain ⟨hlegal, hword⟩ := Bool.and_eq_true_iff.1 hgood
        exact ⟨hlegal, eq_of_beq hword, harpThr_of_harpFields hj⟩
      · cases h
    · cases h
  · rintro ⟨hlegal, hword, hthr⟩
    simp [harpFields_of_harpEncode hthr hword, hlegal, hword]

/-- Settles O6: the word of a legal instruction fits 64 bits, and decodes to the one instruction whose word it is. -/
theorem harpDecodeOfEncode : Obligations.HarpDecodeOfEncode := by
  unfold Obligations.HarpDecodeOfEncode
  intro th i hlegal hown
  obtain ⟨h, w, hthr, hword, hfits⟩ := harpEncode_of_harpLegal hlegal
  obtain rfl := hown h hthr
  have hlt : w < 2 ^ 64 := hfits w hword
  have hnat : (BitVec.ofNat 64 w).toNat = w := by rw [BitVec.toNat_ofNat, Nat.mod_eq_of_lt hlt]
  exact ⟨w, hword, hlt, harpDecode_eq_some_iff.2 ⟨hlegal, by rw [hnat, hword], hthr⟩⟩

/-- Settles O7: a word that decodes is the word of the legal instruction it decodes to. -/
theorem harpEncodeOfDecode : Obligations.HarpEncodeOfDecode := by
  unfold Obligations.HarpEncodeOfDecode
  exact fun _ _ _ h => harpDecode_eq_some_iff.1 h

/-- Settles O8: each word is its instruction's, which is legal; the last three have no instruction. -/
theorem harpWordsDecodeAsTheTablesSay : Obligations.HarpWordsDecodeAsTheTablesSay := by
  unfold Obligations.HarpWordsDecodeAsTheTablesSay
  intro th
  have hspells {w : W64} {i : Instr} (hlegal : harpLegal i = true) (hword : harpEncode i = some w.toNat) (hthr : harpThr i = some th) :
      harpDecode th w = some i := harpDecode_eq_some_iff.2 ⟨hlegal, hword, hthr⟩
  exact ⟨hspells rfl rfl rfl, hspells rfl rfl rfl, hspells rfl rfl rfl, hspells rfl rfl rfl, hspells rfl rfl rfl, hspells rfl rfl rfl,
    hspells rfl rfl rfl, hspells rfl rfl rfl, hspells rfl rfl rfl, hspells rfl rfl rfl, hspells rfl rfl rfl, rfl, rfl, rfl⟩

end Sys2Proof.Proofs.HarpWords
end

section
/-! SUPPORT. The issue of a Harp instruction (R86, R89, R95): what its own effect leaves of the state in which the issue has been counted; and the
instructions that compute, take fields and branch (chapter 04). -/
namespace Sys2Proof.Proofs.HarpIssues
open Sys2Proof Sys2Proof.Machine Sys2Proof.Laws

/-! ### The issue -/

/-- Setting the parse of a frame whose issue has been counted. -/
theorem setThread_afterIssue (th : Thr) (n : Nat) (t u : Thread) (s : State) : setThread n t (afterIssue th n u s) = afterIssue th n t s :=
  setThread_setThread n t u _

section Issue
variable {s : State} {th : Thr} {n : Nat} {c : Chit} {t : Thread} {i : Instr} (h : Fetches s th n c t i)
include h

/-- An instruction that its thread fetches takes its own effect once the values it reads are there. -/
theorem exec_ready {eff : Nat → Chit → Thread → State → State} (hr : instrReady i c t = true) (he : exec i s = harpIssue th i eff s) :
    exec i s = .next (eff n c (issued t) (afterIssue th n (issued t) s)) := by
  rw [he, harpIssue_fetches h, if_pos hr]

/-- Before they are there it does not issue. -/
theorem exec_waits {eff : Nat → Chit → Thread → State → State} (hr : instrReady i c t = false) (he : exec i s = harpIssue th i eff s) :
    exec i s = .next s := by
  rw [he, harpIssue_fetches h, hr]
  rfl

/-- An instruction whose effect is a change of the parse leaves the counted issue with that change. -/
theorem exec_parses {f : Chit → Thread → Thread} (hr : instrReady i c t = true)
    (he : exec i s = harpIssue th i (fun n c t s => setThread n (f c t) s) s) : exec i s = .next (afterIssue th n (f c (issued t)) s) :=
  (exec_ready h hr he).trans (congrArg Host.Outcome.next (setThread_afterIssue ..))

/-- An instruction that writes one register. -/
theorem exec_alu {d : BitVec 4} {f : Thread → W32} (hr : instrReady i c t = true) (he : exec i s = harpIssue th i (alu d f) s) :
    exec i s = .next (afterIssue th n (setReg (issued t) d (f (issued t))) s) :=
  exec_parses h (f := fun _ t => setReg t d (f t)) hr he

/-- A branch goes to its target exactly when its condition holds. -/
theorem exec_branch {g : BitVec 13} {taken : Thread → Bool} {cond : Prop} (hr : instrReady i c t = true)
    (he : exec i s = harpIssue th i (branchTo g taken) s) (hcond : taken (issued t) = true ↔ cond) :
    (cond → exec i s = .next (afterIssue th n { issued t with pc := g.toNat } s))
      ∧ (¬ cond → exec i s = .next (afterIssue th n (issued t) s)) := by
  have hnext := exec_ready h hr he
  refine ⟨fun hc => ?_, fun hc => ?_⟩
  · rw [hnext, branchTo, if_pos (hcond.2 hc), setThread_afterIssue]
  · rw [hnext, branchTo, if_neg (mt hcond.1 hc)]

end Issue

/-- Settles O9: NOP has no effect of its own, and each of the others writes one register. -/
theorem harpArithmeticWritesItsRegister : Obligations.HarpArithmeticWritesItsRegister := by
  unfold Obligations.HarpArithmeticWritesItsRegister
  intro s th n c t d a b i
  refine ⟨fun h => exec_ready (eff := fun _ _ _ s => s) h rfl rfl, ?_⟩
  and_intros <;> exact fun h => exec_alu h rfl rfl

/-! ### XTR and DEP (R113, R114) -/

/-- The issue leaves the memories' poison alone, so that the window reads poison where it did. -/
theorem windowPoison_afterIssue (th : Thr) (n : Nat) (u : Thread) (s : State) (c : Chit) (e len : Nat) :
    windowPoison (afterIssue th n u s) c e len = windowPoison s c e len := by
  have hmem : (afterIssue th n u s).mem = s.mem := by
    unfold afterIssue setThread modChit
    split <;> rfl
  have hcell : cellPoisoned (afterIssue th n u s) = cellPoisoned s := by
    unfold cellPoisoned poisonedAt
    rw [hmem]
  unfold windowPoison
  rw [hcell]

/-- Settles O10: XTR reads no poison, and DEP reads a register. -/
theorem harpFieldInstructionsDepositTheField : Obligations.HarpFieldInstructionsDepositTheField := by
  unfold Obligations.HarpFieldInstructionsDepositTheField
  intro s th n c t d a o q l p m x
  refine ⟨fun h hclean => ?_, fun h => exec_alu h rfl rfl⟩
  have hread : windowPoison (afterIssue th n (issued t) s) c (xtrOffset (issued t) a o x) (l.toNat + 1) = false :=
    (windowPoison_afterIssue ..).trans hclean
  rw [show exec (.xtr th d a o l p m x) s = execXtr th d a o l p m x s from rfl, execXtr, harpIssue_fetches h]
  simp only [instrReady, if_true, hread, Bool.false_eq_true, if_false, setThread_afterIssue]
  rfl

/-! ### Branches (R112, R115, R121) -/

/-- Settles O11: each branch with its condition; BMISS issues once its slot holds a result or was never asked for. -/
theorem harpBranchesSetTheNextWord : Obligations.HarpBranchesSetTheNextWord := by
  unfold Obligations.HarpBranchesSetTheNextWord
  intro s th n c t a b g f i k e
  refine ⟨?jmp, ?beq, ?bne, ?bltu, ?bgeu, ?bbs, ?bbc, ?bmiss, ?waits, ?never, ?result⟩
  case jmp => exact fun h => exec_branch h rfl rfl (iff_of_true rfl trivial)
  case beq | bne | bltu | bgeu => exact fun h => exec_branch h rfl rfl decide_eq_true_iff
  case bbs => exact fun h => exec_branch h rfl rfl Iff.rfl
  case bbc => exact fun h => exec_branch h rfl rfl (Bool.not_eq_true' _).to_iff
  case bmiss => exact fun h hl => exec_branch h hl rfl (Bool.not_eq_true' _).to_iff
  case waits => exact fun h hl => exec_waits h hl rfl
  case never =>
    intro he
    rw [he]
    exact ⟨rfl, rfl⟩
  case result =>
    intro table key src r he
    rw [he]
    exact ⟨rfl, rfl⟩

end Sys2Proof.Proofs.HarpIssues
end

section
/-! SUPPORT. The requests of a Harp thread, their results, and what it reads of them (R89, R116 to R122). -/
namespace Sys2Proof.Proofs.HarpRequests
open Sys2Proof Sys2Proof.Machine Sys2Proof.Laws Sys2Proof.Proofs.PortSettings Sys2Proof.Proofs.Ingress Sys2Proof.Proofs.HarpIssues

/-! ### Results (R118, R119) -/

/-- Where no word carries poison, none of an object does. -/
theorem poisoned_of_nil {s : State} (h : s.mem.poison = []) (x : Config.Held) : poisoned s x = false := by
  rw [poisoned, h, tabGet_nil]

/-- Then each of the 512 comparators reports what it finds. -/
theorem getD_reports {s : State} (h : s.mem.poison = []) (k ver : Nat) (fs : List Nat) (pr : Nat) {i : Nat} (hi : i < 512) :
    (reports s k ver fs pr).getD i none = comparator (tabGet (0#32, 0#32) (setFor s k ver).ranges i) fs pr := by
  simp [reports, hi, poisoned_of_nil h]

/-- The range results of a frame land in its range slot. -/
theorem rangeResult_asked {s : State} {n : Nat} {c : Chit} {t : Thread} {fs : List Nat} {pr : Nat} (hc : chitAt s n = some c)
    (ht : c.parse = some t) (hr : t.range = .asked fs pr) (h : s.mem.poison = []) :
    rangeResult n s
      = setThread n { t with range := .got (reports s (chitSlice n) c.setVer fs pr) } (bumpBy (Ctr.memPoisonRead 4) 0 s) := by
  unfold rangeResult
  simp [hc, ht, hr, poisoned_of_nil h]

/-- A frame is held with this parse. -/
def Parses (n : Nat) (t : Thread) (s : State) : Prop := ∃ c, chitAt s n = some c ∧ c.parse = some t

section Parses
variable {s : State} {n : Nat} {t : Thread} (h : Parses n t s)
include h

/-- Setting the parse sets it. -/
theorem Parses.setThread (u : Thread) : Parses n u (setThread n u s) := by
  obtain ⟨c, hc, -⟩ := h
  exact ⟨_, chitAt_modChit s _ hc, rfl⟩

/-- A change of the chit elsewhere leaves it. -/
theorem Parses.modChit {f : Chit → Chit} (hf : ∀ c, (f c).parse = c.parse) : Parses n t (modChit n f s) := by
  obtain ⟨c, hc, ht⟩ := h
  exact ⟨_, chitAt_modChit s f hc, (hf c).trans ht⟩

/-- Counting a lookup leaves it. -/
theorem Parses.countLookup (k tb : Nat) (r : LkpResult) : Parses n t (countLookup k tb (some n) r s) := by
  have htally : Parses n t (tallyEvent (16 * k + 1) 0x0A 1 (fun x => decide (x = tb) || decide (x = 0xF)) (some n) s) :=
    chitAt_tallyEvent (fun _ _ hc => hc) h
  unfold Machine.countLookup countPoison reportPoison
  rw [bumpIf_frame, bumpIf_frame]
  dsimp only
  repeat' split
  all_goals exact htally

/-- So does what a source lookup puts into escrow. -/
theorem Parses.sourceEffect (k tb key : Nat) (r : LkpResult) : Parses n t (sourceEffect n k tb key r s) := by
  unfold Machine.sourceEffect
  dsimp only
  split
  · exact h
  · refine Parses.modChit ?_ fun c => (apply_ite Chit.parse ..).trans (ite_self _)
    split
    · exact h.modChit fun _ => rfl
    · exact h

end Parses

/-- The result of a frame's first lookup, of its key cut to the table's width, lands in slot L0. -/
theorem lookupResult_asked {s : State} {n : Nat} {c : Chit} {t : Thread} {tb key : Nat} {src : Bool} (hc : chitAt s n = some c)
    (ht : c.parse = some t) (hq : t.slot0 = .asked tb key src) :
    let cut := key % 2 ^ ((tabCfgAt s tb).map TabCfg.width).getD 0
    Parses n { t with slot0 := .got tb cut src (lookupIn s (chitSlice n / 4) tb cut) } (lookupResult n 0 s) := by
  have hp : Parses n t s := ⟨c, hc, ht⟩
  have hslot : slotOf t 0 = .asked tb key src := hq
  unfold lookupResult
  simp only [hc, ht, hslot, if_true]
  split
  · exact ((hp.countLookup ..).setThread _).sourceEffect ..
  · exact (hp.countLookup ..).setThread _

/-- Settles O12: LKP and RNG change the parse alone, and the results land in the slots that hold their requests. -/
theorem harpRequestsEnterTheirSlots : Obligations.HarpRequestsEnterTheirSlots := by
  unfold Obligations.HarpRequestsEnterTheirSlots
  intro s th n c t a b tb nm sr tw
  refine ⟨?lkp, ?rng, ?range, ?reports, ?lookup⟩
  case lkp =>
    intro h
    rw [show exec (.lkp th a b tb nm sr tw) s = execLkp th a b tb nm sr tw s from rfl, execLkp, harpIssue_fetches h]
    simp only [instrReady, if_true, setThread_afterIssue]
    rfl
  case rng =>
    intro h
    rw [show exec (.rng th a b) s = execRng th a b s from rfl, execRng, harpIssue_fetches h]
    simp only [instrReady, if_true, setThread_afterIssue]
    rfl
  case range =>
    intro fs pr hn hk hc ht hr hclean
    exact onUnit_next.2 ⟨decide_eq_true hn, (if_pos hk).trans (rangeResult_asked hc ht hr hclean)⟩
  case reports => exact fun k ver fs pr i hclean hi => getD_reports hclean k ver fs pr hi
  case lookup =>
    intro table key src hn hc ht hq
    obtain ⟨c', hc', ht'⟩ := lookupResult_asked hc ht hq
    exact ⟨_, c', _, _, onUnit_next.2 ⟨by simp [hn], rfl⟩, hc', ht', rfl, rfl, rfl⟩

end Sys2Proof.Proofs.HarpRequests
end

section
/-! SUPPORT. What a Harp thread reads and hashes (R119, R120, R122). -/
namespace Sys2Proof.Proofs.HarpReads
open Sys2Proof Sys2Proof.Machine Sys2Proof.Laws Sys2Proof.Proofs.PortSettings Sys2Proof.Proofs.HarpIssues

/-! ### Words of single bits -/

/-- A word packed from fields is the word of their sum. -/
theorem packW_eq_sum (fs : List (Nat × Nat)) : packW fs = w32 (fs.map fun f => f.2 * 2 ^ f.1).sum := by
  rw [packW, List.sum_eq_foldl, List.foldl_map]

/-- Each of 32 bits packed into a word reads back. -/
theorem getLsbD_packW_bits (p : Nat → Bool) {i : Nat} (hi : i < 32) :
    (packW ((List.range 32).map fun j => (j, b2n (p j)))).getLsbD i = p i := by
  have hbit : ∀ j < 32, b2n (p j) ≤ 1 := fun j _ => by cases p j <;> decide
  rw [packW_eq_sum, List.map_map, w32, BitVec.getLsbD_ofNat, ← bit_eq_testBit]
  have hsum := bit_sum_digits (fun j => b2n (p j)) 32 hbit hi
  rw [show ((fun f : Nat × Nat => f.2 * 2 ^ f.1) ∘ fun j => (j, b2n (p j))) = fun j => b2n (p j) * 2 ^ j from rfl, hsum, decide_eq_true hi]
  cases p i <;> rfl

/-! ### The values of Table 04-5 -/

/-- Three flags packed into bits 0, 1 and 2 of a word read back, and nothing else stands in it (Table 04-6). -/
theorem fld_packW_flags : ∀ x y z : Bool,
    let w := packW [(0, b2n x), (1, b2n y), (2, b2n z)]
    fld w 0 0 = b2n x ∧ fld w 1 1 = b2n y ∧ fld w 31 3 = 0 ∧ fld w 2 2 = b2n z := by decide

/-- Selections 0 to 3 read the status and data words of the lookup slots. -/
theorem rdsValue_slot {i : Nat} (hi : i < 2) (c : Chit) (t : Thread) (a : BitVec 4) :
    rdsValue (2 * i) c t a = slotStatus (slotOf t i) ∧ rdsValue (2 * i + 1) c t a = slotData (slotOf t i) := by
  obtain rfl | rfl : i = 0 ∨ i = 1 := by omega
  · exact ⟨rfl, rfl⟩
  · exact ⟨rfl, rfl⟩

/-- The value of RDS has arrived. -/
theorem rdsReady_iff {sel : Nat} (h : sel ≤ 5) (c : Chit) (t : Thread) :
    rdsReady sel c t = true ↔
      (sel = 0 ∨ sel = 1 → landed t.slot0 = true) ∧ (sel = 2 ∨ sel = 3 → landed t.slot1 = true)
        ∧ (sel = 4 → ∀ fs p, t.range ≠ .asked fs p) ∧ (sel = 5 → c.ended = true) := by
  have hrange : rangeLanded t.range = true ↔ ∀ fs p, t.range ≠ .asked fs p := by cases t.range <;> simp [rangeLanded]
  unfold rdsReady
  interval_cases sel <;> simp [hrange]

/-- RDS writes its register once its value has arrived, and waits until then. -/
theorem exec_rds {s : State} {th : Thr} {n : Nat} {c : Chit} {t : Thread} {d a : BitVec 4} {e : BitVec 3}
    (h : Fetches s th n c t (.rds th d a e)) :
    exec (.rds th d a e) s
      = .next (if rdsReady e.toNat c t then afterIssue th n (setReg (issued t) d (rdsValue e.toNat c t a)) s else s) := by
  rw [show exec (.rds th d a e) s = execRds th d a e s from rfl, execRds, harpIssue_fetches h, setThread_afterIssue]
  rfl

/-- Settles O13: RDS writes the value that Table 04-5 selects, HSH the CRC of its fields. -/
theorem harpReadsAndHashesWriteTheirRegister : Obligations.HarpReadsAndHashesWriteTheirRegister := by
  unfold Obligations.HarpReadsAndHashesWriteTheirRegister
  intro s th n c t d a e m
  refine ⟨?rds, ?waits, ?ready, ?slots, ?never, ?noRange, ?reports, rfl, ?hsh⟩
  case rds =>
    intro h hr
    rw [exec_rds h, if_pos hr]
  case waits =>
    intro h hr
    rw [exec_rds h, hr]
    rfl
  case ready => exact fun he => rdsReady_iff he c t
  case slots =>
    intro i table key src r hi hq
    obtain ⟨hstatus, hdata⟩ := rdsValue_slot hi c t a
    rw [hstatus, hdata, hq]
    exact ⟨rfl, fld_packW_flags r.hit r.poison r.wide⟩
  case never =>
    intro i hi hq
    obtain ⟨hstatus, hdata⟩ := rdsValue_slot hi c t a
    rw [hstatus, hdata, hq]
    exact ⟨rfl, rfl⟩
  case noRange =>
    refine fun hr => BitVec.eq_of_getLsbD_eq fun i hi => (getLsbD_packW_bits _ hi).trans ?_
    rw [hr, BitVec.getLsbD_zero]
    rfl
  case reports => exact fun i hi => getLsbD_packW_bits _ hi
  case hsh =>
    intro h
    rw [show exec (.hsh th d a m) s = execHsh th d a m s from rfl, execHsh, harpIssue_fetches h]
    simp only [instrReady, if_true, setThread_afterIssue]
    rfl

end Sys2Proof.Proofs.HarpReads
end

section
/-! SUPPORT. How a Harp thread builds its record and ends (R94, R123, R124). -/
namespace Sys2Proof.Proofs.HarpEnds
open Sys2Proof Sys2Proof.Machine Sys2Proof.Laws Sys2Proof.Proofs.HarpIssues

/-! ### Fields of a word -/

/-- A field that has been replaced reads back. -/
theorem fld_setFld (w : W32) {hi lo v : Nat} (hhi : hi < 32) (hv : v < 2 ^ (hi + 1 - lo)) : fld (setFld w hi lo v) hi lo = v := by
  apply Nat.eq_of_testBit_eq
  intro i
  rw [fld, bits, Nat.testBit_mod_two_pow, Nat.testBit_div_two_pow, BitVec.testBit_toNat]
  by_cases hi' : i < hi + 1 - lo
  · have h32 : i + lo < 32 := by omega
    simp only [setFld, BitVec.getLsbD_or, BitVec.getLsbD_and, BitVec.getLsbD_not, BitVec.getLsbD_ofNat, Nat.testBit_mul_two_pow,
      Nat.testBit_two_pow_sub_one, Nat.le_add_left, Nat.add_sub_cancel, h32, hi']
    simp
  · have hv' : v.testBit i = false := Nat.testBit_lt_two_pow (hv.trans_le (Nat.pow_le_pow_right (by decide) (Nat.le_of_not_lt hi')))
    simp [hi', hv']

/-- A record with ACTION trap and a trap reason holds both (R124). -/
theorem trapRecord_fields {r : List W32} (h : r.length = 8) {reason : Nat} (hr : reason < 2 ^ 8) :
    fld ((trapRecord r reason).getD 0 0#32) 9 8 = 2 ∧ fld ((trapRecord r reason).getD 1 0#32) 31 24 = reason := by
  have h0 : (trapRecord r reason).getD 0 0#32 = setFld (r.getD 0 0#32) 9 8 2 := by simp [trapRecord, h]
  have h1 : (trapRecord r reason).getD 1 0#32 = setFld (r.getD 1 0#32) 31 24 reason := by simp [trapRecord, h]
  rw [h0, h1]
  exact ⟨fld_setFld _ (by decide) (by decide), fld_setFld _ (by decide) hr⟩

/-! ### EMIT, DONE, DROP and TRAP -/

/-- EMIT issues once the slot that DSRC names has landed. -/
theorem instrReady_emit {th : Thr} {c : Chit} {t : Thread} {a : BitVec 4} {wm : BitVec 6} {ds : BitVec 2} {w0 : BitVec 16}
    (h0 : ds = 1#2 → landed t.slot0 = true) (h1 : ds = 2#2 → landed t.slot1 = true) : instrReady (.emit th a wm ds w0) c t = true := by
  unfold instrReady
  dsimp only
  split
  next hd => exact h0 hd
  · split
    next hd => exact h1 hd
    · rfl

/-- Settles O14: each ending instruction with its own effect on the counted issue. -/
theorem harpEndsHandTheRecordOn : Obligations.HarpEndsHandTheRecordOn := by
  unfold Obligations.HarpEndsHandTheRecordOn
  intro s th n c t a wm ds w0 rs
  refine ⟨?emit, ?done, ?noRecord, ?drop, ?trap, ?fields⟩
  case emit =>
    exact fun h h0 h1 => exec_parses h (f := fun _ t => { t with record := some (emitRecord t a wm ds w0) }) (instrReady_emit h0 h1) rfl
  case done =>
    intro r h hr
    have hr' : (issued t).record = some r := hr
    rw [show exec (.done th) s = execDone th s from rfl, execDone, harpIssue_fetches h, hr']
    rfl
  case noRecord =>
    intro h hr
    have hr' : (issued t).record = none := hr
    rw [show exec (.done th) s = execDone th s from rfl, execDone, harpIssue_fetches h, hr']
    rfl
  case drop => exact fun h => exec_ready (eff := fun n _ _ s => voidChit n 6 s) h rfl rfl
  case trap =>
    intro h
    rw [show exec (.trap th rs) s = execTrap th rs s from rfl, execTrap, harpIssue_fetches h]
    rfl
  case fields => exact fun r hr => trapRecord_fields hr rs.isLt

end Sys2Proof.Proofs.HarpEnds
end

section
/-! SUPPORT. Classification (chapter 05): which rule wins, that a station match is trapped, and that a record which leaves the Harp leaves its
frame's chit in flight with the classified record (R130 to R144, R167). -/
namespace Sys2Proof.Proofs.Classification
open Sys2Proof Sys2Proof.Machine Sys2Proof.Laws Sys2Proof.Proofs.Ingress

/-! ### Rules (R134, R135) -/

/-- A rule matches when it is valid, its masked key is the frame's, and every term holds. -/
theorem ruleMatches_iff (rep : Nat → Option Bool) (key : Nat) (w : List W32) :
    ruleMatches rep key w = true ↔ bit (ruleWord w 3).toNat 27 = true ∧ key &&& ruleKeyM w = ruleKeyV w
      ∧ ∀ t ∈ ruleTerms w, termHolds rep t = true := by
  simp only [ruleMatches, Bool.and_eq_true, decide_eq_true_eq, List.all_eq_true, and_assoc]

/-- Where no rule is poisoned, the first that matches wins, and none was unreadable. -/
theorem winningRule_of_unpoisoned {s : State} {k : Nat} (h : ∀ i, poisoned s (.rule k i) = false) (c : Chit) (r : Rec) (rules : Tab (List W32)) :
    winningRule s k c r rules = (rules.find? fun e => ruleMatches (ruleReport s k c r) (ruleKey c r) e.2, 0) := by
  induction rules with
  | nil => rfl
  | cons e rest ih =>
    obtain ⟨i, w⟩ := e
    rw [winningRule, h, Bool.and_false, if_neg Bool.false_ne_true, List.find?_cons, ih]
    cases ruleMatches (ruleReport s k c r) (ruleKey c r) w <;> rfl

/-! ### Station match (R138) and segment miss (R167) -/

/-- A record that does not forward meets no segment miss. -/
theorem segmentMiss_of_action_ne_zero {r : Rec} (h : r.action ≠ 0) (n k : Nat) (s : State) : segmentMiss n k r s = (r, s) :=
  if_neg fun hr => h hr.1

/-- A frame with a station match is dropped, or trapped for the station reason. -/
theorem classified_station (n k : Nat) {c : Chit} (hc : c.station ≠ none) (ws : List W32) (s : State) :
    (classified n k c ws s).1.action = 1 ∨ (classified n k c ws s).1.action = 2 ∧ (classified n k c ws s).1.trapReason = reasonStation := by
  have hstation : c.station.isSome = true := Option.isSome_iff_ne_none.2 hc
  unfold classified
  dsimp only
  generalize tenantMap n k c _ _ _ _ = m
  by_cases hdrop : m.1.action = 1
  · left
    simp [hdrop, segmentMiss_of_action_ne_zero]
  · right
    simp [hdrop, hstation, segmentMiss_of_action_ne_zero]

/-! ### The frame in flight -/

/-- The chit of a frame that has neither settled nor voided. -/
def InFlight (n : Nat) (s : State) : Prop := ∃ c, chitAt s n = some c ∧ c.status = .provisional

namespace InFlight
variable {n : Nat} {s : State} (h : InFlight n s)
include h

theorem after_bump (a : Nat) : InFlight n (bump a s) := h

theorem after_bumpIf (b : Bool) (a : Nat) : InFlight n (bumpIf b a s) := by
  rw [bumpIf_frame]
  exact h

theorem after_tallyEvent (i ev amt : Nat) (q : Nat → Bool) : InFlight n (tallyEvent i ev amt q (some n) s) :=
  chitAt_tallyEvent (fun _ _ hc => hc) h

theorem after_tallyFrame (i port len : Nat) : InFlight n (tallyFrame i port len n s) := by
  unfold tallyFrame
  exact after_tallyEvent (after_tallyEvent h ..) ..

theorem after_reportPoison (loc : Nat) : InFlight n (reportPoison loc s) := by
  unfold reportPoison
  split <;> exact h

theorem after_countLookup (k t : Nat) (x : LkpResult) : InFlight n (countLookup k t (some n) x s) := by
  unfold countLookup countPoison
  dsimp only
  refine after_bumpIf (after_bumpIf ?_ ..) ..
  split
  · exact (h.after_tallyEvent ..).after_reportPoison _
  · exact h.after_tallyEvent ..

/-- The tenant map counts its lookup and no more. -/
theorem after_tenantMap (k : Nat) (c : Chit) (e : Rec) (won : Option (List W32)) (r : Rec) : InFlight n (tenantMap n k c e won r s).2 := by
  have hlookup (x : LkpResult) := h.after_countLookup k (classAt s k).tmapTab x
  unfold tenantMap
  dsimp only
  split
  · split
    · exact ((hlookup _).after_bump _).after_bumpIf ..
    · exact (((hlookup _).after_bump _).after_bumpIf ..).after_bumpIf ..
  · exact h

/-- So does the segment miss action. -/
theorem after_segmentMiss (k : Nat) (r : Rec) : InFlight n (segmentMiss n k r s).2 := by
  unfold segmentMiss
  dsimp only
  split
  · split
    · have hlookup (t : Nat) (x : LkpResult) := h.after_countLookup k t x
      split <;> exact (hlookup ..).after_bump _
    · exact h
  · exact h

theorem after_classified (k : Nat) (c : Chit) (ws : List W32) : InFlight n (classified n k c ws s).2.2 := by
  have hcount : InFlight n (bumpBy (Ctr.memPoisonRead 4) (winningRule s k c (recOf ws) (setFor s k c.setVer).rules).2 s) := h
  exact (hcount.after_tenantMap ..).after_segmentMiss ..

theorem after_countClass (k : Nat) (c : Chit) (e : Rec) (won : Option (Nat × List W32)) : InFlight n (countClass k n c e won s) := by
  have hframe := ((h.after_bump (Ctr.clsEval k)).after_bumpIf (e.frag || e.innerBad) (Ctr.clsOuterOnly k)).after_tallyFrame
    (16 * k + 2) c.port c.bytes.length
  unfold countClass
  cases won with
  | none => exact hframe
  | some w => exact ((((hframe.after_bump _).after_bumpIf ..).after_bumpIf ..).after_bumpIf ..).after_tallyEvent ..

theorem after_sampleMirror (k : Nat) (r : Rec) : InFlight n (sampleMirror k r s).2 := by
  unfold sampleMirror
  dsimp only
  split <;> exact h

end InFlight

/-! ### CLASSIFY (R130, R144) -/

/-- The state in which chit `n` holds its classified record, counted and sampled. -/
def recorded (n : Nat) (c : Chit) (ws : List W32) (s : State) : State :=
  let k := chitSlice n
  let x := classified n k c ws s
  let m := sampleMirror k x.1 (countClass k n c (recOf ws) x.2.1 x.2.2)
  pruneSets k (modChit n (fun c => { c with cls := some x.1, mirrorSel := m.1, learns := if x.1.learnEn then c.learns else [] }) m.2)

/-- Its frame is still in flight. -/
theorem chitAt_recorded {s : State} {n : Nat} {c : Chit} (hc : chitAt s n = some c) (hs : c.status = .provisional) (ws : List W32) :
    ∃ d, chitAt (recorded n c ws s) n = some d ∧ d.cls = some (classified n (chitSlice n) c ws s).1 ∧ d.status = .provisional := by
  have h : InFlight n s := ⟨c, hc, hs⟩
  obtain ⟨d, hd, hds⟩ := ((h.after_classified (chitSlice n) c ws).after_countClass (chitSlice n) c (recOf ws)
    (classified n (chitSlice n) c ws s).2.1).after_sampleMirror (chitSlice n) (classified n (chitSlice n) c ws s).1
  exact ⟨_, chitAt_modChit _ _ hd, rfl, hds⟩

/-- A record whose frame's requests have returned, in its turn of the port, is classified: a drop voids, and what the run-ahead decision did
not foresee ends a speculative copy (R181). -/
theorem classify_inOrder {s : State} {n : Nat} {c : Chit} {ws : List W32} (hc : chitAt s n = some c) (hrec : c.record = some ws)
    (hcls : c.cls = none) (hs : c.status = .provisional) (hret : returned c = true) (hord : inOrder s n c (fun d => d.cls.isSome) = true) :
    let r := (classified n (chitSlice n) c ws s).1
    classify n s = if r.action = 1 then voidChit n 6 (recorded n c ws s)
      else if !r.raConfirm || ptpEvent r c.bytes then stompSpec n .wrong false (recorded n c ws s)
      else recorded n c ws s := by
  unfold classify
  simp only [hc, hrec]
  rw [if_pos (by simp [hcls, hs, hret, hord])]
  rfl

/-- Settles O38: the classified record chooses the branch of `classify_inOrder`; rules and station matches are as the lemmas above state. -/
theorem classificationAppliesTheFirstMatchingRule : Obligations.ClassificationAppliesTheFirstMatchingRule := by
  unfold Obligations.ClassificationAppliesTheFirstMatchingRule
  intro s n c ws k x u m v
  refine ⟨?classify, fun rules hp => winningRule_of_unpoisoned hp c _ rules, fun hc => classified_station n k hc ws s, ruleMatches_iff⟩
  intro hn hrun hc hrec hcls hs hret hord
  have hexec : exec (.classify n) s = .next (classify n s) := onChit_runs hn hrun classify
  have hbranch : classify n s = if x.1.action = 1 then voidChit n 6 v
      else if !x.1.raConfirm || ptpEvent x.1 c.bytes then stompSpec n .wrong false v else v :=
    classify_inOrder hc hrec hcls hs hret hord
  rw [hexec, hbranch]
  refine ⟨fun hdrop => ?_, fun hkeep hconf hptp => ?_, fun hkeep hwrong => ?_, chitAt_recorded hc hs ws⟩
  · rw [if_pos hdrop]
  · rw [if_neg hkeep, if_neg (by simp [hconf, hptp])]
  · rw [if_neg hkeep, if_pos (by simpa using hwrong)]

end Sys2Proof.Proofs.Classification
end

section
/-! SUPPORT. The CLASS and METER commands (chapters 05 and 08): runs of changed words in a table, and with good arguments none of the commands'
checks refuses, so that what is left is their effect. -/
namespace Sys2Proof.Proofs.ClassCommands
open Sys2Proof Sys2Proof.Machine Sys2Proof.Laws Sys2Proof.Proofs.PortSettings Sys2Proof.Proofs.PortLife Sys2Proof.Proofs.StatusQueries

/-! ### Words of a table changed one after the other -/

section Updates
variable {α β : Type} [DecidableEq β] {d : β} {key : α → Nat} {g : α → β → β}

/-- The table in which an item has changed the word at its key. -/
def tabUpdate (d : β) (key : α → Nat) (g : α → β → β) (m : Tab β) (x : α) : Tab β := tabSet d m (key x) (g x (tabGet d m (key x)))

/-- A table stays in canonical form. -/
theorem tabUpdate_wf {m : Tab β} (w : tabWf d m = true) (x : α) : tabWf d (tabUpdate d key g m x) = true := tabSet_wf _ _ _ w

/-- A word that no item names stays. -/
theorem tabGet_foldl_tabUpdate_ne {xs : List α} {j : Nat} (h : ∀ x ∈ xs, j ≠ key x) (m : Tab β) :
    tabGet d (xs.foldl (tabUpdate d key g) m) j = tabGet d m j := by
  induction xs generalizing m with
  | nil => rfl
  | cons x xs ih =>
    obtain ⟨hx, hxs⟩ := List.forall_mem_cons.1 h
    rw [List.foldl_cons, ih hxs, tabUpdate, tabGet_tabSet_ne _ _ hx]

/-- A word that one item names is changed by it, once. -/
theorem tabGet_foldl_tabUpdate {xs : List α} (hxs : (xs.map key).Nodup) {m : Tab β} (w : tabWf d m = true) {x : α} (hx : x ∈ xs) :
    tabGet d (xs.foldl (tabUpdate d key g) m) (key x) = g x (tabGet d m (key x)) := by
  induction xs generalizing m with
  | nil => cases hx
  | cons y ys ih =>
    obtain ⟨hy, hys⟩ := List.nodup_cons.1 hxs
    rw [List.foldl_cons]
    obtain rfl | hx := List.mem_cons.1 hx
    · have hne : ∀ z ∈ ys, key x ≠ key z := fun z hz e => hy (e ▸ List.mem_map_of_mem hz)
      rw [tabGet_foldl_tabUpdate_ne hne, tabUpdate, tabGet_tabSet _ _ _ _ w, if_pos rfl]
    · have hne : key x ≠ key y := fun e => hy (e ▸ List.mem_map_of_mem hx)
      have hword : tabGet d (tabUpdate d key g m y) (key x) = tabGet d m (key x) := tabGet_tabSet_ne _ _ hne
      rw [ih hys (tabUpdate_wf w y) hx, hword]

end Updates

/-- One fold inside another is a fold over the pairs. -/
theorem foldl_foldl_eq_product {α β γ : Type} (f : γ → α → β → γ) (xs : List α) (ys : List β) (c : γ) :
    xs.foldl (fun c x => ys.foldl (fun c y => f c x y) c) c = (xs ×ˢ ys).foldl (fun c p => f c p.1 p.2) c := by
  induction xs generalizing c with
  | nil => rfl
  | cons x xs ih => rw [List.product_cons, List.foldl_append, List.foldl_map, List.foldl_cons, ih]

/-- The slices that a mask names. -/
theorem mem_maskSlices {m k : Nat} : k ∈ maskSlices m ↔ k < 16 ∧ bit m k = true := by
  rw [maskSlices, List.mem_filter, List.mem_range]

/-- A mask names each slice once. -/
theorem maskSlices_nodup (m : Nat) : (maskSlices m).Nodup := List.nodup_range.filter _

/-! ### Changes that wait (R142) -/

section Staging
variable {s : State} {a : List W32}

/-- Staging changes the classification of the named slices alone, each once. -/
theorem stageSet_eq (m : Nat) (f : ClassSet → ClassSet) (s : State) :
    stageSet m f s = { s with classes := (maskSlices m).foldl (tabUpdate {} id fun _ c => { c with next := some (f c.now) }) s.classes } := by
  unfold stageSet
  refine List.foldl_hom (fun t => { s with classes := t }) ?_
  exact fun _ _ => rfl

/-- A staged set waits in every named slice; what is in force stays. -/
theorem classAt_stageSet (m : Nat) (f : ClassSet → ClassSet) (w : tabWf {} s.classes = true) (k : Nat) :
    (classAt (stageSet m f s) k).now = (classAt s k).now
      ∧ (classAt (stageSet m f s) k).next = if k < 16 ∧ bit m k = true then some (f (classAt s k).now) else (classAt s k).next := by
  by_cases hk : k < 16 ∧ bit m k = true
  · have hread : classAt (stageSet m f s) k = { classAt s k with next := some (f (classAt s k).now) } := by
      rw [stageSet_eq]
      exact tabGet_foldl_tabUpdate (key := id) (by simpa using maskSlices_nodup m) w (mem_maskSlices.2 hk)
    rw [hread, if_pos hk]
    exact ⟨rfl, rfl⟩
  · have hread : classAt (stageSet m f s) k = classAt s k := by
      rw [stageSet_eq]
      exact tabGet_foldl_tabUpdate_ne (fun j hj (e : k = j) => hk (e ▸ mem_maskSlices.1 hj)) _
    rw [hread, if_neg hk]
    exact ⟨rfl, rfl⟩

/-- Writing words of the memory whole takes their poison, and changes nothing else. -/
theorem foldl_cleanseMask_frame (m : Nat) (h : Nat → Nat → Config.Held) (is : List Nat) (s : State) :
    ∃ p, is.foldl (fun s i => rangeSet.cleanseMask m (h i) s) s = { s with mem := { s.mem with poison := p } } := by
  refine List.foldlRecOn (motive := fun t : State => ∃ p, t = { s with mem := { s.mem with poison := p } }) is _ ⟨s.mem.poison, rfl⟩ ?_
  rintro t ht i -
  refine List.foldlRecOn (motive := fun t : State => ∃ p, t = { s with mem := { s.mem with poison := p } }) (maskSlices m) _ ht ?_
  rintro _ ⟨p, rfl⟩ k -
  exact ⟨_, rfl⟩

/-- The same after a staged change, which leaves the memory's poison as it was. -/
theorem foldl_cleanseMask_stageSet (m : Nat) (h : Nat → Nat → Config.Held) (is : List Nat) (f : ClassSet → ClassSet) (s : State) :
    ∃ p, is.foldl (fun s i => rangeSet.cleanseMask m (h i) s) (stageSet m f s)
      = { stageSet m f s with mem := { s.mem with poison := p } } := by
  obtain ⟨p, hp⟩ := foldl_cleanseMask_frame m h is (stageSet m f s)
  refine ⟨p, hp.trans ?_⟩
  rw [stageSet_eq]

/-- The comparator entries of CLASS.RANGE_SET, two words each. -/
def rangeEntries (a : List W32) : List (W32 × W32) :=
  (List.range (arg a 2)).map fun i => (a.getD (3 + 2 * i) 0#32 &&& 0x1F#32, a.getD (4 + 2 * i) 0#32)

/-- CLASS.RANGE_SET of good comparators waits in every named slice (R131). -/
theorem rangeSet_accepted (hm : badMask s (arg a 0) = false) (h1 : 1 ≤ arg a 2) (h64 : arg a 2 ≤ 64) (hlast : arg a 1 + arg a 2 ≤ 512)
    (hr : ∀ e ∈ rangeEntries a, fld e.2 15 0 ≤ fld e.2 31 16) (hw : setWaits s (arg a 0) = false) :
    ∃ p, rangeSet a s = .pending (.classUpdate (arg a 0))
      { stageSet (arg a 0) (fun x => { x with ranges := tabWrite (0#32, 0#32) x.ranges (arg a 1) (rangeEntries a) }) s with
        mem := { s.mem with poison := p } } := by
  obtain ⟨p, hp⟩ := foldl_cleanseMask_stageSet (arg a 0) (fun i k => .comparator k (arg a 1 + i)) (List.range (arg a 2))
    (fun x => { x with ranges := tabWrite (0#32, 0#32) x.ranges (arg a 1) (rangeEntries a) }) s
  refine ⟨p, ?_⟩
  unfold rangeSet
  dsimp only
  rw [checked_pass]
  · exact congrArg _ hp
  · simpa [hm, hw, h64, hlast, Nat.one_le_iff_ne_zero.1 h1, rangeEntries] using hr

/-- The rule entries of CLASS.RULES_SET, eight words each. -/
def ruleEntries (a : List W32) : List (List W32) := (List.range (arg a 2)).map fun i => (a.drop (3 + 8 * i)).take 8

/-- A rule as its memory holds it: the empty rule is an unlisted word. -/
def storedRule (w : List W32) : List W32 := if cleanRule w = noRule then [] else cleanRule w

/-- CLASS.RULES_SET of good rules waits in every named slice (R133). -/
theorem rulesSet_accepted (hm : badMask s (arg a 0) = false) (h1 : 1 ≤ arg a 2) (h64 : arg a 2 ≤ 64) (hlast : arg a 1 + arg a 2 ≤ 8192)
    (hr : ∀ w ∈ ruleEntries a, badRule w = false) (hw : setWaits s (arg a 0) = false) :
    ∃ p, rulesSet a s = .pending (.classUpdate (arg a 0))
      { stageSet (arg a 0) (fun x => { x with rules := tabWrite [] x.rules (arg a 1) ((ruleEntries a).map storedRule) }) s with
        mem := { s.mem with poison := p } } := by
  obtain ⟨p, hp⟩ := foldl_cleanseMask_stageSet (arg a 0) (fun i k => .rule k (arg a 1 + i)) (List.range (arg a 2))
    (fun x => { x with rules := tabWrite [] x.rules (arg a 1) ((ruleEntries a).map storedRule) }) s
  refine ⟨p, ?_⟩
  unfold rulesSet
  dsimp only
  rw [checked_pass]
  · exact congrArg _ hp
  · simpa [hm, hw, h64, hlast, Nat.one_le_iff_ne_zero.1 h1, ruleEntries] using hr

end Staging

/-! ### The tenant map and the rules (R139, R143) -/

section Settings
variable {s : State} {a : List W32}

/-- CLASS.TMAP_SET of a configured table wide enough for the key sets the two fields in every named slice. -/
theorem tmapSet_accepted (hm : badMask s (arg a 0) = false) (h1 : arg a 1 ≤ 1)
    (ht : arg a 1 = 1 → arg a 2 ≤ 7 ∧ ∃ c, tabCfgAt s (arg a 2) = some c ∧ 34 ≤ c.width) :
    tmapSet a s = ok []
      ((maskSlices (arg a 0)).foldl (fun s k => modClass k (fun c => { c with tmapEn := arg a 1 == 1, tmapTab := arg a 2 }) s) s) := by
  unfold tmapSet
  dsimp only
  rw [checked_pass]
  by_cases hen : arg a 1 = 1
  · obtain ⟨h7, c, hc, hwidth⟩ := ht hen
    simp [hm, hen, h7, hc, hwidth, badBool]
  · simp [hm, hen, h1, badBool]

/-- CLASS.RULES_GET returns the newest entries in order. -/
theorem rulesGet_ok (hk : badSlice s (arg a 0) = false) (h1 : 1 ≤ arg a 2) (h64 : arg a 2 ≤ 64) (hlast : arg a 1 + arg a 2 ≤ 8192) :
    rulesGet a s = ok ((List.range (arg a 2)).map fun i => ruleAt s (arg a 0) (arg a 1 + i)).flatten s :=
  checked_pass (by simp [hk, h64, hlast, Nat.one_le_iff_ne_zero.1 h1]) _ _

/-! ### Meters (R192) -/

/-- A RESET waits with the meter's acknowledged entry. -/
def resetWaits (w : Meter) : Bool := match w.next with | some x => x.2 | none => false

theorem resetWaits_eq_any (w : Meter) : resetWaits w = w.next.any fun p => p.2 := by
  unfold resetWaits
  cases w.next <;> rfl

/-- What METER.SET hands to the meter of its entry `i`: its buckets stay, and a RESET that waits stays with the new entry. -/
def handedMeter (a : List W32) (i : Nat) (w : Meter) : Meter :=
  { w with next := some (meterOf (((List.range (arg a 2)).map fun i => (a.drop (4 + 5 * i)).take 5).getD i []),
                         arg a 3 == 1 || resetWaits w) }

/-- Where the meter of slice `x.1` that takes entry `x.2` stands. -/
def meterKey (first : Nat) (x : Nat × Nat) : Nat := x.1 * 16384 + (first + x.2)

/-- The meters after METER.SET: each named one in each named slice is handed its entry. -/
def handedMeters (a : List W32) (t : Tab Meter) : Tab Meter :=
  (maskSlices (arg a 0) ×ˢ List.range (arg a 2)).foldl (tabUpdate {} (meterKey (arg a 1)) fun x => handedMeter a x.2) t

/-- METER.SET of good entries hands them to the meters and changes nothing else. -/
theorem meterSet_accepted (hm : badMask s (arg a 0) = false) (h1 : 1 ≤ arg a 2) (h64 : arg a 2 ≤ 64) (hlast : arg a 1 + arg a 2 ≤ 16384)
    (h3 : arg a 3 ≤ 1) (he : ∀ i, i < arg a 2 → badMeter ((a.drop (4 + 5 * i)).take 5) = false) :
    meterSet a s = ok [] { s with meters := handedMeters a s.meters } := by
  unfold meterSet
  dsimp only
  rw [checked_pass]
  · rw [foldl_foldl_eq_product]
    exact congrArg (ok []) (List.foldl_hom (fun t => { s with meters := t }) fun _ _ => rfl)
  · simp [hm, h64, hlast, h3, badBool, Nat.one_le_iff_ne_zero.1 h1]
    exact he

/-- Two of a slice's meters stand at different keys, and so do those of two slices. -/
theorem meterKey_inj {first n : Nat} (hlast : first + n ≤ 16384) {x y : Nat × Nat} (hx : x.2 < n) (hy : y.2 < n)
    (h : meterKey first x = meterKey first y) : x = y := by
  simp only [meterKey] at h
  ext <;> omega

/-- A named meter of a named slice has its new entry waiting; every other meter is as it was. -/
theorem tabGet_handedMeters (hlast : arg a 1 + arg a 2 ≤ 16384) {t : Tab Meter} (w : tabWf {} t = true) {k x : Nat} (hk : k < 16)
    (hx : x < 16384) :
    tabGet {} (handedMeters a t) (k * 16384 + x) = if bit (arg a 0) k = true ∧ arg a 1 ≤ x ∧ x < arg a 1 + arg a 2
      then { tabGet {} t (k * 16384 + x) with next := some (meterOf ((a.drop (4 + 5 * (x - arg a 1))).take 5),
        arg a 3 == 1 || (tabGet {} t (k * 16384 + x)).next.any fun p => p.2) }
      else tabGet {} t (k * 16384 + x) := by
  unfold handedMeters
  split
  next h =>
    obtain ⟨hbit, hle, hlt⟩ := h
    obtain ⟨i, rfl⟩ := Nat.exists_eq_add_of_le hle
    have hi : i < arg a 2 := by omega
    have hnodup : ((maskSlices (arg a 0) ×ˢ List.range (arg a 2)).map (meterKey (arg a 1))).Nodup :=
      ((maskSlices_nodup _).product List.nodup_range).map_on fun y hy z hz =>
        meterKey_inj hlast (List.mem_range.1 (List.mem_product.1 hy).2) (List.mem_range.1 (List.mem_product.1 hz).2)
    have hread := tabGet_foldl_tabUpdate (g := fun x => handedMeter a x.2) hnodup w
      (List.mem_product.2 ⟨mem_maskSlices.2 ⟨hk, hbit⟩, List.mem_range.2 hi⟩)
    refine hread.trans ?_
    simp [handedMeter, meterKey, hi, resetWaits_eq_any]
  next h =>
    refine tabGet_foldl_tabUpdate_ne (fun y hy e => h ?_) t
    obtain ⟨hslice, hentry⟩ := List.mem_product.1 hy
    obtain ⟨-, hbit⟩ := mem_maskSlices.1 hslice
    have hlt := List.mem_range.1 hentry
    simp only [meterKey] at e
    obtain rfl : k = y.1 := by omega
    exact ⟨hbit, by omega⟩

/-! ### Drop profiles and tenants (R196, R197) -/

/-- Where row `x.2` of profile `p` of slice `x.1` stands. -/
def profileKey (p : Nat) (x : Nat × Nat) : Nat := x.1 * 64 + p * 4 + x.2

/-- The profiles after METER.PROFILE_SET. -/
def setProfiles (a : List W32) (t : Tab Nat) : Tab Nat :=
  (maskSlices (arg a 0) ×ˢ List.range 3).foldl (tabUpdate 0 (profileKey (arg a 1)) fun x _ => arg a (2 + x.2) % 2 ^ 11) t

/-- METER.PROFILE_SET of a profile sets its rows in the named slices and changes nothing else. -/
theorem profileSet_accepted (hm : badMask s (arg a 0) = false) (h15 : arg a 1 ≤ 15) :
    profileSet a s = ok [] { s with profiles := setProfiles a s.profiles } := by
  unfold profileSet
  rw [checked_pass (by simp [hm, h15]), foldl_foldl_eq_product]
  exact congrArg (ok []) (List.foldl_hom (fun t => { s with profiles := t }) fun _ _ => rfl)

/-- In a named slice the profile's rows read back, 11 bits each. -/
theorem tabGet_setProfiles {t : Tab Nat} (w : tabWf 0 t = true) {k c : Nat} (hk : k < 16) (hc : c < 3)
    (hbit : bit (arg a 0) k = true) : tabGet 0 (setProfiles a t) (k * 64 + arg a 1 * 4 + c) = arg a (2 + c) % 2 ^ 11 := by
  have hnodup : ((maskSlices (arg a 0) ×ˢ List.range 3).map (profileKey (arg a 1))).Nodup := by
    refine ((maskSlices_nodup _).product List.nodup_range).map_on fun y hy z hz e => ?_
    have hy3 := List.mem_range.1 (List.mem_product.1 hy).2
    have hz3 := List.mem_range.1 (List.mem_product.1 hz).2
    simp only [profileKey] at e
    ext <;> omega
  exact tabGet_foldl_tabUpdate hnodup w (x := (k, c)) (List.mem_product.2 ⟨mem_maskSlices.2 ⟨hk, hbit⟩, List.mem_range.2 hc⟩)

/-- METER.TENANT_SET with arguments in range sets the tenant's settings; its tokens stay. -/
theorem tenantSet_accepted (ht : arg a 0 < 16384) (h1 : arg a 1 ≤ 1) (hrate : arg a 1 = 1 → 1 ≤ arg a 2) (h2 : arg a 2 ≤ 1600000)
    (h3 : arg a 3 ≤ 16777215) :
    tenantSet a s = ok [] (setTenant (arg a 0) { tenantAt s (arg a 0) with en := arg a 1 == 1, rate := arg a 2, burst := arg a 3 } s) := by
  have hzero : (decide (arg a 1 = 1) && decide (arg a 2 = 0)) = false := by
    simpa using fun h => Nat.one_le_iff_ne_zero.1 (hrate h)
  unfold tenantSet
  dsimp only
  rw [checked_pass (by simp [ht, h1, h2, h3, hzero, badBool])]

/-- METER.GET returns a meter's newest entry, its buckets and LAST (R201). -/
theorem meterGet_ok (hk : badSlice s (arg a 0) = false) (h1 : arg a 1 < 16384) :
    meterGet a s = ok (meterWords (((meterAt s (arg a 0) (arg a 1)).next.map fun e => e.1).getD (meterAt s (arg a 0) (arg a 1)).cfg)
      ++ two (meterAt s (arg a 0) (arg a 1)).t1 ++ two (meterAt s (arg a 0) (arg a 1)).t2 ++ [w32 (meterAt s (arg a 0) (arg a 1)).last]) s := by
  unfold meterGet
  rw [checked_pass (by simp [hk, h1])]
  dsimp only
  cases (meterAt s (arg a 0) (arg a 1)).next <;> rfl

/-- The words of METER.TENANT_GET: the settings, and the Treasury and the sixteen purses as the latest pass left them (R202). -/
def tenantWords (v : Tenant) : List W32 :=
  [w32 (b2n v.en), w32 v.rate, w32 v.burst] ++ two (unsgn 48 v.passTreasury)
    ++ ((List.range 16).map fun k => two (unsgn 48 (tabGet 0 v.passPurses k))).flatten

/-- METER.TENANT_GET of a tenant returns these words. -/
theorem tenantGet_ok (ht : arg a 0 < 16384) : tenantGet a s = ok (tenantWords (tenantAt s (arg a 0))) s :=
  checked_pass (by simp [ht]) _ _

end Settings

/-- Settles O30: of each command's checks none applies to good arguments, and its effect is the one stated. -/
theorem classAndMeterCommandsTakeEffect : Obligations.ClassAndMeterCommandsTakeEffect := by
  unfold Obligations.ClassAndMeterCommandsTakeEffect
  intro v r s a m ranges stored rules
  refine ⟨?rangeSet, ?rulesSet, ?staged, ?tmapSet, ?rulesGet, ?status, ?meterSet, ?profileSet, ?tenantSet, ?meterGet, ?tenantGet⟩
  case rangeSet =>
    intro h hm h1 h64 hlast hr hw
    obtain ⟨p, hp⟩ := rangeSet_accepted hm h1 h64 hlast hr hw
    exact ⟨p, handed_pending h hp⟩
  case rulesSet =>
    intro h hm h1 h64 hlast hr hw
    obtain ⟨p, hp⟩ := rulesSet_accepted hm h1 h64 hlast hr hw
    exact ⟨p, handed_pending h hp⟩
  case staged => exact fun f w k => classAt_stageSet m f w k
  case tmapSet => exact fun h hm h1 ht => handed_done (ws := []) h (tmapSet_accepted hm h1 ht)
  case rulesGet => exact fun h hk h1 h64 hlast => handed_done h (rulesGet_ok hk h1 h64 hlast)
  case status => exact fun h hk => handed_done h (classStatusCmd_ok hk)
  case meterSet =>
    intro h hm h1 h64 hlast h3 he
    exact ⟨_, handed_done (ws := []) h (meterSet_accepted hm h1 h64 hlast h3 he), rfl, fun w k x hk hx => tabGet_handedMeters hlast w hk hx⟩
  case profileSet =>
    intro h hm h15
    exact ⟨_, handed_done (ws := []) h (profileSet_accepted hm h15), rfl, fun w k c hk hc hbit => tabGet_setProfiles w hk hc hbit⟩
  case tenantSet => exact fun h ht h1 hrate h2 h3 => handed_done (ws := []) h (tenantSet_accepted ht h1 hrate h2 h3)
  case meterGet => exact fun h hk h1 => handed_done h (meterGet_ok hk h1)
  case tenantGet => exact fun h ht => ⟨_, rfl, handed_done h (tenantGet_ok ht)⟩

end Sys2Proof.Proofs.ClassCommands
end

section
/-! SUPPORT. The exact-match space and its engine (R145 to R161): what a location reads after a write, where a key is found, what the engine's plans
and writes leave alone, and how a TABLE command is answered when its turn has come. -/
namespace Sys2Proof.Proofs.TableSpace
open Sys2Proof Sys2Proof.Machine Sys2Proof.Laws Sys2Proof.Proofs.PortLife

/-! ### Items of a table -/

section Items
variable {β : Type} {d : β} {m : Tab β}

/-- A key that reads other than the default has an item. -/
theorem mem_of_tabGet {i : Nat} {x : β} (hx : x ≠ d) (h : tabGet d m i = x) : (i, x) ∈ m := by
  induction m with
  | nil => exact absurd h.symm hx
  | cons e m ih =>
    obtain ⟨k, y⟩ := e
    by_cases hik : i = k
    · have hy : y = x := (if_pos hik).symm.trans h
      exact hik ▸ hy ▸ List.mem_cons_self
    · exact List.mem_cons_of_mem _ (ih ((if_neg hik).symm.trans h))

/-- An item of a table in canonical form lies at or above its first key, and is what its key reads. -/
theorem tabGet_of_mem [DecidableEq β] {lo i : Nat} {x : β} (w : tabWfFrom d lo m = true) (h : (i, x) ∈ m) : lo ≤ i ∧ tabGet d m i = x := by
  induction m generalizing lo with
  | nil => cases h
  | cons e m ih =>
    obtain ⟨k, y⟩ := e
    simp only [tabWfFrom, Bool.and_eq_true, decide_eq_true_eq] at w
    obtain ⟨⟨hlo, -⟩, wm⟩ := w
    obtain heq | h := List.mem_cons.1 h
    · obtain ⟨rfl, rfl⟩ := Prod.mk.inj heq
      exact ⟨hlo, if_pos rfl⟩
    · obtain ⟨hk, hread⟩ := ih wm h
      exact ⟨by omega, (if_neg (by omega)).trans hread⟩

end Items

/-! ### Writes of a location (R154) -/

section Writes
variable {s : State} {loc : Nat} {e : Entry}

/-- A write of a location changes the space and the poison that it replaces alone. -/
theorem writeSlot_frame (loc : Nat) (e : Option Entry) (wide : Bool) (s : State) :
    ∃ m, writeSlot loc e wide s = { s with tbl := { s.tbl with slots := tabSet none s.tbl.slots loc e }, mem := m } := by
  refine List.foldlRecOn (motive := fun t : State => ∃ m, t = { s with tbl := { s.tbl with slots := _ }, mem := m }) _ _ ⟨s.mem, rfl⟩ ?_
  rintro _ ⟨m, rfl⟩ q -
  dsimp only
  split <;> exact ⟨_, rfl⟩

@[simp] theorem writeSlot_tbl (loc : Nat) (e : Option Entry) (wide : Bool) (s : State) :
    (writeSlot loc e wide s).tbl = { s.tbl with slots := tabSet none s.tbl.slots loc e } := by
  obtain ⟨m, h⟩ := writeSlot_frame loc e wide s
  rw [h]
@[simp] theorem writeSlot_ctr (loc : Nat) (e : Option Entry) (wide : Bool) (s : State) : (writeSlot loc e wide s).ctr = s.ctr := by
  obtain ⟨m, h⟩ := writeSlot_frame loc e wide s
  rw [h]
@[simp] theorem writeSlot_tcs (loc : Nat) (e : Option Entry) (wide : Bool) (s : State) : (writeSlot loc e wide s).tcs = s.tcs := by
  obtain ⟨m, h⟩ := writeSlot_frame loc e wide s
  rw [h]

/-- Placing an entry changes the space by its location alone. -/
@[simp] theorem placeNew_tbl (e : Entry) (loc code : Nat) (s : State) :
    (placeNew e loc code s).tbl = { s.tbl with slots := tabSet none s.tbl.slots loc (some (entryAt s loc e)) } := by
  rw [placeNew, bumpIf_frame]
  exact writeSlot_tbl ..

/-- An entry placed is read at its location, as it stands there, and every other location reads what it did. -/
theorem slotAt_placeNew (e : Entry) (loc code : Nat) (s : State) (l : Nat) :
    slotAt (placeNew e loc code s) l = if l = loc then some (entryAt s loc e) else slotAt s l := by
  rw [slotAt, placeNew_tbl]
  split
  · exact ‹l = loc› ▸ tabGet_tabSet_self _ _ (Option.some_ne_none _)
  · exact tabGet_tabSet_ne _ _ ‹_›

/-- An insertion that needs no stash slot counts in TBL_INSERT alone. -/
theorem placeNew_ctr {code : Nat} (h : (code == Code.stashed) = false) (e : Entry) (loc : Nat) (s : State) :
    (placeNew e loc code s).ctr = (bump Ctr.tblInsert s).ctr := by
  simp [placeNew, h, bumpIf, bump, bumpBy, ctrAt]

/-- A removal empties its location and takes the key from every walk's list (R156, R160). -/
@[simp] theorem removeEntry_tbl (loc : Nat) (e : Entry) (s : State) : (removeEntry loc e s).tbl =
    { s.tbl with slots := tabSet none s.tbl.slots loc none, walks := s.tbl.walks.map (unmark e.tid e.key) } := by
  simp [removeEntry]

/-- After a removal its location is empty, and every other location reads what it did. -/
theorem slotAt_removeEntry (w : tabWf none s.tbl.slots = true) (loc : Nat) (e : Entry) (l : Nat) :
    slotAt (removeEntry loc e s) l = if l = loc then none else slotAt s l := by
  rw [slotAt, removeEntry_tbl]
  exact tabGet_tabSet _ _ _ _ w

end Writes

/-! ### Where a key is found (R151) -/

section Search
variable {s : State} {t width key loc : Nat} {e : Entry}

/-- An entry found stands in a bucket, where its location reads it, or among the items of the stash. -/
theorem findEntry_some (h : findEntry s t width key = some (loc, e)) :
    slotAt s loc = some e ∨ (stashBase ≤ loc ∧ (loc, some e) ∈ s.tbl.slots) := by
  have hbucket : ∀ b, (loc, e) ∈ (List.range 4).filterMap (fun i => (slotAt s (4 * b + i)).map fun x => (4 * b + i, x)) →
      slotAt s loc = some e := by
    intro b hb
    obtain ⟨i, -, hi⟩ := List.mem_filterMap.1 hb
    obtain ⟨x, hx, heq⟩ := Option.map_eq_some_iff.1 hi
    obtain ⟨rfl, rfl⟩ := Prod.mk.inj heq
    exact hx
  have hstash : (loc, e) ∈ stashEntries s → stashBase ≤ loc ∧ (loc, some e) ∈ s.tbl.slots := by
    intro hb
    obtain ⟨⟨l, x⟩, hx, hl⟩ := List.mem_filterMap.1 hb
    split at hl
    · obtain ⟨y, rfl, heq⟩ := Option.map_eq_some_iff.1 hl
      obtain ⟨rfl, rfl⟩ := Prod.mk.inj heq
      exact ⟨‹_›, hx⟩
    · cases hl
  have hmem := List.mem_of_find?_eq_some h
  simp only [List.mem_append] at hmem
  obtain (ha | hb) | hs := hmem
  · exact .inl (hbucket _ ha)
  · exact .inl (hbucket _ hb)
  · exact .inr (hstash hs)

/-- In a space in canonical form the location of an entry found reads it. -/
theorem slotAt_of_findEntry (w : tabWf none s.tbl.slots = true) (h : findEntry s t width key = some (loc, e)) : slotAt s loc = some e := by
  obtain hslot | ⟨-, hmem⟩ := findEntry_some h
  · exact hslot
  · exact (tabGet_of_mem w hmem).2

end Search

/-! ### The answer of a TABLE command in its turn (R161) -/

section Turn
variable {s t : State} {v : Via} {code : Nat} {a : List W32} {r : Request} {body : List W32 → State → Ans}

/-- A TABLE command whose turn it is and whose rules complete it is answered in its channel. -/
theorem tableCommand_reply {c : Nat} {res : List Byte} (h : Handed s v code a r ∧ tableTurn s v = true) (hb : body a s = .reply c res t) :
    tableCommand code body v a s = .next (answer v r c res t) := by
  obtain ⟨hh, ht⟩ := h
  rw [tableCommand, tcsCommand_handed hh, if_pos ht, hb]

/-- One whose rules answer PENDING starts its job. -/
theorem tableCommand_pending {k : JobKind} (h : Handed s v code a r ∧ tableTurn s v = true) (hb : body a s = .pending k t) :
    tableCommand code body v a s = .next (startJob v r k t) := by
  obtain ⟨hh, ht⟩ := h
  exact handed_pending hh ((if_pos ht).trans hb)

end Turn

/-! ### What the engine's plans and writes leave alone -/

section Channels

/-- Steps of a fold that leave the channels alone leave them so together. -/
theorem foldl_tcs {α : Type} {f : State → α → State} (hf : ∀ s x, (f s x).tcs = s.tcs) (xs : List α) (s : State) : (xs.foldl f s).tcs = s.tcs :=
  List.foldlRecOn (motive := fun t : State => t.tcs = s.tcs) xs _ rfl fun _ h x _ => (hf _ x).trans h

/-- The search for a path of moves changes what it counts and chooses alone. -/
theorem searchPath_tcs (fuel cur : Nat) (path : List (Nat × Entry × Nat)) (ms : List Planned) (s : State) :
    (searchPath fuel cur path ms s).2.tcs = s.tcs := by
  induction fuel generalizing cur path ms s with
  | zero => rfl
  | succ fuel ih =>
    unfold searchPath
    dsimp only
    split
    · rfl
    · split
      · exact ih ..
      · rfl

theorem choosePlace_tcs (ps : List Nat) (s : State) : (choosePlace ps s).2.tcs = s.tcs := by
  unfold choosePlace
  dsimp only
  split <;> rfl

/-- So does the plan of a new entry. -/
theorem insertNew_tcs (c : TabCfg) (e : Entry) (s : State) : (insertNew c e s).2.2.tcs = s.tcs := by
  unfold insertNew
  dsimp only
  generalize hp : choosePlace _ s = p
  have hplace : p.2.tcs = s.tcs := hp ▸ choosePlace_tcs ..
  generalize hf : (if e.wide = true then (none, p.2) else searchPath 32 _ [] [] _) = found
  have hfound : found.2.tcs = s.tcs := by
    rw [← hf]
    split
    · exact hplace
    · exact (searchPath_tcs ..).trans hplace
  split
  · exact hplace
  · split
    · exact (choosePlace_tcs ..).trans hfound
    · split <;> exact hfound

theorem insertPlan_tcs (r : List W32) (s : State) : (insertPlan r s).2.2.tcs = s.tcs := by
  unfold insertPlan
  dsimp only
  split
  · rfl
  · split
    · rfl
    · split
      · split <;> rfl
      · split
        · rfl
        · exact insertNew_tcs ..

theorem deletePlan_state (r : List W32) (s : State) : (deletePlan r s).2.2 = s := by
  unfold deletePlan
  dsimp only
  repeat' split
  all_goals rfl

/-- A write of the engine leaves the channels alone. -/
theorem doWrite_tcs (x : TblWrite) (s : State) : (doWrite x s).2.tcs = s.tcs := by
  cases x with
  | copy a b =>
    show (copyEntry a b s).tcs = _
    unfold copyEntry
    split <;> simp
  | del a b =>
    show (dropMoved a b s).tcs = _
    unfold dropMoved
    split <;> simp
  | place e loc code =>
    show (placeNew e loc code s).tcs = _
    rw [placeNew, bumpIf_frame]
    exact writeSlot_tcs ..
  | remove loc =>
    unfold doWrite
    dsimp only
    split
    · simp [removeEntry]
    · rfl
  | ret => rfl
  | result a bs => rfl

theorem doWrites_tcs (ws : List TblWrite) (s : State) : (doWrites ws s).tcs = s.tcs :=
  foldl_tcs (fun s x => (foldl_tcs (fun s z => doWrite_tcs z s) _ _).trans (doWrite_tcs x s)) ws s

end Channels
end Sys2Proof.Proofs.TableSpace
end

section
/-! SUPPORT. TABLE.INSERT, DELETE and SEARCH (R148, R153 to R156, R161): what each plans for a key that is there and for one that is not. -/
namespace Sys2Proof.Proofs.TableEntries
open Sys2Proof Sys2Proof.Machine Sys2Proof.Laws Sys2Proof.Proofs.TableSpace

/-! ### A free place (R153) -/

/-- Of places, one is chosen. -/
theorem choosePlace_mem {ps : List Nat} (h : ps ≠ []) (s : State) :
    ∃ loc ∈ ps, choosePlace ps s = (some loc, { s with freeCtr := s.freeCtr + 1 }) := by
  have hlen : ps.length ≠ 0 := mt List.length_eq_zero_iff.1 h
  have hlt : (freeChoice ps.length s).1 < ps.length := by
    rw [freeChoice, Config.freeBelow, if_neg hlen]
    exact Nat.mod_lt _ (Nat.pos_of_ne_zero hlen)
  refine ⟨ps[(freeChoice ps.length s).1], List.getElem_mem hlt, ?_⟩
  simp only [choosePlace, List.getElem?_eq_getElem hlt, List.isEmpty_eq_false_iff.2 h]
  rfl

section Plans
variable {s : State} {a : List W32} {c : TabCfg} {loc : Nat} {e : Entry}

/-- A new entry whose buckets have a free place takes one of them. -/
theorem insertNew_inserted (h : places s e.wide (bucketsOf s e.tid c.width e.key).1 ++ places s e.wide (bucketsOf s e.tid c.width e.key).2 ≠ []) :
    ∃ loc ∈ places s e.wide (bucketsOf s e.tid c.width e.key).1 ++ places s e.wide (bucketsOf s e.tid c.width e.key).2,
      insertNew c e s = (Code.inserted, [.place e loc Code.inserted], { s with freeCtr := s.freeCtr + 1 }) := by
  obtain ⟨loc, hloc, hc⟩ := choosePlace_mem h s
  refine ⟨loc, hloc, ?_⟩
  simp only [insertNew, hc]

/-! ### INSERT -/

/-- The entry that an INSERT of this record makes. -/
def newEntry (a : List W32) (c : TabCfg) : Entry :=
  { tid := recTable a, wide := decide (c.width > 96), data := (a.getD 1 0#32).toNat, key := recKey a c.width }

/-- A key that is not there is planned as a new entry, while the quota of its table holds. -/
theorem insertPlan_absent (hc : tabCfgAt s (recTable a) = some c) (hd : badData s c.kind (a.getD 1 0#32).toNat = false)
    (hf : findEntry s (recTable a) c.width (recKey a c.width) = none)
    (hq : c.quota = 0 ∨ usedSlots s (recTable a) + 1 + b2n (decide (c.width > 96)) ≤ c.quota) :
    insertPlan a s = insertNew c (newEntry a c) s := by
  simp only [insertPlan, hc, hd, hf]
  rw [if_neg Bool.false_ne_true, if_neg (by omega)]
  rfl

/-- One that is there gets the new data in its place, unless its NEW bit refuses that (R155). -/
theorem insertPlan_present (hc : tabCfgAt s (recTable a) = some c) (hd : badData s c.kind (a.getD 1 0#32).toNat = false)
    (hf : findEntry s (recTable a) c.width (recKey a c.width) = some (loc, e)) :
    insertPlan a s = if bit (a.getD 0 0#32).toNat 8 then (Code.exist, [], s)
      else (Code.replaced, [.place { e with data := (a.getD 1 0#32).toNat } loc Code.replaced], s) := by
  simp only [insertPlan, hc, hd, hf]
  rfl

/-- An INSERT with one write planned makes it at once; one with none is refused or has found its key. -/
theorem tableInsert_reply {v : Via} {r : Request} {n : Nat} {res : List Byte} {t : State} (h : Handed s v 0x0503 a r ∧ tableTurn s v = true)
    (hb : codeAns (insertPlan a s) = .reply n res t) : exec (.tableInsert v a) s = .next (answer v r n res t) :=
  tableCommand_reply (body := fun a s => codeAns (insertPlan a s)) h hb

/-! ### DELETE and SEARCH -/

/-- DELETE of a key that is there makes the removal, then the return of a stash entry where there is one (R156). -/
theorem tableDeleteCmd_present (hc : tabCfgAt s (recTable a) = some c) (w : tabWf none s.tbl.slots = true)
    (hf : findEntry s (recTable a) c.width (recKey a c.width) = some (loc, e)) :
    tableDeleteCmd a s = workAns Code.done [] (stashReturn (removeEntry loc e s)) (removeEntry loc e s) := by
  have hplan : deletePlan a s = (Code.done, [.remove loc, .ret], s) := by
    simp only [deletePlan, hc, hf]
  have hwrite : (doWrite (.remove loc) s).2 = removeEntry loc e s := by
    simp only [doWrite, slotAt_of_findEntry w hf]
  simp only [tableDeleteCmd, hplan, hwrite]

/-- DELETE of a key that is not there is refused. -/
theorem tableDeleteCmd_absent (hc : tabCfgAt s (recTable a) = some c) (hf : findEntry s (recTable a) c.width (recKey a c.width) = none) :
    tableDeleteCmd a s = refuse Code.notFound s := by
  have hplan : deletePlan a s = (Code.notFound, [], s) := by
    simp only [deletePlan, hc, hf]
  simp only [tableDeleteCmd, hplan]

/-- The return of a stash entry is a move: its copy and its delete. -/
theorem stashReturn_cases (s : State) : stashReturn s = [] ∨ ∃ p q, stashReturn s = [.copy p q, .del p q] := by
  unfold stashReturn
  split
  · exact .inr ⟨_, _, rfl⟩
  · exact .inl rfl

/-- SEARCH of a key that is there returns its record (Table 06-8). -/
theorem tableSearchCmd_present (hc : tabCfgAt s (recTable a) = some c)
    (hf : findEntry s (recTable a) c.width (recKey a c.width) = some (loc, e)) :
    tableSearchCmd a s = ok (entryRecord s loc e false) s := by
  simp only [tableSearchCmd, searchRec, hc, hf]
  rfl

/-- SEARCH of a key that is not there is refused. -/
theorem tableSearchCmd_absent (hc : tabCfgAt s (recTable a) = some c) (hf : findEntry s (recTable a) c.width (recKey a c.width) = none) :
    tableSearchCmd a s = refuse Code.notFound s := by
  simp only [tableSearchCmd, searchRec, hc, hf]
  rfl

end Plans

/-- Settles O31: whether the key of the record is found decides what each command plans, and one planned write is made at once. -/
theorem tableEntryCommandsChangeOneEntry : Obligations.TableEntryCommandsChangeOneEntry := by
  unfold Obligations.TableEntryCommandsChangeOneEntry
  intro v r s a c hc t data key wide ab ready
  refine ⟨?inserted, ?present, ?job, ?delete, ?search, ?absent, ?found⟩
  case inserted =>
    intro h hd hf hq hp
    obtain ⟨loc, hloc, hn⟩ := insertNew_inserted (c := c) (e := newEntry a c) hp
    have hplan := (insertPlan_absent hc hd hf hq).trans hn
    refine ⟨loc, placeNew (newEntry a c) loc Code.inserted { s with freeCtr := s.freeCtr + 1 }, hloc,
      tableInsert_reply h (congrArg codeAns hplan), slotAt_placeNew _ loc _ _, ?_, ?_⟩
    · rw [placeNew_tbl]
    · rw [ctrAt, placeNew_ctr rfl]
      rfl
  case present =>
    intro loc e h hd hf
    have hplan := insertPlan_present hc hd hf
    refine ⟨fun hb => ?_, fun hb => ?_⟩
    · rw [hb] at hplan
      exact ⟨_, tableInsert_reply h (congrArg codeAns hplan), slotAt_placeNew _ loc _ _⟩
    · rw [hb] at hplan
      exact tableInsert_reply h (congrArg codeAns hplan)
  case job => exact fun x y ws u h hplan =>
    tableCommand_pending (body := fun a s => codeAns (insertPlan a s)) h (congrArg codeAns hplan)
  case delete =>
    intro loc e h hf w u
    have hbody := tableDeleteCmd_present hc w hf
    refine ⟨fun hu => ?_, fun hu => ?_, slotAt_removeEntry w loc e, congrArg TblState.walks (removeEntry_tbl ..)⟩
    · exact tableCommand_reply h (hbody.trans (congrArg (workAns _ _ · _) hu))
    · obtain hnil | ⟨p, q, hmove⟩ := stashReturn_cases u
      · exact absurd hnil hu
      · rw [hmove]
        exact tableCommand_pending h (hbody.trans (congrArg (workAns _ _ · _) hmove))
  case search => exact fun loc e h hf => tableCommand_reply h (tableSearchCmd_present hc hf)
  case absent =>
    exact fun hf => ⟨fun h => tableCommand_reply h (tableDeleteCmd_absent hc hf), fun h => tableCommand_reply h (tableSearchCmd_absent hc hf)⟩
  case found => exact fun loc e hf => (findEntry_some hf).imp_right And.left

end Sys2Proof.Proofs.TableEntries
end

section
/-! SUPPORT. Walks, flushes and bulk commands (R158 to R160, R168, R169): a walk that ends with its first command, the removals of a flush, and the
records of a bulk command with their outcomes. -/
namespace Sys2Proof.Proofs.TableWalks
open Sys2Proof Sys2Proof.Machine Sys2Proof.Laws Sys2Proof.Proofs.TableSpace Sys2Proof.Proofs.PortLife

/-! ### A new walk (R158, R159) -/

section NewWalk
variable {s : State} {n m : Nat} {sel : Entry → Bool}

/-- The entries of the tables of mask `m`, in location order. -/
def entriesOf (s : State) (m : Nat) : List (Nat × Entry) :=
  s.tbl.slots.filterMap fun x => (x.2.filter fun e => bit m e.tid).map fun e => (x.1, e)

/-- The walk that a command without a cursor opens (R159). -/
def newWalk (s : State) (m : Nat) : Walk := ⟨s.tbl.cursors + 1, m, 0, s.cycles, []⟩

/-- The items of the space with the HIT bits of the tables of mask `m` cleared, if a walk is to clear them. -/
def hitsCleared (clear : Bool) (m : Nat) (slots : Tab (Option Entry)) : Tab (Option Entry) :=
  slots.map fun x => (x.1, x.2.map fun e => if clear && bit m e.tid && decide (x.1 < 2 ^ 32) then { e with hit := 0 } else e)

/-- A walk that clears nothing leaves the space as it was. -/
theorem hitsCleared_false (m : Nat) (slots : Tab (Option Entry)) : hitsCleared false m slots = slots := by
  simp [hitsCleared]

/-- A walk that clears leaves no HIT bit in the tables of its mask. -/
theorem hit_of_mem_hitsCleared {slots : Tab (Option Entry)} (hk : ∀ x ∈ slots, x.1 < 2 ^ 32) {x : Nat × Option Entry} {e : Entry}
    (hx : x ∈ hitsCleared true m slots) (he : x.2 = some e) (hm : bit m e.tid = true) : e.hit = 0 := by
  obtain ⟨⟨l, y⟩, hy, rfl⟩ := List.mem_map.1 hx
  obtain ⟨e', -, rfl⟩ := Option.map_eq_some_iff.1 he
  have htid : bit m e'.tid = true := by split at hm <;> exact hm
  rw [if_pos (by rw [htid, decide_eq_true (hk _ hy)]; rfl)]

/-- A selection of the items that keeps the entries of the tables of mask `m`. -/
theorem filterMap_eq_entriesOf {f : Nat × Option Entry → Option (Nat × Entry)} (hnone : ∀ l, f (l, none) = none)
    (hsome : ∀ l e, f (l, some e) = if bit m e.tid then some (l, e) else none) : s.tbl.slots.filterMap f = entriesOf s m := by
  refine List.filterMap_congr fun x _ => ?_
  obtain ⟨l, _ | e⟩ := x
  · exact hnone l
  · rw [hsome]
    cases hb : bit m e.tid <;> simp [Option.filter, hb]

/-- A scan asked for at least the entries before it passes all of them, and gathers those it is to choose. -/
theorem scanWalk_all {w : Walk} (hw : w.moved = []) (es : List (Nat × Entry)) (g : Gather) (hn : g.recs.length + es.length ≤ n) :
    scanWalk w sel n es g = ({ g with recs := g.recs ++ (es.filter fun x => sel x.2).map fun x => (x.1, x.2, false) }, none) := by
  induction es generalizing g with
  | nil => simp [scanWalk]
  | cons x es ih =>
    obtain ⟨loc, e⟩ := x
    rw [List.length_cons] at hn
    have hmark : (walkMark w e.tid e.key == some true) = false := by simp [walkMark, hw]
    have hvisit : (g.visit sel false loc e).recs.length ≤ g.recs.length + 1 := by
      unfold Gather.visit
      dsimp only
      split <;> simp
    rw [scanWalk, if_neg (by omega), hmark, ih _ (by omega)]
    cases hsel : sel e <;> simp [Gather.visit, hsel]

/-- A new walk asked for at least the entries of its tables ends at once, with those that it is to choose. -/
theorem runWalk_new (hn : (entriesOf s m).length ≤ n) :
    runWalk s (newWalk s m) sel n = (⟨((entriesOf s m).filter fun x => sel x.2).map fun x => (x.1, x.2, false), []⟩, none) := by
  have hscan := scanWalk_all (sel := sel) (w := newWalk s m) rfl (entriesOf s m) {} (by simpa using hn)
  unfold runWalk
  dsimp only
  rw [filterMap_eq_entriesOf (m := m) (fun _ => rfl) (fun _ _ => rfl), show carryWalk s (newWalk s m) sel n = {} from rfl, hscan]
  rfl

/-- TABLE.NEXT or HITS that opens such a walk returns its entries, leaves no walk open, and clears HIT of
its tables' entries where it is told to. -/
theorem walkCmd_new {clear : Bool} (hwalks : s.tbl.walks = []) (hn : (entriesOf s m).length ≤ n) :
    walkCmd 0 m n sel clear s = .reply Code.walkEnd
      (bytesOf ([w32 (s.tbl.cursors + 1), 1] ++ (((entriesOf s m).filter fun x => sel x.2).map fun x => entryRecord s x.1 x.2 false).flatten))
      (modTbl (fun t => { t with slots := hitsCleared clear m t.slots, cursors := s.tbl.cursors + 1 }) s) := by
  have hrun : runWalk s ⟨s.tbl.cursors + 1, m, 0, s.cycles, []⟩ sel n = _ := runWalk_new hn
  simp only [walkCmd, if_true, hwalks, hrun]
  simp [modTbl, hwalks, hitsCleared, Function.comp_def, b2n]

end NewWalk

/-! ### Flushes (R169) -/

section Flush
variable {s : State} {p : Entry → Bool}

/-- A flush removes the locations whose entries it chooses. -/
theorem mem_flushLocs (w : tabWf none s.tbl.slots = true) (l : Nat) : l ∈ flushLocs p s ↔ ∃ e, slotAt s l = some e ∧ p e = true := by
  rw [flushLocs, List.mem_filterMap]
  constructor
  · rintro ⟨⟨l', _ | e⟩, hx, hl⟩
    · cases hl
    · obtain ⟨hp, heq⟩ := Option.ite_none_right_eq_some.1 hl
      cases heq
      exact ⟨e, (tabGet_of_mem w hx).2, hp⟩
  · rintro ⟨e, he, hp⟩
    exact ⟨(l, some e), mem_of_tabGet (Option.some_ne_none e) he, if_pos hp⟩

/-- The removal of a location empties it, whether it holds an entry or not, and every other location reads what it did. -/
theorem slotAt_doWrite_remove (w : tabWf none s.tbl.slots = true) (loc : Nat) :
    tabWf none (doWrite (.remove loc) s).2.tbl.slots = true
      ∧ ∀ l, slotAt (doWrite (.remove loc) s).2 l = if l = loc then none else slotAt s l := by
  cases he : slotAt s loc with
  | none =>
    simp only [doWrite, he]
    refine ⟨w, fun l => ?_⟩
    split
    · exact ‹l = loc› ▸ he
    · rfl
  | some e =>
    simp only [doWrite, he]
    exact ⟨by rw [removeEntry_tbl]; exact tabSet_wf _ _ _ w, slotAt_removeEntry w loc e⟩

/-- Removals are made one after the other. -/
theorem doWrites_remove_cons (l : Nat) (ls : List Nat) (s : State) :
    doWrites ((l :: ls).map .remove) s = doWrites (ls.map .remove) (doWrite (.remove l) s).2 := rfl

/-- Removals empty their locations and leave the others. -/
theorem slotAt_doWrites_remove (ls : List Nat) (w : tabWf none s.tbl.slots = true) (l : Nat) :
    slotAt (doWrites (ls.map .remove) s) l = if l ∈ ls then none else slotAt s l := by
  induction ls generalizing s with
  | nil => rfl
  | cons loc ls ih =>
    obtain ⟨hw, hread⟩ := slotAt_doWrite_remove w loc
    rw [doWrites_remove_cons, ih hw, hread]
    by_cases hl : l = loc <;> simp [hl]

/-- A flush leaves the entries that it does not choose. -/
theorem slotAt_flushed (w : tabWf none s.tbl.slots = true) (l : Nat) :
    slotAt (doWrites ((flushLocs p s).map .remove) s) l = (slotAt s l).filter fun e => !p e := by
  rw [slotAt_doWrites_remove _ w]
  cases he : slotAt s l with
  | none => simp
  | some e => cases hp : p e <;> simp [mem_flushLocs w, he, hp, Option.filter]

/-- A TABLE command that flushes answers the number of its removals: at once when there is at most one, else as a job with them. -/
theorem tableCommand_flush {v : Via} {code : Nat} {a : List W32} {r : Request} {body : List W32 → State → Ans}
    (h : Handed s v code a r ∧ tableTurn s v = true) (hb : body a s = flushAns p s) :
    tableCommand code body v a s = .next (if ((flushLocs p s).map TblWrite.remove).length ≤ 1
      then answer v r Code.done (bytesOf [w32 ((flushLocs p s).map TblWrite.remove).length]) (doWrites ((flushLocs p s).map .remove) s)
      else startJob v r .table (modTbl (fun x => { x with
        work := some { writes := (flushLocs p s).map .remove, code := Code.done, res := bytesOf [w32 ((flushLocs p s).map TblWrite.remove).length] } }) s)) := by
  unfold flushAns at hb
  generalize flushLocs p s = ls at hb ⊢
  match ls with
  | [] => exact tableCommand_reply h hb
  | [_] => exact tableCommand_reply h hb
  | l :: l' :: ls =>
    rw [if_neg (by simp), List.length_map]
    exact tableCommand_pending h hb

end Flush

/-! ### Bulk commands (R168) -/

section BulkCommands
variable {s : State}

/-- A bulk command's next record: one outcome more, of the same kind of command. -/
theorem bulkNext_spec (b : Bulk) (s : State) : (bulkNext b s).2.1.op = b.op ∧ (bulkNext b s).2.1.codes.length = b.codes.length + 1
    ∧ (bulkNext b s).2.2.tcs = s.tcs := by
  refine ⟨rfl, List.length_append, ?_⟩
  unfold bulkNext bulkRecord
  dsimp only
  split
  · exact insertPlan_tcs ..
  · split
    · exact congrArg State.tcs (deletePlan_state ..)
    · rfl

/-- The rest of a bulk command gives as many outcomes as it has records, and leaves the channels alone. -/
theorem bulkLoop_spec (n : Nat) (b : Bulk) (s : State) : (bulkLoop n b s).1.op = b.op ∧ (bulkLoop n b s).1.codes.length = b.codes.length + n
    ∧ (bulkLoop n b s).2.tcs = s.tcs := by
  induction n generalizing b s with
  | zero => exact ⟨rfl, rfl, rfl⟩
  | succ n ih =>
    obtain ⟨hop, hlen, htcs⟩ := bulkNext_spec b s
    obtain ⟨iop, ilen, itcs⟩ := ih (bulkNext b s).2.1 (doWrites (bulkNext b s).1 (bulkNext b s).2.2)
    exact ⟨iop.trans hop, by rw [bulkLoop]; omega, itcs.trans ((doWrites_tcs ..).trans htcs)⟩

/-- The jobs in progress stand in the channels. -/
theorem jobsOf_congr {t : State} (h : t.tcs = s.tcs) (p : JobKind → Bool) : jobsOf p t = jobsOf p s := by
  unfold jobsOf channelAt
  rw [h]

/-- The one job of its kind gets the outcome. -/
theorem channelAt_settleJobs {p : JobKind → Bool} {v : Via} {i : Job} (h : jobsOf p s = [(v, i)]) (code : Nat) (res : List Byte) :
    channelAt (settleJobs p code res s) v = .running { i with outcome := some (code, res) } := by
  rw [settleJobs, h]
  exact channelAt_setChannel _ (Channel.noConfusion)

/-- A bulk command left to finish makes every record, and its job gets the counts of their outcomes. -/
theorem finishWork_bulk {b : Bulk} {v : Via} {i : Job} (hw : s.tbl.work = some { writes := [], bulk := some b }) (hb : b.codes = [])
    (hj : jobsOf (fun j => decide (j = .table)) s = [(v, i)]) :
    ∃ cs : List Nat, cs.length = b.left ∧ channelAt (finishWork s) v =
      .running { i with outcome := some (0, bytesOf ((bulkKinds b.op).map fun c => w32 (cs.count c))) } := by
  obtain ⟨hop, hlen, htcs⟩ := bulkLoop_spec b.left b s
  refine ⟨(bulkLoop b.left b s).1.codes, by rw [hlen, hb]; exact Nat.zero_add _, ?_⟩
  rw [← hop]
  unfold finishWork
  rw [hw]
  exact channelAt_settleJobs (s := modTbl (fun t => { t with work := none }) (bulkLoop b.left b s).2) ((jobsOf_congr htcs _).trans hj) _ _

end BulkCommands
end Sys2Proof.Proofs.TableWalks
end

section
/-! SUPPORT. The TABLE setup, walk, flush and bulk commands: with good arguments none of their checks refuses, and what is left is their effect; and
the expiries of walks and of learn-filter entries (R146, R150, R158 to R160, R163, R165, R168, R169, R513). -/
namespace Sys2Proof.Proofs.TableSetup
open Sys2Proof Sys2Proof.Machine Sys2Proof.Laws Sys2Proof.Proofs.TableSpace Sys2Proof.Proofs.TableWalks Sys2Proof.Proofs.StatusQueries
  Sys2Proof.Proofs.PortSettings

section Accepted
variable {s : State} {a : List W32}

/-- TABLE.CONFIG of a table without entries sets its configuration (R146). -/
theorem tableConfigCmd_empty (ht : arg a 0 ≤ 7) (hk : arg a 1 ≤ 3) (hw : widthOk (arg a 1) (arg a 2) = true) (hu : usedSlots s (arg a 0) = 0) :
    tableConfigCmd a s =
      ok [] (modTbl (fun x => { x with cfgs := tabSet none x.cfgs (arg a 0) (some ⟨arg a 1, arg a 2, arg a 3⟩) }) s) := by
  unfold tableConfigCmd
  rw [checked_pass]
  simp [ht, hk, hw, hu]

/-- TABLE.SEED_SET of a space without entries sets the seeds (R150). -/
theorem seedSetCmd_empty (h : s.tbl.slots = []) : seedSetCmd a s = ok [] (modTbl (fun x =>
    { x with seedA := arg a 0 + arg a 1 * 2 ^ 32, seedB := arg a 2 + arg a 3 * 2 ^ 32, seedSet := true }) s) :=
  checked_pass (by simp [anyEntry, h]) _ _

/-- TABLE.NEXT with good arguments and no cursor opens a walk over all entries of its tables (R159). -/
theorem tableNextCmd_new (h0 : arg a 0 = 0) (h1 : 1 ≤ arg a 1) (h1' : arg a 1 ≤ 255) (h2 : 1 ≤ arg a 2) (h2' : arg a 2 ≤ 96) :
    tableNextCmd a s = walkCmd 0 (arg a 1) (arg a 2) (fun _ => true) false s := by
  rw [tableNextCmd, if_neg (by omega), h0]

/-- TABLE.HITS with CLEAR opens one over the entries of its table that SELECT chooses (R163). -/
theorem tableHitsCmd_new (h0 : arg a 0 = 0) (h1 : arg a 1 ≤ 7) (h2 : 1 ≤ arg a 2) (h2' : arg a 2 ≤ 96) (h3 : arg a 3 ≤ 2) (h4 : arg a 4 = 1) :
    tableHitsCmd a s = walkCmd 0 (2 ^ arg a 1) (arg a 2)
      (fun e => decide (arg a 3 = 0) || (decide (arg a 3 = 1) == decide (e.hit ≠ 0))) true s := by
  rw [tableHitsCmd, if_neg (by omega), h0, h4]
  rfl

/-- TABLE.WALK_CLOSE of an open walk closes it. -/
theorem walkCloseCmd_open (h : (walkAt s (arg a 0)).isSome = true) : walkCloseCmd a s = ok [] (closeWalk (arg a 0) s) :=
  checked_pass (by simpa [Option.isSome_iff_ne_none] using h) _ _

/-- TABLE.FLUSH_PORT of tables whose data name destinations, for a destination that exists, flushes the entries that name it (R169). -/
theorem flushPortCmd_accepted (h1 : 1 ≤ arg a 0) (h1' : arg a 0 ≤ 255)
    (hk : ∀ i, i < 8 → bit (arg a 0) i = true → ∃ c, tabCfgAt s i = some c ∧ (c.kind = 1 ∨ c.kind = 3))
    (hd : arg a 1 = 0 ∧ badPort s (arg a 2) = false ∨ arg a 1 = 1 ∧ arg a 2 ≤ 255) :
    flushPortCmd a s =
      flushAns (fun e => bit (arg a 0) e.tid && decide (bits e.data 11 10 = arg a 1) && decide (bits e.data 9 0 = arg a 2)) s := by
  unfold flushPortCmd
  rw [checked_pass]
  rintro c (- | ⟨_, ⟨⟩⟩)
  simp only [Bool.or_eq_false_iff, List.any_eq_false, decide_eq_false_iff_not]
  refine ⟨⟨⟨⟨by omega, by omega⟩, fun i hi => ?kinds⟩, by omega⟩, ?dest⟩
  case kinds =>
    cases hb : bit (arg a 0) i with
    | false => exact Bool.false_ne_true
    | true =>
      obtain ⟨c, hc, hkind⟩ := hk i (List.mem_range.1 hi) hb
      obtain hkind | hkind := hkind <;> simp [hc, hkind]
  case dest =>
    obtain ⟨h0, hp⟩ | ⟨h1, hp⟩ := hd
    · simp [h0, hp]
    · simp [h1, hp]

/-- TABLE.FLUSH_TABLE of a configured table flushes its entries (R169). -/
theorem flushTableCmd_accepted (ht : arg a 0 ≤ 7) (hc : (tabCfgAt s (arg a 0)).isSome = true) :
    flushTableCmd a s = flushAns (fun e => decide (e.tid = arg a 0)) s :=
  checked_pass (by simpa [ht, Option.isSome_iff_ne_none] using hc) _ _

/-- A bulk command over records that host memory can give starts (R168). -/
theorem bulkCmd_starts (op : Nat) (h1 : 1 ≤ arg a 2) (h2 : arg a 2 ≤ 65536) (hd : canDma s = true) :
    bulkCmd op a s = .pending .table (modTbl (fun t => { t with
      work := some { writes := [], bulk := some { op := op, at_ := arg a 0 + arg a 1 * 2 ^ 32, left := arg a 2 } } }) s) := by
  rw [bulkCmd, if_neg (by omega), hd]
  rfl

/-- A walk silent for 10 s closes. -/
theorem walkTimeout_silent {n : Nat} {w : Walk} (hw : walkAt s n = some w) (h : w.last + 10000000000 ≤ s.cycles) :
    walkTimeout n s = closeWalk n s := by
  rw [walkTimeout, hw]
  exact if_pos h

end Accepted

/-- Settles O32: of each command's checks none applies to good arguments; a new walk that may return every entry ends at once; a flush is its
removals; and a bulk command's job gets an outcome for each of its records. -/
theorem tableSetupWalkAndFlushCommands : Obligations.TableSetupWalkAndFlushCommands := by
  unfold Obligations.TableSetupWalkAndFlushCommands
  intro v r s a w k t ready listed flushes
  have hlisted : ∀ m, listed m = entriesOf s m := fun m => filterMap_eq_entriesOf (fun _ => rfl) (fun _ _ => rfl)
  refine ⟨?config, ?seeds, ?next, ?hits, ?close, ?timeout, ?closed, ?flushPort, ?flushTable, ?flushed, ?bulk, ?finished, ?status, ?filter⟩
  case config => exact fun h ht hk hw hu => tableCommand_reply h (tableConfigCmd_empty ht hk hw hu)
  case seeds => exact fun h hs => tableCommand_reply h (seedSetCmd_empty hs)
  case next =>
    intro h h0 h1 h1' h2 h2' hwalks hn
    rw [hlisted] at hn ⊢
    have hwalk := walkCmd_new (sel := fun _ => true) (clear := false) hwalks hn
    simp only [List.filter_true, hitsCleared_false] at hwalk
    exact tableCommand_reply h ((tableNextCmd_new h0 h1 h1' h2 h2').trans hwalk)
  case hits =>
    intro h h0 h1 h2 h2' h3 h4 hwalks hn hkeys
    rw [hlisted] at hn
    refine ⟨_, _, tableCommand_reply h ((tableHitsCmd_new h0 h1 h2 h2' h3 h4).trans (walkCmd_new hwalks hn)), fun x hx e he htid => ?_⟩
    refine hit_of_mem_hitsCleared hkeys hx he ?_
    rw [htid, bit_eq_testBit, Nat.testBit_two_pow_self]
  case close => exact fun h hw => tableCommand_reply h (walkCloseCmd_open hw)
  case timeout => exact fun hw h => congrArg Host.Outcome.next (walkTimeout_silent hw h)
  case closed => exact fun x => by simp [closeWalk, modTbl]
  case flushPort => exact fun h h1 h1' hk hd => tableCommand_flush h (flushPortCmd_accepted h1 h1' hk hd)
  case flushTable => exact fun h ht hc => tableCommand_flush h (flushTableCmd_accepted ht hc)
  case flushed => exact fun p hw l => slotAt_flushed hw l
  case bulk =>
    intro h1 h2 hd bulk
    exact ⟨fun h => tableCommand_pending h (bulkCmd_starts 0 h1 h2 hd), fun h => tableCommand_pending h (bulkCmd_starts 1 h1 h2 hd),
      fun h => tableCommand_pending h (bulkCmd_starts 2 h1 h2 hd)⟩
  case finished => exact fun n i op at_ hw hj _ => finishWork_bulk hw rfl hj
  case status =>
    rintro ⟨h, ht⟩
    exact ⟨_, rfl, tableCommand_done h ht (tableStatusCmd_ok a s)⟩
  case filter =>
    intro hk
    show onUnit (sliceEnabled s k) (learnFilterExpire k s) = _
    rw [hk]
    rfl

end Sys2Proof.Proofs.TableSetup
end

section
/-! SUPPORT. Selection (chapter 10): which child of a scheduling node is chosen, how a shaper refills, and what a port that can start a frame
does (R231, R232, R235, R431). -/
namespace Sys2Proof.Proofs.Selection
open Sys2Proof Sys2Proof.Machine Sys2Proof.Laws

/-! ### The children of a node (R232) -/

section Children
variable {cs : List Child}

/-- The DWRR pointer stands at a child. -/
theorem mem_of_childAt {ptr : Nat} {x : Child} (h : childAt cs ptr = some x) : x ∈ cs := by
  unfold childAt at h
  split at h
  · next hfind => exact Option.some.inj h ▸ List.mem_of_find?_eq_some hfind
  · exact List.mem_of_head? h

/-- DWRR chooses an eligible child: a visit passes over every other one. -/
theorem dwrrLoop_eligible {fuel : Nat} {d d' : Dwrr} {j : Nat} (h : dwrrLoop cs fuel d = some (j, d')) : ∃ x ∈ cs, x.id = j ∧ x.elig = true := by
  induction fuel generalizing d with
  | zero => cases h
  | succ fuel ih =>
    cases hat : childAt cs d.ptr with
    | none => simp [dwrrLoop, hat] at h
    | some x =>
      simp only [dwrrLoop, hat] at h
      generalize (if (x.elig && (dwrrAt d x.id).2) = true then _ else _) = credit at h
      split at h
      · next hserved =>
        cases h
        exact ⟨x, mem_of_childAt hat, rfl, (Bool.and_eq_true_iff.1 hserved).1⟩
      · exact ih h

/-- The highest-numbered eligible strict child wins. -/
theorem selectChild_strict {x : Child} (h : (cs.filter fun x => x.strict && x.elig).getLast? = some x) (d : Dwrr) :
    selectChild cs d = some (x.id, d) := by
  obtain ⟨hx, hserved⟩ := List.mem_filter.1 (List.mem_of_getLast? h)
  have hany : cs.any (fun c => c.elig) = true := List.any_eq_true.2 ⟨x, hx, (Bool.and_eq_true_iff.1 hserved).2⟩
  rw [selectChild, if_pos hany, h]

/-- The child chosen is eligible, whether strict or by DWRR. -/
theorem selectChild_eligible {d d' : Dwrr} {j : Nat} (h : selectChild cs d = some (j, d')) : ∃ x ∈ cs, x.id = j ∧ x.elig = true := by
  cases hlast : (cs.filter fun x => x.strict && x.elig).getLast? with
  | some x =>
    obtain ⟨hx, hserved⟩ := List.mem_filter.1 (List.mem_of_getLast? hlast)
    rw [selectChild_strict hlast] at h
    cases h
    exact ⟨x, hx, rfl, (Bool.and_eq_true_iff.1 hserved).2⟩
  | none =>
    simp only [selectChild, hlast] at h
    split at h
    · obtain ⟨x, hx, hserved⟩ := dwrrLoop_eligible h
      exact ⟨x, List.mem_of_mem_filter hx, hserved⟩
    · cases h

end Children

/-! ### Shapers (R235) -/

/-- A shaper with a rate gains its tokens of the time that passed, up to its cap. -/
theorem refill_of_rate_ne_zero {h : Shaper} (hr : h.rate ≠ 0) (now : Nat) :
    refill now h = { h with s := min (h.s + h.rate * ((now : Int) - h.at_)) (8000 * h.burst), at_ := now } :=
  if_neg hr

/-! ### The port (R61, R231, R431) -/

section Port
variable {s : State} {p : Nat}

/-- A port in Plain service that sends nothing serves queue 0 (R431). -/
theorem tellerSelect_plain (hm : mayStart s p = true) (hplain : plainSlice s (portSlice p) = true) (htx : (txAt s p).tx = none)
    (express : Bool) (cut : Nat) : tellerSelect p express cut s = startCopy p 0 s := by
  rw [tellerSelect, if_pos hm, if_pos hplain, htx]
  rfl

/-- A front port in full service that sends nothing serves its selection, once its gates stand as they do now and the heads that may not go
are discarded (R57, R239, R241). -/
theorem tellerSelect_idle (hp : p < 512) (hm : mayStart s p = true) (hfull : plainSlice s (portSlice p) = false)
    (htx : (txAt (pruneHeads p (catchUp p s)) p).tx = none) (express : Bool) (cut : Nat) :
    tellerSelect p express cut s = tellerServe p express (pruneHeads p (catchUp p s)) := by
  have hrecirc : isRecirc p = false := by simp only [isRecirc, Bool.and_eq_false_iff, decide_eq_false_iff_not]; omega
  simp only [tellerSelect, hm, hfull, hrecirc, htx, if_true, Bool.false_eq_true, if_false]

/-- A port without preemption, with no frame suspended, starts the copy that it selects among all queues (R61, R231). -/
theorem tellerServe_unpreempted (hpre : (portAt s p).pre.active = false) (hsusp : (txAt s p).susp = none) {q : Nat} {t : TxPort}
    (hsel : selectQueue s p (fun _ => true) = some (q, t)) (express : Bool) :
    tellerServe p express s = startCopy p q (modTx p (fun _ => t) s) := by
  simp only [tellerServe, hpre, hsusp, Bool.false_eq_true, if_false, hsel]

end Port
end Sys2Proof.Proofs.Selection
end

section
/-! SUPPORT. The enqueue of an admitted frame and the acceptance of a trapped one (R176, R213, R214). -/
namespace Sys2Proof.Proofs.Enqueue
open Sys2Proof Sys2Proof.Machine Sys2Proof.Laws Sys2Proof.Proofs.FrontPorts Sys2Proof.Proofs.Ingress Sys2Proof.Proofs.Selection

/-- A frame that requested its enqueue and overtakes none is in its turn of the port (R175). -/
theorem requested_inTurn {s : State} {n : Nat} {c : Chit} {r : Rec} (hr : c.cls = some r) (hs : c.status = .provisional)
    (hq : c.requested = true) (ho : overtakes s n c r = false) :
    (c.requested && decide (c.status = .provisional) && !c.cls.any (overtakes s n c)) = true := by
  rw [hq, hs, hr, Option.any_some, ho]
  rfl

/-- The number of cells of a chain that pool 31 is not charged for yet. -/
def cellsToTrap (s : State) (c : Chit) : Nat :=
  (c.chain.filter fun e => match tabGet none s.mint.cells e.1 with | some x => decide (x.pool ≠ 31) | none => false).length

/-- What becomes of a trapped frame that settles: its punt is offered under a reference of its own, or counted lost when the frame can have no
more references (R219, R363). -/
def puntCopy (n : Nat) (c : Chit) (r : Rec) (s : State) : State :=
  match addRef n s with
  | some s => offerPunt n c r s
  | none => dropAdmitted (chitSlice n) 512 n (bump Ctr.mntRefLimit s)

section Classified
variable {s : State} {n : Nat} {c : Chit} {r : Rec} (hc : chitAt s n = some c) (hr : c.cls = some r) (hs : c.status = .provisional)
include hc hr hs

/-- An admitted frame with a good FCS and a whole chain, which no speculative copy serves, requests its enqueue once (R176). -/
theorem enqueueRequest_due (ha : c.admitted = true) (hf : c.fcsGood = true) (hq : c.requested = false) (hw : chainWhole c = true)
    (hh : forHost r = false) (hspec : specServes s n c r = false) : enqueueRequest n s = modChit n (fun c => { c with requested := true }) s := by
  simp only [enqueueRequest, hc, hr]
  exact if_pos (by simp [hs, ha, hf, hq, hw, hh, hspec])

section Requested
variable (hq : c.requested = true) (ho : overtakes s n c r = false)
include hq ho

/-- A frame in its turn whose colour is refused voids (R214). -/
theorem tellerEnqueue_refused (hcol : colorRefuses s c = true) : tellerEnqueue n s = voidChit n 13 (bump Ctr.mntColorRefuse s) := by
  simp only [tellerEnqueue, hc]
  rw [if_pos (requested_inTurn hr hs hq ho), if_pos hcol]

/-- One whose colour is accepted is counted by its egress slice and settles with its copy (R176). -/
theorem tellerEnqueue_accepted (hcol : colorRefuses s c = false) {e : Nat} (hdest : (finalDest s r).map (fun x => portSlice x.1) = some e) :
    tellerEnqueue n s = settleWith (dispatchCopy n) n
      (modChit n (fun c => { c with enqueued := true }) (tallyFrame (16 * e + 4) c.port c.bytes.length n s)) := by
  simp only [tellerEnqueue, hc]
  rw [if_pos (requested_inTurn hr hs hq ho), hcol]
  simp only [hr, hdest, Bool.false_eq_true, if_false]

end Requested

/-- An admitted frame for the host with a good FCS and a whole chain voids when pool 31 lacks room for it, else it settles with its punt (R213). -/
theorem trapAccept_due (ha : c.admitted = true) (hf : c.fcsGood = true) (hw : chainWhole c = true) (hh : forHost r = true) :
    trapAccept n s = if (poolAt s 31).used + cellsToTrap s c > (poolAt s 31).size then voidChit n 13 (bump Ctr.mntP31Drop s)
      else settleWith (puntCopy n c r) n (if cellsToTrap s c = 0 then s else chargeTrap n c s) := by
  simp only [trapAccept, hc, hr]
  exact if_pos (by simp [hs, ha, hf, hw, hh])

end Classified

/-- Settles O40: each event's unit is there, and its hypotheses choose the branch that the lemmas above state. -/
theorem enqueueTrapAndSelection : Obligations.EnqueueTrapAndSelection := by
  unfold Obligations.EnqueueTrapAndSelection
  intro s n p i c r
  refine ⟨?chit, ?select, fun cs d x h => selectChild_strict h d, fun cs d d' j h => selectChild_eligible h, ?shaper, ?refill⟩
  case chit =>
    intro hn hrun hc hr hs
    have hreq : exec (.enqueueRequest n) s = .next (enqueueRequest n s) := onChit_runs hn hrun enqueueRequest
    have henq : exec (.tellerEnqueue n) s = .next (tellerEnqueue n s) := onChit_runs hn hrun tellerEnqueue
    have htrap : exec (.trapAccept n) s = .next (trapAccept n s) := onChit_runs hn hrun trapAccept
    rw [hreq, henq, htrap]
    refine ⟨fun ha hf hq hw hh hspec => ?_, fun hq ho hcol => ?_, fun e hq ho hcol hdest => ?_, fun ha hf hw hh => ?_⟩
    · rw [enqueueRequest_due hc hr hs ha hf hq hw hh hspec]
    · rw [tellerEnqueue_refused hc hr hs hq ho hcol]
    · rw [tellerEnqueue_accepted hc hr hs hq ho hcol hdest]
    · rw [trapAccept_due hc hr hs ha hf hw hh]
      exact ⟨fun hroom => congrArg Host.Outcome.next (if_neg (Nat.not_lt.2 hroom)), fun hlack => congrArg Host.Outcome.next (if_pos hlack)⟩
  case select =>
    intro hp he hm
    have hexec : exec (.tellerSelect p false 0) s = .next (tellerSelect p false 0 s) := by
      have hunit : (isPort p && decide (p ≠ 512) && portEnabledByFuse s p) = true := by
        rw [Bool.and_right_comm, isPort_and_enabled hp he, decide_eq_true hp.ne]
        rfl
      exact onUnit_next.2 ⟨hunit, rfl⟩
    rw [hexec]
    refine ⟨fun hplain htx => ?_, fun q t hfull hpre htx hsusp hsel => ?_⟩
    · rw [tellerSelect_plain hm hplain htx]
    · rw [tellerSelect_idle hp hm hfull htx, tellerServe_unpreempted hpre hsusp hsel]
  case shaper =>
    intro hp he hi
    have hunit : (isFront p && portEnabledByFuse s p && decide (i ≤ 20)) = true := by
      rw [isFront_and_enabled hp he, decide_eq_true hi]
      rfl
    exact onUnit_next.2 ⟨hunit, rfl⟩
  case refill =>
    intro now h hrate
    rw [refill_of_rate_ne_zero hrate]
    exact ⟨min_le_right .., rfl, min_eq_left⟩

end Sys2Proof.Proofs.Enqueue
end

section
/-! SUPPORT. The MINT commands (chapter 09): with arguments in range none of their checks refuses, and what is left is their effect; and the end of a
reclaim sweep. -/
namespace Sys2Proof.Proofs.MintCommands
open Sys2Proof Sys2Proof.Machine Sys2Proof.Laws Sys2Proof.Proofs.PortSettings Sys2Proof.Proofs.PortLife Sys2Proof.Proofs.StatusQueries
  Sys2Proof.Proofs.ClassCommands

variable {s : State} {a : List W32}

/-! ### Pools (R209, R215, R227) -/

/-- The cells that pools 1 to 31 take from pool 0 once pool `p` has `size` cells: a pool's size, or what it holds of its own where that is more
(R209). -/
def cellsAside (s : State) (p size : Nat) : Nat :=
  ((List.range 32).map fun i =>
    if i = 0 then 0 else max (if i = p then size else (poolAt s i).size) ((poolAt s i).used - (poolAt s i).borrowed)).sum

/-- What MINT.POOL_SET makes of its pool: thresholds stand in units of 16 cells, and the use of the pool stays. -/
def newPool (a : List W32) (q : Pool) : Pool :=
  { q with kind := arg a 1, size := arg a 2, warn := arg a 3 / 16, stop := arg a 4 / 16, resume := arg a 5 / 16, fair := arg a 6 / 16 }

/-- MINT.POOL_SET of a pool that keeps its KIND is accepted when its thresholds are in order and pool 0 keeps 4,096
cells (R215, R227). -/
theorem poolSetCmd_sameKind (hp : 1 ≤ arg a 0) (hp' : arg a 0 ≤ 31) (hk : kindOk (arg a 0) (arg a 1) = true) (h2 : arg a 2 < 2 ^ 20)
    (h3 : badUnits (arg a 3) = false) (h4 : badUnits (arg a 4) = false) (h5 : badUnits (arg a 5) = false) (h6 : badUnits (arg a 6) = false)
    (horder : arg a 1 = 2 → arg a 5 < arg a 3 ∧ arg a 3 ≤ arg a 4 ∧ arg a 4 < arg a 2) (hsame : arg a 1 = (poolAt s (arg a 0)).kind)
    (hroom : cellsAside s (arg a 0) (arg a 2) + 4096 ≤ cellsTotal s) : poolSetCmd a s = ok [] (changePool (arg a 0) (newPool a) s) := by
  unfold poolSetCmd
  dsimp only
  rw [checked_pass]
  · rfl
  refine List.forall_mem_cons.2 ⟨?args, List.forall_mem_cons.2 ⟨?kind, List.forall_mem_singleton.2 ?room⟩⟩
  case args => simpa [Nat.one_le_iff_ne_zero.1 hp, hp', hk, h3, h4, h5, h6, and_assoc] using And.intro h2 horder
  case kind => simp [hsame]
  case room => exact decide_eq_false (Nat.not_lt.2 hroom)

/-! ### Port map, floors and marks (R214, R221, R227) -/

/-- The sixteen entries that MINT.PORT_MAP carries. -/
def mapEntries (a : List W32) : List Nat := (List.range 16).map fun i => arg a (1 + i)

/-- MINT.PORT_MAP onto pools in use, pool 31 not among them, sets the port's row; a row of zeros is an unlisted one (R227). -/
theorem portMapCmd_accepted (hp : badPort s (arg a 0) = false)
    (he : ∀ i, i < 16 → arg a (1 + i) ≤ 255 ∧ arg a (1 + i) % 32 ≠ 31 ∧ (poolAt s (arg a (1 + i) % 32)).kind ≠ 0) :
    portMapCmd a s = ok [] { s with mint := { s.mint with
      portMap := tabSet [] s.mint.portMap (arg a 0) (if (mapEntries a).all (· == 0) then [] else mapEntries a) } } := by
  unfold portMapCmd
  dsimp only
  rw [checked_pass]
  · rfl
  · simpa [hp, and_assoc] using he

/-- MINT.COLOR_SET sets the two floors, in units of 16 cells (R214). -/
theorem colorSetCmd_accepted (h0 : badUnits (arg a 0) = false) (h1 : badUnits (arg a 1) = false) :
    colorSetCmd a s = ok [] { s with mint := { s.mint with yelFloor := arg a 0 / 16, redFloor := arg a 1 / 16 } } :=
  checked_pass (by simp [h0, h1]) _ _

/-- The marks after MINT.ECN_SET: each named queue of the port has the new one. -/
def setMarks (a : List W32) (t : Tab Nat) : Tab Nat :=
  (maskSlices (arg a 1)).foldl (tabUpdate 0 (16 * arg a 0 + ·) fun _ _ => arg a 2) t

/-- MINT.ECN_SET of a front port sets marks alone (R221). -/
theorem ecnSetCmd_accepted (hf : badFront s (arg a 0) = false) (h1 : arg a 1 < 2 ^ 16) (h2 : arg a 2 < 2 ^ 20) :
    ecnSetCmd a s = ok [] { s with mint := { s.mint with marks := setMarks a s.mint.marks } } := by
  unfold ecnSetCmd setMarks maskSlices
  rw [checked_pass, List.foldl_filter]
  · rfl
  · simpa [hf] using And.intro h1 h2

/-- The marks of the named queues of the port read back; every other mark is as it was. -/
theorem tabGet_setMarks {t : Tab Nat} (w : tabWf 0 t = true) (i : Nat) :
    tabGet 0 (setMarks a t) i = if i / 16 = arg a 0 ∧ bit (arg a 1) (i % 16) = true then arg a 2 else tabGet 0 t i := by
  unfold setMarks
  split
  next h =>
    obtain ⟨hport, hbit⟩ := h
    have hread := tabGet_foldl_tabUpdate (g := fun _ _ => arg a 2)
      ((maskSlices_nodup (arg a 1)).map (add_right_injective (16 * arg a 0))) w (mem_maskSlices.2 ⟨Nat.mod_lt i (by decide), hbit⟩)
    rwa [show 16 * arg a 0 + i % 16 = i by omega] at hread
  next h =>
    refine tabGet_foldl_tabUpdate_ne (fun q hq e => h ?_) t
    obtain ⟨hq16, hbit⟩ := mem_maskSlices.1 hq
    obtain rfl : q = i % 16 := by omega
    exact ⟨by omega, hbit⟩

/-! ### Reclaim (R224) -/

/-- MINT.RECLAIM starts the sweep when none runs. -/
theorem reclaimCmd_starts (h : s.mint.reclaim = false) : reclaimCmd a s = .pending .reclaim { s with mint := { s.mint with reclaim := true } } :=
  checked_pass (by simp [h]) _ _

/-- The end of a running sweep frees what it found and completes MINT.RECLAIM. -/
theorem reclaimDone_sweeping (h : s.mint.reclaim = true) : reclaimDone s = settleJobs (fun j => decide (j = .reclaim)) Code.done []
    { reclaimSweep s with mint := { (reclaimSweep s).mint with reclaim := false } } := if_pos h

/-- Settles O33: of each command's checks none applies to arguments in range, and its effect is the one stated. -/
theorem mintCommandsSetPoolsAndMaps : Obligations.MintCommandsSetPoolsAndMaps := by
  unfold Obligations.MintCommandsSetPoolsAndMaps
  intro v r s a
  refine ⟨?poolSet, ?portMap, ?colorSet, ?ecnSet, ?reclaim, ?reclaimDone, ?status⟩
  case poolSet =>
    intro h hp hp' hk h2 h3 h4 h5 h6 horder hsame hroom
    exact handed_done (ws := []) h (poolSetCmd_sameKind hp hp' hk h2 h3 h4 h5 h6 horder hsame hroom)
  case portMap => exact fun h hp he => handed_done (ws := []) h (portMapCmd_accepted hp he)
  case colorSet => exact fun h h0 h1 => handed_done (ws := []) h (colorSetCmd_accepted h0 h1)
  case ecnSet => exact fun h hf h1 h2 => ⟨_, handed_done (ws := []) h (ecnSetCmd_accepted hf h1 h2), fun w i => tabGet_setMarks w i⟩
  case reclaim => exact fun h hr => handed_pending h (reclaimCmd_starts hr)
  case reclaimDone => exact fun hr => congrArg Host.Outcome.next (reclaimDone_sweeping hr)
  case status => exact fun h hp => handed_done h (mintStatusCmd_ok hp)

end Sys2Proof.Proofs.MintCommands
end

section
/-! SUPPORT. The Ledger's banks (R258 to R268): which bank each event touches, what it leaves in it, and what a drain keeps of its records. -/
namespace Sys2Proof.Proofs.LedgerBanks
open Sys2Proof Sys2Proof.Machine Sys2Proof.Laws

variable {s : State} {b : Nat}

/-! ### One bank at a time (R258) -/

/-- A bank in another state than READY reads back, in every table. -/
theorem bankAt_setBank_of_state {v : Bank3} (h : v.state ≠ 0) : bankAt (setBank b v s) b = v :=
  tabGet_tabSet_self _ _ fun e => h (e ▸ rfl)

/-- Of the Ledger only bank `b` and the slices' caches differ. -/
structure TouchesBank (b : Nat) (s t : State) : Prop where
  led : ∃ k c, t.led = { s.led with banks := k, caches := c }
  other : ∀ i, i ≠ b → bankAt t i = bankAt s i

/-- A state touches nothing of itself. -/
theorem TouchesBank.refl (b : Nat) (s : State) : TouchesBank b s s := ⟨⟨s.led.banks, s.led.caches, rfl⟩, fun _ _ => rfl⟩

/-- Two updates of one bank touch no other. -/
theorem TouchesBank.trans {t u : State} (h : TouchesBank b s t) (h' : TouchesBank b t u) : TouchesBank b s u := by
  obtain ⟨⟨k, c, hl⟩, ho⟩ := h
  obtain ⟨⟨k', c', hl'⟩, ho'⟩ := h'
  exact ⟨⟨k', c', by rw [hl', hl]⟩, fun i hi => (ho' i hi).trans (ho i hi)⟩

/-- A fold of steps that touch bank `b` alone touches no other. -/
theorem TouchesBank.foldl {α : Type} {f : State → α → State} (xs : List α) (hf : ∀ x ∈ xs, ∀ s, TouchesBank b s (f s x)) (s : State) :
    TouchesBank b s (xs.foldl f s) :=
  List.foldlRecOn (motive := TouchesBank b s) xs f (.refl b s) fun t h x hx => h.trans (hf x hx t)

/-- Replacing bank `b` touches it alone, whatever else of the state but its Ledger differs. -/
theorem touchesBank_of_led {t : State} {v : Bank3} (h : t.led = (setBank b v s).led) : TouchesBank b s t :=
  ⟨⟨_, s.led.caches, h⟩, fun i hi => (congrArg (fun l : LedgerState => tabGet ({} : Bank3) l.banks i) h).trans (bankAt_setBank_ne s v hi)⟩

/-- Deltas go into their own bank (R257). -/
theorem addRow_touches (t : Nat) (d : Row) (s : State) : TouchesBank b s (addRow b t d s) := by
  unfold addRow
  rw [bumpIf_frame]
  exact touchesBank_of_led rfl

/-- A flush for bank `b` touches no other (R257). -/
theorem flushAll_touches (b : Nat) (s : State) : TouchesBank b s (flushAll (fun x => x == b) s) := by
  refine .foldl _ (fun k _ s => ?_) s
  have hrows : TouchesBank b s (((cacheAt s k).filter fun e => e.1 == b).foldl (fun s e => addRow e.1 e.2.1 e.2.2 s) s) := by
    refine .foldl _ (fun e he s => ?_) s
    obtain rfl : e.1 = b := by simpa using (List.mem_filter.1 he).2
    exact addRow_touches _ _ s
  exact hrows.trans ⟨⟨_, _, rfl⟩, fun _ _ => rfl⟩

/-- Energy is delivered into the bank it is for (R265). -/
theorem deliverEnergy_touches (b : Nat) (s : State) : TouchesBank b s (deliverEnergy b s) := by
  refine .foldl _ (fun o _ s => ?_) s
  exact touchesBank_of_led rfl

/-- It leaves the bank's rows as they are. -/
theorem rows_deliverEnergy (w : tabWf {} s.led.banks = true) (b : Nat) : (bankAt (deliverEnergy b s) b).rows = (bankAt s b).rows := by
  refine (List.foldlRecOn (motive := fun t : State => tabWf {} t.led.banks = true ∧ (bankAt t b).rows = (bankAt s b).rows) _ _ ⟨w, rfl⟩ ?_).2
  rintro t ⟨hw, hr⟩ o -
  exact ⟨tabSet_wf _ _ _ hw, (congrArg Bank3.rows (bankAt_setBank t b _ hw)).trans hr⟩

/-! ### The boundary (R259, R262) -/

/-- The one instant due, of the trigger in force, is a boundary on a running device. -/
theorem ledgerBoundary_due {x : Instant} (hdue : s.led.due = [x]) (ht : x.trig = s.led.trigger) (ha : s.dev.asserted = 0)
    (hs : 5 ≤ s.dev.step) : ledgerBoundary s = epochBoundary false x { s with led := { s.led with due := [] } } := by
  unfold ledgerBoundary actDue
  rw [if_pos ⟨ha, hs⟩, hdue]
  exact if_pos ht

/-- The first epoch may end unless the device still waits for its slices to enter full service (R276). -/
theorem firstEpoch_ends (h : s.led.zero = false ∨ s.led.merging = true ∨ allFull s = true) :
    (s.led.zero && !s.led.merging && !allFull s) = false := by
  obtain h | h | h := h <;> simp [h]

/-- One instant turns the banks when nothing merges and the next bank is READY. -/
theorem epochBoundary_swaps {x : Instant} (hend : s.led.zero = false ∨ s.led.merging = true ∨ allFull s = true) (hm : mustMerge s = false)
    (hn : (bankAt s ((s.led.open_ + 1) % 3)).state = 0) (h1 : x.n = 1) :
    epochBoundary false x s = takeBuffered (swapBanks x.at_ x.cycle s) := by
  simp [epochBoundary, firstEpoch_ends hend, hm, hn, h1]

/-- Otherwise the instants merge. -/
theorem epochBoundary_merges {x : Instant} (hend : s.led.zero = false ∨ s.led.merging = true ∨ allFull s = true)
    (h : mustMerge s = true ∨ (bankAt s ((s.led.open_ + 1) % 3)).state ≠ 0) :
    epochBoundary false x s = takeBuffered (mergeEpochs x.n s) := by
  simp [epochBoundary, firstEpoch_ends hend, h]

/-- The banks once the OPEN one, `o`, has closed and the next has opened for epoch `e`, no outlet marked yet. -/
def turnBanks (o e at_ cycle : Nat) (s : State) : State :=
  let n := (o + 1) % 3
  let c := { bankAt s o with state := 2, grace := true, endAt := at_, closedAt := cycle, map := s.led.mapAct }
  let s := setBank n { state := 1, epoch := e, startAt := at_ } (setBank o c s)
  { s with led := { s.led with open_ := n, epoch := e, zero := false, merging := false } }

/-- A boundary delivers the outlets' energy, turns the banks and marks the outlets that are not sampled. -/
theorem swapBanks_eq (at_ cycle : Nat) (s : State) : swapBanks at_ cycle s
    = markGaps (turnBanks s.led.open_ ((s.led.epoch + 1) % 2 ^ 32) at_ cycle (deliverEnergy s.led.open_ s)) := rfl

section Turn
variable (o e at_ cycle : Nat) (s : State)

/-- The bank that opens is new. -/
theorem bankAt_turnBanks_next : bankAt (turnBanks o e at_ cycle s) ((o + 1) % 3) = { state := 1, epoch := e, startAt := at_ } :=
  bankAt_setBank_of_state Nat.one_ne_zero

/-- The bank that closes keeps what it holds. -/
theorem bankAt_turnBanks_closed : bankAt (turnBanks o e at_ cycle s) o
    = { bankAt s o with state := 2, grace := true, endAt := at_, closedAt := cycle, map := s.led.mapAct } :=
  (bankAt_setBank_ne _ _ (by omega)).trans (bankAt_setBank_of_state (Nat.succ_ne_zero 1))

/-- The third bank stays as it is. -/
theorem bankAt_turnBanks_other {o i : Nat} (ho : i ≠ o) (hn : i ≠ (o + 1) % 3) : bankAt (turnBanks o e at_ cycle s) i = bankAt s i :=
  (bankAt_setBank_ne _ _ hn).trans (bankAt_setBank_ne _ _ ho)

end Turn

/-- Marking leaves all of the OPEN bank but its marks (R267). -/
theorem bankAt_markGaps_open {k : Bank3} (hk : bankAt s s.led.open_ = k) (h : k.state ≠ 0) :
    ∃ g, bankAt (markGaps s) s.led.open_ = { k with gaps := g } := by
  subst hk
  exact ⟨_, bankAt_setBank_of_state h⟩

/-- A boundary opens the next bank in order for the next epoch (R259). -/
theorem open_swapBanks (at_ cycle : Nat) (s : State) : (swapBanks at_ cycle s).led.open_ = (s.led.open_ + 1) % 3
    ∧ (swapBanks at_ cycle s).led.epoch = (s.led.epoch + 1) % 2 ^ 32 := by
  rw [swapBanks_eq]
  generalize deliverEnergy s.led.open_ s = d
  exact ⟨rfl, rfl⟩

/-- What the banks hold after a boundary: the next is new but for its marks, the one that was OPEN keeps its rows, the third stays. -/
theorem banks_swapBanks (at_ cycle : Nat) (s : State) :
    (∃ g, bankAt (swapBanks at_ cycle s) ((s.led.open_ + 1) % 3)
        = { state := 1, epoch := (s.led.epoch + 1) % 2 ^ 32, startAt := at_, gaps := g })
      ∧ bankAt (swapBanks at_ cycle s) s.led.open_ = { bankAt (deliverEnergy s.led.open_ s) s.led.open_ with
          state := 2, grace := true, endAt := at_, closedAt := cycle, map := s.led.mapAct }
      ∧ bankAt (swapBanks at_ cycle s) ((s.led.open_ + 2) % 3) = bankAt s ((s.led.open_ + 2) % 3) := by
  obtain ⟨⟨k, c, hled⟩, hother⟩ := deliverEnergy_touches s.led.open_ s
  rw [swapBanks_eq]
  generalize deliverEnergy s.led.open_ s = d at hled hother ⊢
  refine ⟨bankAt_markGaps_open (bankAt_turnBanks_next ..) Nat.one_ne_zero, ?closed, ?third⟩
  case closed =>
    refine (bankAt_setBank_ne _ _ (show s.led.open_ ≠ (s.led.open_ + 1) % 3 by omega)).trans ?_
    rw [bankAt_turnBanks_closed, hled]
  case third =>
    refine (bankAt_setBank_ne _ _ (show (s.led.open_ + 2) % 3 ≠ (s.led.open_ + 1) % 3 by omega)).trans ?_
    rw [bankAt_turnBanks_other _ _ _ _ (by omega) (by omega), hother _ (by omega)]

/-- Merged instants lengthen the span of the OPEN bank (R262). -/
theorem span_mergeEpochs (n : Nat) (h : (bankAt s s.led.open_).state = 1) :
    (bankAt (mergeEpochs n s) s.led.open_).span = (bankAt s s.led.open_).span + n :=
  congrArg Bank3.span (bankAt_setBank_of_state (v := { bankAt s s.led.open_ with span := _ }) (by simp [h]))

/-! ### Grace windows (R260) -/

/-- A bank's grace window ends when it is 100 µs old. -/
def endGrace (now : Nat) (k : Bank3) : Bank3 := if k.state = 2 ∧ k.closedAt + 100000 ≤ now then { k with grace := false } else k

/-- The same in the state. -/
def endGraceAt (b : Nat) (s : State) : State :=
  if (bankAt s b).state = 2 && (bankAt s b).grace && decide (s.cycles ≥ (bankAt s b).closedAt + 100000)
  then setBank b { bankAt s b with grace := false } s else s

/-- The model ends the three banks' windows one after the other. -/
theorem graceEnd_eq (s : State) : graceEnd s = (List.range 3).foldl (fun s b => endGraceAt b s) s := rfl

/-- The end of a window changes banks alone. -/
theorem endGraceAt_frame (b : Nat) (s : State) : ∃ k, endGraceAt b s = { s with led := { s.led with banks := k } } := by
  unfold endGraceAt
  split
  · exact ⟨_, rfl⟩
  · exact ⟨s.led.banks, rfl⟩

/-- It keeps the banks' table in canonical form. -/
theorem endGraceAt_wf (w : tabWf {} s.led.banks = true) (b : Nat) : tabWf {} (endGraceAt b s).led.banks = true := by
  unfold endGraceAt
  split
  · exact tabSet_wf _ _ _ w
  · exact w

/-- It leaves the other banks as they are. -/
theorem bankAt_endGraceAt_ne {i : Nat} (hi : i ≠ b) : bankAt (endGraceAt b s) i = bankAt s i := by
  unfold endGraceAt
  split
  · exact bankAt_setBank_ne _ _ hi
  · rfl

/-- Its own bank is as its age says, one whose window has ended before included. -/
theorem bankAt_endGraceAt (w : tabWf {} s.led.banks = true) (b : Nat) : bankAt (endGraceAt b s) b = endGrace s.cycles (bankAt s b) := by
  unfold endGraceAt endGrace
  by_cases hold : (bankAt s b).state = 2 ∧ (bankAt s b).closedAt + 100000 ≤ s.cycles
  · cases hg : (bankAt s b).grace with
    | true => simp [hold, bankAt_setBank s b _ w]
    | false => rw [if_pos hold, if_neg (by simp), ← hg]
  · rw [if_neg hold, if_neg]
    simpa using fun hst _ => not_le.1 fun h => hold ⟨hst, h⟩

/-- So do the ends of all windows. -/
theorem graceEnd_frame (s : State) : ∃ k, graceEnd s = { s with led := { s.led with banks := k } } := by
  rw [graceEnd_eq]
  refine List.foldlRecOn (motive := fun t : State => ∃ k, t = { s with led := { s.led with banks := k } }) _ _ ⟨s.led.banks, rfl⟩ ?_
  rintro _ ⟨k, rfl⟩ b -
  obtain ⟨k', h⟩ := endGraceAt_frame b { s with led := { s.led with banks := k } }
  exact ⟨k', h⟩

/-- Each window ends by its own bank's time. -/
theorem bankAt_foldl_endGraceAt {bs : List Nat} (hbs : bs.Nodup) (w : tabWf {} s.led.banks = true) (i : Nat) :
    bankAt (bs.foldl (fun s b => endGraceAt b s) s) i = if i ∈ bs then endGrace s.cycles (bankAt s i) else bankAt s i := by
  induction bs generalizing s with
  | nil => rfl
  | cons b bs ih =>
    obtain ⟨hb, hbs⟩ := List.nodup_cons.1 hbs
    obtain ⟨k, hk⟩ := endGraceAt_frame b s
    have hcycles : (endGraceAt b s).cycles = s.cycles := by rw [hk]
    rw [List.foldl_cons, ih hbs (endGraceAt_wf w b), hcycles]
    by_cases hi : i = b
    · subst hi
      simp [hb, bankAt_endGraceAt w]
    · simp [hi, bankAt_endGraceAt_ne hi]

/-! ### Sealing (R258, R260) -/

/-- A bank whose rows have been flushed becomes SEALED, the last in the order of sealing. -/
def markSealed (b : Nat) (s : State) : State :=
  let s := setBank b { bankAt s b with state := 3, grace := false } s
  { s with led := { s.led with sealed := s.led.sealed ++ [b] } }

/-- Sealing flushes the bank's rows first. -/
theorem sealBank_eq (b : Nat) (s : State) : sealBank b s = markSealed b (flushAll (fun x => x == b) s) := rfl

/-- The bank is SEALED then (Table 11-3). -/
theorem state_sealBank (b : Nat) (s : State) : (bankAt (sealBank b s) b).state = 3 := by
  rw [sealBank_eq]
  generalize flushAll (fun x => x == b) s = f
  exact congrArg Bank3.state (bankAt_setBank_of_state (v := { bankAt f b with state := 3, grace := false }) (Nat.succ_ne_zero 2))

/-- It is the last to be drained (R261). -/
theorem sealed_sealBank (b : Nat) (s : State) : (sealBank b s).led.sealed = s.led.sealed ++ [b] := by
  obtain ⟨k, c, hled⟩ := (flushAll_touches b s).led
  rw [sealBank_eq]
  generalize flushAll (fun x => x == b) s = f at hled ⊢
  have hf : f.led.sealed = s.led.sealed := by rw [hled]
  exact congrArg (· ++ [b]) hf

/-- Sealing a bank leaves the other banks as they are. -/
theorem bankAt_sealBank_ne {i : Nat} (hi : i ≠ b) (s : State) : bankAt (sealBank b s) i = bankAt s i := by
  have hother := (flushAll_touches b s).other i hi
  rw [sealBank_eq]
  generalize flushAll (fun x => x == b) s = f at hother ⊢
  exact (bankAt_setBank_ne _ _ hi).trans hother

/-- A bank is not ready to be sealed: it is not CLOSED, or its grace window is open. -/
def Unready (k : Bank3) : Prop := k.state ≠ 2 ∨ k.grace = true

/-- A bank is sealed when it is ready and its energy has come. -/
def sealDue (b : Nat) (s : State) : State :=
  if (bankAt s b).state = 2 && !(bankAt s b).grace && !energyDue s (bankAt s b) then sealBank b s else s

/-- The model passes the three banks in order. -/
theorem bankSeal_eq (s : State) : bankSeal s = (List.range 3).foldl (fun s b => sealDue b s) s := rfl

/-- A bank that is not ready is not sealed. -/
theorem sealDue_unready (h : Unready (bankAt s b)) : sealDue b s = s := by
  unfold sealDue
  obtain h | h := h <;> simp [h]

/-- So none of several is. -/
theorem foldl_sealDue_unready {bs : List Nat} (h : ∀ i ∈ bs, Unready (bankAt s i)) : bs.foldl (fun s b => sealDue b s) s = s := by
  induction bs with
  | nil => rfl
  | cons i bs ih =>
    obtain ⟨hi, hbs⟩ := List.forall_mem_cons.1 h
    rw [List.foldl_cons, sealDue_unready hi, ih hbs]

/-- The one bank that is ready is sealed. -/
theorem foldl_sealDue_one {bs : List Nat} (hbs : bs.Nodup) (hb : b ∈ bs) (hother : ∀ i ∈ bs, i ≠ b → Unready (bankAt s i))
    (hdue : sealDue b s = sealBank b s) : bs.foldl (fun s b => sealDue b s) s = sealBank b s := by
  induction bs with
  | nil => cases hb
  | cons i bs ih =>
    obtain ⟨hi, hbs⟩ := List.nodup_cons.1 hbs
    obtain ⟨hunready, hother⟩ := List.forall_mem_cons.1 hother
    rw [List.foldl_cons]
    by_cases e : i = b
    · subst e
      rw [hdue]
      refine foldl_sealDue_unready fun j hj => ?_
      have hne : j ≠ i := fun e => hi (e ▸ hj)
      exact (bankAt_sealBank_ne hne s).symm ▸ hother j hj hne
    · rw [sealDue_unready (hunready e)]
      exact ih hbs ((List.mem_cons.1 hb).resolve_left (Ne.symm e)) hother

/-! ### The drain (R261, R264, R272) -/

/-- Without poison no row word is unreliable. -/
theorem poisonRows_of_clean (h : s.mem.poison = []) (b : Nat) : poisonRows s b = [] := by simp [poisonRows, h]

/-- The drain takes the bank that was sealed first, forms its records and zeroes its rows. -/
theorem drainStart_clean {rest : List Nat} (hd : s.led.drain = none) (hs : s.led.sealed = b :: rest) (hp : s.mem.poison = []) :
    drainStart s = runDrain ⟨b, bankRecords s (bankAt s b), [], false⟩
      (setBank b { bankAt s b with state := 4, rows := [], plain := [] } { s with led := { s.led with sealed := rest } }) := by
  have hmark : markPoison b s = s := by rw [markPoison, poisonRows_of_clean hp]; rfl
  have hrows : cleanseRows b s = s := by rw [cleanseRows, poisonRows_of_clean hp]; rfl
  have hmap : ((List.range 32).filter fun o => poisoned s (.outletMap o)) = [] := by simp [poisoned, hp]
  have hcount : countDefaults 2 0 s = s := if_pos rfl
  unfold drainStart
  rw [hd, hs]
  dsimp only
  rw [hmark, hrows, hmap, List.length_nil, hcount]
  rfl

/-- A paused drain runs on. -/
theorem drainResume_paused {d : Drain} (hd : s.led.drain = some d) (hp : d.paused = true) : drainResume s = runDrain d s := by
  simp [drainResume, hd, hp]

/-- A drain with no record left frees its bank and archives its epoch. -/
theorem drainDone_written {d : Drain} (hd : s.led.drain = some d) (ht : d.todo = []) :
    drainDone s = setBank d.bank {} { s with led := { s.led with
      drain := none, arch := s.led.arch ++ [{ epoch := (bankAt s d.bank).epoch, records := d.done }] } } := by
  unfold drainDone
  rw [hd]
  exact if_pos (List.isEmpty_iff.2 ht)

/-- Writing into the archive moves records from the front of those left, in their order. -/
theorem writeArchive_append (s : State) (n : Nat) (done todo : List (List Byte)) :
    (writeArchive s n done todo).1 ++ (writeArchive s n done todo).2 = done ++ todo := by
  induction n generalizing done todo with
  | zero => rfl
  | succ n ih =>
    cases todo with
    | nil => rfl
    | cons r todo =>
      rw [writeArchive]
      split
      · rw [ih]
        simp
      · rfl

/-- The drain in progress after a run of it: as many of its records are written as found room. -/
theorem drain_runDrain (d : Drain) (s : State) : (runDrain d s).led.drain = some { d with
    done := (writeArchive s d.todo.length d.done d.todo).1
    todo := (writeArchive s d.todo.length d.done d.todo).2
    paused := !(writeArchive s d.todo.length d.done d.todo).2.isEmpty } := by
  unfold runDrain
  rw [bumpIf_frame]

/-- A run keeps the drain's bank and records, and pauses it when some are left. -/
theorem runDrain_keeps (d : Drain) (s : State) : ∃ e, (runDrain d s).led.drain = some e ∧ e.done ++ e.todo = d.done ++ d.todo
    ∧ e.bank = d.bank ∧ (e.paused = true ↔ e.todo ≠ []) :=
  ⟨_, drain_runDrain d s, writeArchive_append .., rfl, by simp⟩

/-! ### The events -/

/-- Settles O42: a boundary turns the banks or merges its instants, windows end and banks are sealed each by its own state, and a run of the drain
neither loses a record nor makes one. -/
theorem ledgerEpochsCloseSealAndDrain : Obligations.LedgerEpochsCloseSealAndDrain := by
  unfold Obligations.LedgerEpochsCloseSealAndDrain
  intro s d b rest
  refine ⟨?boundary, ?turn, ?merge, ?grace, ?sealing, ?start, ?resume, ?done, runDrain_keeps d s⟩
  case boundary =>
    intro x hdue ht ha hs hend
    have hb := ledgerBoundary_due hdue ht ha hs
    exact ⟨fun hm hn h1 => congrArg Host.Outcome.next (hb.trans (epochBoundary_swaps hend hm hn h1)),
      fun h => congrArg Host.Outcome.next (hb.trans (epochBoundary_merges hend h))⟩
  case turn =>
    intro at_ cycle _ w
    obtain ⟨hopen, hepoch⟩ := open_swapBanks at_ cycle s
    obtain ⟨⟨g, hnext⟩, hclosed, hthird⟩ := banks_swapBanks at_ cycle s
    have hrows := rows_deliverEnergy w s.led.open_
    generalize bankAt (deliverEnergy s.led.open_ s) s.led.open_ = k at hclosed hrows
    dsimp only
    rw [hnext, hclosed]
    exact ⟨hopen, hepoch, rfl, rfl, rfl, rfl, rfl, hrows, rfl, rfl, rfl, hthird⟩
  case merge => exact fun n h => ⟨rfl, rfl, span_mergeEpochs n h⟩
  case grace =>
    obtain ⟨k, hk⟩ := graceEnd_frame s
    refine ⟨_, rfl, ?_, fun w i hi => ?_⟩
    · rw [hk]
    · rw [graceEnd_eq]
      exact (bankAt_foldl_endGraceAt List.nodup_range w i).trans (if_pos (List.mem_range.2 hi))
  case sealing =>
    intro hother hb hst hgr he
    have hdue : sealDue b s = sealBank b s := if_pos (by simp [hst, hgr, he])
    have hone := foldl_sealDue_one List.nodup_range (List.mem_range.2 hb) (fun i hi => hother i (List.mem_range.1 hi)) hdue
    exact ⟨congrArg Host.Outcome.next ((bankSeal_eq s).trans hone), state_sealBank b s, sealed_sealBank b s⟩
  case start => exact fun hd hs hp => congrArg Host.Outcome.next (drainStart_clean hd hs hp)
  case resume => exact fun hd hp => congrArg Host.Outcome.next (drainResume_paused hd hp)
  case done => exact fun hd ht => congrArg Host.Outcome.next (drainDone_written hd ht)

end Sys2Proof.Proofs.LedgerBanks
end

section
/-! SUPPORT. The LEDGER commands (Table 11-5): with good arguments none of their checks refuses, and what is left is their effect. -/
namespace Sys2Proof.Proofs.LedgerCommands
open Sys2Proof Sys2Proof.Machine Sys2Proof.Laws Sys2Proof.Proofs.PortSettings Sys2Proof.Proofs.StatusQueries

variable {s : State} {a : List W32}

/-! ### Trigger and archive (R276) -/

/-- The first trigger that is named is in force at once. -/
theorem nameTrigger_first (e : Nat) (h : s.led.trigSet = false) :
    (nameTrigger e s).led.trigger = e ∧ (nameTrigger e s).led.trigSet = true := by
  simp [nameTrigger, h]

/-- A later one waits for the next boundary of the trigger in force. -/
theorem nameTrigger_later (e : Nat) (h : s.led.trigSet = true) : (nameTrigger e s).led.trigger = s.led.trigger
    ∧ (nameTrigger e s).led.trigNext = if e = s.led.trigger then none else some e := by
  simp [nameTrigger, h]

/-- LEDGER.CONFIG names a trigger of whole seconds and sets the archive's size, which changes only while the archive is empty. -/
theorem ledgerConfigCmd_accepted (ht : arg a 0 ≤ 15) (hn : arg a 1 ≤ 256) (hp : ledgerPeriod (trigAt s (arg a 0)).act.period = true)
    (hsize : arg a 1 = 0 ∨ arg a 1 = s.led.archSize ∨ s.led.arch = [] ∧ s.led.drain = none) :
    ledgerConfigCmd a s = ok [] (nameTrigger (arg a 0) { s with led := { s.led with
      archSize := if arg a 1 ≠ 0 then arg a 1 else if s.led.archSize = 0 then 16 else s.led.archSize } }) := by
  unfold ledgerConfigCmd
  dsimp only
  rw [checked_pass]
  refine List.forall_mem_cons.2 ⟨?args, List.forall_mem_singleton.2 ?size⟩
  case args => simp [ht, hn, hp]
  case size => obtain h | h | ⟨harch, hdrain⟩ := hsize <;> simp [*]

/-! ### The key (R271) -/

/-- LEDGER.KEY_SET of a nonzero KEY_ID sets the id, the key and the source. -/
theorem ledgerKeySetCmd_accepted (h1 : 1 ≤ arg a 0) (h255 : arg a 0 ≤ 255) : ledgerKeySetCmd a s = ok [] { s with led := { s.led with
    keyId := arg a 0, key := beBytes 16 (arg a 1 + arg a 2 * 2 ^ 32 + arg a 3 * 2 ^ 64 + arg a 4 * 2 ^ 96)
    source := arg a 5 + arg a 6 * 2 ^ 32 } } :=
  checked_pass (by simp [h255, Nat.one_le_iff_ne_zero.1 h1]) _ _

/-! ### Release and replay (R273) -/

/-- LEDGER.ACK of an epoch sent in full, and older than every bank in use, releases the archive up to it. -/
theorem ledgerAckCmd_accepted (hsent : ∀ x ∈ s.led.arch, x.epoch ≤ arg a 0 → x.once = true)
    (hbanks : ∀ b, b < 3 → (bankAt s b).state = 0 ∨ arg a 0 < (bankAt s b).epoch) :
    ledgerAckCmd a s = ok [] { s with led := { s.led with arch := s.led.arch.filter fun x => decide (arg a 0 < x.epoch) } } := by
  unfold ledgerAckCmd
  dsimp only
  rw [checked_pass]
  refine List.forall_mem_singleton.2 (Bool.or_eq_false_iff.2 ⟨?archive, ?banks⟩)
  case archive => exact List.any_eq_false.2 fun x hx => by simpa using hsent x hx
  case banks =>
    refine List.any_eq_false.2 fun b hb => ?_
    obtain h | h := hbanks b (List.mem_range.1 hb) <;> simp [h]

/-- A replayed epoch is due again from its first record; an older one is not. -/
def replayFrom (e : Nat) (x : ArchEpoch) : ArchEpoch := { x with sent := if e ≤ x.epoch then 0 else x.sent }

/-- LEDGER.REPLAY of an epoch that the archive still holds replays it and every later one. -/
theorem ledgerReplayCmd_accepted (h : oldestEpoch s ≤ arg a 0) :
    ledgerReplayCmd a s = ok [] { s with led := { s.led with arch := s.led.arch.map (replayFrom (arg a 0)) } } := by
  have hagain : (fun x : ArchEpoch => if x.epoch ≥ arg a 0 then { x with sent := 0 } else x) = replayFrom (arg a 0) := by
    funext x
    unfold replayFrom
    split <;> rfl
  unfold ledgerReplayCmd
  dsimp only
  rw [hagain]
  exact checked_pass (by simp [h]) _ _

/-! ### Reports (R255, R516) -/

/-- A number is spelt in as many bytes as asked. -/
theorem length_leBytes (k n : Nat) : (leBytes k n).length = k := by
  induction k generalizing n with
  | zero => rfl
  | succ k ih => rw [leBytes, List.length_cons, ih]

/-- A row is twelve pairs of 5 and 7 bytes. -/
theorem length_rowBytes (r : Row) : (rowBytes r).length = 144 := by
  simp [rowBytes, List.length_flatten, Function.comp_def, length_leBytes]

/-- LEDGER.ROW_GET returns the tenant's row of the OPEN bank. -/
theorem ledgerRowGetCmd_accepted (h : arg a 0 < 16384) :
    ledgerRowGetCmd a s = .reply Code.done (rowBytes (openRow s (arg a 0))) s :=
  checked_pass (by simp [h]) _ _

/-- Settles O43: of each command's checks none applies to good arguments, and its effect is the one stated. -/
theorem ledgerCommandsSetAndReport : Obligations.LedgerCommandsSetAndReport := by
  unfold Obligations.LedgerCommandsSetAndReport
  intro v r s a e
  refine ⟨?config, ⟨nameTrigger_first e, nameTrigger_later e⟩, ?keySet, ?ack, ?replay, ?rowGet, ?status⟩
  case config => exact fun h ht hn hp hsize => handed_done (ws := []) h (ledgerConfigCmd_accepted ht hn hp hsize)
  case keySet => exact fun h h1 h255 => handed_done (ws := []) h (ledgerKeySetCmd_accepted h1 h255)
  case ack => exact fun h hsent hbanks => handed_done (ws := []) h (ledgerAckCmd_accepted hsent hbanks)
  case replay =>
    intro h hold
    exact ⟨_, handed_done (ws := []) h (ledgerReplayCmd_accepted hold), List.length_map _, fun i x hx => by rw [List.getElem?_map, hx]; rfl⟩
  case rowGet =>
    intro h he
    refine ⟨(tcsCommand_handed h ledgerRowGetCmd).trans ?_, length_rowBytes _⟩
    rw [ledgerRowGetCmd_accepted he]
  case status => exact fun h => ⟨_, rfl, handed_done h (ledgerStatusCmd_ok a s), rfl⟩

end Sys2Proof.Proofs.LedgerCommands
end

section
/-! SUPPORT. Device time (chapter 12): how far the clock runs to an instant, what a firing leaves of its trigger, what the pins and reads do. -/
namespace Sys2Proof.Proofs.DeviceTime
open Sys2Proof Sys2Proof.Machine Sys2Proof.Laws

variable {s : State}

/-! ### Running the clock to an instant (R278) -/

/-- Device time set to a total that 48 bits of seconds hold is that total. -/
theorem timeTotal_setTimeTotal {n : Nat} (h : n < 2 ^ 48 * 1000000000) (s : State) : timeTotal (setTimeTotal n s) = n := by
  simp only [timeTotal, setTimeTotal]
  omega

/-- A total not yet reached lies ahead of device time with its FRAC. -/
theorem timeExact_lt {n : Nat} (hn : timeTotal s < n) (hf : s.time.frac < 2 ^ 32) : timeExact s < n * 2 ^ 32 := by
  unfold timeExact
  omega

/-- The cycles to a total ahead reach it, and all but the last of them do not. -/
theorem cyclesTo_bounds {n : Nat} (h : timeExact s < n * 2 ^ 32) (hi : s.time.incr ≠ 0) :
    n * 2 ^ 32 ≤ timeExact s + cyclesTo n s * s.time.incr ∧ timeExact s + cyclesTo n s * s.time.incr < n * 2 ^ 32 + s.time.incr := by
  have hdiv := Nat.div_add_mod' (n * 2 ^ 32 - timeExact s + s.time.incr - 1) s.time.incr
  have hmod := Nat.mod_lt (n * 2 ^ 32 - timeExact s + s.time.incr - 1) (Nat.pos_of_ne_zero hi)
  rw [← cyclesTo] at hdiv
  omega

/-- The clock counts every cycle that it runs. -/
theorem cycles_advanceTo {n : Nat} (hn : timeTotal s < n) : (advanceTo n s).cycles = s.cycles + cyclesTo n s := by
  rw [advanceTo, if_neg hn.not_ge]
  rfl

/-- Each cycle adds INCR, as long as the 48 bits of seconds hold the result. -/
theorem timeExact_advanceTo {n : Nat} (hn : timeTotal s < n) (h : timeExact s + cyclesTo n s * s.time.incr < 1000000000 * 2 ^ 80) :
    timeExact (advanceTo n s) = timeExact s + cyclesTo n s * s.time.incr := by
  rw [advanceTo, if_neg hn.not_ge]
  dsimp only
  rw [timeExact, timeTotal_setTimeTotal (by omega)]
  exact Nat.div_add_mod' _ _

/-- So a running clock stops at the first cycle that reaches the total. -/
theorem advanceTo_reaches {n : Nat} (hn : timeTotal s < n) (hf : s.time.frac < 2 ^ 32) (hi : s.time.incr ≠ 0)
    (hmax : n * 2 ^ 32 + s.time.incr ≤ 1000000000 * 2 ^ 80) :
    n ≤ timeTotal (advanceTo n s) ∧ timeExact (advanceTo n s) < n * 2 ^ 32 + s.time.incr
      ∧ timeExact (advanceTo n s) = timeExact s + ((advanceTo n s).cycles - s.cycles) * s.time.incr := by
  obtain ⟨hreach, hfirst⟩ := cyclesTo_bounds (timeExact_lt hn hf) hi
  have hexact := timeExact_advanceTo hn (hfirst.trans_le hmax)
  refine ⟨?reached, hexact.trans_lt hfirst, ?cycles⟩
  case cycles => rw [cycles_advanceTo hn, Nat.add_sub_cancel_left, hexact]
  case reached =>
    have hfrac : (advanceTo n s).time.frac < 2 ^ 32 := by
      rw [advanceTo, if_neg hn.not_ge]
      exact Nat.mod_lt _ (by decide)
    rw [← hexact, timeExact] at hreach
    omega

/-! ### Ticks and firings (R279, R285, R295) -/

/-- The tick comes when no trigger is due before it. -/
theorem tick_due (hr : timeRuns s = true) (hd : dueBefore s s.time.nextTick = false) : tick s = tickNow s := by
  simp [tick, hr, hd]

/-- A trigger due before the tick and before every other one fires at its instant. -/
theorem triggerFire_due {t n : Nat} (hn : (trigAt s t).next = some n) (hr : timeRuns s = true) (ht : n < s.time.nextTick)
    (hd : dueBefore s n = false) : triggerFire t s = fire t (advanceTo n s) := by
  simp [triggerFire, hn, hr, ht, hd]

/-- The trigger that has fired at `now` for its instants from `n` on. -/
def fired (n now : Nat) (g : Trigger) : Trigger :=
  { g with next := nextAfter g.act now, fires := g.fires + 1, lastAt := (passed g.act n now).2, lastN := (passed g.act n now).1 }

/-- Noting an instant for the Ledger leaves the time block alone. -/
@[simp] theorem time_noteInstant (t n at_ : Nat) (s : State) : (noteInstant t n at_ s).time = s.time := by
  unfold noteInstant
  split <;> rfl

/-- The 1PPS output and the event inputs take an instant without a change to the triggers. -/
@[simp] theorem triggers_deliver (t : Nat) (s : State) : (deliver t s).time.triggers = s.time.triggers := by
  refine List.foldlRecOn (motive := fun u : State => u.time.triggers = s.time.triggers) _ _ ?output fun u hu i _ => ?input
  case output => split <;> rfl
  case input => dsimp only; split <;> exact hu

/-- A due trigger fires, once whatever the number of its instants that have passed. -/
theorem trigAt_fire {t n : Nat} (hn : (trigAt s t).next = some n) : trigAt (fire t s) t = fired n (timeTotal s) (trigAt s t) := by
  have hfired : fired n (timeTotal s) (trigAt s t) ≠ {} := fun h => Nat.succ_ne_zero _ (congrArg Trigger.fires h)
  have htriggers : (fire t s).time.triggers = (setTrig t (fired n (timeTotal s) (trigAt s t)) s).time.triggers := by
    simp [fire, hn, fired]
  rw [trigAt, htriggers]
  exact tabGet_tabSet_self _ t hfired

/-- The next instant lies ahead, and on the grid. -/
theorem nextAfter_spec {c : TrigCfg} {now m : Nat} (h : nextAfter c now = some m) :
    now < m ∧ (m = c.start ∨ c.period ≠ 0 ∧ m = c.start + (m - c.start) / c.period * c.period) := by
  unfold nextAfter at h
  split at h
  · cases h
  split at h
  case isTrue hlt => cases h; exact ⟨hlt, .inl rfl⟩
  case isFalse hge =>
    split at h
    · cases h
    case isFalse hp =>
      cases h
      refine ⟨?ahead, .inr ⟨hp, ?grid⟩⟩
      case ahead =>
        have := Nat.lt_div_mul_add (a := now - c.start) (Nat.pos_of_ne_zero hp)
        rw [Nat.succ_mul]
        omega
      case grid => rw [Nat.add_sub_cancel_left, Nat.mul_div_cancel _ (Nat.pos_of_ne_zero hp)]

/-! ### Event inputs (R299) -/

/-- A qualifying edge is stamped into a queue with room. -/
theorem eventEdge_stamped {i : Nat} {rising : Bool} (hq : evQualifies (evAt s i) rising = true) (hroom : (evAt s i).queue.length < 8) :
    eventEdge i rising s = setEv i { evAt s i with armed := false, queue := (evAt s i).queue ++ [ns32 s] } s := by
  simp [eventEdge, hq, hroom]

/-- The state after a qualifying edge at a full queue. -/
def edgeLost (i : Nat) (s : State) : State :=
  setEv i { evAt s i with armed := false }
    { s with ctr := tabSet 0#64 s.ctr (Ctr.evLost i) (BitVec.ofNat 64 (((ctrAt s (Ctr.evLost i)).toNat + 1) % 2 ^ 16)) }

/-- A qualifying edge at a full queue is lost. -/
theorem eventEdge_lost {i : Nat} {rising : Bool} (hq : evQualifies (evAt s i) rising = true) (hfull : 8 ≤ (evAt s i).queue.length) :
    eventEdge i rising s = edgeLost i s := by
  simp [eventEdge, edgeLost, hq, hfull.not_gt]

/-- A lost edge takes the input's arming, and keeps its queue. -/
theorem evAt_edgeLost {i : Nat} (hfull : 8 ≤ (evAt s i).queue.length) : evAt (edgeLost i s) i = { evAt s i with armed := false } := by
  refine tabGet_tabSet_self _ i fun h => ?_
  have hempty : (evAt s i).queue = [] := congrArg EvInput.queue h
  simp [hempty] at hfull

/-- A lost edge counts in the 16 bits of EV_LOST. -/
theorem ctrAt_edgeLost (i : Nat) (w : tabWf 0#64 s.ctr = true) :
    (ctrAt (edgeLost i s) (Ctr.evLost i)).toNat = ((ctrAt s (Ctr.evLost i)).toNat + 1) % 2 ^ 16 := by
  have hread : ctrAt (edgeLost i s) (Ctr.evLost i) = BitVec.ofNat 64 (((ctrAt s (Ctr.evLost i)).toNat + 1) % 2 ^ 16) :=
    (tabGet_tabSet _ _ _ _ w).trans (if_pos rfl)
  rw [hread, BitVec.toNat_ofNat]
  omega

/-! ### Reads that take a queue's head (R293, R299) -/

/-- A read of TIM_TSQ_META of a queue with entries. -/
theorem tsqMetaRead_cons {k : Nat} {e : TsqEntry} {rest : List TsqEntry} (h : (tsqAt s k).entries = e :: rest) :
    tsqMetaRead k s = { s with
      rsp := packW [(0, e.tsId), (16, e.port), (26, 1)]
      time := { s.time with tsqs := tabSet {} s.time.tsqs k { tsqAt s k with entries := rest, latch := e.ts } } } := by
  simp [tsqMetaRead, h]

/-- A read of TIM_EV_META of a queue with captures. -/
theorem evMetaRead_cons {i x : Nat} {xs : List Nat} (h : (evAt s i).queue = x :: xs) :
    evMetaRead i s = setEv i { evAt s i with queue := xs, latch := x } { s with rsp := packW [(26, 1)] } := by
  simp [evMetaRead, h]

/-- Settles O44: the clock stops at the first cycle that reaches an instant, and each event's hypotheses choose the branch that the lemmas above
state. -/
theorem timeEventsAdvanceFireAndCapture : Obligations.TimeEventsAdvanceFireAndCapture := by
  unfold Obligations.TimeEventsAdvanceFireAndCapture
  intro s t n i rising e rest x xs
  refine ⟨?tick, ?fire, advanceTo_reaches, ?fired, fun c now m => nextAfter_spec, ?width, ?edge, ?event, ?lock, ?tsq, ?ev, rfl⟩
  case tick => exact fun hr hd => congrArg (fun u => Host.Outcome.next (alertUpdate (drainLog u))) (tick_due hr hd)
  case fire => exact fun ht hn hr hlt hd => ⟨_, onUnit_next.2 ⟨decide_eq_true ht, triggerFire_due hn hr hlt hd⟩, rfl⟩
  case fired =>
    intro hn
    dsimp only
    rw [trigAt_fire hn]
    exact ⟨rfl, rfl, rfl, rfl⟩
  case width => exact fun ho hw => congrArg Host.Outcome.next (if_pos (by simp [ho, hw]))
  case edge => exact fun hr => congrArg Host.Outcome.next (if_pos hr)
  case event =>
    intro hi hq
    refine ⟨fun hroom => onUnit_next.2 ⟨decide_eq_true hi, eventEdge_stamped hq hroom⟩, fun hfull => ?_⟩
    exact ⟨_, onUnit_next.2 ⟨decide_eq_true hi, eventEdge_lost hq hfull⟩, evAt_edgeLost hfull, ctrAt_edgeLost i⟩
  case lock => exact fun hr => congrArg Host.Outcome.next (if_pos hr)
  case tsq => exact fun ht h => onUnit_next.2 ⟨decide_eq_true ht, tsqMetaRead_cons h⟩
  case ev => exact fun hi h => onUnit_next.2 ⟨decide_eq_true hi, evMetaRead_cons h⟩

end Sys2Proof.Proofs.DeviceTime
end

section
/-! SUPPORT. The TIME commands (chapter 12), and the INCR that a tick adopts or refuses. -/
namespace Sys2Proof.Proofs.TimeCommands
open Sys2Proof Sys2Proof.Machine Sys2Proof.Laws Sys2Proof.Proofs.PortSettings Sys2Proof.Proofs.PortLife

variable {s : State} {a : List W32}

/-! ### TIME.TRIGGER_SET (R392) -/

/-- TIME.TRIGGER_SET of a trigger not under change, with a period that all its consumers accept, disables the trigger and waits for ticks. -/
theorem triggerSetCmd_accepted (ht : arg a 0 ≤ 15) (h1 : arg a 1 ≤ 1) (h2 : arg a 2 < 1000000000) (h4 : arg a 4 < 2 ^ 16)
    (hp : badPeriod (arg a 5 + arg a 6 * 2 ^ 32) = false) (hfit : periodFits s (arg a 0) (arg a 5 + arg a 6 * 2 ^ 32) = true)
    (hj : jobRunning (fun k => match k with | .trigger u .. => decide (u = arg a 0) | _ => false) s = false) :
    triggerSetCmd a s = .pending (.trigger (arg a 0) (arg a 1 == 1) (arg a 2) (arg a 3) (arg a 4) (arg a 5) (arg a 6) 0)
      (setTrig (arg a 0) { trigAt s (arg a 0) with held := { (trigAt s (arg a 0)).held with en := false }, dirty := true } s) := by
  unfold triggerSetCmd
  dsimp only
  rw [checked_pass]
  refine List.forall_mem_cons.2 ⟨?args, fun c hc => ?free⟩
  case args =>
    dsimp only
    rw [hp, hfit]
    simp [badBool]
    omega
  case free => exact List.mem_singleton.1 hc ▸ hj

/-! ### TIME.STATUS (R517) -/

/-- TIME.STATUS returns TIM_CTRL and seven words a trigger. -/
theorem timeStatusCmd_ok (a : List W32) (s : State) : timeStatusCmd a s = ok (timCtrl s :: ((List.range 16).map (trigWords s)).flatten) s := rfl

/-- Those are 113 words. -/
theorem length_statusWords (s : State) : (timCtrl s :: ((List.range 16).map (trigWords s)).flatten).length = 113 := by
  have htrig : List.length ∘ trigWords s = fun _ => 7 := rfl
  simp [htrig]

/-! ### INCR at the tick (R282) -/

/-- A committed INCR in range takes effect; TIM_INCR_LO stays as written. -/
theorem tickIncr_inRange {lo hi : W32} {w : Nat} (h : s.time.incrCommit = some (lo, hi)) (hw : lo.toNat + hi.toNat * 2 ^ 32 = w)
    (hlo : 0x0F0000000 ≤ w) (hhi : w ≤ 0x110000000) : (tickIncr s).time.incr = w ∧ (tickIncr s).time.incrLo = s.time.incrLo := by
  simp only [tickIncr, h, hw]
  rw [if_pos ⟨hlo, hhi⟩]
  exact ⟨rfl, rfl⟩

/-- A committed INCR out of range is logged, and the registers return to the pair in force, but for a TIM_INCR_LO written since. -/
theorem time_tickIncr_outOfRange {lo hi : W32} (h : s.time.incrCommit = some (lo, hi))
    (hout : lo.toNat + hi.toNat * 2 ^ 32 < 0x0F0000000 ∨ 0x110000000 < lo.toNat + hi.toNat * 2 ^ 32) :
    (tickIncr s).time = { s.time with
      incrCommit := none
      incrLo := if s.time.incrLo = lo then s.time.incrOld.1 else s.time.incrLo
      incrHi := s.time.incrOld.2 } := by
  have hbad : ¬ (0x0F0000000 ≤ lo.toNat + hi.toNat * 2 ^ 32 ∧ lo.toNat + hi.toNat * 2 ^ 32 ≤ 0x110000000) := by omega
  rw [tickIncr, h]
  exact congrArg State.time (if_neg hbad)

/-- Settles O45: no check refuses good arguments, the two register writes are their definitions, and the range decides what a tick adopts. -/
theorem timeCommandsAndArming : Obligations.TimeCommandsAndArming := by
  unfold Obligations.TimeCommandsAndArming
  intro v r s a val
  refine ⟨?triggerSet, ?status, rfl, rfl, fun lo hi hc => ⟨fun hlo hhi => ?adopted, fun hout => ?refused⟩⟩
  case triggerSet =>
    intro h ht h1 h2 h4 hp hfit hj
    exact handed_pending h (triggerSetCmd_accepted ht h1 h2 h4 hp hfit hj)
  case status => exact fun h => ⟨_, length_statusWords s, handed_done h (timeStatusCmd_ok a s), rfl⟩
  case adopted => exact tickIncr_inRange hc rfl hlo hhi
  case refused => rw [time_tickIncr_outOfRange hc hout]; exact ⟨rfl, rfl, rfl⟩

end Sys2Proof.Proofs.TimeCommands
end

section
/-! SUPPORT. The canonical form of host memory, counters and latches survives every step: shared operations, and frames in the core.
The model changes these three tables in few places; a lemma for each function above them says that it keeps the form, from the lemmas of those it
calls. -/
namespace Sys2Proof.Proofs.Tidiness
open Sys2Proof Sys2Proof.Machine Sys2Proof.Laws

/-- Host memory, counters and latches are in canonical form: `canonical`, kept folded so that one fact stands for the three tables. -/
def Tidy (s : State) : Prop := canonical s

variable {s : State}

/-! ### Writes -/

/-- A write of anything but host memory, counters and latches keeps the form. -/
theorem tidy_mk (h : Tidy s) (pending cycles freeCtr rsp dev hif up tcs flash boxes time ports rxs laneWords ras lanes prbs harps chits gens chitSeq
    classes lkps tbl meters profiles tenants mint txs groups mirrors tele led recirc mem tal pwr con tmp pair tap) :
    Tidy ⟨pending, cycles, freeCtr, rsp, dev, hif, up, tcs, flash, boxes, time, ports, rxs, laneWords, ras, lanes, prbs, harps, chits, gens, chitSeq,
      classes, lkps, tbl, meters, profiles, tenants, mint, txs, groups, mirrors, tele, led, recirc, mem, tal, pwr, con, tmp, pair, tap,
      s.ctr, s.latch, s.hostMem⟩ := h

/-- A latched read keeps it. -/
theorem tidy_latched {r k v} (h : Tidy s) : Tidy { s with rsp := r, latch := tabSet 0#32 s.latch k v } :=
  ⟨h.1, h.2.1, tabSet_wf _ _ _ h.2.2⟩

/-- So does a choice of two states that have it. -/
theorem tidy_ite {c : Prop} [Decidable c] {t : State} (hs : Tidy s) (ht : Tidy t) : Tidy (if c then s else t) := by split <;> assumption

/-- And a fold of steps that keep it. -/
theorem tidy_foldl {α : Type} {f : State → α → State} (hf : ∀ s x, Tidy s → Tidy (f s x)) (l : List α) (h : Tidy s) : Tidy (l.foldl f s) :=
  canonical_foldl hf l h

/-! ### Counters, interrupts, events and the rings -/

theorem tidy_bumpBy {a n} (h : Tidy s) : Tidy (bumpBy a n s) := canonical_bumpBy h

theorem tidy_bump {a} (h : Tidy s) : Tidy (bump a s) := canonical_bump h

theorem tidy_bumpIf {c a} (h : Tidy s) : Tidy (bumpIf c a s) := canonical_bumpIf h

theorem tidy_bumpMac {f p n} (h : Tidy s) : Tidy (bumpMac f p n s) := canonical_bumpMac h

theorem tidy_clockCycle (h : Tidy s) : Tidy (clockCycle s) := canonical_clockCycle h

theorem tidy_hostWrite {a bs} (h : Tidy s) : Tidy (hostWrite a bs s) := canonical_hostWrite h

theorem tidy_raise {v} (h : Tidy s) : Tidy (raise v s) := canonical_raise h

theorem tidy_unpend {v} (h : Tidy s) : Tidy (unpend v s) := by
  grind only [unpend, tidy_raise, tidy_mk]

theorem tidy_logAccess {c bar2 off val be} (h : Tidy s) : Tidy (logAccess c bar2 off val be s) := canonical_logAccess h

theorem tidy_pushReady {j} (h : Tidy s) : Tidy (pushReady j s) := canonical_pushReady h

theorem tidy_postEventAt {at_ c source data} (h : Tidy s) : Tidy (postEventAt at_ c source data s) := canonical_postEventAt h

theorem tidy_postEvent {c source data} (h : Tidy s) : Tidy (postEvent c source data s) := canonical_postEvent h

theorem tidy_holdStat (h : Tidy s) : Tidy (holdStat s) := by
  grind only [holdStat, tidy_mk]

theorem tidy_postOpenAt {at_ c unit} (h : Tidy s) : Tidy (postOpenAt at_ c unit s) := by
  grind only [postOpenAt, tidy_postEventAt]

theorem tidy_postOpen {c unit} (h : Tidy s) : Tidy (postOpen c unit s) := canonical_postOpen h

theorem tidy_runTitimus (h : Tidy s) : Tidy (runTitimus s) := by
  grind only [runTitimus, tidy_postOpenAt, tidy_foldl, tidy_mk]

theorem tidy_raiseFault (h : Tidy s) : Tidy (raiseFault s) := by
  grind only [raiseFault, tidy_raise]

/-! ### Units and poisoned words -/

theorem tidy_setRx {p pmac f} (h : Tidy s) : Tidy (setRx p pmac f s) := by
  grind only [setRx, modRx, tidy_mk]

theorem tidy_loopBack {p pmac bytes} (h : Tidy s) : Tidy (loopBack p pmac bytes s) := by
  grind only [loopBack, modRx, tidy_mk]

theorem tidy_modChit {n f} (h : Tidy s) : Tidy (modChit n f s) := canonical_modChit h

theorem tidy_countPoison {cls c} (h : Tidy s) : Tidy (countPoison cls c s) := by
  grind only [countPoison, tidy_bumpIf]

theorem tidy_countDefaults {cls n} (h : Tidy s) : Tidy (countDefaults cls n s) := by
  grind only [countDefaults, tidy_postEvent, tidy_bumpBy]

theorem tidy_cleanseCell {cell n} (h : Tidy s) : Tidy (cleanseCell cell n s) := by
  grind only [cleanseCell, tidy_mk]

/-! ### The Mint (chapter 09) -/

theorem tidy_sendPause {p prio time} (h : Tidy s) : Tidy (sendPause p prio time s) := by
  grind only [sendPause, tidy_bumpMac, modPort, tidy_loopBack, tidy_mk]

theorem tidy_macSignal {p before after} (h : Tidy s) : Tidy (macSignal p before after s) := by
  grind only [macSignal, tidy_sendPause, tidy_foldl]

theorem tidy_changePool {p f} (h : Tidy s) : Tidy (changePool p f s) := by
  grind only [changePool, setPool, tidy_macSignal, tidy_foldl, tidy_mk]

theorem tidy_addUse {p pair borrow} (h : Tidy s) : Tidy (addUse p pair borrow s) := by
  grind only [addUse, tidy_changePool]

theorem tidy_dropUse {p pair borrow} (h : Tidy s) : Tidy (dropUse p pair borrow s) := by
  grind only [dropUse, tidy_changePool]

theorem tidy_freeCell {n} (h : Tidy s) : Tidy (freeCell n s) := by
  grind only [freeCell, tidy_bump, tidy_dropUse, tidy_mk]

theorem tidy_linkPoison (h : Tidy s) : Tidy (linkPoison s) := by
  grind only [linkPoison, tidy_countPoison, tidy_bump, tidy_mk]

theorem tidy_freeChain {chain} (h : Tidy s) : Tidy (freeChain chain s) := by
  grind only [freeChain, tidy_freeCell, tidy_linkPoison, tidy_foldl]

theorem tidy_releaseIf {n} (h : Tidy s) : Tidy (releaseIf n s) := by
  grind only [releaseIf, setChit, tidy_freeChain, tidy_mk]

theorem tidy_addRef {n} {t : State} (h : Tidy s) (e : addRef n s = some t) : Tidy t := by
  grind only [addRef, tidy_modChit]

theorem tidy_dropRef {n} (h : Tidy s) : Tidy (dropRef n s) := by
  grind only [dropRef, tidy_releaseIf, tidy_modChit]

theorem tidy_dropHold {n} (h : Tidy s) : Tidy (dropHold n s) := by
  grind only [dropHold, tidy_releaseIf, tidy_modChit]

theorem tidy_cleanseBitmaps (h : Tidy s) : Tidy (cleanseBitmaps s) := by
  grind only [cleanseBitmaps, cleanse, tidy_foldl, tidy_mk]

theorem tidy_reclaimSweep (h : Tidy s) : Tidy (reclaimSweep s) := by
  grind only [reclaimSweep, tidy_bump, tidy_freeCell, tidy_cleanseBitmaps, tidy_bumpBy, tidy_foldl]

/-! ### Tally and Ledger rows -/

theorem tidy_tallyEvent {n ev amt qual chit} (h : Tidy s) : Tidy (tallyEvent n ev amt qual chit s) := by
  grind only [tallyEvent, tidy_modChit, addTally, tidy_foldl, tidy_mk]

theorem tidy_tallyFrame {n port len chit} (h : Tidy s) : Tidy (tallyFrame n port len chit s) := by
  grind only [tallyFrame, tidy_tallyEvent]

theorem tidy_offerRecords {k rs} (h : Tidy s) : Tidy (offerRecords k rs s).1 := by
  grind only [offerRecords, cleanse, setStream, tidy_bumpIf, tidy_foldl, tidy_mk]

theorem tidy_addRow {b t d} (h : Tidy s) : Tidy (addRow b t d s) := by
  grind only [addRow, setBank, tidy_bumpIf, tidy_bumpBy, tidy_mk]

theorem tidy_bill {k b t j len late} (h : Tidy s) : Tidy (bill k b t j len late s) := by
  grind only [bill, tidy_addRow, tidy_bump, setCache, tidy_mk]

theorem tidy_flushCache {k p} (h : Tidy s) : Tidy (flushCache k p s) := by
  grind only [flushCache, tidy_addRow, setCache, tidy_foldl, tidy_mk]

theorem tidy_flushAll {p} (h : Tidy s) : Tidy (flushAll p s) := by
  grind only [flushAll, tidy_flushCache, tidy_foldl]

theorem tidy_deliverEnergy {b} (h : Tidy s) : Tidy (deliverEnergy b s) := by
  grind only [deliverEnergy, setBank, tidy_foldl, tidy_mk]

theorem tidy_swapBanks {at_ cycle} (h : Tidy s) : Tidy (swapBanks at_ cycle s) := by
  grind only [swapBanks, tidy_deliverEnergy, setBank, markGaps, tidy_mk]

theorem tidy_epochBoundary {merge x} (h : Tidy s) : Tidy (epochBoundary merge x s) := by
  grind only [epochBoundary, takeBuffered, mergeEpochs, setBank, tidy_bumpBy, tidy_swapBanks, tidy_mk]

theorem tidy_actDue {merge} (h : Tidy s) : Tidy (actDue merge s) := by
  grind only [actDue, tidy_epochBoundary, tidy_foldl, tidy_mk]

theorem tidy_ledgerBoundary (h : Tidy s) : Tidy (ledgerBoundary s) := by
  grind only [ledgerBoundary, tidy_actDue]

theorem tidy_billIngress {n c} (h : Tidy s) : Tidy (billIngress n c s) := by
  grind only [billIngress, tidy_ledgerBoundary, plainCount, tidy_bumpIf, tidy_bill, tidy_mk]

theorem tidy_billCopy {slice port dir c} (h : Tidy s) : Tidy (billCopy slice port dir c s) := by
  grind only [billCopy, tidy_ledgerBoundary, plainCount, tidy_bill, tidy_mk]

/-! ### Lookups -/

theorem tidy_countLookup {k t chit r} (h : Tidy s) : Tidy (countLookup k t chit r s) := by
  grind only [countLookup, tidy_tallyEvent, reportPoison, tidy_countPoison, tidy_bumpIf, tidy_mk]

/-! ### Queues and shapers (chapter 10) -/

theorem tidy_writeBuckets {i} (h : Tidy s) : Tidy (writeBuckets i s) := by
  grind only [writeBuckets, tidy_mk]

/-! ### Time gates -/

theorem tidy_suspend {p t cut} (h : Tidy s) : Tidy (suspend p t cut s) := by
  grind only [suspend, tidy_bumpMac, modTx, tidy_mk]

theorem tidy_gateHold {p} (h : Tidy s) : Tidy (gateHold p s) := by
  grind only [gateHold, tidy_bump, tidy_suspend]

theorem tidy_gateCycle {p} (h : Tidy s) : Tidy (gateCycle p s) := by
  grind only [gateCycle, modTx, tidy_mk]

theorem tidy_gateEntry {p} (h : Tidy s) : Tidy (gateEntry p s) := by
  grind only [gateEntry, modTx, tidy_mk]

theorem tidy_entriesDue {p n} (h : Tidy s) : Tidy (entriesDue p n s) := by
  induction n generalizing s with
  | zero => exact h
  | succ n ih => exact ih (tidy_gateEntry h)

theorem tidy_catchUp {p} (h : Tidy s) : Tidy (catchUp p s) := by
  grind only [catchUp, tidy_gateHold, tidy_entriesDue, tidy_gateCycle]

/-! ### Copies, voiding and settling (chapter 07) -/

theorem tidy_startRestore {p} (h : Tidy s) : Tidy (startRestore p s) := by
  grind only [startRestore, modPort, tidy_mk]

theorem tidy_pushCopy {p c} (h : Tidy s) : Tidy (pushCopy p c s) := by
  grind only [pushCopy, modTx, noteHeld, modPort, tidy_bump, tidy_tallyEvent, wakePort, tidy_startRestore, tidy_mk]

theorem tidy_dropAdmitted {k p n} (h : Tidy s) : Tidy (dropAdmitted k p n s) := by
  grind only [dropAdmitted, tidy_billCopy]

theorem tidy_enqueueCopy {p c lost} (hlost : ∀ t, Tidy t → Tidy (lost t)) (h : Tidy s) : Tidy (enqueueCopy p c lost s) := by
  grind only [enqueueCopy, tidy_catchUp, tidy_bump, tidy_addRef, tidy_pushCopy]

theorem tidy_makeForward {n} (h : Tidy s) : Tidy (makeForward n s) := by
  unfold makeForward
  dsimp only
  repeat' split
  · exact tidy_enqueueCopy (fun _ => tidy_dropAdmitted) (tidy_countDefaults h)
  · exact tidy_dropAdmitted (tidy_bump (tidy_countDefaults h))
  · exact h
  · exact h

theorem tidy_makeMirror {n} (h : Tidy s) : Tidy (makeMirror n s) := by
  grind only [makeMirror, tidy_enqueueCopy, tidy_bump, tidy_bumpIf, tidy_offerRecords]

theorem tidy_postNotice {n} (h : Tidy s) : Tidy (postNotice n s) := by
  grind only [postNotice, tidy_pushReady, cleanse, tidy_bump, tidy_mk]

theorem tidy_learnCommit {k port tenant rxAt l} (h : Tidy s) : Tidy (learnCommit k port tenant rxAt l s) := by
  grind only [learnCommit, tidy_bump, modLkp, tidy_postNotice, tidy_mk]

theorem tidy_hitCommit {h'} (h : Tidy s) : Tidy (hitCommit h' s) := by
  grind only [hitCommit, tidy_bump, tidy_mk]

theorem tidy_refundPurse {k t amt} (h : Tidy s) : Tidy (refundPurse k t amt s).1 := by
  grind only [refundPurse, setTenant, tidy_mk]

theorem tidy_countEscrow {k bad} (h : Tidy s) : Tidy (countEscrow k bad s) := by
  grind only [countEscrow, tidy_bumpIf, tidy_bumpBy]

theorem tidy_refundMeters {k n i : Nat} {ds : List DebitEscrow} {a : State × Bool} (h : Tidy a.1) : Tidy (refundMeters k n i ds a).1 := by
  induction ds generalizing i a with
  | nil => exact h
  | cons d ds ih => exact ih (by split <;> exact h)

theorem tidy_stompAt {p t n} (h : Tidy s) : Tidy (stompAt p t n s) := by
  grind only [stompAt, tidy_bumpMac, modTx, tidy_mk]

theorem tidy_stompTx {p t most} (h : Tidy s) : Tidy (stompTx p t most s) := by
  grind only [stompTx, stompPoint, freeChoice, tidy_stompAt, tidy_mk]

theorem tidy_stompSpec {n why atFcs} (h : Tidy s) : Tidy (stompSpec n why atFcs s) := by
  grind only [stompSpec, tidy_stompAt, tidy_stompTx, tidy_modChit, tidy_bump]

theorem tidy_bridgeFeed {n} (h : Tidy s) : Tidy (bridgeFeed n s) := by
  unfold bridgeFeed
  repeat' split
  all_goals exact h

theorem tidy_endParse {n} (h : Tidy s) : Tidy (endParse n s) := by
  grind only [endParse, modHarp, tidy_modChit, tidy_mk]

theorem tidy_voidChit {n cause} (h : Tidy s) : Tidy (voidChit n cause s) := by
  grind only [voidChit, tidy_stompSpec, refundAll, tidy_refundMeters, tidy_refundPurse, tidy_bumpIf, tidy_countEscrow, tidy_endParse, tidy_modChit,
    tidy_bump, tidy_tallyEvent, tidy_dropHold]

theorem tidy_settleWith {mk : State → State} {n} (hmk : ∀ t, Tidy t → Tidy (mk t)) (h : Tidy s) : Tidy (settleWith mk n s) := by
  unfold settleWith
  dsimp only
  split
  · rename_i c _
    split
    · split
      · exact tidy_voidChit (tidy_countEscrow h)
      · refine tidy_dropHold (tidy_modChit (tidy_foldl (fun _ _ h => tidy_mk h ..) _ (tidy_makeMirror ?_)))
        refine tidy_foldl (fun _ _ => tidy_hitCommit) _ (tidy_foldl (fun _ _ => tidy_learnCommit) _ (hmk _ ?_))
        exact tidy_billIngress (tidy_bump (tidy_modChit h))
    · exact h
  · exact h

theorem tidy_settleSpec {n} (h : Tidy s) : Tidy (settleSpec n s) := by
  unfold settleSpec
  split
  · split
    · exact tidy_ite (tidy_settleWith (fun _ h => h) h) h
    · exact h
  · exact h

theorem tidy_floodCopy {n p} (h : Tidy s) : Tidy (floodCopy n s p) := by
  grind only [floodCopy, plainCount, tidy_addRef, tidy_pushCopy, tidy_bump, tidy_mk]

theorem tidy_plainFinish {n} (h : Tidy s) : Tidy (plainFinish n s) := by
  unfold plainFinish
  repeat' split
  · exact tidy_settleWith (fun _ => tidy_foldl (fun _ _ => tidy_floodCopy) _) h
  · exact h
  · exact h

end Sys2Proof.Proofs.Tidiness
end

section
/-! SUPPORT. The canonical form of host memory, counters and latches survives every step: what frames do on their way through the device. -/
namespace Sys2Proof.Proofs.TidyFrames
open Sys2Proof Sys2Proof.Machine Sys2Proof.Laws Sys2Proof.Proofs.Tidiness

variable {s : State}

/-! ### Frames on their way in -/

theorem tidy_frameBoundary {p} (h : Tidy s) : Tidy (frameBoundary p s) := by
  grind only [frameBoundary, specBoundary, modLkp, tidy_logAccess, ptpBoundary, modPort, tidy_mk]

theorem tidy_allocate {p n pmac bytes inj} (h : Tidy s) : Tidy (allocate p n pmac bytes inj s) := by
  grind only [allocate, tidy_ledgerBoundary, cleanse, setChit, modLkp, tidy_bumpMac, tidy_tallyFrame, tidy_foldl, tidy_mk]

theorem tidy_assyError {p} (h : Tidy s) : Tidy (assyError p s) := by
  grind only [assyError, tidy_setRx, tidy_bumpMac, tidy_voidChit]

theorem tidy_frameStart {p n pmac bytes} (h : Tidy s) : Tidy (frameStart p n pmac bytes s) := by
  unfold frameStart
  repeat' split
  all_goals grind only [tidy_frameBoundary, popSource, modRx, tidy_assyError, plainCount, tidy_setRx, tidy_bump, tidy_bumpBy, tidy_allocate,
    tidy_bumpMac, tidy_mk, id]

theorem tidy_preDecode {n} (h : Tidy s) : Tidy (preDecode n s) := by
  grind only [preDecode, tidy_modChit, tidy_bumpIf]

theorem tidy_runAheadResult {n} (h : Tidy s) : Tidy (runAheadResult n s) := by
  grind only [runAheadResult, tidy_countLookup, tidy_modChit, tidy_bump]

theorem tidy_startSpec {kind n e q} (h : Tidy s) : Tidy (startSpec kind n e q s) := by
  grind only [startSpec, tidy_addRef, modTx, tidy_modChit, tidy_bridgeFeed, tidy_bump, tidy_mk]

theorem tidy_expressDecision {n} (h : Tidy s) : Tidy (expressDecision n s) := by
  grind only [expressDecision, tidy_catchUp, tidy_modChit, tidy_startSpec, tidy_settleSpec, tidy_stompSpec]

theorem tidy_countWaits {k} (h : Tidy s) : Tidy (countWaits k s) := by
  grind only [countWaits, tidy_bumpIf, tidy_modChit, tidy_foldl]

theorem tidy_cellAllocate {n room} (h : Tidy s) : Tidy (cellAllocate n room s) := by
  unfold cellAllocate
  dsimp only
  repeat' split
  all_goals grind only [cellAllocate, tidy_voidChit, tidy_bumpMac, cutRx, modRx, takeCell, tidy_bumpIf, tidy_bump, tidy_addUse, cleanse,
    tidy_cleanseCell, tidy_modChit, tidy_bridgeFeed, tidy_plainFinish, joinLine, tidy_countWaits, modHarp, refuseCell, plainCount, withdraw,
    tidy_endParse, tidy_stompSpec, tidy_dropHold, tidy_mk]

theorem tidy_fragmentReceive {p f} (h : Tidy s) : Tidy (fragmentReceive p f s) := by
  grind only [fragmentReceive, tidy_assyError, tidy_bumpMac, tidy_modChit, modRx, tidy_mk]

theorem tidy_countPcs {p r} (h : Tidy s) : Tidy (countPcs p r s) := by
  grind only [countPcs, tidy_bumpBy, tidy_foldl]

theorem tidy_voidRx {f cause} (h : Tidy s) : Tidy (voidRx f cause s) := by
  grind only [voidRx, tidy_voidChit]

theorem tidy_judgeFrame {p room hit f} (h : Tidy s) : Tidy (judgeFrame p room hit f s) := by
  grind only [judgeFrame, tidy_voidRx, tidy_bumpMac, modRx, tidy_plainFinish, tidy_settleSpec, tidy_modChit, tidy_mk]

theorem tidy_frameEnd {p pmac room r} (h : Tidy s) : Tidy (frameEnd p pmac room r s) := by
  grind only [frameEnd, tidy_countPcs, tidy_setRx, tidy_bridgeFeed, tidy_modChit, tidy_judgeFrame]

theorem tidy_endInject {j} (h : Tidy s) : Tidy (endInject j s) := by
  grind only [endInject, tidy_bumpBy, tidy_raise, tidy_mk]

theorem tidy_injectFrame {n} (h : Tidy s) : Tidy (injectFrame n s) := by
  grind only [injectFrame, tidy_endInject, tidy_bump, tidy_setRx, tidy_allocate, tidy_frameBoundary, modLkp, tidy_modChit, tidy_mk]

/-! ### Titimus command channels (chapter 16) -/

theorem tidy_advanceDs {n} (h : Tidy s) : Tidy (advanceDs n s) := canonical_advanceDs h

theorem tidy_answer {v r code res} (h : Tidy s) : Tidy (answer v r code res s) := canonical_answer h

theorem tidy_mirrorJournal (h : Tidy s) : Tidy (mirrorJournal s) := canonical_mirrorJournal h

theorem tidy_settleJobs {p code res} (h : Tidy s) : Tidy (settleJobs p code res s) := by
  grind only [settleJobs, setChannel, tidy_foldl, tidy_mk]

theorem tidy_mapJobs {f} (h : Tidy s) : Tidy (mapJobs f s) := by
  grind only [mapJobs, setChannel, tidy_foldl, tidy_mk]

theorem tidy_commandComplete {v} (h : Tidy s) : Tidy (commandComplete v s) := by
  grind only [commandComplete, dropJournal, tidy_mirrorJournal, tidy_postEvent, setChannel, tidy_answer, tidy_mk]

/-! ### The Harp (chapters 03 and 04) -/

theorem tidy_harpDispatch {n e t} (h : Tidy s) : Tidy (harpDispatch n e t s) := by
  grind only [harpDispatch, modHarp, modLkp, tidy_modChit, tidy_tallyFrame, tidy_bump, tidy_mk]

theorem tidy_setThread {n t} (h : Tidy s) : Tidy (setThread n t s) := by
  grind only [setThread, tidy_modChit]

theorem tidy_alu {rd f n c t} (h : Tidy s) : Tidy (alu rd f n c t s) := tidy_setThread h

theorem tidy_branchTo {target taken n c t} (h : Tidy s) : Tidy (branchTo target taken n c t s) := by
  grind only [branchTo, tidy_setThread]

theorem tidy_endThread {k n r t} (h : Tidy s) : Tidy (endThread k n r t s) := by
  grind only [endThread, modHarp, tidy_modChit, tidy_mk]

theorem tidy_sourceEffect {n k table key r} (h : Tidy s) : Tidy (sourceEffect n k table key r s) := by
  grind only [sourceEffect, tidy_modChit]

theorem tidy_lookupResult {n i} (h : Tidy s) : Tidy (lookupResult n i s) := by
  grind only [lookupResult, tidy_countLookup, tidy_setThread, tidy_sourceEffect]

theorem tidy_rangeResult {n} (h : Tidy s) : Tidy (rangeResult n s) := by
  grind only [rangeResult, tidy_setThread, tidy_bumpBy]

theorem tidy_leaveJobs {k commit} (h : Tidy s) : Tidy (leaveJobs k commit s) := by
  grind only [leaveJobs, tidy_mapJobs, tidy_settleJobs]

theorem tidy_repairEngine {k e} (h : Tidy s) : Tidy (repairEngine k e s) := by
  grind only [repairEngine, tidy_bump, modHarp, tidy_mk]

theorem tidy_engineChecked {k e} (h : Tidy s) : Tidy (engineChecked k e s) := by
  grind only [engineChecked, tidy_settleJobs]

theorem tidy_engineFault {k e} (h : Tidy s) : Tidy (engineFault k e s) := by
  grind only [engineFault, tidy_countWaits, tidy_engineChecked, tidy_repairEngine, tidy_voidChit, tidy_bump, tidy_foldl]

theorem tidy_engineCheckDone {k e good} (h : Tidy s) : Tidy (engineCheckDone k e good s) := by
  grind only [engineCheckDone, tidy_engineChecked, modHarp, tidy_repairEngine, tidy_mk]

theorem tidy_checkEngines {k} (h : Tidy s) : Tidy (checkEngines k s) := by
  grind only [checkEngines, modHarp, tidy_mk]

/-! ### Classification (chapter 05) -/

theorem tidy_tenantMap {n k c emitted won r} (h : Tidy s) : Tidy (tenantMap n k c emitted won r s).2 := by
  grind only [tenantMap, tidy_countLookup, tidy_bump, tidy_bumpIf]

theorem tidy_segmentMiss {n k r} (h : Tidy s) : Tidy (segmentMiss n k r s).2 := by
  grind only [segmentMiss, tidy_bump, tidy_countLookup]

theorem tidy_pruneSets {k} (h : Tidy s) : Tidy (pruneSets k s) := by
  grind only [pruneSets, modClass, tidy_mk]

theorem tidy_sampleMirror {k r} (h : Tidy s) : Tidy (sampleMirror k r s).2 := by
  grind only [sampleMirror, modLkp, tidy_mk]

theorem tidy_countClass {k} {n} {c} {emitted} {won} (h : Tidy s) : Tidy (countClass k n c emitted won s) := by
  have counted : Tidy (tallyFrame (16 * k + 2) c.port c.bytes.length n
      (bumpIf (emitted.frag || emitted.innerBad) (Ctr.clsOuterOnly k) (bump (Ctr.clsEval k) s))) :=
    tidy_tallyFrame (tidy_bumpIf (tidy_bump h))
  unfold countClass
  dsimp only
  split
  · exact tidy_tallyEvent (tidy_bumpIf (tidy_bumpIf (tidy_bumpIf (tidy_bump counted))))
  · exact counted

theorem tidy_classified {n k c ws} (h : Tidy s) : Tidy (classified n k c ws s).2.2 := by
  grind only [classified, tidy_bumpBy, tidy_tenantMap, tidy_segmentMiss]

theorem tidy_classify {n} (h : Tidy s) : Tidy (classify n s) := by
  unfold classify
  dsimp only
  repeat' split
  all_goals grind only [classify, tidy_classified, tidy_countClass, tidy_sampleMirror, tidy_modChit, tidy_pruneSets, tidy_voidChit, tidy_stompSpec]

theorem tidy_applySet {k} (h : Tidy s) : Tidy (applySet k s) := by
  grind only [applySet, tidy_pruneSets, modClass, tidy_mk]

theorem tidy_stageSet {mask f} (h : Tidy s) : Tidy (stageSet mask f s) := by
  grind only [stageSet, modClass, tidy_foldl, tidy_mk]

theorem tidy_cleanseMask {mask h'} (h : Tidy s) : Tidy (rangeSet.cleanseMask mask h' s) := by
  grind only [rangeSet.cleanseMask, cleanse, tidy_foldl, tidy_mk]

/-! ### Policing (chapter 08) -/

theorem tidy_meterPoison {k m now} (h : Tidy s) : Tidy (meterPoison k m now s) := by
  grind only [meterPoison, setMeter, cleanse, tidy_postEvent, tidy_countPoison, tidy_mk]

theorem tidy_runMeter {n k m en len g} (h : Tidy s) : Tidy (runMeter n k m en len g s).2 := by
  grind only [runMeter, tidy_meterPoison, setMeter, tidy_bump, tidy_tallyEvent, tidy_mk]

theorem tidy_runMeters {n k len r} (h : Tidy s) : Tidy (runMeters n k len r s).2 := by
  grind only [runMeters, tidy_runMeter]

theorem tidy_pursePoison {k t} (h : Tidy s) : Tidy (pursePoison k t s) := by
  grind only [pursePoison, setTenant, cleanse, tidy_countPoison, tidy_mk]

theorem tidy_spend {k t len} (h : Tidy s) : Tidy (spend k t len s).2.2 := by
  grind only [spend, tidy_pursePoison, tidy_bump, setTenant, tidy_mk]

theorem tidy_cutDecision {n} (h : Tidy s) : Tidy (cutDecision n s) := by
  grind only [cutDecision, tidy_catchUp, tidy_startSpec, tidy_stompSpec]

theorem tidy_police {n} (h : Tidy s) : Tidy (police n s) := by
  grind only [police, tidy_runMeters, countColor, tidy_bump, tidy_tallyFrame, tidy_modChit, tidy_bumpIf, tidy_voidChit, tidy_spend, admitFrame,
    tidy_stompSpec, tidy_settleSpec, tidy_cutDecision, tidy_tallyEvent]

theorem tidy_meterRefresh {k m} (h : Tidy s) : Tidy (meterRefresh k m s) := by
  grind only [meterRefresh, tidy_meterPoison, setMeter, tidy_mk]

theorem tidy_treasuryPoison {t} (h : Tidy s) : Tidy (treasuryPoison t s) := by
  grind only [treasuryPoison, setTenant, cleanse, tidy_countPoison, tidy_pursePoison, tidy_foldl, tidy_mk]

theorem tidy_treasurySweep (h : Tidy s) : Tidy (treasurySweep s) := by
  grind only [treasurySweep, tidy_treasuryPoison, tidy_bumpIf, setTenant, tidy_bump, tidy_foldl, tidy_mk]

/-! ### Rewriting -/

theorem tidy_ptpBytes {p t c} (h : Tidy s) : Tidy (ptpBytes p t c s).2 := by
  grind only [ptpBytes, tidy_bumpMac]

/-! ### Frames on their way out -/

theorem tidy_loseCopy {p c} (h : Tidy s) : Tidy (loseCopy p c s) := by
  grind only [loseCopy, tidy_bump, tidy_dropAdmitted]

theorem tidy_discardCopy {p c} (h : Tidy s) : Tidy (discardCopy p c s) := by
  grind only [discardCopy, tidy_dropRef, tidy_loseCopy]

theorem tidy_enqueueRequest {n} (h : Tidy s) : Tidy (enqueueRequest n s) := by
  grind only [enqueueRequest, tidy_modChit]

theorem tidy_dispatchCopy {n} (h : Tidy s) : Tidy (dispatchCopy n s) := by
  grind only [dispatchCopy, tidy_makeForward, tidy_bumpIf]

theorem tidy_tellerEnqueue {n} (h : Tidy s) : Tidy (tellerEnqueue n s) := by
  grind only [tellerEnqueue, tidy_voidChit, tidy_bump, tidy_tallyFrame, tidy_settleWith, tidy_dispatchCopy, tidy_modChit]

theorem tidy_chargeTrap {n c} (h : Tidy s) : Tidy (chargeTrap n c s) := by
  grind only [chargeTrap, tidy_dropUse, tidy_addUse, tidy_modChit, tidy_foldl, tidy_mk]

theorem tidy_offerPunt {n c r} (h : Tidy s) : Tidy (offerPunt n c r s) := by
  grind only [offerPunt, tidy_dropRef, tidy_dropAdmitted, tidy_bump, tidy_countPoison, tidy_linkPoison, tidy_pushReady, tidy_mk]

theorem tidy_trapAccept {n} (h : Tidy s) : Tidy (trapAccept n s) := by
  unfold trapAccept
  split
  · split
    · refine tidy_ite (tidy_ite (tidy_voidChit (tidy_bump h)) (tidy_settleWith (fun t ht => ?_) (tidy_ite h (tidy_chargeTrap h)))) h
      split <;> [exact tidy_offerPunt (tidy_addRef ht ‹_›); exact tidy_dropAdmitted (tidy_bump ht)]
    · exact h
  · exact h

theorem tidy_pruneHead {p q n} (h : Tidy s) : Tidy (pruneHead p q n s) := by
  induction n generalizing s with
  | zero => exact h
  | succ n ih => grind only [pruneHead, modTx, tidy_bump, tidy_bumpMac, tidy_discardCopy, tidy_mk]

theorem tidy_pruneHeads {p} (h : Tidy s) : Tidy (pruneHeads p s) := by
  exact tidy_foldl (fun _ _ => tidy_pruneHead) _ h

theorem tidy_startCopy {p q} (h : Tidy s) : Tidy (startCopy p q s) := by
  grind only [startCopy, tidy_bumpIf, modTx, tidy_tallyEvent, tidy_bump, tidy_mk]

theorem tidy_tellerServe {p express} (h : Tidy s) : Tidy (tellerServe p express s) := by
  grind only [tellerServe, tidy_startCopy, modTx, resume, tidy_mk]

theorem tidy_tellerSelect {p express cut} (h : Tidy s) : Tidy (tellerSelect p express cut s) := by
  have pruned : Tidy (pruneHeads p (catchUp p s)) := tidy_pruneHeads (tidy_catchUp h)
  unfold tellerSelect
  refine tidy_ite (tidy_ite (tidy_ite (tidy_startCopy h) h) (tidy_ite (tidy_ite (tidy_startCopy pruned) pruned) ?_)) h
  split
  · exact tidy_tellerServe pruned
  · exact tidy_ite (tidy_tellerServe (tidy_suspend pruned)) pruned

theorem tidy_pushTsq {k e} (h : Tidy s) : Tidy (pushTsq k e s) := by
  grind only [pushTsq, tidy_mk]

theorem tidy_sendGood {p t c} (h : Tidy s) : Tidy (sendGood p t c s) := by
  grind only [sendGood, tidy_ptpBytes, modTx, tidy_bumpMac, tidy_bump, tidy_modChit, tidy_billCopy, tidy_pushTsq, tidy_mk]

theorem tidy_egressFcs {p} (h : Tidy s) : Tidy (egressFcs p s) := by
  grind only [egressFcs, tidy_gateHold, tidy_sendGood, tidy_stompSpec, tidy_countPoison, tidy_linkPoison, tidy_stompAt, tidy_loseCopy, tidy_bumpIf]

theorem tidy_noteSent {p bits} (h : Tidy s) : Tidy (noteSent p bits s) := by
  grind only [noteSent, modPort, tidy_startRestore, tidy_mk]

theorem tidy_copyEnd {p} (h : Tidy s) : Tidy (copyEnd p s) := by
  grind only [copyEnd, modTx, modPort, tidy_loopBack, tidy_noteSent, tidy_dropRef, tidy_mk]

theorem tidy_redispatch {n} (h : Tidy s) : Tidy (redispatch n s) := by
  grind only [redispatch, tidy_dispatchCopy]

theorem tidy_failSpec {p t} (h : Tidy s) : Tidy (failSpec p t s) := by
  grind only [failSpec, tidy_modChit, tidy_bumpIf, tidy_stompTx]

theorem tidy_txUnderrun {p} (h : Tidy s) : Tidy (txUnderrun p s) := by
  unfold txUnderrun
  dsimp only
  repeat' split
  all_goals grind only [tidy_bumpMac, tidy_redispatch, tidy_failSpec, tidy_stompTx, tidy_loseCopy, tidy_addRef, modTx, tidy_bump, tidy_mk]

theorem tidy_shaperRefill {p i} (h : Tidy s) : Tidy (shaperRefill p i s) := by
  grind only [shaperRefill, modTx, tidy_mk]

theorem tidy_resetPeaks {p mask} (h : Tidy s) : Tidy (resetPeaks p mask s) := by
  grind only [resetPeaks, modTx, tidy_mk]

theorem tidy_telemetrySample {k} (h : Tidy s) : Tidy (telemetrySample k s) := by
  grind only [telemetrySample, samplePort, tidy_offerRecords, tidy_resetPeaks, tidy_bumpBy, tidy_foldl, tidy_mk]

end Sys2Proof.Proofs.TidyFrames
end

section
/-! SUPPORT. The canonical form of host memory, counters and latches survives every step: ports, tables, the Ledger, time and the console. -/
namespace Sys2Proof.Proofs.TidyBlocks
open Sys2Proof Sys2Proof.Machine Sys2Proof.Laws Sys2Proof.Proofs.Tidiness Sys2Proof.Proofs.TidyFrames

variable {s : State}

/-! ### Ports (chapter 02) -/

theorem tidy_flushPort {p} (h : Tidy s) : Tidy (flushPort p s) := by
  grind only [flushPort, tidy_stompTx, tidy_loseCopy, tidy_failSpec, tidy_discardCopy, modTx, tidy_redispatch, tidy_foldl, tidy_mk]

theorem tidy_voidReceiving {p} (h : Tidy s) : Tidy (voidReceiving p s) := by
  grind only [voidReceiving, tidy_voidChit, tidy_foldl]

theorem tidy_linkDown {p} (h : Tidy s) : Tidy (linkDown p s) := by
  grind only [linkDown, tidy_bumpIf, modRx, modPort, tidy_flushPort, tidy_voidReceiving, tidy_mk]

theorem tidy_modFull {p f} (h : Tidy s) : Tidy (modFull p f s) := by
  grind only [modFull, modPort, tidy_mk]

theorem tidy_startLink {p} (h : Tidy s) : Tidy (startLink p s) := by
  grind only [startLink, modPort, tidy_mk]

theorem tidy_linkUp {p} (h : Tidy s) : Tidy (linkUp p s) := by
  grind only [linkUp, tidy_postOpen, tidy_startLink, modPort, tidy_mk]

theorem tidy_actPause {p bs} (h : Tidy s) : Tidy (actPause p bs s) := by
  grind only [actPause, setPause, modPort, tidy_foldl, tidy_mk]

theorem tidy_pauseReceive {p} (h : Tidy s) : Tidy (pauseReceive p s) := by
  grind only [pauseReceive, modRx, tidy_voidRx, tidy_actPause, tidy_bumpMac, tidy_mk]

theorem tidy_pauseExpire {p k} (h : Tidy s) : Tidy (pauseExpire p k s) := by
  grind only [pauseExpire, modPort, tidy_mk]

theorem tidy_xoffRefresh {p k} (h : Tidy s) : Tidy (xoffRefresh p k s) := by
  grind only [xoffRefresh, tidy_sendPause]

theorem tidy_pwdFire {p k} (h : Tidy s) : Tidy (pwdFire p k s) := by
  grind only [pwdFire, tidy_postOpen, tidy_bumpMac, modPort, tidy_mk]

theorem tidy_pwdRestore {p k} (h : Tidy s) : Tidy (pwdRestore p k s) := by
  grind only [pwdRestore, modPort, tidy_mk]

theorem tidy_verifyTimeout {p} (h : Tidy s) : Tidy (verifyTimeout p s) := by
  grind only [verifyTimeout, modPort, tidy_mk]

theorem tidy_verifyReceive {p} (h : Tidy s) : Tidy (verifyReceive p s) := by
  grind only [verifyReceive, modPort, tidy_mk]

theorem tidy_respondReceive {p} (h : Tidy s) : Tidy (respondReceive p s) := by
  grind only [respondReceive, modPort, tidy_mk]

theorem tidy_dampCapabilitySend {p} (h : Tidy s) : Tidy (dampCapabilitySend p s) := by
  grind only [dampCapabilitySend, modDamp, modPort, tidy_mk]

theorem tidy_dampCapabilityReceive {p on} (h : Tidy s) : Tidy (dampCapabilityReceive p on s) := by
  grind only [dampCapabilityReceive, modDamp, modPort, tidy_mk]

theorem tidy_dampWindowEnd {p} (h : Tidy s) : Tidy (dampWindowEnd p s) := by
  grind only [dampWindowEnd, modDamp, modPort, tidy_mk]

theorem tidy_shedRequestReceive {p lanes} (h : Tidy s) : Tidy (shedRequestReceive p lanes s) := by
  grind only [shedRequestReceive, modDamp, modPort, tidy_mk]

theorem tidy_shedGrantReceive {p lanes} (h : Tidy s) : Tidy (shedGrantReceive p lanes s) := by
  grind only [shedGrantReceive, tidy_bumpMac, modDamp, modPort, tidy_mk]

theorem tidy_switchMarkerReceive {p lanes} (h : Tidy s) : Tidy (switchMarkerReceive p lanes s) := by
  grind only [switchMarkerReceive, modDamp, modPort, tidy_mk]

theorem tidy_realignTimeout {p} (h : Tidy s) : Tidy (realignTimeout p s) := by
  grind only [realignTimeout, tidy_linkDown, tidy_bumpMac, modDamp, modPort, tidy_mk]

theorem tidy_lockReportReceive {p} (h : Tidy s) : Tidy (lockReportReceive p s) := by
  grind only [lockReportReceive, tidy_bumpMac, modDamp, modPort, tidy_mk]

theorem tidy_lpiEntry {p rx} (h : Tidy s) : Tidy (lpiEntry p rx s) := by
  grind only [lpiEntry, modDamp, modPort, tidy_bumpMac, tidy_mk]

theorem tidy_lpiWakeDone {p rx} (h : Tidy s) : Tidy (lpiWakeDone p rx s) := by
  grind only [lpiWakeDone, modDamp, modPort, tidy_mk]

theorem tidy_disablePort {p} (h : Tidy s) : Tidy (disablePort p s) := by
  grind only [disablePort, tidy_modFull, tidy_linkDown, setPrbs, tidy_foldl, tidy_mk]

theorem tidy_prbsLock {p l} (h : Tidy s) : Tidy (prbsLock p l s) := by
  grind only [prbsLock, setPrbs, tidy_mk]

theorem tidy_prbsLockLoss {p l} (h : Tidy s) : Tidy (prbsLockLoss p l s) := by
  grind only [prbsLockLoss, setPrbs, tidy_mk]

/-! ### HARP, MINT and TELLER commands -/

theorem tidy_writeImage {img k} (h : Tidy s) : Tidy (writeImage img k s) := by
  grind only [writeImage, modHarp, cleanse, tidy_foldl, tidy_mk]

theorem tidy_reclaimDone (h : Tidy s) : Tidy (reclaimDone s) := by
  grind only [reclaimDone, tidy_reclaimSweep, tidy_settleJobs, tidy_mk]

theorem tidy_setGroup {i ms} (h : Tidy s) : Tidy (setGroup i ms s) := by
  grind only [setGroup, cleanse, tidy_foldl, tidy_mk]

/-! ### The table engine (chapter 06) -/

theorem tidy_writeSlot {loc e wide} (h : Tidy s) : Tidy (writeSlot loc e wide s) := by
  grind only [writeSlot, cleanse, tidy_foldl, tidy_mk]

theorem tidy_copyEntry {a b} (h : Tidy s) : Tidy (copyEntry a b s) := by
  grind only [copyEntry, tidy_writeSlot]

theorem tidy_dropMoved {a b} (h : Tidy s) : Tidy (dropMoved a b s) := by
  grind only [dropMoved, tidy_writeSlot, tidy_bump, tidy_mk]

theorem tidy_searchPath {fuel cur : Nat} {path : List (Nat × Entry × Nat)} {ms : List Planned} (h : Tidy s) :
    Tidy (searchPath fuel cur path ms s).2 := by
  induction fuel generalizing cur path ms s with
  | zero => exact h
  | succ n ih =>
    unfold searchPath
    dsimp only
    split
    · exact tidy_bumpBy h
    · split
      · exact ih (tidy_mk (tidy_bumpBy h) ..)
      · exact tidy_mk (tidy_bumpBy h) ..

theorem tidy_choosePlace {ps} (h : Tidy s) : Tidy (choosePlace ps s).2 := by
  grind only [choosePlace, freeChoice, tidy_mk]

theorem tidy_placeNew {e loc code} (h : Tidy s) : Tidy (placeNew e loc code s) := by
  grind only [placeNew, tidy_bumpIf, tidy_bump, tidy_writeSlot]

theorem tidy_insertNew {c e} (h : Tidy s) : Tidy (insertNew c e s).2.2 := by
  have hp (ps) : Tidy (choosePlace ps s).2 := tidy_choosePlace h
  have found (ps b) : Tidy
      (if e.wide = true then (none, (choosePlace ps s).2) else searchPath 32 b [] [] (freeChoice 2 (choosePlace ps s).2).2).2 := by
    split <;> [exact hp ps; exact tidy_searchPath (tidy_mk (hp ps) ..)]
  unfold insertNew
  dsimp only
  split
  · exact hp _
  · split
    · exact tidy_choosePlace (found ..)
    · split <;> [exact found ..; exact tidy_bump (found ..)]

theorem tidy_insertPlan {r} (h : Tidy s) : Tidy (insertPlan r s).2.2 := by
  grind only [insertPlan, tidy_insertNew]

theorem tidy_removeEntry {loc e} (h : Tidy s) : Tidy (removeEntry loc e s) := by
  grind only [removeEntry, tidy_writeSlot, tidy_bump, tidy_mk]

theorem tidy_deletePlan {r} (h : Tidy s) : Tidy (deletePlan r s).2.2 := by
  grind only [deletePlan]

theorem tidy_doWrite {x} (h : Tidy s) : Tidy (doWrite x s).2 := by
  cases x with
  | remove loc => unfold doWrite; grind only [tidy_removeEntry]
  | _ => grind only [doWrite, tidy_copyEntry, tidy_dropMoved, tidy_placeNew, tidy_hostWrite]

theorem tidy_doWrites {ws} (h : Tidy s) : Tidy (doWrites ws s) := by
  grind only [doWrites, tidy_doWrite, tidy_foldl]

theorem tidy_bulkRecord {op r} (h : Tidy s) : Tidy (bulkRecord op r s).2.2.2 := by
  grind only [bulkRecord, tidy_insertPlan, tidy_deletePlan]

theorem tidy_bulkNext {b} (h : Tidy s) : Tidy (bulkNext b s).2.2 := by
  grind only [bulkNext, tidy_bulkRecord]

theorem tidy_endWork {w} (h : Tidy s) : Tidy (endWork w s) := by
  grind only [endWork, tidy_settleJobs, modTbl, tidy_mk]

theorem tidy_engineStep (h : Tidy s) : Tidy (engineStep s) := by
  grind only [engineStep, tidy_doWrite, modTbl, tidy_endWork, tidy_bulkNext, tidy_mk]

theorem tidy_bulkLoop {n b} (h : Tidy s) : Tidy (bulkLoop n b s).2 := by
  induction n generalizing b s with
  | zero => exact h
  | succ n ih => exact ih (tidy_doWrites (tidy_bulkNext h))

theorem tidy_finishWork (h : Tidy s) : Tidy (finishWork s) := by
  grind only [finishWork, tidy_doWrites, tidy_bulkLoop, tidy_endWork, tidy_bulkLoop]

theorem tidy_fixTables (h : Tidy s) : Tidy (fixTables s) := by
  grind only [fixTables, modTbl, tidy_doWrites, tidy_mk]

theorem tidy_walkTimeout {cursor} (h : Tidy s) : Tidy (walkTimeout cursor s) := by
  unfold walkTimeout
  split
  · exact tidy_ite (tidy_mk h ..) h
  · exact h

/-! ### The Ledger (chapter 11) -/

theorem tidy_graceEnd (h : Tidy s) : Tidy (graceEnd s) := by
  grind only [graceEnd, setBank, tidy_foldl, tidy_mk]

theorem tidy_sealBank {b} (h : Tidy s) : Tidy (sealBank b s) := by
  grind only [sealBank, tidy_flushAll, setBank, tidy_mk]

theorem tidy_bankSeal (h : Tidy s) : Tidy (bankSeal s) := by
  grind only [bankSeal, tidy_sealBank, tidy_foldl]

theorem tidy_markPoison {b} (h : Tidy s) : Tidy (markPoison b s) := by
  grind only [markPoison, setBank, tidy_countPoison, tidy_bump, tidy_foldl, tidy_mk]

theorem tidy_runDrain {d} (h : Tidy s) : Tidy (runDrain d s) := by
  grind only [runDrain, cleanse, tidy_bumpIf, tidy_foldl, tidy_mk]

theorem tidy_cleanseRows {b} (h : Tidy s) : Tidy (cleanseRows b s) := by
  grind only [cleanseRows, cleanse, tidy_foldl, tidy_mk]

theorem tidy_drainStart (h : Tidy s) : Tidy (drainStart s) := by
  grind only [drainStart, tidy_markPoison, tidy_countDefaults, tidy_cleanseRows, setBank, tidy_runDrain, tidy_mk]

theorem tidy_drainResume (h : Tidy s) : Tidy (drainResume s) := by
  grind only [drainResume, tidy_runDrain]

theorem tidy_drainDone (h : Tidy s) : Tidy (drainDone s) := by
  grind only [drainDone, setBank, tidy_mk]

theorem tidy_sendRecord (h : Tidy s) {x} (e : sendRecord s = some x) : Tidy x.2 := by
  obtain ⟨ij, -, rfl⟩ := Option.map_eq_some_iff.1 e
  exact tidy_mk (tidy_bump (tidy_bumpBy (tidy_bumpIf h))) ..

theorem tidy_nameTrigger {t} (h : Tidy s) : Tidy (nameTrigger t s) := by
  grind only [nameTrigger, tidy_mk]

/-! ### Device time (chapter 12) -/

theorem tidy_setTimeTotal {n} (h : Tidy s) : Tidy (setTimeTotal n s) := tidy_mk h ..

theorem tidy_advanceTo {n} (h : Tidy s) : Tidy (advanceTo n s) := by
  unfold advanceTo
  split <;> [exact h; exact tidy_setTimeTotal (tidy_mk h ..)]

theorem tidy_deliver {t} (h : Tidy s) : Tidy (deliver t s) := by
  grind only [deliver, setEv, tidy_foldl, tidy_mk]

theorem tidy_fire {t} (h : Tidy s) : Tidy (fire t s) := by
  grind only [fire, setTrig, noteInstant, tidy_deliver, tidy_bump, tidy_bumpBy, tidy_mk]

theorem tidy_triggerFire {t} (h : Tidy s) : Tidy (triggerFire t s) := by
  grind only [triggerFire, tidy_fire, tidy_advanceTo]

theorem tidy_logTick {off val} (h : Tidy s) : Tidy (logTick off val s) := by
  grind only [logTick, tidy_logAccess]

theorem tidy_tickIncr (h : Tidy s) : Tidy (tickIncr s) := by
  grind only [tickIncr, tidy_logTick, tidy_mk]

theorem tidy_tickPps (h : Tidy s) : Tidy (tickPps s) := by
  grind only [tickPps, tidy_mk]

theorem tidy_tickApply (h : Tidy s) : Tidy (tickApply s) := by
  grind only [tickApply, tidy_tickPps, tickEvent, setEv, tidy_logTick, tickTrigger, setTrig, tickClock, tidy_tickIncr, tidy_foldl, tidy_mk]

theorem tidy_tickStep (h : Tidy s) : Tidy (tickStep s) := by
  grind only [tickStep, tidy_bump, setTimeTotal, tidy_mk]

theorem tidy_tickNext {b t} (h : Tidy s) : Tidy (tickNext b t s) := by
  have set (g : Trigger) : Tidy (setTrig t g s) := tidy_mk h ..
  unfold tickNext
  dsimp only
  split
  · exact set _
  · split
    · split
      · split <;> [exact tidy_fire h; exact h]
      · exact h
    · split <;> [exact set _; exact h]

theorem tidy_tickJob {vj} (h : Tidy s) : Tidy (tickJob s vj) := by
  grind only [tickJob, setChannel, setTrig, tidy_mk]

theorem tidy_tickNow (h : Tidy s) : Tidy (tickNow s) := by
  have applied : Tidy (tickStep (tickApply (advanceTo s.time.nextTick s))) := tidy_tickStep (tidy_tickApply (tidy_advanceTo h))
  unfold tickNow
  extract_lets s₁ s₂ n s₃ s₄ s₅
  have next : Tidy s₄ := tidy_foldl (f := fun s t => tickNext n t s) (fun _ _ => tidy_tickNext) (List.range 16) applied
  refine tidy_foldl (f := tickJob) (fun _ _ => tidy_tickJob) _ ?_
  clear_value s₄
  exact tidy_mk next ..

theorem tidy_tick (h : Tidy s) : Tidy (tick s) := by
  grind only [tick, tidy_tickNow]

theorem tidy_idleCycle (h : Tidy s) : Tidy (idleCycle s) := by
  grind only [idleCycle, tidy_clockCycle, tidy_fire, tidy_tick, tidy_foldl, tidy_mk]

theorem tidy_timeNowRead {fn} (h : Tidy s) : Tidy (timeNowRead fn s) := by
  cases fn <;> exact h

theorem tidy_tsqMetaRead {k} (h : Tidy s) : Tidy (tsqMetaRead k s) := by
  grind only [tsqMetaRead, tidy_mk]

theorem tidy_evMetaRead {i} (h : Tidy s) : Tidy (evMetaRead i s) := by
  grind only [evMetaRead, setEv, tidy_mk]

theorem tidy_ppsWidthEnd (h : Tidy s) : Tidy (ppsWidthEnd s) := by
  grind only [ppsWidthEnd, tidy_mk]

theorem tidy_ppsInEdge (h : Tidy s) : Tidy (ppsInEdge s) := by
  grind only [ppsInEdge, tidy_bump, tidy_mk]

theorem tidy_eventEdge {i rising} (h : Tidy s) : Tidy (eventEdge i rising s) := by
  unfold eventEdge
  dsimp only
  split
  · split
    · exact h
    · exact ⟨h.1, tabSet_wf _ _ _ h.2.1, h.2.2⟩
  · exact h

theorem tidy_pllLock (h : Tidy s) : Tidy (pllLock s) := by
  grind only [pllLock, tidy_mk]

/-! ### The rack console (chapter 13) -/

theorem tidy_armGroup {k} (h : Tidy s) : Tidy (armGroup k s) := by
  grind only [armGroup, setGroupOf, tidy_mk]

theorem tidy_decimatorStart {k} (h : Tidy s) : Tidy (decimatorStart k s) := by
  grind only [decimatorStart, setGroupOf, setInput, tidy_foldl, tidy_mk]

theorem tidy_takeBits {k g streams} (h : Tidy s) : Tidy (takeBits k g streams s) := by
  grind only [takeBits, setInput, tidy_foldl, tidy_mk]

theorem tidy_addEnergy {o num den at_} (h : Tidy s) : Tidy (addEnergy o num den at_ s) := by
  grind only [addEnergy, setBank, setOutlet, tidy_mk]

theorem tidy_addWindow {o at_ f} (h : Tidy s) : Tidy (addWindow o at_ f s) := by
  grind only [addWindow, setOutlet, tidy_mk]

theorem tidy_tripFire {o} (h : Tidy s) : Tidy (tripFire o s) := by
  grind only [tripFire, tripOutput, setAct, tidy_postOpen, tidy_bump, tidy_foldl, tidy_mk]

theorem tidy_runtOutlet {o span at_} (h : Tidy s) : Tidy (runtOutlet o span at_ s) := by
  grind only [runtOutlet, tidy_addEnergy, tidy_addWindow]

theorem tidy_fullOutlet {o g bad} (h : Tidy s) : Tidy (fullOutlet o g bad s) := by
  grind only [fullOutlet, tidy_addWindow, setOutlet, tidy_bumpIf, watchTrip, tidy_tripFire, tidy_addEnergy, tidy_mk]

theorem tidy_decimatorOutput {k streams} (h : Tidy s) : Tidy (decimatorOutput k streams s) := by
  grind only [decimatorOutput, unbar, setGroupOf, tidy_takeBits, outletOutput, tidy_runtOutlet, tidy_fullOutlet, setInput, tidy_foldl, tidy_mk]

theorem tidy_frameGroup {t k} (h : Tidy s) : Tidy (frameGroup t s k) := by
  grind only [frameGroup, tidy_runtOutlet, tidy_bump, setGroupOf, tidy_foldl, tidy_mk]

theorem tidy_frameCheck (h : Tidy s) : Tidy (frameCheck s) := by
  grind only [frameCheck, tidy_frameGroup, tidy_foldl, tidy_mk]

theorem tidy_faultOnset {c} (h : Tidy s) : Tidy (faultOnset c s) := by
  grind only [faultOnset, markGaps, setBank, tidy_bump, setInput, tidy_mk]

theorem tidy_faultEnd {c} (h : Tidy s) : Tidy (faultEnd c s) := by
  grind only [faultEnd, setInput, tidy_mk]

theorem tidy_setDuty {f d} (h : Tidy s) : Tidy (setDuty f d s) := by
  grind only [setDuty, setFan, tidy_mk]

theorem tidy_applySetNow {set} (h : Tidy s) : Tidy (applySetNow set s) := by
  grind only [applySetNow, setAct, tidy_setDuty, tidy_foldl, tidy_mk]

theorem tidy_finishClears (h : Tidy s) : Tidy (finishClears s) := by
  grind only [finishClears, setAct, tidy_foldl, tidy_mk]

theorem tidy_showCommanded (h : Tidy s) : Tidy (showCommanded s) := by
  grind only [showCommanded, setAct, tidy_setDuty, tidy_foldl, tidy_mk]

theorem tidy_conApply (h : Tidy s) : Tidy (conApply s) := by
  grind only [conApply, setInput, setOutlet, setAct, markGaps, setBank, setFan, tidy_foldl, tidy_mk]

theorem tidy_mirrorSend (h : Tidy s) : Tidy (mirrorSend s) := by
  grind only [mirrorSend, tidy_mk]

theorem tidy_releaseClaim (h : Tidy s) : Tidy (releaseClaim s) := by
  grind only [releaseClaim, tidy_mk]

theorem tidy_cycleStart (h : Tidy s) : Tidy (cycleStart s) := by
  grind only [cycleStart, cycleOutputs, stopOutputs, tidy_showCommanded, tidy_mirrorSend, tidy_applySetNow, tidy_releaseClaim, tidy_finishClears,
    tidy_bumpIf, tidy_bump, snapFan, setFan, tidy_conApply, closeWindow, setOutlet, tidy_foldl, tidy_mk]

theorem tidy_consoleCycle (h : Tidy s) : Tidy (consoleCycle s) := by
  grind only [consoleCycle, tidy_cycleStart, tidy_mk]

theorem tidy_taskCommit (h : Tidy s) : Tidy (taskCommit s) := by
  grind only [taskCommit, fanOverride, tidy_bump, setFan, tidy_foldl, tidy_mk]

theorem tidy_tachEdge {f} (h : Tidy s) : Tidy (tachEdge f s) := by
  grind only [tachEdge, setFan, tidy_mk]

theorem tidy_tachStall {f} (h : Tidy s) : Tidy (tachStall f s) := by
  exact tidy_ite (tidy_mk h ..) h

theorem tidy_conSettle (h : Tidy s) : Tidy (conSettle s) := by
  grind only [conSettle, tidy_conApply]

end Sys2Proof.Proofs.TidyBlocks
end

section
/-! SUPPORT. The canonical form of host memory, counters and latches survives every step: host, supply, pair, memories, power and resets. -/
namespace Sys2Proof.Proofs.TidyDevice
open Sys2Proof Sys2Proof.Machine Sys2Proof.Laws Sys2Proof.Proofs.Tidiness Sys2Proof.Proofs.TidyFrames Sys2Proof.Proofs.TidyBlocks

variable {s : State}

/-! ### The host interface (chapter 15) -/

theorem tidy_handOn {v r room} (h : Tidy s) : Tidy (handOn v r room s) := by
  grind only [handOn, tidy_answer, setChannel, tidy_mk]

theorem tidy_ringMailbox {v val} (h : Tidy s) : Tidy (ringMailbox v val s) := by
  grind only [ringMailbox, setBox, tidy_answer, tidy_handOn, tidy_bump, tidy_raise, tidy_mk]

theorem tidy_refuseBoxWrite {v c o val be} (h : Tidy s) : Tidy (refuseBoxWrite v c o val be s) := by
  cases v <;> [exact tidy_logAccess h; exact h; exact h]

theorem tidy_hearBell (h : Tidy s) : Tidy (hearBell s) := by
  grind only [hearBell, tidy_mk]

theorem tidy_mailboxDoorbell {v val be} (h : Tidy s) : Tidy (mailboxDoorbell v val be s) := by
  unfold mailboxDoorbell
  dsimp only
  repeat' split
  all_goals grind only [mailboxDoorbell, tidy_refuseBoxWrite, tidy_bump, tidy_hearBell, tidy_ringMailbox]

theorem tidy_mailboxWrite {v o val be} (h : Tidy s) : Tidy (mailboxWrite v o val be s) := by
  unfold mailboxWrite
  dsimp only
  repeat' split
  all_goals grind only [mailboxWrite, tidy_mailboxDoorbell, tidy_refuseBoxWrite, tidy_bump, setBox, tidy_mk]

theorem tidy_logLocked {en old new legal off val} (h : Tidy s) : Tidy (logLocked en old new legal off val s) := by
  grind only [logLocked, tidy_logAccess]

theorem tidy_writeDsCfg {val} (h : Tidy s) : Tidy (writeDsCfg val s) := by
  grind only [writeDsCfg, tidy_logLocked, tidy_mk]

theorem tidy_writeUsCfg {val} (h : Tidy s) : Tidy (writeUsCfg val s) := by
  grind only [writeUsCfg, tidy_logLocked, tidy_mk]

theorem tidy_writeRxaCfg {val} (h : Tidy s) : Tidy (writeRxaCfg val s) := by
  grind only [writeRxaCfg, tidy_logLocked, tidy_mk]

theorem tidy_writeDsDb {val} (h : Tidy s) : Tidy (writeDsDb val s) := by
  grind only [writeDsDb, tidy_bump, tidy_mk]

theorem tidy_writeUsCons {val} (h : Tidy s) : Tidy (writeUsCons val s) := by
  grind only [writeUsCons, tidy_bump, tidy_mk]

theorem tidy_writeRxaRel {val} (h : Tidy s) : Tidy (writeRxaRel val s) := by
  grind only [writeRxaRel, tidy_bump, tidy_mk]

theorem tidy_fullWrite {off val be f} (hf : ∀ t, Tidy t → Tidy (f t)) (h : Tidy s) : Tidy (fullWrite off val be f s) := by
  grind only [fullWrite, tidy_logAccess]

theorem tidy_executeChain {es} (h : Tidy s) : Tidy (executeChain es s) := by
  grind only [executeChain, tidy_advanceDs, tidy_handOn, tidy_mk]

theorem tidy_dsFetch (h : Tidy s) : Tidy (dsFetch s) := by
  grind only [dsFetch, discardChain, tidy_postEvent, tidy_bump, tidy_advanceDs, tidy_executeChain, tidy_mk]

theorem tidy_fence (h : Tidy s) : Tidy (fence s) := by
  grind only [fence, tidy_postEvent, tidy_mk]

theorem tidy_usIrqTimer (h : Tidy s) : Tidy (usIrqTimer s) := by
  grind only [usIrqTimer, tidy_raise, tidy_mk]

/-! ### Tempo and Tuning (chapter 14) -/

theorem tidy_guardCheck (h : Tidy s) : Tidy (guardCheck s) := by
  grind only [guardCheck, modTmp, tidy_bump, tidy_mk]

theorem tidy_windowEnd {m count} (h : Tidy s) : Tidy (windowEnd m count s) := by
  grind only [windowEnd, tidy_guardCheck, modTmp, tidy_mk]

theorem tidy_settleRun (h : Tidy s) : Tidy (settleRun s) := by
  grind only [settleRun, setChannel, tidy_mk]

theorem tidy_finishPass (h : Tidy s) : Tidy (finishPass s) := by
  grind only [finishPass, modTmp, tidy_bump, tidy_settleRun, tidy_settleJobs, tidy_mk]

theorem tidy_avsFail (h : Tidy s) : Tidy (avsFail s) := by
  grind only [avsFail, tidy_bump, modTmp, tidy_mk]

theorem tidy_avsWrite {answered} (h : Tidy s) : Tidy (avsWrite answered s) := by
  grind only [avsWrite, modTmp, tidy_finishPass, tidy_avsFail, tidy_mk]

theorem tidy_avsReadback {mv current answered tj} (h : Tidy s) : Tidy (avsReadback mv current answered tj s) := by
  grind only [avsReadback, modTmp, tidy_finishPass, tidy_avsFail, tidy_mk]

theorem tidy_measure (h : Tidy s) : Tidy (Machine.measure s) := by
  exact h

theorem tidy_writeAge (h : Tidy s) : Tidy (writeAge s) := by
  grind only [writeAge, modTmp, tidy_mk]

theorem tidy_assess {c} (h : Tidy s) : Tidy (assess c s) := by
  grind only [assess, tidy_writeAge, modTmp, freeChoice, tidy_mk]

theorem tidy_endPass (h : Tidy s) : Tidy (endPass s) := by
  grind only [endPass, tidy_bump, storePass, modTmp, tidy_mk]

theorem tidy_demote {cause} (h : Tidy s) : Tidy (demote cause s) := by
  unfold demote
  dsimp only
  split
  all_goals grind only [tidy_endPass, tidy_bump, tidy_postOpen, tidy_settleRun, tidy_settleJobs, modTmp, tidy_mk]

theorem tidy_adopt {c v} (h : Tidy s) : Tidy (adopt c v s) := by
  grind only [adopt, modTmp, tidy_finishPass, storePass, tidy_mk]

theorem tidy_noMargin {cause} (h : Tidy s) : Tidy (noMargin cause s) := by
  unfold noMargin
  split
  all_goals grind only [tidy_endPass, tidy_settleJobs, modTmp, tidy_settleRun, tidy_mk]

theorem tidy_runPass {cause} (h : Tidy s) : Tidy (runPass cause s) := by
  have aged := tidy_measure h
  unfold runPass
  dsimp only
  split
  · exact tidy_adopt (tidy_assess aged)
  · split
    · exact tidy_adopt (tidy_assess aged)
    · exact tidy_ite (tidy_demote aged) (tidy_noMargin aged)

theorem tidy_tuningPass (h : Tidy s) : Tidy (tuningPass s) := by
  grind only [tuningPass, tidy_runPass, modTmp, tidy_mk]

theorem tidy_stressUpdate (h : Tidy s) : Tidy (stressUpdate s) := by
  grind only [stressUpdate, modTmp, tidy_mk]

theorem tidy_requestCapo {c} (h : Tidy s) : Tidy (requestCapo c s) := by
  grind only [requestCapo, modTmp, tidy_mk]

/-! ### Clusters, pair and group (chapter 17) -/

theorem tidy_post7 {source} (h : Tidy s) : Tidy (post7 source s) := by
  grind only [post7, tidy_postOpen]

theorem tidy_markPrevious (h : Tidy s) : Tidy (markPrevious s) := by
  grind only [markPrevious, setChannel, tidy_foldl, tidy_mk]

theorem tidy_unmarkPrevious (h : Tidy s) : Tidy (unmarkPrevious s) := by
  grind only [unmarkPrevious, setChannel, tidy_foldl, tidy_mk]

theorem tidy_switchOver (h : Tidy s) : Tidy (switchOver s) := by
  grind only [switchOver, tidy_markPrevious, passCell, modPair, tidy_holdStat, tidy_bump, dropTask, tidy_mk]

theorem tidy_abandonCommands (h : Tidy s) : Tidy (abandonCommands s) := by
  grind only [abandonCommands, setChannel, setBox, tidy_foldl, tidy_mk]

theorem tidy_watchdogExpire (h : Tidy s) : Tidy (watchdogExpire s) := by
  grind only [watchdogExpire, clusterFault, tidy_switchOver, clusterReload, modPair, dropTask, tidy_abandonCommands, tidy_holdStat, tidy_mk]

theorem tidy_switchOverDone (h : Tidy s) : Tidy (switchOverDone s) := by
  grind only [switchOverDone, tidy_post7, modPair, tidy_runTitimus, tidy_mk]

theorem tidy_watchdogFeed (h : Tidy s) : Tidy (watchdogFeed s) := by
  grind only [watchdogFeed, modPair, tidy_mk]

theorem tidy_ownerFeed (h : Tidy s) : Tidy (ownerFeed s) := by
  grind only [ownerFeed, modPair, tidy_mk]

theorem tidy_checkpoint (h : Tidy s) : Tidy (checkpoint s) := by
  grind only [checkpoint, modPair, tidy_mk]

theorem tidy_swapBegin (h : Tidy s) : Tidy (swapBegin s) := by
  grind only [swapBegin, modPair, tidy_holdStat, tidy_post7, tidy_mk]

theorem tidy_swapAbandon (h : Tidy s) : Tidy (swapAbandon s) := by
  grind only [swapAbandon, tidy_settleJobs, modPair, tidy_mk]

theorem tidy_swapHand (h : Tidy s) : Tidy (swapHand s) := by
  grind only [swapHand, tidy_markPrevious, passCell, modPair, tidy_checkpoint, tidy_bump, dropTask, tidy_mk]

theorem tidy_roleSwap (h : Tidy s) : Tidy (roleSwap s) := by
  unfold roleSwap
  split
  · exact tidy_ite (tidy_swapBegin h) h
  · exact tidy_ite h (tidy_ite (tidy_swapHand h) (tidy_ite (tidy_swapAbandon h) h))

theorem tidy_roleSwapDone (h : Tidy s) : Tidy (roleSwapDone s) := by
  grind only [roleSwapDone, modPair, tidy_runTitimus, tidy_post7, tidy_settleJobs, tidy_mk]

theorem tidy_roleSwapFail (h : Tidy s) : Tidy (roleSwapFail s) := by
  grind only [roleSwapFail, tidy_unmarkPrevious, passCell, modPair, tidy_runTitimus, tidy_post7, tidy_bump, tidy_settleJobs, tidy_mk]

theorem tidy_claimRequest (h : Tidy s) : Tidy (claimRequest s) := by
  grind only [claimRequest, tidy_bump, modPair, tidy_mk]

theorem tidy_claimConfirm (h : Tidy s) : Tidy (claimConfirm s) := by
  grind only [claimConfirm, tidy_post7, tidy_bump, modPair, tidy_mk]

theorem tidy_peerClaimEdge {level} (h : Tidy s) : Tidy (peerClaimEdge level s) := by
  grind only [peerClaimEdge, tidy_bumpIf, modPair, tidy_mk]

theorem tidy_watchdogLapse (h : Tidy s) : Tidy (watchdogLapse s) := by
  grind only [watchdogLapse, tidy_bump, modPair, tidy_post7, tidy_mk]

theorem tidy_holdoffExpire (h : Tidy s) : Tidy (holdoffExpire s) := by
  grind only [holdoffExpire, modPair, tidy_mk]

theorem tidy_heartbeatSend (h : Tidy s) : Tidy (heartbeatSend s) := by
  grind only [heartbeatSend, modPair, tidy_mk]

theorem tidy_driveSet {m} (h : Tidy s) : Tidy (driveSet m s) := by
  grind only [driveSet, modPair, setAct, tidy_setDuty, tidy_foldl, tidy_mk]

theorem tidy_heartbeatReceive {m} (h : Tidy s) : Tidy (heartbeatReceive m s) := by
  have noted (c : Bool) (f : PairState → PairState) : Tidy (if c then post7 7 (modPair f s) else modPair f s) := by
    split <;> [exact tidy_post7 (tidy_mk h ..); exact tidy_mk h ..]
  unfold heartbeatReceive
  dsimp only
  split
  · exact h
  · split
    · exact tidy_bumpIf h
    · exact tidy_ite (tidy_driveSet (noted ..)) (noted ..)

theorem tidy_mirrorReceive {m} (h : Tidy s) : Tidy (mirrorReceive m s) := by
  grind only [mirrorReceive, tidy_bumpIf, tidy_driveSet]

theorem tidy_heartbeatLoss (h : Tidy s) : Tidy (heartbeatLoss s) := by
  grind only [heartbeatLoss, tidy_post7, tidy_bump, modPair, tidy_mk]

theorem tidy_mirroredStale (h : Tidy s) : Tidy (mirroredStale s) := by
  grind only [mirroredStale, modPair, tidy_mk]

theorem tidy_setRole {r x} (h : Tidy s) : Tidy (setRole r x s) := by
  grind only [setRole, modPair, tidy_mk]

theorem tidy_countVotes {r} (h : Tidy s) : Tidy (countVotes r s) := by
  grind only [countVotes, tidy_setRole, sendGroup, modPair, tidy_post7, tidy_bump, tidy_mk]

theorem tidy_leaseRenew {r} (h : Tidy s) : Tidy (leaseRenew r s) := by
  grind only [leaseRenew, tidy_countVotes, sendGroup, modPair, tidy_setRole, tidy_mk]

theorem tidy_leaseExpire {r} (h : Tidy s) : Tidy (leaseExpire r s) := by
  grind only [leaseExpire, tidy_setRole, tidy_post7]

theorem tidy_groupMessage {m} (h : Tidy s) : Tidy (groupMessage m s) := by
  grind only [groupMessage, tidy_bump, tidy_setRole, groupAccept, tidy_countVotes, sendGroup, modPair, tidy_post7, tidy_mk]

/-! ### The upstream ring -/

theorem tidy_writeEntries {kind bodies} (h : Tidy s) : Tidy (writeEntries kind bodies s) := by
  grind only [writeEntries, tidy_hostWrite, tidy_bumpBy, tidy_raise, tidy_foldl, tidy_mk]

theorem tidy_writeJob {j} (h : Tidy s) : Tidy (writeJob j s) := by
  cases j with
  | punt p =>
    have passed (a bs) : Tidy (passPunt true (bump Ctr.hifPuntFrames (writeEntries 1 [puntBody p] (hostWrite a bs s)))) :=
      tidy_mk (tidy_bump (tidy_writeEntries (tidy_hostWrite h))) ..
    unfold writeJob
    dsimp only
    split <;> [exact tidy_dropRef (tidy_billCopy (passed ..)); exact tidy_dropRef (passed ..)]
  | _ => exact tidy_writeEntries h

theorem tidy_admitWaiting (h : Tidy s) : Tidy (admitWaiting s) := by
  grind only [admitWaiting, tidy_pushReady, tidy_countPoison, tidy_bump, tidy_mk]

theorem tidy_byRank {r} {t : State} (h : Tidy s)
    (e : ((takeJob r s).bind fun x => if jobEntries x.1 ≤ usFree s then some (writeJob x.1 x.2) else none) = some t) : Tidy t := by
  obtain ⟨x, hx, hw⟩ := Option.bind_eq_some_iff.1 e
  split at hw
  · obtain ⟨j, -, rfl⟩ := Option.map_eq_some_iff.1 hx
    cases hw
    exact tidy_writeJob (tidy_mk h ..)
  · cases hw

theorem tidy_postOne {t : State} (h : Tidy s) (e : postOne s = some t) : Tidy t := by
  have h' := tidy_admitWaiting h
  unfold postOne at e
  dsimp only at e
  split at e
  · cases e; exact tidy_byRank h' ‹_›
  · split at e
    · cases e; exact tidy_byRank h' ‹_›
    · split at e
      · cases e; exact tidy_byRank h' ‹_›
      · split at e
        · obtain ⟨x, hx, rfl⟩ := Option.map_eq_some_iff.1 e
          exact tidy_writeEntries (tidy_sendRecord h' hx)
        · split at e
          · cases e; exact tidy_byRank h' ‹_›
          · split at e
            · cases e; exact h'
            · cases e

theorem tidy_postAll {n} (h : Tidy s) : Tidy (postAll n s) := by
  induction n generalizing s with
  | zero => exact h
  | succ n ih => grind only [postAll, tidy_postOne]

theorem tidy_upstreamPost (h : Tidy s) : Tidy (upstreamPost s) := by
  grind only [upstreamPost, tidy_postAll]

theorem tidy_loseJob {j} (h : Tidy s) : Tidy (loseJob j s) := by
  cases j with
  | _ => grind only [loseJob, tidy_bumpIf, tidy_bump, tidy_dropRef, tidy_dropAdmitted, passPunt, tidy_mk]

theorem tidy_abandonJob (h : Tidy s) : Tidy (abandonJob s) := by
  unfold abandonJob
  split
  · rename_i j t e
    obtain ⟨r, -, taken⟩ := List.exists_of_findSome?_eq_some e
    obtain ⟨i, -, pair⟩ := Option.map_eq_some_iff.1 taken
    cases pair
    exact tidy_ite h (tidy_loseJob (tidy_mk h ..))
  · exact h

theorem tidy_dmaFail {write} (h : Tidy s) : Tidy (dmaFail write s) := by
  grind only [dmaFail, tidy_bump, tidy_abandonJob, tidy_raiseFault, tidy_mk]

theorem tidy_resetChannel {v} (h : Tidy s) : Tidy (resetChannel s v) := by
  grind only [resetChannel, setChannel, tidy_mk]

theorem tidy_clearCtrs {lo hi} (h : Tidy s) : Tidy (clearCtrs lo hi s) := canonical_clearCtrs h

theorem tidy_dropPunts (h : Tidy s) : Tidy (dropPunts s) := by
  grind only [dropPunts, tidy_dropRef, tidy_dropAdmitted, tidy_foldl]

theorem tidy_hostInterfaceReset (h : Tidy s) : Tidy (hostInterfaceReset s) := by
  have quiet : Tidy (allVias.foldl resetChannel (rewindArchive (dropPunts s))) :=
    tidy_foldl (fun _ _ => tidy_resetChannel) allVias (tidy_mk (tidy_dropPunts h) ..)
  unfold hostInterfaceReset
  extract_lets s₁ s₂ s₃
  have fresh : Tidy s₂ := tidy_foldl (fun _ _ h => tidy_mk h ..) (List.range 18) quiet
  have cleared : Tidy s₃ := tidy_clearCtrs fresh
  clear_value s₃
  exact ⟨cleared.1, cleared.2.1, rfl⟩

theorem tidy_f1Reset (h : Tidy s) : Tidy (f1Reset s) := by
  unfold f1Reset
  extract_lets s₁
  have calm : Tidy s₁ := tidy_mk (tidy_resetChannel (v := .f1 1) (tidy_resetChannel (v := .f1 0) h)) ..
  clear_value s₁
  exact ⟨calm.1, calm.2.1, filter_wfFrom _ _ calm.2.2⟩


/-! ### Memory integrity (chapter 20) -/

theorem tidy_takeLog {e} (h : Tidy s) : Tidy (takeLog s e) := by
  grind only [takeLog, tidy_postEvent, tidy_mk]

theorem tidy_drainLog (h : Tidy s) : Tidy (drainLog s) := by
  grind only [drainLog, tidy_takeLog, tidy_foldl, tidy_mk]

theorem tidy_detection {c unc synd addr} (h : Tidy s) : Tidy (detection c unc synd addr s) := by
  grind only [detection, tidy_bump, tidy_drainLog, tidy_mk]

theorem tidy_scrubWord {c a synd unc} (h : Tidy s) : Tidy (scrubWord c a synd unc s) := by
  grind only [scrubWord, tidy_detection, tidy_bump, tidy_mk]

theorem tidy_scrubRead {c a synd unc} (h : Tidy s) : Tidy (scrubRead c a synd unc s) := by
  grind only [scrubRead, tidy_scrubWord, scrubPlace, endLap, modScrub, tidy_mk]

theorem tidy_installRemap {c a} (h : Tidy s) : Tidy (installRemap c a s) := by
  grind only [installRemap, tidy_bump, tidy_mk]

theorem tidy_remapInstall {c a} (h : Tidy s) : Tidy (remapInstall c a s) := by
  grind only [remapInstall, tidy_installRemap, tidy_postEvent, tidy_mk]

theorem tidy_zeroClass {c} (h : Tidy s) : Tidy (zeroClass s c) := by
  unfold zeroClass
  split <;> exact h

theorem tidy_fillClasses {mask} (h : Tidy s) : Tidy (fillClasses mask s) := by
  grind only [fillClasses, tidy_zeroClass, clearPoison, tidy_foldl, tidy_mk]

theorem tidy_fillDone (h : Tidy s) : Tidy (fillDone s) := by
  grind only [fillDone, clearPoison, tidy_fillClasses, tidy_settleJobs, tidy_mk]

theorem tidy_tablePoisonRepair {loc} (h : Tidy s) : Tidy (tablePoisonRepair loc s) := by
  grind only [tablePoisonRepair, modTbl, cleanse, tidy_bump, tidy_detection, tidy_foldl, tidy_mk]

theorem tidy_ddrTrainingDone {rate density} (h : Tidy s) : Tidy (ddrTrainingDone rate density s) := by
  unfold ddrTrainingDone
  repeat' split
  all_goals exact h

/-! ### Power domains (chapter 19) -/

theorem tidy_releasePads {m} (h : Tidy s) : Tidy (releasePads m s) := by
  grind only [releasePads, modPwr, tidy_mk]

theorem tidy_settleDomains {on mask conflict} (h : Tidy s) : Tidy (settleDomains on mask conflict s) := by
  grind only [settleDomains, tidy_settleJobs, tidy_foldl]

theorem tidy_reportWake {m} (h : Tidy s) : Tidy (reportWake m s) := by
  grind only [reportWake, tidy_postOpen, tidy_foldl]

theorem tidy_finishRequest {r} (h : Tidy s) : Tidy (finishRequest r s) := by
  grind only [finishRequest, modPwr, tidy_releasePads, tidy_settleDomains, tidy_reportWake, tidy_bump, tidy_mk]

theorem tidy_beginWake {mask rel sources command} (h : Tidy s) : Tidy (beginWake mask rel sources command s) := by
  grind only [beginWake, tidy_finishRequest, modPwr, tidy_mk]

theorem tidy_runLatched (h : Tidy s) : Tidy (runLatched s) := by
  grind only [runLatched, tidy_beginWake, modPwr, tidy_mk]

theorem tidy_wakeRequest {mask rel sources command} (h : Tidy s) : Tidy (wakeRequest mask rel sources command s) := by
  grind only [wakeRequest, modPwr, tidy_beginWake, tidy_mk]

theorem tidy_advanceRequest {r} (h : Tidy s) : Tidy (advanceRequest r s) := by
  grind only [advanceRequest, tidy_runLatched, tidy_finishRequest, modPwr, tidy_mk]

theorem tidy_stopMonitors {k} (h : Tidy s) : Tidy (stopMonitors k s) := by
  grind only [stopMonitors, modTmp, tidy_mk]

theorem tidy_leaveSlice {k} (h : Tidy s) : Tidy (leaveSlice k s) := by
  grind only [leaveSlice, tidy_stopMonitors, tidy_flushCache, setTenant, tidy_foldl, tidy_mk]

theorem tidy_domainStops {d} (h : Tidy s) : Tidy (domainStops d s) := by
  grind only [domainStops, tidy_leaveSlice, tidy_linkDown, modPair, tidy_holdStat, setGroupOf, tidy_foldl, tidy_mk]

theorem tidy_joinWake {k} {t : State} (h : Tidy s) (e : joinWake k s = some t) : Tidy t := by
  grind only [joinWake, modPwr, tidy_reportWake, tidy_mk]

theorem tidy_wake {k} (h : Tidy s) : Tidy (wake k s) := by
  grind only [wake, sourceSeen, modPwr, tidy_joinWake, tidy_wakeRequest, tidy_mk]

theorem tidy_lastWork {v} (h : Tidy s) : Tidy (lastWork v s) := by
  grind only [lastWork, setChannel, portLit, tidy_modFull, tidy_releasePads, tidy_writeBuckets, tidy_finishWork, tidy_mk]

theorem tidy_dozeFrom {v} (h : Tidy s) : Tidy (dozeFrom v s) := by
  grind only [dozeFrom, modPwr, tidy_mk]

theorem tidy_tunnelEstablished {fast} (h : Tidy s) : Tidy (tunnelEstablished fast s) := by
  grind only [tunnelEstablished, tidy_mk]

/-! ### SYS commands -/

theorem tidy_firstBoot (h : Tidy s) : Tidy (firstBoot s) := by
  grind only [firstBoot, modTmp, tidy_mk]

theorem tidy_bootComplete (h : Tidy s) : Tidy (bootComplete s) := by
  grind only [bootComplete, tidy_runTitimus, modPair, tidy_firstBoot, tidy_drainLog, tidy_mk]

theorem tidy_standbyReady (h : Tidy s) : Tidy (standbyReady s) := by
  grind only [standbyReady, tidy_checkpoint, modPair, setSlot, tidy_settleJobs, tidy_mk]

theorem tidy_askSwap (h : Tidy s) : Tidy (askSwap s) := by
  grind only [askSwap, modPair, tidy_holdStat, tidy_mk]

/-! ### Resets (chapter 18) -/

theorem tidy_coldAssert {k} (h : Tidy s) : Tidy (coldAssert k s) := by
  exact tidy_foldl (f := fun t n => setBox n { gen := (boxAt (markSource k s) n).gen + 1 } t) (fun _ _ h => h) _ ⟨h.1, rfl, rfl⟩

theorem tidy_parkPrbs (h : Tidy s) : Tidy (parkPrbs s) := by
  grind only [parkPrbs, tidy_prbsLockLoss, tidy_foldl]

theorem tidy_stopDecimators (h : Tidy s) : Tidy (stopDecimators s) := by
  grind only [stopDecimators, setGroupOf, markGaps, setBank, tidy_foldl, tidy_mk]

theorem tidy_stopClusters (h : Tidy s) : Tidy (stopClusters s) := by
  grind only [stopClusters, dropTask, tidy_abandonCommands, tidy_holdStat, modPair, tidy_mk]

theorem tidy_countPunts (h : Tidy s) : Tidy (countPunts s) := by
  grind only [countPunts, tidy_bump, tidy_foldl]

theorem tidy_countCutLinks (h : Tidy s) : Tidy (countCutLinks s) := by
  grind only [countCutLinks, tidy_bumpIf, tidy_foldl]

theorem tidy_cutWord (h : Tidy s) : Tidy (cutWord s) := by
  grind only [cutWord, freeChoice, tidy_mk]

theorem tidy_warmReach (h : Tidy s) : Tidy (warmReach s) := by
  grind only [warmReach, cutWork, freeChoice, modTbl, tidy_cutWord, tidy_countCutLinks, tidy_hostInterfaceReset, tidy_countPunts,
    tidy_stopDecimators, tidy_parkPrbs, tidy_stopClusters, tidy_mk]

theorem tidy_warmAssert {k} (h : Tidy s) : Tidy (warmAssert k s) := by
  grind only [warmAssert, tidy_warmReach, markSource, tidy_mk]

theorem tidy_sysResetAssert (h : Tidy s) : Tidy (sysResetAssert s) := by
  grind only [sysResetAssert, tidy_warmAssert]

theorem tidy_peerResetRequest (h : Tidy s) : Tidy (peerResetRequest s) := by
  grind only [peerResetRequest, tidy_warmAssert, tidy_bump]

theorem tidy_dropOnPort {mine p} (h : Tidy s) : Tidy (dropOnPort mine p s) := by
  grind only [dropOnPort, tidy_bumpMac, modTx, dropExamined, tidy_bump, tidy_dropRef, tidy_loseCopy, tidy_foldl, tidy_mk]

theorem tidy_examine {mine} (h : Tidy s) : Tidy (examine mine s) := by
  grind only [examine, tidy_voidChit, tidy_dropOnPort, freeHeld, tidy_releaseIf, tidy_modChit, tidy_foldl]

theorem tidy_ledgerInterrupt (h : Tidy s) : Tidy (ledgerInterrupt s) := by
  grind only [ledgerInterrupt, setBank, tidy_actDue, tidy_sealBank, tidy_bump, tidy_foldl, tidy_mk]

theorem tidy_makePlain {fresh e} (h : Tidy s) : Tidy (makePlain fresh s e) := by
  grind only [makePlain, modPort, tidy_mk]

theorem tidy_bringUpPlain (h : Tidy s) : Tidy (bringUpPlain s) := by
  grind only [bringUpPlain, tidy_makePlain, tidy_foldl, tidy_mk]

theorem tidy_releaseSlices (h : Tidy s) : Tidy (releaseSlices s) := by
  grind only [releaseSlices, tidy_examine, tidy_ledgerInterrupt, tidy_checkEngines, setScanned, modLkp, tidy_armGroup, tidy_foldl, tidy_mk]

theorem tidy_stepEvent {k} (h : Tidy s) : Tidy (stepEvent k s) := by
  grind only [stepEvent, sampleStraps, tidy_releaseSlices, tidy_bringUpPlain, lightPlain, askFirstPass, modTmp, tidy_mk]

theorem tidy_releaseStep (h : Tidy s) : Tidy (releaseStep s) := by
  grind only [releaseStep, tidy_stepEvent, tidy_mk]

theorem tidy_sourceRelease {k} (h : Tidy s) : Tidy (sourceRelease k s) := by
  grind only [sourceRelease, releaseBegin, tidy_bump, tidy_mk]

theorem tidy_holdSlice {k} (h : Tidy s) : Tidy (holdSlice k s) := by
  grind only [holdSlice, tidy_bumpIf, modPort, tidy_flushPort, modRx, setScanned, modLkp, modHarp, tidy_foldl, tidy_mk]

theorem tidy_releaseSlice {k} (h : Tidy s) : Tidy (releaseSlice k s) := by
  grind only [releaseSlice, setScanned, modLkp, tidy_examine, modPort, tidy_foldl, tidy_mk]

theorem tidy_writeBlockRst {val} (h : Tidy s) : Tidy (writeBlockRst val s) := by
  grind only [writeBlockRst, tidy_logAccess, tidy_holdSlice, tidy_releaseSlice, tidy_stopDecimators, tidy_armGroup, tidy_foldl, tidy_mk]

theorem tidy_enterFull {p} (h : Tidy s) : Tidy (enterFull s p) := by
  grind only [enterFull, tidy_linkDown, modPort, tidy_startLink, tidy_mk]

theorem tidy_mergePlain (h : Tidy s) : Tidy (mergePlain s) := by
  grind only [mergePlain, setBank, tidy_mk]

theorem tidy_nameDefault (h : Tidy s) : Tidy (nameDefault s) := by
  grind only [nameDefault, setTrig, tidy_nameTrigger, tidy_mk]

theorem tidy_callOff {k} (h : Tidy s) : Tidy (callOff k s) := by
  grind only [callOff, tidy_mk]

theorem tidy_sliceTransition {k} (h : Tidy s) : Tidy (sliceTransition k s) := by
  grind only [sliceTransition, tidy_callOff, tidy_fixTables, tidy_enterFull, tidy_nameDefault, tidy_mergePlain, tidy_foldl, tidy_mk]

theorem tidy_sliceToPlain {k} (h : Tidy s) : Tidy (sliceToPlain k s) := by
  grind only [sliceToPlain, tidy_callOff, enterPlain, modPort, tidy_makePlain, tidy_disablePort, tidy_foldl, tidy_mk]

end Sys2Proof.Proofs.TidyDevice
end

section
/-! SUPPORT. The canonical form of host memory, counters and latches survives every step: Tally, registers, and what the block does while it idles. -/
namespace Sys2Proof.Proofs.TidyRegisters
open Sys2Proof Sys2Proof.Machine Sys2Proof.Laws Sys2Proof.Proofs.Tidiness Sys2Proof.Proofs.TidyFrames
open Sys2Proof.Proofs.TidyBlocks Sys2Proof.Proofs.TidyDevice

variable {s : State}

/-! ### Tally (chapter 22) -/

theorem tidy_tallySweep (h : Tidy s) : Tidy (tallySweep s) := by
  grind only [tallySweep, sweep, tidy_raise, tidy_bump, tidy_offerRecords, tidy_mk]

theorem tidy_configStream {k en mib base ulog2 wb} (h : Tidy s) : Tidy (configStream k en mib base ulog2 wb s) := by
  grind only [configStream, tidy_bumpBy, setStream, tidy_mk]

theorem tidy_exportOne {k} {t : State} (h : Tidy s) (e : exportOne k s = some t) : Tidy t := by
  grind only [exportOne, padRecord, putUnits, tidy_hostWrite, setStream, tidy_bumpBy, tidy_mk]

theorem tidy_exportAll {n k} (h : Tidy s) : Tidy (exportAll n k s) := by
  induction n generalizing s with
  | zero => exact h
  | succ n ih => grind only [exportAll, tidy_exportOne]

theorem tidy_tallyExport {k} (h : Tidy s) : Tidy (tallyExport k s) := by
  grind only [tallyExport, tidy_exportAll]

theorem tidy_writeExpCons {k val} (h : Tidy s) : Tidy (writeExpCons k val s) := by
  grind only [writeExpCons, setStream, tidy_bump, tidy_mk]

/-! ### Register writes and the tick -/

theorem tidy_alertUpdate (h : Tidy s) : Tidy (alertUpdate s) := by
  grind only [alertUpdate, tidy_raiseFault, tidy_mk]

theorem tidy_idle (h : Tidy s) : Tidy (idle s) := by
  have cycled : Tidy { idleCycle s with groups := (idleCycle s).groups.map fun e => (e.1, writeBucket e.2) } := tidy_mk (tidy_idleCycle h) ..
  have worked := tidy_ite (c := (idleCycle s).dev.asserted = 0)
    (tidy_ite (c := (idleCycle s).tbl.fixup.isEmpty = true) (tidy_engineStep cycled) (tidy_fixTables cycled)) cycled
  exact tidy_ite worked (tidy_alertUpdate (tidy_drainLog worked))

theorem tidy_writeSpecCfg {k val} (h : Tidy s) : Tidy (writeSpecCfg k val s) := by
  grind only [writeSpecCfg, modLkp, tidy_mk]

theorem tidy_unlessOff {a val f} (hf : ∀ t, Tidy t → Tidy (f t)) (h : Tidy s) : Tidy (unlessOff a val f s) := by
  grind only [unlessOff, tidy_logAccess]

theorem tidy_lockedBase {en off old new val} {f : W32 → State → State} (Hf : ∀ w t, Tidy t → Tidy (f w t)) (h : Tidy s) :
    Tidy (lockedBase en off old new val f s) := by
  grind only [lockedBase, tidy_logAccess]

theorem tidy_writeMsix {v d val} (h : Tidy s) : Tidy (writeMsix v d val s) := by
  unfold writeMsix
  dsimp only
  split <;> [exact h; exact h; exact h; exact tidy_unpend (tidy_mk h ..)]

theorem tidy_writeHif {o val} (h : Tidy s) : Tidy (writeHif o val s) := by
  unfold writeHif
  dsimp only
  split
  all_goals grind only [tidy_writeDsCfg, tidy_lockedBase, tidy_writeDsDb, tidy_writeUsCfg, tidy_writeUsCons, writeUsIrq, tidy_logAccess,
    tidy_writeRxaCfg, tidy_writeRxaRel, tidy_writeMsix, tidy_mk]

theorem tidy_writeGlobal {o val} (h : Tidy s) : Tidy (writeGlobal o val s) := by
  unfold writeGlobal
  split
  all_goals grind only [tidy_writeBlockRst, tidy_releasePads, writeWakeCfg, modPwr, tidy_mk]

theorem tidy_writeSlice {k o val} (h : Tidy s) : Tidy (writeSlice k o val s) := by
  grind only [writeSlice, modLkp, tidy_writeSpecCfg, tidy_modFull, tidy_mk]

theorem tidy_writeTrig {t w val} (h : Tidy s) : Tidy (writeTrig t w val s) := by
  exact h

theorem tidy_writeTime {o val} (h : Tidy s) : Tidy (writeTime o val s) := by
  unfold writeTime
  dsimp only
  split
  all_goals grind only [stepArm, incrCommit, setEv, tidy_writeTrig, tidy_mk]

theorem tidy_writeReg {x val} (h : Tidy s) : Tidy (writeReg x val s) := by
  grind only [writeReg, tidy_writeGlobal, tidy_writeHif, tidy_writeSlice, cleanse, tidy_writeTime, writePairRst, writeTally, tidy_writeExpCons,
    tidy_mk]

theorem tidy_loggedAt {a} {t : State} (h : Tidy t) : Tidy (loggedAt a s t) := by
  grind only [loggedAt, tidy_mk]

theorem tidy_bar0Write {a val be} (h : Tidy s) : Tidy (bar0Write a val be s) := by
  grind only [bar0Write, tidy_logAccess, tidy_loggedAt, tidy_writeReg]

theorem tidy_f1Write {a val be} (h : Tidy s) : Tidy (f1Write a val be s) := by
  grind only [f1Write, tidy_mailboxWrite, tidy_writeMsix, tidy_bump]

theorem tidy_setCfg {fn c} (h : Tidy s) : Tidy (setCfg fn c s) := by
  exact tidy_foldl (fun _ _ => tidy_unpend) _ (tidy_mk h ..)

theorem tidy_cfgWrite {fn a val be} (h : Tidy s) : Tidy (cfgWrite fn a val be s) := by
  unfold cfgWrite
  dsimp only
  split
  all_goals grind only [tidy_setCfg]

theorem tidy_registerWrite {sp a val be} (h : Tidy s) : Tidy (registerWrite sp a val be s) := by
  cases sp with
  | bar0 => exact tidy_bar0Write h
  | bar2 => exact tidy_mailboxWrite h
  | f1 => exact tidy_f1Write h
  | cfg => exact tidy_cfgWrite h

/-! ### Register reads -/

theorem tidy_f0Read {a} (h : Tidy s) : Tidy (f0Read a s) := by
  unfold f0Read
  split
  · exact h
  · dsimp only
    repeat' split
    all_goals grind only [tidy_latched, tidy_timeNowRead, ppsInRead, tidy_evMetaRead, tidy_tsqMetaRead, tidy_mk]

theorem tidy_f1Read {a} (h : Tidy s) : Tidy (f1Read a s) := by
  unfold f1Read
  repeat' split
  all_goals grind only [tidy_latched, tidy_timeNowRead, tidy_mk]

/-! ### Domains that go off and wake -/

theorem tidy_retain {d} (h : Tidy s) : Tidy (retain d s) := by
  grind only [retain, modPwr, tidy_mk]

theorem tidy_domainOff {d} (h : Tidy s) : Tidy (domainOff d s) := by
  grind only [domainOff, modPwr, tidy_retain, tidy_domainStops, tidy_bump, markGaps, setBank, tidy_mk]

theorem tidy_domainUp {d} (h : Tidy s) : Tidy (domainUp d s) := by
  grind only [domainUp, modPwr, unretain, modPair, tidy_runTitimus, tidy_armGroup, tidy_foldl, tidy_mk]

theorem tidy_domainDrainDone {d} (h : Tidy s) : Tidy (domainDrainDone d s) := by
  grind only [domainDrainDone, tidy_advanceRequest, tidy_domainOff]

theorem tidy_domainDrainTimeout {d} (h : Tidy s) : Tidy (domainDrainTimeout d s) := by
  grind only [domainDrainTimeout, tidy_bump, modPwr, tidy_runLatched, tidy_settleJobs, tidy_mk]

theorem tidy_domainWakeDone {d} (h : Tidy s) : Tidy (domainWakeDone d s) := by
  grind only [domainWakeDone, tidy_advanceRequest, tidy_domainUp]

theorem tidy_dozeEntry (h : Tidy s) : Tidy (dozeEntry s) := by
  unfold dozeEntry
  split
  · split
    · exact tidy_runLatched (tidy_domainOff (tidy_mk h ..))
    · exact h
  · exact h

end Sys2Proof.Proofs.TidyRegisters
end

section
/-! SUPPORT. What the rules of every TCS command answer leaves host memory, counters and latches in canonical form. -/
namespace Sys2Proof.Proofs.TidyAnswers
open Sys2Proof Sys2Proof.Machine Sys2Proof.Laws Sys2Proof.Proofs.Tidiness Sys2Proof.Proofs.TidyFrames Sys2Proof.Proofs.TidyBlocks
open Sys2Proof.Proofs.TidyDevice Sys2Proof.Proofs.TidyRegisters

variable {s : State}

/-- The state that an answer leaves, if any, is tidy. -/
def TidyAns : Ans → Prop
  | .reply _ _ t => Tidy t
  | .pending _ t => Tidy t
  | .wait => True

theorem tidyAns_checked {cs : List (Bool × Nat)} {f : State → Ans} (hf : TidyAns (f s)) (h : Tidy s) : TidyAns (checked cs f s) := by
  unfold checked refuse
  split <;> [exact h; exact hf]

theorem tidyAns_ite {c : Prop} [Decidable c] {a b : Ans} (ha : TidyAns a) (hb : TidyAns b) : TidyAns (if c then a else b) := by
  split <;> assumption

/-! ### CLASS commands -/

theorem tidyAns_rangeSet {a} (h : Tidy s) : TidyAns (rangeSet a s) := by
  grind only [rangeSet, tidyAns_checked, tidy_cleanseMask, tidy_stageSet, tidy_foldl, TidyAns]

theorem tidyAns_rulesSet {a} (h : Tidy s) : TidyAns (rulesSet a s) := by
  grind only [rulesSet, tidyAns_checked, tidy_cleanseMask, tidy_stageSet, tidy_foldl, TidyAns]

theorem tidyAns_tmapSet {a} (h : Tidy s) : TidyAns (tmapSet a s) := by
  grind only [tmapSet, tidyAns_checked, ok, modClass, tidy_foldl, tidy_mk, TidyAns]

theorem tidyAns_rulesGet {a} (h : Tidy s) : TidyAns (rulesGet a s) := by
  grind only [rulesGet, tidyAns_checked, ok, TidyAns]

theorem tidyAns_classStatusCmd {a} (h : Tidy s) : TidyAns (classStatusCmd a s) := by
  grind only [classStatusCmd, tidyAns_checked, ok, TidyAns]

/-! ### METER commands -/

theorem tidyAns_meterSet {a} (h : Tidy s) : TidyAns (meterSet a s) := by
  grind only [meterSet, tidyAns_checked, ok, setMeter, tidy_foldl, tidy_mk, TidyAns]

theorem tidyAns_profileSet {a} (h : Tidy s) : TidyAns (profileSet a s) := by
  grind only [profileSet, tidyAns_checked, ok, tidy_foldl, tidy_mk, TidyAns]

theorem tidyAns_tenantSet {a} (h : Tidy s) : TidyAns (tenantSet a s) := by
  grind only [tenantSet, tidyAns_checked, ok, setTenant, tidy_mk, TidyAns]

theorem tidyAns_meterGet {a} (h : Tidy s) : TidyAns (meterGet a s) := by
  grind only [meterGet, tidyAns_checked, ok, TidyAns]

theorem tidyAns_tenantGet {a} (h : Tidy s) : TidyAns (tenantGet a s) := by
  grind only [tenantGet, tidyAns_checked, ok, TidyAns]

/-! ### PORT and DIAG commands -/

theorem tidyAns_portConfigCmd {a} (h : Tidy s) : TidyAns (portConfigCmd a s) := by
  grind only [portConfigCmd, tidyAns_checked, ok, tidy_modFull, TidyAns]

theorem tidyAns_portDisableCmd {a} (h : Tidy s) : TidyAns (portDisableCmd a s) := by
  grind only [portDisableCmd, tidyAns_checked, ok, tidy_disablePort, TidyAns]

theorem tidyAns_laneMapCmd {a} (h : Tidy s) : TidyAns (laneMapCmd a s) := by
  grind only [laneMapCmd, tidyAns_checked, ok, tidy_mk, TidyAns]

theorem tidyAns_stationSetCmd {a} (h : Tidy s) : TidyAns (stationSetCmd a s) := by
  grind only [stationSetCmd, tidyAns_checked, ok, tidy_modFull, TidyAns]

theorem tidyAns_flowctlSetCmd {a} (h : Tidy s) : TidyAns (flowctlSetCmd a s) := by
  grind only [flowctlSetCmd, tidyAns_checked, ok, tidy_modFull, TidyAns]

theorem tidyAns_preemptSetCmd {a} (h : Tidy s) : TidyAns (preemptSetCmd a s) := by
  grind only [preemptSetCmd, tidyAns_checked, ok, tidy_modFull, TidyAns]

theorem tidyAns_dampSetCmd {a} (h : Tidy s) : TidyAns (dampSetCmd a s) := by
  grind only [dampSetCmd, tidyAns_checked, tidy_modFull, ok, tidy_startRestore, TidyAns]

theorem tidyAns_lpiSetCmd {a} (h : Tidy s) : TidyAns (lpiSetCmd a s) := by
  grind only [lpiSetCmd, tidyAns_checked, tidy_modFull, ok, tidy_startRestore, TidyAns]

theorem tidyAns_expressSetCmd {a} (h : Tidy s) : TidyAns (expressSetCmd a s) := by
  grind only [expressSetCmd, tidyAns_checked, ok, tidy_modFull, TidyAns]

theorem tidyAns_portStatusCmd {a} (h : Tidy s) : TidyAns (portStatusCmd a s) := by
  grind only [portStatusCmd, tidyAns_checked, ok, TidyAns]

theorem tidyAns_loopbackCmd {a} (h : Tidy s) : TidyAns (loopbackCmd a s) := by
  grind only [loopbackCmd, tidyAns_checked, ok, tidy_modFull, tidy_linkDown, TidyAns]

theorem tidyAns_prbsCmd {a} (h : Tidy s) : TidyAns (prbsCmd a s) := by
  grind only [prbsCmd, tidyAns_checked, setPrbs, ok, tidy_linkDown, tidy_foldl, tidy_mk, TidyAns]

theorem tidyAns_prbsGetCmd {a} (h : Tidy s) : TidyAns (prbsGetCmd a s) := by
  grind only [prbsGetCmd, tidyAns_checked, setPrbs, ok, tidy_foldl, tidy_mk, TidyAns]

/-! ### HARP, MINT and TELLER commands -/

theorem tidyAns_harpLoadCmd {a} (h : Tidy s) : TidyAns (harpLoadCmd a s) := by
  grind only [harpLoadCmd, refuse, modHarp, tidy_writeImage, tidy_foldl, tidy_mk, TidyAns]

theorem tidyAns_harpCommitCmd {a} (h : Tidy s) : TidyAns (harpCommitCmd a s) := by
  grind only [harpCommitCmd, tidyAns_checked, swapBank, modHarp, ok, tidy_foldl, tidy_mk, TidyAns]

theorem tidyAns_harpRaSetCmd {a} (h : Tidy s) : TidyAns (harpRaSetCmd a s) := by
  grind only [harpRaSetCmd, tidyAns_checked, ok, tidy_mk, TidyAns]

theorem tidyAns_harpRaTpidCmd {a} (h : Tidy s) : TidyAns (harpRaTpidCmd a s) := by
  grind only [harpRaTpidCmd, tidyAns_checked, ok, modHarp, tidy_mk, TidyAns]

theorem tidyAns_engineCheckCmd {a} (h : Tidy s) : TidyAns (engineCheckCmd a s) := by
  grind only [engineCheckCmd, tidyAns_checked, tidy_countWaits, modHarp, ok, tidy_mk, TidyAns]

theorem tidyAns_hashSeedCmd {a} (h : Tidy s) : TidyAns (hashSeedCmd a s) := by
  grind only [hashSeedCmd, ok, modHarp, tidy_foldl, tidy_mk, TidyAns]

theorem tidyAns_harpStatusCmd {a} (h : Tidy s) : TidyAns (harpStatusCmd a s) := by
  grind only [harpStatusCmd, tidyAns_checked, ok, TidyAns]

theorem tidyAns_poolSetCmd {a} (h : Tidy s) : TidyAns (poolSetCmd a s) := by
  grind only [poolSetCmd, tidyAns_checked, ok, tidy_changePool, TidyAns]

theorem tidyAns_portMapCmd {a} (h : Tidy s) : TidyAns (portMapCmd a s) := by
  grind only [portMapCmd, tidyAns_checked, ok, tidy_mk, TidyAns]

theorem tidyAns_colorSetCmd {a} (h : Tidy s) : TidyAns (colorSetCmd a s) := by
  grind only [colorSetCmd, tidyAns_checked, ok, tidy_mk, TidyAns]

theorem tidyAns_ecnSetCmd {a} (h : Tidy s) : TidyAns (ecnSetCmd a s) := by
  grind only [ecnSetCmd, tidyAns_checked, ok, tidy_mk, TidyAns]

theorem tidyAns_reclaimCmd {x1} (h : Tidy s) : TidyAns (reclaimCmd x1 s) := by
  grind only [reclaimCmd, tidyAns_checked, tidy_mk, TidyAns]

theorem tidyAns_mintStatusCmd {a} (h : Tidy s) : TidyAns (mintStatusCmd a s) := by
  grind only [mintStatusCmd, tidyAns_checked, ok, TidyAns]

theorem tidyAns_queueSetCmd {a} (h : Tidy s) : TidyAns (queueSetCmd a s) := by
  grind only [queueSetCmd, tidyAns_checked, ok, modTx, tidy_foldl, tidy_mk, TidyAns]

theorem tidyAns_groupSetCmd {a} (h : Tidy s) : TidyAns (groupSetCmd a s) := by
  grind only [groupSetCmd, tidyAns_checked, ok, modTx, tidy_mk, TidyAns]

theorem tidyAns_portSetCmd {a} (h : Tidy s) : TidyAns (portSetCmd a s) := by
  grind only [portSetCmd, tidyAns_checked, ok, modTx, tidy_mk, TidyAns]

theorem tidyAns_classMapCmd {a} (h : Tidy s) : TidyAns (classMapCmd a s) := by
  grind only [classMapCmd, tidyAns_checked, ok, modTx, tidy_mk, TidyAns]

theorem tidyAns_gateSetCmd {a} (h : Tidy s) : TidyAns (gateSetCmd a s) := by
  grind only [gateSetCmd, tidyAns_checked, ok, modTx, tidy_mk, TidyAns]

theorem tidyAns_groupListCmd {lag a} (h : Tidy s) : TidyAns (groupListCmd lag a s) := by
  grind only [groupListCmd, refuse, ok, tidy_setGroup, TidyAns]

theorem tidyAns_memberAddCmd {a} (h : Tidy s) : TidyAns (memberAddCmd a s) := by
  grind only [memberAddCmd, refuse, tidyAns_checked, tidy_mk, TidyAns]

theorem tidyAns_memberRemoveCmd {a} (h : Tidy s) : TidyAns (memberRemoveCmd a s) := by
  grind only [memberRemoveCmd, refuse, tidyAns_checked, tidy_mk, TidyAns]

theorem tidyAns_groupGetCmd {a} (h : Tidy s) : TidyAns (groupGetCmd a s) := by
  grind only [groupGetCmd, refuse, ok, TidyAns]

theorem tidyAns_mirrorSetCmd {a} (h : Tidy s) : TidyAns (mirrorSetCmd a s) := by
  grind only [mirrorSetCmd, tidyAns_checked, ok, modLkp, tidy_foldl, tidy_mk, TidyAns]

theorem tidyAns_telemetrySetCmd {a} (h : Tidy s) : TidyAns (telemetrySetCmd a s) := by
  grind only [telemetrySetCmd, tidyAns_checked, ok, tidy_mk, TidyAns]

theorem tidyAns_gateStatusCmd {a} (h : Tidy s) : TidyAns (gateStatusCmd a s) := by
  grind only [gateStatusCmd, tidyAns_checked, ok, TidyAns]

/-! ### TABLE commands -/

theorem tidyAns_workAns {code res ws} (h : Tidy s) : TidyAns (workAns code res ws s) := by
  unfold workAns
  split <;> [exact h; exact tidy_doWrite h; exact tidy_mk h ..]

theorem tidyAns_codeAns {x : Nat × List TblWrite × State} (h : Tidy x.2.2) : TidyAns (codeAns x) := tidyAns_workAns h

theorem tidyAns_tableDeleteCmd {a} (h : Tidy s) : TidyAns (tableDeleteCmd a s) := by
  grind only [tableDeleteCmd, tidy_deletePlan, tidy_doWrite, tidyAns_workAns, refuse, TidyAns]

theorem tidyAns_tableSearchCmd {a} (h : Tidy s) : TidyAns (tableSearchCmd a s) := by
  grind only [tableSearchCmd, ok, refuse, TidyAns]

theorem tidyAns_bulkCmd {op a} (h : Tidy s) : TidyAns (bulkCmd op a s) := by
  grind only [bulkCmd, refuse, modTbl, tidy_mk, TidyAns]

theorem tidyAns_tableConfigCmd {a} (h : Tidy s) : TidyAns (tableConfigCmd a s) := by
  grind only [tableConfigCmd, tidyAns_checked, ok, modTbl, tidy_mk, TidyAns]

theorem tidyAns_seedSetCmd {a} (h : Tidy s) : TidyAns (seedSetCmd a s) := by
  grind only [seedSetCmd, tidyAns_checked, ok, modTbl, tidy_mk, TidyAns]

theorem tidyAns_walkCmd {cursor mask n sel clear} (h : Tidy s) : TidyAns (walkCmd cursor mask n sel clear s) := by
  grind only [walkCmd, refuse, modTbl, tidy_mk, TidyAns]

theorem tidyAns_tableNextCmd {a} (h : Tidy s) : TidyAns (tableNextCmd a s) := by
  grind only [tableNextCmd, refuse, tidyAns_walkCmd, TidyAns]

theorem tidyAns_tableHitsCmd {a} (h : Tidy s) : TidyAns (tableHitsCmd a s) := by
  grind only [tableHitsCmd, refuse, tidyAns_walkCmd, TidyAns]

theorem tidyAns_walkCloseCmd {a} (h : Tidy s) : TidyAns (walkCloseCmd a s) := by
  grind only [walkCloseCmd, tidyAns_checked, ok, closeWalk, modTbl, tidy_mk, TidyAns]

theorem tidyAns_flushAns {p} (h : Tidy s) : TidyAns (flushAns p s) := by
  grind only [flushAns, tidyAns_workAns, TidyAns]

theorem tidyAns_flushPortCmd {a} (h : Tidy s) : TidyAns (flushPortCmd a s) := by
  grind only [flushPortCmd, tidyAns_checked, tidyAns_flushAns, TidyAns]

theorem tidyAns_flushTableCmd {a} (h : Tidy s) : TidyAns (flushTableCmd a s) := by
  grind only [flushTableCmd, tidyAns_checked, tidyAns_flushAns, TidyAns]

theorem tidyAns_tableStatusCmd {x1} (h : Tidy s) : TidyAns (tableStatusCmd x1 s) := by
  grind only [tableStatusCmd, ok, TidyAns]

/-! ### LEDGER commands -/

theorem tidyAns_ledgerConfigCmd {a} (h : Tidy s) : TidyAns (ledgerConfigCmd a s) := by
  grind only [ledgerConfigCmd, tidyAns_checked, ok, tidy_nameTrigger, tidy_mk, TidyAns]

theorem tidyAns_ledgerKeySetCmd {a} (h : Tidy s) : TidyAns (ledgerKeySetCmd a s) := by
  grind only [ledgerKeySetCmd, tidyAns_checked, ok, tidy_mk, TidyAns]

theorem tidyAns_ledgerAckCmd {a} (h : Tidy s) : TidyAns (ledgerAckCmd a s) := by
  grind only [ledgerAckCmd, tidyAns_checked, ok, tidy_mk, TidyAns]

theorem tidyAns_ledgerReplayCmd {a} (h : Tidy s) : TidyAns (ledgerReplayCmd a s) := by
  grind only [ledgerReplayCmd, tidyAns_checked, ok, tidy_mk, TidyAns]

theorem tidyAns_ledgerRowGetCmd {a} (h : Tidy s) : TidyAns (ledgerRowGetCmd a s) := by
  grind only [ledgerRowGetCmd, tidyAns_checked, TidyAns]

theorem tidyAns_ledgerStatusCmd {x1} (h : Tidy s) : TidyAns (ledgerStatusCmd x1 s) := by
  grind only [ledgerStatusCmd, ok, TidyAns]

/-! ### TIME commands -/

theorem tidyAns_triggerSetCmd {a} (h : Tidy s) : TidyAns (triggerSetCmd a s) := by
  grind only [triggerSetCmd, tidyAns_checked, setTrig, tidy_mk, TidyAns]

theorem tidyAns_timeStatusCmd {x1} (h : Tidy s) : TidyAns (timeStatusCmd x1 s) := by
  grind only [timeStatusCmd, ok, TidyAns]

/-! ### CONSOLE commands -/

theorem tidyAns_clockSetCmd {a} (h : Tidy s) : TidyAns (clockSetCmd a s) := by
  grind only [clockSetCmd, tidyAns_checked, setGroupOf, ok, tidy_armGroup, tidy_mk, TidyAns]

theorem tidyAns_frameSetCmd {a} (h : Tidy s) : TidyAns (frameSetCmd a s) := by
  grind only [frameSetCmd, tidyAns_checked, ok, tidy_armGroup, tidy_foldl, tidy_mk, TidyAns]

theorem tidyAns_inputSetCmd {a} (h : Tidy s) : TidyAns (inputSetCmd a s) := by
  grind only [inputSetCmd, tidyAns_checked, ok, tidy_conSettle, setInput, tidy_mk, TidyAns]

theorem tidyAns_outletSetCmd {a} (h : Tidy s) : TidyAns (outletSetCmd a s) := by
  grind only [outletSetCmd, tidyAns_checked, ok, tidy_conSettle, setOutlet, tidy_mk, TidyAns]

theorem tidyAns_outletGetCmd {a} (h : Tidy s) : TidyAns (outletGetCmd a s) := by
  grind only [outletGetCmd, tidyAns_checked, ok, TidyAns]

theorem tidyAns_cycleSetCmd {a} (h : Tidy s) : TidyAns (cycleSetCmd a s) := by
  grind only [cycleSetCmd, tidyAns_checked, ok, tidy_conSettle, tidy_mk, TidyAns]

theorem tidyAns_outputSetCmd {a} (h : Tidy s) : TidyAns (outputSetCmd a s) := by
  grind only [outputSetCmd, refuse, refuseD, setAct, setFan, ok, tidy_conSettle, tidy_showCommanded, tidy_foldl, tidy_mk, TidyAns]

theorem tidyAns_fanSetCmd {a} (h : Tidy s) : TidyAns (fanSetCmd a s) := by
  grind only [fanSetCmd, tidyAns_checked, ok, tidy_conSettle, setFan, tidy_mk, TidyAns]

theorem tidyAns_tripSetCmd {a} (h : Tidy s) : TidyAns (tripSetCmd a s) := by
  grind only [tripSetCmd, tidyAns_checked, setAct, ok, tidy_conSettle, setOutlet, tidy_foldl, tidy_mk, TidyAns]

theorem tidyAns_tripClearCmd {a} (h : Tidy s) : TidyAns (tripClearCmd a s) := by
  grind only [tripClearCmd, refuseD, refuse, setAct, ok, tidy_foldl, tidy_mk, TidyAns]

theorem tidyAns_consoleEnableCmd {x1} (h : Tidy s) : TidyAns (consoleEnableCmd x1 s) := by
  grind only [consoleEnableCmd, tidyAns_checked, ok, tidy_applySetNow, tidy_mk, TidyAns]

theorem tidyAns_consoleDisableCmd {x1} (h : Tidy s) : TidyAns (consoleDisableCmd x1 s) := by
  grind only [consoleDisableCmd, tidyAns_checked, ok, tidy_mk, TidyAns]

theorem tidyAns_consoleStatusCmd {x1} (h : Tidy s) : TidyAns (consoleStatusCmd x1 s) := by
  grind only [consoleStatusCmd, ok, TidyAns]

/-! ### TUNE commands -/

theorem tidyAns_tuneRunCmd {x1} (h : Tidy s) : TidyAns (tuneRunCmd x1 s) := by
  grind only [tuneRunCmd, tidyAns_checked, modTmp, tidy_mk, TidyAns]

theorem tidyAns_capoSetCmd {a} (h : Tidy s) : TidyAns (capoSetCmd a s) := by
  grind only [capoSetCmd, refuse, modTmp, tidy_requestCapo, tidy_mk, TidyAns]

theorem tidyAns_intervalSetCmd {a} (h : Tidy s) : TidyAns (intervalSetCmd a s) := by
  grind only [intervalSetCmd, tidyAns_checked, ok, modTmp, tidy_mk, TidyAns]

theorem tidyAns_tuneStatusCmd {x1} (h : Tidy s) : TidyAns (tuneStatusCmd x1 s) := by
  grind only [tuneStatusCmd, ok, TidyAns]

theorem tidyAns_tuneHistoryCmd {a} (h : Tidy s) : TidyAns (tuneHistoryCmd a s) := by
  grind only [tuneHistoryCmd, tidyAns_checked, ok, TidyAns]

/-! ### PAIR commands -/

theorem tidyAns_pairConfigCmd {a} (h : Tidy s) : TidyAns (pairConfigCmd a s) := by
  grind only [pairConfigCmd, tidyAns_checked, ok, modPair, tidy_mk, TidyAns]

theorem tidyAns_groupSetPairCmd {a} (h : Tidy s) : TidyAns (groupSetPairCmd a s) := by
  grind only [groupSetPairCmd, tidyAns_checked, modPair, ok, modPort, tidy_foldl, tidy_mk, TidyAns]

theorem tidyAns_pairReleaseCmd {x1} (h : Tidy s) : TidyAns (pairReleaseCmd x1 s) := by
  grind only [pairReleaseCmd, tidyAns_checked, modPair, ok, tidy_releaseClaim, tidy_mk, TidyAns]

theorem tidyAns_pairStatusCmd {x1} (h : Tidy s) : TidyAns (pairStatusCmd x1 s) := by
  grind only [pairStatusCmd, ok, TidyAns]

/-! ### MEM commands -/

theorem tidyAns_remapSetCmd {a} (h : Tidy s) : TidyAns (remapSetCmd a s) := by
  grind only [remapSetCmd, tidyAns_checked, ok, tidy_installRemap, tidy_mk, TidyAns]

theorem tidyAns_scrubSetCmd {a} (h : Tidy s) : TidyAns (scrubSetCmd a s) := by
  grind only [scrubSetCmd, tidyAns_checked, modScrub, ok, tidy_foldl, tidy_mk, TidyAns]

theorem tidyAns_memFillCmd {a} (h : Tidy s) : TidyAns (memFillCmd a s) := by
  grind only [memFillCmd, tidyAns_checked, tidy_mk, TidyAns]

theorem tidyAns_splitSetCmd {a} (h : Tidy s) : TidyAns (splitSetCmd a s) := by
  grind only [splitSetCmd, tidyAns_checked, applySplit, tidy_finishWork, tidy_mk, TidyAns]

theorem tidyAns_memStatusCmd {x1} (h : Tidy s) : TidyAns (memStatusCmd x1 s) := by
  grind only [memStatusCmd, ok, TidyAns]

theorem tidyAns_memLogCmd {a} (h : Tidy s) : TidyAns (memLogCmd a s) := by
  grind only [memLogCmd, tidyAns_checked, ok, TidyAns]

/-! ### POWER commands -/

theorem tidyAns_domainSetCmd {a} (h : Tidy s) : TidyAns (domainSetCmd a s) := by
  grind only [domainSetCmd, tidy_wake, tidyAns_checked, tidy_wakeRequest, ok, modPwr, tidy_mk, TidyAns]

/-- POWER.DOMAIN_SET of a request that stays pending. The constant is unfolded before it meets its operands: the kernel must not evaluate the mask,
a product with 2^32. -/
theorem domainSetDone_of_pending {a : List W32} {k : JobKind} {t : State} (h : domainSetCmd a s = .pending k t) :
    domainSetDone a s = if !requestBusy t then
        (strayClusters s (arg a 0 + arg a 1 * 2 ^ 32)).head?.elim (.reply Code.done [] t) fun d => .reply Code.conflict (details d 0) t
      else .pending k t := by
  have unfolded : domainSetDone = domainSetDone := rfl
  conv at unfolded => rhs; delta domainSetDone
  rw [unfolded]
  beta_reduce
  rw [h]
  generalize strayClusters _ _ = ds
  cases ds <;> rfl

/-- And of one that is answered at once. -/
theorem domainSetDone_of_ne {a : List W32} (h : ∀ k t, domainSetCmd a s ≠ .pending k t) :
    domainSetDone a s = domainSetCmd a s := by
  have unfolded : domainSetDone = domainSetDone := rfl
  conv at unfolded => rhs; delta domainSetDone
  rw [unfolded]
  beta_reduce
  revert h
  cases domainSetCmd a s with
  | pending k t => exact fun h => absurd rfl (h k t)
  | _ => exact fun _ => rfl

theorem tidyAns_domainSetDone {a} (h : Tidy s) : TidyAns (domainSetDone a s) := by
  have asked : TidyAns (domainSetCmd a s) := tidyAns_domainSetCmd h
  by_cases hp : ∃ k t, domainSetCmd a s = .pending k t
  · obtain ⟨k, t, e⟩ := hp
    rw [domainSetDone_of_pending e]
    rw [e] at asked
    refine tidyAns_ite ?_ asked
    generalize strayClusters _ _ = ds
    cases ds <;> exact asked
  · rwa [domainSetDone_of_ne fun k t e => hp ⟨k, t, e⟩]

theorem tidyAns_wakeSetCmd {a} (h : Tidy s) : TidyAns (wakeSetCmd a s) := by
  grind only [wakeSetCmd, tidyAns_checked, ok, modPwr, tidy_mk, TidyAns]

theorem tidyAns_powerStatusCmd {x1} (h : Tidy s) : TidyAns (powerStatusCmd x1 s) := by
  grind only [powerStatusCmd, ok, TidyAns]

theorem tidyAns_portEnableCmd {a} (h : Tidy s) : TidyAns (portEnableCmd a s) := by
  grind only [portEnableCmd, tidyAns_checked, tidy_modFull, tidy_wakeRequest, TidyAns]

/-! ### SYS commands -/

theorem tidyAns_sysResetCmd {a} (h : Tidy s) : TidyAns (sysResetCmd a s) := by
  grind only [sysResetCmd, tidyAns_checked, ok, tidy_mk, TidyAns]

theorem tidyAns_configStoreCmd {a} (h : Tidy s) : TidyAns (configStoreCmd a s) := by
  grind only [configStoreCmd, tidyAns_checked, ok, tidy_mk, TidyAns]

theorem tidyAns_fwLoadCmd {a} (h : Tidy s) : TidyAns (fwLoadCmd a s) := by
  grind only [fwLoadCmd, refuse, refuseD, modPair, tidy_mk, TidyAns]

theorem tidyAns_fwActivateCmd {x1} (h : Tidy s) : TidyAns (fwActivateCmd x1 s) := by
  grind only [fwActivateCmd, tidyAns_checked, tidy_askSwap, TidyAns]

theorem tidyAns_fwCommitCmd {x1} (h : Tidy s) : TidyAns (fwCommitCmd x1 s) := by
  grind only [fwCommitCmd, tidyAns_checked, modPair, tidy_mk, TidyAns]

theorem tidyAns_sysSwapCmd {x1} (h : Tidy s) : TidyAns (sysSwapCmd x1 s) := by
  grind only [sysSwapCmd, tidyAns_checked, tidy_askSwap, TidyAns]

theorem tidyAns_svnLockCmd {x1} (h : Tidy s) : TidyAns (svnLockCmd x1 s) := by
  grind only [svnLockCmd, tidyAns_checked, ok, tidy_mk, TidyAns]

theorem tidyAns_sysInfoCmd {x1} (h : Tidy s) : TidyAns (sysInfoCmd x1 s) := by
  grind only [sysInfoCmd, ok, TidyAns]

theorem tidyAns_fwStatusCmd {x1} (h : Tidy s) : TidyAns (fwStatusCmd x1 s) := by
  grind only [fwStatusCmd, ok, TidyAns]

/-! ### TALLY commands -/

theorem tidyAns_tallySelectCmd {a} (h : Tidy s) : TidyAns (tallySelectCmd a s) := by
  grind only [tallySelectCmd, tidyAns_checked, ok, tidy_mk, TidyAns]

theorem tidyAns_tallyUnprivCmd {a} (h : Tidy s) : TidyAns (tallyUnprivCmd a s) := by
  have set (x : TalState) : TidyAns (ok [] { s with tal := x }) := tidy_mk h ..
  unfold tallyUnprivCmd
  exact tidyAns_checked (set _) h

theorem tidyAns_tallySweepSetCmd {a} (h : Tidy s) : TidyAns (tallySweepSetCmd a s) := by
  grind only [tallySweepSetCmd, tidyAns_checked, tidy_configStream, ok, tidy_mk, TidyAns]

theorem tidyAns_tallyCaptureCmd {a} (h : Tidy s) : TidyAns (tallyCaptureCmd a s) := by
  grind only [tallyCaptureCmd, tidyAns_checked, ok, tidy_configStream, TidyAns]

theorem tidyAns_tallyStatusCmd {x1} (h : Tidy s) : TidyAns (tallyStatusCmd x1 s) := by
  grind only [tallyStatusCmd, ok, TidyAns]

end Sys2Proof.Proofs.TidyAnswers
end

section
/-! SUPPORT. Every command, and the idle block, keeps host memory, counters and latches in canonical form. -/
namespace Sys2Proof.Proofs.CanonicalForm
open Sys2Proof Sys2Proof.Machine Sys2Proof.Laws Sys2Proof.Proofs.Tidiness Sys2Proof.Proofs.TidyFrames Sys2Proof.Proofs.TidyBlocks
open Sys2Proof.Proofs.TidyDevice Sys2Proof.Proofs.TidyRegisters Sys2Proof.Proofs.TidyAnswers

variable {s : State}

/-! ### The shared frames of commands -/

/-- The next state, if there is one, is tidy. -/
def TidyOut : Out → Prop
  | .next t => Tidy t
  | _ => True

theorem tidyOut_onUnit {b : Bool} (h : Tidy s) : TidyOut (onUnit b s) := by cases b <;> [trivial; exact h]

theorem tidyOut_guard {b : Bool} (h : Tidy s) : TidyOut (if b then .next s else .fault .noSuchUnit) := tidyOut_onUnit h

theorem tidyOut_onChit {n} {f : Nat → State → State} (hf : ∀ {s}, Tidy s → Tidy (f n s)) (h : Tidy s) : TidyOut (onChit n f s) :=
  tidyOut_onUnit (tidy_ite (hf h) h)

/-- A TCS command is tidy when what its own rules answer is (R366, R380). -/
theorem tidyOut_tcs {code v args} {body : List W32 → State → Ans} (hb : ∀ {s}, Tidy s → TidyAns (body args s)) (h : Tidy s) :
    TidyOut (tcsCommand code body v args s) := by
  have answered := hb h
  unfold tcsCommand TidyOut
  split
  · rename_i t e
    refine canonical_tcsCommand (body := body) (fun c res u hu => ?_) (fun k u hu => ?_) h e <;> rw [hu] at answered <;> exact answered
  · trivial

/-- And a TABLE command, which may wait for its turn. -/
theorem tidyOut_table {code v args} {body : List W32 → State → Ans} (hb : ∀ {s}, Tidy s → TidyAns (body args s)) (h : Tidy s) :
    TidyOut (tableCommand code body v args s) :=
  tidyOut_tcs (fun h => tidyAns_ite (hb h) trivial) h

theorem tidyOut_diagEcho {v bytes} (h : Tidy s) : TidyOut (execDiagEcho v bytes s) := by
  unfold execDiagEcho
  split
  · split
    · split <;> [exact tidy_answer h; exact h]
    · exact h
  · trivial

/-- A Harp instruction is tidy when its own effect is (R86, R95, R96, R110). -/
theorem tidyOut_harpIssue {th i} {eff : Nat → Chit → Thread → State → State} (he : ∀ {n c t s}, Tidy s → Tidy (eff n c t s))
    (h : Tidy s) : TidyOut (harpIssue th i eff s) := by
  unfold harpIssue
  grind only [TidyOut, tidy_voidChit, modHarp, tidy_countPoison, tidy_bump, tidy_setThread, noteIssue, tidy_mk]

/-- What DONE does at its issue. -/
theorem tidy_doneEffect {th : Thr} {n} {t : Thread} (h : Tidy s) :
    Tidy (match t.record with
      | some r => endThread th.slice n r t s
      | none => voidChit n 6 (bump (Ctr.hrpNoEmit th.slice) s)) := by
  split <;> [exact tidy_endThread h; exact tidy_voidChit (tidy_bump h)]

/-! ### Every command -/

/-- Every command keeps the form. -/
theorem tidyOut_exec (i : Instr) (h : Tidy s) : TidyOut (exec i s) := by
  unfold exec
  cases i with
  | sysReset => exact tidyOut_tcs tidyAns_sysResetCmd h
  | sysSplitSet => exact tidyOut_tcs tidyAns_splitSetCmd h
  | sysConfigStore => exact tidyOut_tcs tidyAns_configStoreCmd h
  | sysFwLoad => exact tidyOut_tcs tidyAns_fwLoadCmd h
  | sysFwActivate => exact tidyOut_tcs tidyAns_fwActivateCmd h
  | sysFwCommit => exact tidyOut_tcs tidyAns_fwCommitCmd h
  | sysSwap => exact tidyOut_tcs tidyAns_sysSwapCmd h
  | sysSvnLock => exact tidyOut_tcs tidyAns_svnLockCmd h
  | sysInfo => exact tidyOut_tcs tidyAns_sysInfoCmd h
  | sysFwStatus => exact tidyOut_tcs tidyAns_fwStatusCmd h
  | portConfig => exact tidyOut_tcs tidyAns_portConfigCmd h
  | portEnable => exact tidyOut_tcs tidyAns_portEnableCmd h
  | portDisable => exact tidyOut_tcs tidyAns_portDisableCmd h
  | portLaneMap => exact tidyOut_tcs tidyAns_laneMapCmd h
  | portStationSet => exact tidyOut_tcs tidyAns_stationSetCmd h
  | portFlowctlSet => exact tidyOut_tcs tidyAns_flowctlSetCmd h
  | portPreemptSet => exact tidyOut_tcs tidyAns_preemptSetCmd h
  | portDampSet => exact tidyOut_tcs tidyAns_dampSetCmd h
  | portLpiSet => exact tidyOut_tcs tidyAns_lpiSetCmd h
  | portExpressSet => exact tidyOut_tcs tidyAns_expressSetCmd h
  | portStatus => exact tidyOut_tcs tidyAns_portStatusCmd h
  | harpLoad => exact tidyOut_tcs tidyAns_harpLoadCmd h
  | harpCommit => exact tidyOut_tcs tidyAns_harpCommitCmd h
  | harpRaSet => exact tidyOut_tcs tidyAns_harpRaSetCmd h
  | harpRaTpid => exact tidyOut_tcs tidyAns_harpRaTpidCmd h
  | harpEngineCheck => exact tidyOut_tcs tidyAns_engineCheckCmd h
  | harpHashSeed => exact tidyOut_tcs tidyAns_hashSeedCmd h
  | harpStatus => exact tidyOut_tcs tidyAns_harpStatusCmd h
  | classRangeSet => exact tidyOut_tcs tidyAns_rangeSet h
  | classRulesSet => exact tidyOut_tcs tidyAns_rulesSet h
  | classTmapSet => exact tidyOut_tcs tidyAns_tmapSet h
  | classRulesGet => exact tidyOut_tcs tidyAns_rulesGet h
  | classStatus => exact tidyOut_tcs tidyAns_classStatusCmd h
  | tableConfig => exact tidyOut_table tidyAns_tableConfigCmd h
  | tableSeedSet => exact tidyOut_table tidyAns_seedSetCmd h
  | tableInsert => exact tidyOut_table (body := fun a s => codeAns (insertPlan a s)) (fun h => tidyAns_codeAns (tidy_insertPlan h)) h
  | tableDelete => exact tidyOut_table tidyAns_tableDeleteCmd h
  | tableSearch => exact tidyOut_table tidyAns_tableSearchCmd h
  | tableNext => exact tidyOut_table tidyAns_tableNextCmd h
  | tableHits => exact tidyOut_table tidyAns_tableHitsCmd h
  | tableWalkClose => exact tidyOut_table tidyAns_walkCloseCmd h
  | tableFlushPort => exact tidyOut_table tidyAns_flushPortCmd h
  | tableFlushTable => exact tidyOut_table tidyAns_flushTableCmd h
  | tableInsertBulk | tableDeleteBulk | tableSearchBulk => exact tidyOut_table tidyAns_bulkCmd h
  | tableStatus => exact tidyOut_table tidyAns_tableStatusCmd h
  | meterSet => exact tidyOut_tcs tidyAns_meterSet h
  | meterProfileSet => exact tidyOut_tcs tidyAns_profileSet h
  | meterTenantSet => exact tidyOut_tcs tidyAns_tenantSet h
  | meterGet => exact tidyOut_tcs tidyAns_meterGet h
  | meterTenantGet => exact tidyOut_tcs tidyAns_tenantGet h
  | tellerQueueSet => exact tidyOut_tcs tidyAns_queueSetCmd h
  | tellerGroupSet => exact tidyOut_tcs tidyAns_groupSetCmd h
  | tellerPortSet => exact tidyOut_tcs tidyAns_portSetCmd h
  | tellerClassMap => exact tidyOut_tcs tidyAns_classMapCmd h
  | tellerGateSet => exact tidyOut_tcs tidyAns_gateSetCmd h
  | tellerLagSet | tellerEcmpSet => exact tidyOut_tcs tidyAns_groupListCmd h
  | tellerMemberAdd => exact tidyOut_tcs tidyAns_memberAddCmd h
  | tellerMemberRemove => exact tidyOut_tcs tidyAns_memberRemoveCmd h
  | tellerMirrorSet => exact tidyOut_tcs tidyAns_mirrorSetCmd h
  | tellerTelemetrySet => exact tidyOut_tcs tidyAns_telemetrySetCmd h
  | tellerGateStatus => exact tidyOut_tcs tidyAns_gateStatusCmd h
  | tellerGroupGet => exact tidyOut_tcs tidyAns_groupGetCmd h
  | mintPoolSet => exact tidyOut_tcs tidyAns_poolSetCmd h
  | mintPortMap => exact tidyOut_tcs tidyAns_portMapCmd h
  | mintColorSet => exact tidyOut_tcs tidyAns_colorSetCmd h
  | mintEcnSet => exact tidyOut_tcs tidyAns_ecnSetCmd h
  | mintReclaim => exact tidyOut_tcs tidyAns_reclaimCmd h
  | mintStatus => exact tidyOut_tcs tidyAns_mintStatusCmd h
  | ledgerConfig => exact tidyOut_tcs tidyAns_ledgerConfigCmd h
  | ledgerKeySet => exact tidyOut_tcs tidyAns_ledgerKeySetCmd h
  | ledgerAck => exact tidyOut_tcs tidyAns_ledgerAckCmd h
  | ledgerReplay => exact tidyOut_tcs tidyAns_ledgerReplayCmd h
  | ledgerRowGet => exact tidyOut_tcs tidyAns_ledgerRowGetCmd h
  | ledgerStatus => exact tidyOut_tcs tidyAns_ledgerStatusCmd h
  | timeTriggerSet => exact tidyOut_tcs tidyAns_triggerSetCmd h
  | timeStatus => exact tidyOut_tcs tidyAns_timeStatusCmd h
  | consoleClockSet => exact tidyOut_tcs tidyAns_clockSetCmd h
  | consoleFrameSet => exact tidyOut_tcs tidyAns_frameSetCmd h
  | consoleInputSet => exact tidyOut_tcs tidyAns_inputSetCmd h
  | consoleOutletSet => exact tidyOut_tcs tidyAns_outletSetCmd h
  | consoleOutletGet => exact tidyOut_tcs tidyAns_outletGetCmd h
  | consoleCycleSet => exact tidyOut_tcs tidyAns_cycleSetCmd h
  | consoleOutputSet => exact tidyOut_tcs tidyAns_outputSetCmd h
  | consoleFanSet => exact tidyOut_tcs tidyAns_fanSetCmd h
  | consoleTripSet => exact tidyOut_tcs tidyAns_tripSetCmd h
  | consoleTripClear => exact tidyOut_tcs tidyAns_tripClearCmd h
  | consoleEnable => exact tidyOut_tcs tidyAns_consoleEnableCmd h
  | consoleDisable => exact tidyOut_tcs tidyAns_consoleDisableCmd h
  | consoleStatus => exact tidyOut_tcs tidyAns_consoleStatusCmd h
  | pairConfig => exact tidyOut_tcs tidyAns_pairConfigCmd h
  | pairGroupSet => exact tidyOut_tcs tidyAns_groupSetPairCmd h
  | pairRelease => exact tidyOut_tcs tidyAns_pairReleaseCmd h
  | pairStatus => exact tidyOut_tcs tidyAns_pairStatusCmd h
  | powerDomainSet => exact tidyOut_tcs tidyAns_domainSetDone h
  | powerWakeSet => exact tidyOut_tcs tidyAns_wakeSetCmd h
  | powerStatus => exact tidyOut_tcs tidyAns_powerStatusCmd h
  | tuneRun => exact tidyOut_tcs tidyAns_tuneRunCmd h
  | tuneCapoSet => exact tidyOut_tcs tidyAns_capoSetCmd h
  | tuneIntervalSet => exact tidyOut_tcs tidyAns_intervalSetCmd h
  | tuneStatus => exact tidyOut_tcs tidyAns_tuneStatusCmd h
  | tuneHistory => exact tidyOut_tcs tidyAns_tuneHistoryCmd h
  | memRemapSet => exact tidyOut_tcs tidyAns_remapSetCmd h
  | memScrubSet => exact tidyOut_tcs tidyAns_scrubSetCmd h
  | memFill => exact tidyOut_tcs tidyAns_memFillCmd h
  | memStatus => exact tidyOut_tcs tidyAns_memStatusCmd h
  | memLog => exact tidyOut_tcs tidyAns_memLogCmd h
  | tallySelect => exact tidyOut_tcs tidyAns_tallySelectCmd h
  | tallySweepSet => exact tidyOut_tcs tidyAns_tallySweepSetCmd h
  | tallyUnprivSet => exact tidyOut_tcs tidyAns_tallyUnprivCmd h
  | tallyCaptureSet => exact tidyOut_tcs tidyAns_tallyCaptureCmd h
  | tallyStatus => exact tidyOut_tcs tidyAns_tallyStatusCmd h
  | diagLoopback => exact tidyOut_tcs tidyAns_loopbackCmd h
  | diagPrbs => exact tidyOut_tcs tidyAns_prbsCmd h
  | diagPrbsGet => exact tidyOut_tcs tidyAns_prbsGetCmd h
  | diagEcho => exact tidyOut_diagEcho h
  | commandComplete => exact tidyOut_guard (tidy_commandComplete (tidy_dozeFrom (tidy_lastWork h)))
  | mailboxDoorbell v => cases v <;> [exact tidyOut_guard (tidy_mailboxDoorbell h); exact tidyOut_guard (tidy_mailboxDoorbell h); trivial]
  | dsDoorbell => exact tidy_fullWrite (fun _ h => tidy_hearBell (tidy_writeDsDb h)) h
  | usConsWrite => exact tidy_fullWrite (fun _ => tidy_writeUsCons) h
  | arenaRelease => exact tidy_fullWrite (fun _ => tidy_writeRxaRel) h
  | ringEnable | ringDisable => exact tidy_ite (tidy_writeUsCfg h) (tidy_writeDsCfg h)
  | arenaEnable | arenaDisable => exact tidy_writeRxaCfg h
  | exportConsWrite => exact tidyOut_onUnit (tidy_unlessOff (fun _ => tidy_writeExpCons) h)
  | timeNowRead => exact tidy_timeNowRead h
  | tsqMetaRead => exact tidyOut_onUnit (tidy_tsqMetaRead h)
  | evMetaRead => exact tidyOut_onUnit (tidy_evMetaRead h)
  | ppsInRead | incrCommit | stepArm | peerRstReq => exact tidy_mk h ..
  | counterLowRead fn => cases fn <;> [exact tidyOut_onUnit (tidy_f0Read h); exact tidyOut_onUnit (tidy_f1Read h)]
  | hwmClr =>
    refine tidyOut_onUnit (tidy_unlessOff (fun _ h => ?_) h)
    exact tidy_mk h ..
  | peerWakeReq =>
    refine tidy_ite ?_ h
    exact tidy_mk h ..
  | padRelease => exact tidy_releasePads h
  | blockResetHold | blockResetRelease => exact tidy_writeBlockRst h
  | registerWrite => exact tidyOut_onUnit (tidy_registerWrite h)
  | nop =>
    refine tidyOut_harpIssue ?_ h
    exact id
  | add | sub | andR | orR | xorR | shl | shr | addi | andi | ori | xori | shli | shri | movi | dep => exact tidyOut_harpIssue tidy_alu h
  | xtr =>
    refine tidyOut_harpIssue ?_ h
    exact fun h => tidy_ite (tidy_voidChit (tidy_countPoison h)) (tidy_setThread h)
  | jmp | beq | bne | bltu | bgeu | bbs | bbc | bmiss => exact tidyOut_harpIssue tidy_branchTo h
  | lkp | rng | rds | hsh | emit =>
    refine tidyOut_harpIssue ?_ h
    exact tidy_setThread
  | done =>
    refine tidyOut_harpIssue ?_ h
    exact tidy_doneEffect
  | drop =>
    refine tidyOut_harpIssue ?_ h
    exact tidy_voidChit
  | trap =>
    refine tidyOut_harpIssue ?_ h
    exact tidy_endThread
  | lookupResult => exact tidyOut_onUnit (tidy_lookupResult h)
  | rangeResult => exact tidyOut_onChit tidy_rangeResult h
  | frameStart => exact tidyOut_guard (tidy_ite h (tidy_frameStart h))
  | preDecode => exact tidyOut_onChit tidy_preDecode h
  | runAheadResult => exact tidyOut_onChit tidy_runAheadResult h
  | expressDecision => exact tidyOut_onChit tidy_expressDecision h
  | cellAllocate => exact tidyOut_onChit tidy_cellAllocate h
  | frameEnd => exact tidyOut_onUnit (tidy_ite (tidy_frameEnd h) h)
  | fragmentReceive => exact tidyOut_guard (tidy_fragmentReceive h)
  | harpDispatch => exact tidyOut_onUnit (tidy_harpDispatch h)
  | harpSwap =>
    refine tidyOut_onUnit (tidy_ite (tidy_leaveJobs ?_) h)
    exact tidy_mk h ..
  | classUpdateBoundary => exact tidyOut_onUnit (tidy_ite (tidy_leaveJobs (tidy_applySet h)) h)
  | engineFault => exact tidyOut_onUnit (tidy_engineFault h)
  | engineCheckDone => exact tidyOut_onUnit (tidy_engineCheckDone h)
  | classify => exact tidyOut_onChit tidy_classify h
  | police => exact tidyOut_onChit tidy_police h
  | enqueueRequest => exact tidyOut_onChit tidy_enqueueRequest h
  | tellerEnqueue => exact tidyOut_onChit tidy_tellerEnqueue h
  | trapAccept => exact tidyOut_onChit tidy_trapAccept h
  | tellerSelect => exact tidyOut_onUnit (tidy_tellerSelect h)
  | egressFcs => exact tidyOut_onUnit (tidy_egressFcs h)
  | copyEnd => exact tidyOut_onUnit (tidy_copyEnd h)
  | txUnderrun => exact tidyOut_onUnit (tidy_txUnderrun h)
  | injectFrame => exact tidyOut_onChit tidy_injectFrame h
  | pauseReceive => exact tidyOut_onUnit (tidy_pauseReceive h)
  | pauseExpire => exact tidyOut_onUnit (tidy_pauseExpire h)
  | xoffRefresh => exact tidyOut_onUnit (tidy_xoffRefresh h)
  | pwdFire => exact tidyOut_onUnit (tidy_pwdFire h)
  | pwdRestore => exact tidyOut_onUnit (tidy_pwdRestore h)
  | verifyTimeout => exact tidyOut_onUnit (tidy_verifyTimeout h)
  | verifyReceive => exact tidyOut_onUnit (tidy_verifyReceive h)
  | respondReceive => exact tidyOut_onUnit (tidy_respondReceive h)
  | dampCapabilitySend => exact tidyOut_onUnit (tidy_dampCapabilitySend h)
  | dampCapabilityReceive => exact tidyOut_onUnit (tidy_dampCapabilityReceive h)
  | dampWindowEnd => exact tidyOut_onUnit (tidy_dampWindowEnd h)
  | shedRequestReceive => exact tidyOut_onUnit (tidy_shedRequestReceive h)
  | shedGrantReceive => exact tidyOut_onUnit (tidy_shedGrantReceive h)
  | shedGrantTimeout | learnFilterExpire => exact tidyOut_onUnit (tidy_mk h ..)
  | switchMarkerReceive => exact tidyOut_onUnit (tidy_switchMarkerReceive h)
  | realignTimeout => exact tidyOut_onUnit (tidy_realignTimeout h)
  | lockReportReceive => exact tidyOut_onUnit (tidy_lockReportReceive h)
  | lpiEntry => exact tidyOut_onUnit (tidy_lpiEntry h)
  | lpiWakeDone => exact tidyOut_onUnit (tidy_lpiWakeDone h)
  | linkUp => exact tidyOut_onUnit (tidy_linkUp h)
  | linkDown => exact tidyOut_onUnit (tidy_linkDown h)
  | prbsLock => exact tidyOut_onUnit (tidy_prbsLock h)
  | prbsLockLoss => exact tidyOut_onUnit (tidy_prbsLockLoss h)
  | gateCycleStart => exact tidyOut_onUnit (tidy_gateHold (tidy_gateCycle h))
  | gateEntryEnd => exact tidyOut_onUnit (tidy_gateHold (tidy_gateEntry h))
  | telemetrySample => exact tidyOut_onUnit (tidy_telemetrySample h)
  | treasurySweep => exact tidy_treasurySweep h
  | meterRefresh => exact tidyOut_onUnit (tidy_meterRefresh h)
  | walkTimeout => exact tidy_walkTimeout h
  | tablePoisonRepair => exact tidyOut_onUnit (tidy_tablePoisonRepair h)
  | mintReclaimDone => exact tidy_reclaimDone h
  | ledgerEpochBoundary => exact tidy_ledgerBoundary h
  | graceWindowEnd => exact tidy_graceEnd h
  | bankSeal => exact tidy_bankSeal h
  | drainStart => exact tidy_drainStart h
  | drainResume => exact tidy_drainResume h
  | drainDone => exact tidy_drainDone h
  | tick => exact tidy_alertUpdate (tidy_drainLog (tidy_tick h))
  | triggerFire => exact tidyOut_onUnit (tidy_triggerFire h)
  | ppsWidthEnd => exact tidy_ppsWidthEnd h
  | ppsInEdge => exact tidy_ite (tidy_ppsInEdge h) h
  | eventInputEdge => exact tidyOut_onUnit (tidy_eventEdge h)
  | pllLock => exact tidy_pllLock h
  | decimatorStart => exact tidyOut_onUnit (tidy_decimatorStart h)
  | decimatorOutput => exact tidyOut_onUnit (tidy_decimatorOutput h)
  | consoleFrameCheck => exact tidy_frameCheck h
  | consoleCycleStart => exact tidy_consoleCycle h
  | controlTaskCommit => exact tidy_taskCommit h
  | inputFaultOnset => exact tidyOut_onUnit (tidy_faultOnset h)
  | inputFaultEnd => exact tidyOut_onUnit (tidy_faultEnd h)
  | tachEdge => exact tidyOut_onUnit (tidy_tachEdge h)
  | tachStall => exact tidyOut_onUnit (tidy_tachStall h)
  | tempoWindowEnd => exact tidyOut_onUnit (tidy_windowEnd h)
  | avsWrite => exact tidy_avsWrite h
  | avsReadback => exact tidy_avsReadback h
  | tuningPass => exact tidy_tuningPass h
  | stressUpdate => exact tidy_stressUpdate h
  | hostLinkReset => exact tidy_hostInterfaceReset h
  | f1Flr => exact tidy_f1Reset h
  | dsChainFetch => exact tidy_dsFetch h
  | fence => exact tidy_fence h
  | dmaError => exact tidy_ite (tidy_dmaFail h) h
  | upstreamPost => exact tidy_upstreamPost h
  | usIrqTimer => exact tidy_usIrqTimer h
  | clusterWatchdogExpire => exact tidy_watchdogExpire h
  | switchOver => exact tidy_ite (tidy_switchOver h) h
  | switchOverDone => exact tidy_switchOverDone h
  | standbyReadySet => exact tidy_standbyReady h
  | checkpoint => exact tidy_checkpoint h
  | roleSwap => exact tidy_roleSwap h
  | roleSwapDone => exact tidy_roleSwapDone h
  | roleSwapFail => exact tidy_roleSwapFail h
  | claimRequest => exact tidy_claimRequest h
  | claimConfirm => exact tidy_claimConfirm h
  | peerClaimEdge => exact tidy_peerClaimEdge h
  | ownerWatchdogLapse => exact tidy_watchdogLapse h
  | heartbeatSend => exact tidy_heartbeatSend h
  | heartbeatReceive => exact tidy_heartbeatReceive h
  | mirrorReceive => exact tidy_mirrorReceive h
  | heartbeatLoss => exact tidy_heartbeatLoss h
  | holdoffExpire => exact tidy_holdoffExpire h
  | peerResetRequest => exact tidy_peerResetRequest h
  | groupMessage => exact tidyOut_onUnit (tidy_groupMessage h)
  | leaseRenew => exact tidyOut_onUnit (tidy_leaseRenew h)
  | leaseExpire => exact tidyOut_onUnit (tidy_leaseExpire h)
  | powerOn | rstColdN => exact tidy_coldAssert h
  | rstWarmN | f0FunctionLevelReset => exact tidy_warmAssert h
  | resetReleaseStep => exact tidy_releaseStep h
  | ddrTrainingDone => exact tidyOut_onUnit (tidy_ddrTrainingDone h)
  | fillDone => exact tidy_fillDone h
  | sliceTransition => exact tidyOut_onUnit (tidy_sliceTransition h)
  | sliceToPlain => exact tidyOut_onUnit (tidy_sliceToPlain h)
  | domainDrainDone => exact tidyOut_onUnit (tidy_domainDrainDone h)
  | domainDrainTimeout => exact tidyOut_onUnit (tidy_domainDrainTimeout h)
  | domainWakeDone => exact tidyOut_onUnit (tidy_domainWakeDone h)
  | wake => exact tidyOut_onUnit (tidy_wake h)
  | dozeEntry => exact tidy_dozeEntry h
  | scrubRead => exact tidyOut_onUnit (tidy_scrubRead h)
  | voteRepair => exact tidyOut_onUnit (tidy_bumpIf h)
  | remapInstall => exact tidyOut_onUnit (tidy_remapInstall h)
  | tallySweep => exact tidy_tallySweep h
  | tallyExport => exact tidyOut_onUnit (tidy_tallyExport h)
  | pcieTunnelEstablished => exact tidy_tunnelEstablished h
  | resetSourceRelease => exact tidyOut_onUnit (tidy_sourceRelease h)
  | sysResetAssert => exact tidy_sysResetAssert h
  | titimusBootComplete => exact tidy_bootComplete h
  | clusterWatchdogFeed => exact tidy_watchdogFeed h
  | ownerWatchdogFeed => exact tidy_ownerFeed h
  | shaperRefill => exact tidyOut_onUnit (tidy_shaperRefill h)
  | mirroredSetStale => exact tidy_mirroredStale h

/-- Settles O5: the command at the front keeps the form, and so does an idle cycle. -/
theorem everyStepKeepsCanonicalForm : Obligations.EveryStepKeepsCanonicalForm := by
  unfold Obligations.EveryStepKeepsCanonicalForm
  intro s t h e
  unfold step at e
  split at e
  · cases e; exact tidy_idle h
  · rename_i c rest _
    have done := tidyOut_exec c (s := { s with pending := rest }) (tidy_mk h ..)
    rw [e] at done
    exact done

end Sys2Proof.Proofs.CanonicalForm
end

section
/-! SUPPORT. The reset state, and how a step takes the front command or idles (log 5). -/
namespace Sys2Proof.Proofs.ResetAndStep
open Sys2Proof Sys2Proof.Machine Sys2Proof.Laws

variable {s : State}

/-! ### Idle cycles -/

/-- Before device time runs, an idle cycle only counts (R421). -/
theorem idleCycle_stopped (h : s.dev.step < 2) : idleCycle s = { s with cycles := s.cycles + 1 } := by
  have stopped : timeRuns s = false := by simp [timeRuns]; omega
  rw [idleCycle, stopped]
  rfl

/-- A group with no move to make and none under way stays as it is. -/
theorem writeBucket_still {g : Group} (hm : g.moves = []) (hl : g.leaving = none) : writeBucket g = g := by
  unfold writeBucket
  simp [hm, writeBucket.endChange, hl]

/-- So does a table of such groups. -/
theorem map_writeBucket_still {gs : Tab Group} (h : ∀ e ∈ gs, e.2.moves = [] ∧ e.2.leaving = none) :
    gs.map (fun e => (e.1, writeBucket e.2)) = gs := by
  refine (List.map_congr_left fun e he => ?_).trans (List.map_id gs)
  rw [writeBucket_still (h e he).1 (h e he).2]
  rfl

/-- A table engine with nothing to do rests. -/
theorem engineStep_rests (h : s.tbl.work = none) : engineStep s = s := by
  unfold engineStep
  rw [h]

/-- Where neither time, groups nor the table engine have anything to do, only one clock cycle passes. -/
theorem idle_rests (hs : s.dev.step < 2) (hg : ∀ e ∈ s.groups, e.2.moves = [] ∧ e.2.leaving = none) (hf : s.tbl.fixup = [])
    (hw : s.tbl.work = none) : idle s = { s with cycles := s.cycles + 1 } := by
  unfold idle
  rw [idleCycle_stopped hs]
  have rests := engineStep_rests (s := { s with cycles := s.cycles + 1 }) hw
  simp [map_writeBucket_still hg, hf, rests]

/-! ### The statements -/

/-- Settles O1: a step is defined by the queue, and an idle block with no work only counts the cycle. -/
theorem stepRunsFrontCommand : Obligations.StepRunsFrontCommand := by
  unfold Obligations.StepRunsFrontCommand
  refine ⟨fun c rest s => rfl, fun s hq => ?_⟩
  have idles : step s = .next (idle s) := by rw [step, hq]
  exact ⟨⟨_, idles⟩, fun hs hg hf hw => by rw [idles, idle_rests hs hg hf hw]⟩

/-- Settles O3: every field of the reset state is its default. -/
theorem resetHoldsTheSpecifiedValues : Obligations.ResetHoldsTheSpecifiedValues := by
  unfold Obligations.ResetHoldsTheSpecifiedValues
  refine ⟨rfl, rfl, rfl, rfl, rfl, rfl, rfl, rfl, fun t => rfl, rfl, rfl, rfl, rfl, rfl, rfl, rfl, rfl, rfl, rfl, ?_⟩
  exact ⟨fun c => rfl, fun a => rfl, fun n => rfl, fun p => rfl, fun t => rfl⟩

/-- Settles O4: at reset the three tables are empty. -/
theorem canonicalAtReset : Obligations.CanonicalAtReset := by
  unfold Obligations.CanonicalAtReset
  exact ⟨rfl, rfl, rfl⟩

end Sys2Proof.Proofs.ResetAndStep
end

section
/-! SUPPORT. The SYS commands, DIAG.ECHO (Table 16-8), and the completion of a command (R389). -/
namespace Sys2Proof.Proofs.SysCommands
open Sys2Proof Sys2Proof.Machine Sys2Proof.Laws Sys2Proof.Proofs.PortSettings Sys2Proof.Proofs.PortLife

variable {s : State} {v : Via} {r : Request} {a : List W32}

/-! ### Commands answered at once -/

/-- A command whose rules answer DONE without words is answered so in its channel. -/
theorem handed_ok {t : State} {code : Nat} {body : List W32 → State → Ans} (h : Handed s v code a r) (hb : body a s = ok [] t) :
    tcsCommand code body v a s = .next (answer v r Code.done [] t) := by
  rw [tcsCommand_handed h, hb]
  rfl

/-- SYS.RESET in MODE 1 arms the warm reset, unless it is armed already (R390). -/
theorem sysResetCmd_ok (s : State) :
    sysResetCmd [1#32] s = ok [] { s with tcs := { s.tcs with resetAt := some (s.tcs.resetAt.getD (s.cycles + 1000000)) } } :=
  checked_pass (by simp [arg]) _ s

/-- SYS.CONFIG_STORE stores the items of its mask (R391). -/
theorem configStoreCmd_ok {m : W32} (hm : m.toNat ≤ 7) (hf : s.tcs.fwBusy = false) :
    configStoreCmd [m] s = ok [] { s with flash := { s.flash with
      reqCapo := if bit m.toNat 0 then some s.tmp.reqCapo else s.flash.reqCapo
      split := if bit m.toNat 1 then some s.mint.split else s.flash.split
      tune := if bit m.toNat 2 then some (s.tmp.interval, s.tmp.alertEn) else s.flash.tune } } := by
  unfold configStoreCmd
  dsimp only
  rw [checked_pass (by simpa [arg, hf] using hm)]
  rfl

/-- SYS.SVN_LOCK raises MIN_SVN to the owner's SVN outside a trial, with a standby that is not behind (R395). -/
theorem svnLockCmd_ok (ht : s.tcs.trial = false) (hb : ∀ i, s.tcs.standby = some i → s.tcs.image.svn ≤ i.svn) (hs : s.tcs.image.svn ≤ 64) :
    svnLockCmd [] s = ok [w32 (max s.dev.fuses.minSvn s.tcs.image.svn)]
      { s with dev := { s.dev with fuses := { s.dev.fuses with minSvn := max s.dev.fuses.minSvn s.tcs.image.svn } } } := by
  unfold svnLockCmd
  cases h : s.tcs.standby with
  | none => exact checked_pass (by simpa [ht] using hs) _ s
  | some i => exact checked_pass (by simpa [ht] using ⟨hb i h, hs⟩) _ s

/-- A word's result bytes are its number's. -/
theorem bytesOf_word (n : Nat) : bytesOf [w32 n] = leBytes 4 (n % 2 ^ 32) := by
  simp [bytesOf]

/-- The words of SYS.INFO (Table 16-6). -/
def infoWords (s : State) : List W32 :=
  [packW [(0, 1), (8, (personaWord s).toNat), (16, s.pair.owner), (17, b2n (standbyOk s)), (18, b2n s.tcs.trial)],
    w32 s.tcs.image.version, w32 s.tcs.image.build, w32 (match s.tcs.standby with | some i => i.version | none => 0),
    packW [(0, s.tcs.image.svn), (16, s.dev.fuses.minSvn)], 0x1FF#32, 0#32]

/-- The words of SYS.FW_STATUS: three a slot, the preferred slot, TRIAL. -/
def fwStatusWords (s : State) : List W32 :=
  [w32 s.flash.slot0.version, w32 s.flash.slot0.svn, w32 (b2n (imageValid s s.flash.slot0)),
    w32 s.flash.slot1.version, w32 s.flash.slot1.svn, w32 (b2n (imageValid s s.flash.slot1)), w32 (preferredSlot s), w32 (b2n s.tcs.trial)]

/-- SYS.INFO returns its words and changes nothing. -/
theorem sysInfoCmd_ok (a : List W32) (s : State) : sysInfoCmd a s = ok (infoWords s) s := rfl

/-- SYS.FW_STATUS likewise. -/
theorem fwStatusCmd_ok (a : List W32) (s : State) : fwStatusCmd a s = ok (fwStatusWords s) s := rfl

/-- The persona word is a byte. -/
theorem personaWord_lt (s : State) : (personaWord s).toNat < 256 := by
  unfold personaWord
  split
  all_goals simp
  omega

/-- The word that five fields give. -/
theorem packW_five (i j k l m v w x y z : Nat) :
    packW [(i, v), (j, w), (k, x), (l, y), (m, z)] = w32 (v * 2 ^ i + w * 2 ^ j + x * 2 ^ k + y * 2 ^ l + z * 2 ^ m) := by
  simp only [packW, List.foldl_cons, List.foldl_nil, Nat.zero_add]

/-- The first word of SYS.INFO holds the major number of the architecture and the persona. -/
theorem fld_infoWord {p o b t : Nat} (hp : p < 256) : fld (packW [(0, 1), (8, p), (16, o), (17, b), (18, t)]) 7 0 = 1
    ∧ fld (packW [(0, 1), (8, p), (16, o), (17, b), (18, t)]) 15 8 = p := by
  rw [packW_five, fld, fld, bits, bits, BitVec.toNat_ofNat]
  omega

/-- DIAG.ECHO of a running Titimus returns its bytes. -/
theorem diagEcho_handed {bs : List Byte} (hv : viaOk v = true) (ht : mayTake s v = true) (hc : channelAt s v = .handed r)
    (hcode : cmdCode r.cmd = 0x1181) (hb : r.bytes.take r.len = bs) : execDiagEcho v bs s = .next (answer v r Code.done bs s) := by
  simp [execDiagEcho, hv, hc, ht, hcode, hb]

/-- Settles O17: none of the checks refuses, and what is left is each command's effect. -/
theorem sysCommandsTakeEffect : Obligations.SysCommandsTakeEffect := by
  unfold Obligations.SysCommandsTakeEffect
  intro v r s m bs
  refine ⟨?reset, ?store, ?lock, ?info, ?status, ?echo⟩
  case reset => exact fun h => handed_ok h (sysResetCmd_ok s)
  case store => exact fun h hm hf => handed_ok h (configStoreCmd_ok hm hf)
  case lock =>
    intro h ht hb hs
    have locked := handed_done h (svnLockCmd_ok ht hb hs)
    rw [bytesOf_word] at locked
    exact ⟨_, locked, rfl⟩
  case info =>
    intro h
    obtain ⟨arch, persona⟩ := fld_infoWord (personaWord_lt s)
    exact ⟨infoWords s, rfl, handed_done h (sysInfoCmd_ok [] s), arch, persona, rfl⟩
  case status => exact fun h => ⟨fwStatusWords s, rfl, handed_done h (fwStatusCmd_ok [] s), rfl, rfl, rfl⟩
  case echo => exact diagEcho_handed

/-! ### Commands answered PENDING -/

/-- SYS.FW_LOAD of an image that passes every check starts the load, without a standby and with swaps blocked (R396). -/
theorem fwLoadCmd_pending {img : List Byte} (himg : hostRead s (arg a 0 + arg a 1 * 2 ^ 32) (arg a 2) = img)
    (hlo : 528 ≤ arg a 2) (hhi : arg a 2 ≤ 512 + 3145728)
    (hh : handover s = false) (hs : swapInProgress s = false) (hb : s.tcs.fwBusy = false) (ht : s.tcs.trial = false) (hd : canDma s = true)
    (hi : imageFault s img (arg a 2) = none) :
    fwLoadCmd a s = .pending (.fwLoad (hdrWord img 8 4) (hdrWord img 0xC 4) (hdrWord img 0x18 2) (hdrWord img 0x1A 2))
      { s with tcs := { s.tcs with fwBusy := true, swapBlock := true, standby := none }, pair := { s.pair with ready := false } } := by
  unfold fwLoadCmd
  dsimp only
  rw [himg]
  simp [hlo.not_gt, hhi.not_gt, hh, hs, hb, ht, hd, hi, modPair]

/-- Asking for a swap holds STAT0 to STAT3 and blocks the commands (R403). -/
theorem askSwap_eq (s : State) :
    askSwap s = { holdStat s with pair := { s.pair with swapping := some s.cycles, handed := false, switching := true } } := by
  have keeps : (holdStat s).pair = s.pair := by unfold holdStat; split <;> rfl
  unfold askSwap modPair
  rw [keeps]

/-- SYS.SPLIT_SET of a quiesced device applies the split and asks for the fill of classes 0 and 1 (R340). -/
theorem splitSetCmd_pending {k : W32} (hk : k.toNat ≤ 2) (hf : s.mem.filling = none) (hq : quiesced s = true)
    (hp : poolSizes s + 4096 ≤ splitCells k.toNat) :
    splitSetCmd [k] s = (let t := applySplit k.toNat (finishWork s)
      .pending (.split k.toNat) { t with mem := { t.mem with filling := some 3 } }) := by
  have none_refuses : ∀ c ∈ [(decide (arg [k] 0 > 2), Code.badArg), (!quiesced s, Code.busy),
      (decide (poolSizes s + 4096 > splitCells (arg [k] 0)), Code.conflict)], c.1 = false := by
    simpa [arg, hq] using ⟨hk, hp⟩
  unfold splitSetCmd
  dsimp only
  rw [hf, checked_pass none_refuses]
  simp [arg]

/-- Settles O18: none of the checks refuses, and each command starts its job. -/
theorem firmwareSwapAndSplitCommandsStartTheirJobs : Obligations.FirmwareSwapAndSplitCommandsStartTheirJobs := by
  unfold Obligations.FirmwareSwapAndSplitCommandsStartTheirJobs
  intro v r s a k img
  refine ⟨?load, ?activate, ?commit, ?swap, ?split⟩
  case load => exact fun h hlo hhi hh hs hb ht hd hi => handed_pending h (fwLoadCmd_pending rfl hlo hhi hh hs hb ht hd hi)
  case activate =>
    intro h hs hh ho
    rw [← askSwap_eq]
    exact handed_pending h (checked_pass (by simp [hs, hh, ho]) _ s)
  case commit => exact fun h ht => handed_pending h (checked_pass (by simp [ht]) _ s)
  case swap =>
    intro h hs hh hblock ho
    have unblocked : (s.tcs.swapBlock && !s.tcs.trial) = false := by
      obtain h | h := hblock <;> simp [h]
    rw [← askSwap_eq]
    exact handed_pending h (checked_pass (by simp [hs, hh, unblocked, ho]) _ s)
  case split => exact fun h hk hf hq hp => handed_pending h (splitSetCmd_pending hk hf hq hp)

/-! ### Completion -/

/-- A command that has its outcome waits for no last work. -/
theorem lastWork_settled {j : Job} {o : Nat × List Byte} (hc : channelAt s v = .running j) (ho : j.outcome = some o) : lastWork v s = s := by
  unfold lastWork
  rw [hc]
  dsimp only
  rw [ho]
  grind

/-- The instant of Doze is kept apart from the channels and the owner's state. -/
theorem dozeFrom_frame (v : Via) (s : State) : dozeFrom v s = { s with pwr := (dozeFrom v s).pwr } := by
  unfold dozeFrom
  repeat' split
  all_goals rfl

/-- A command with its outcome is answered once Titimus runs, with an event first where a previous owner had taken it from a mailbox, or from
the ring as SYS.FW_ACTIVATE (R389, R397). -/
theorem commandComplete_running {j : Job} {code : Nat} {res : List Byte} (hc : channelAt s v = .running j) (ho : j.outcome = some (code, res))
    (hr : s.tcs.running = true) (horphan : j.orphan = false) :
    commandComplete v s = answer v j.req code res (
      if j.byPrevious && (v != .ring || decide (j.kind = .fwActivate)) then
        postEvent 9 (fld j.req.cmd 15 0)
          [if v = .ring then Config.eventData 9 (viaNum v) 0 else w32 (viaNum v % 16), 0#32, 0#32] (dropJournal v s)
      else dropJournal v s) := by
  simp [commandComplete, hc, ho, hr, horphan]

/-- So is a command of a channel that exists at its COMMAND_COMPLETE. -/
theorem execCommandComplete_running {j : Job} {code : Nat} {res : List Byte} (hv : viaOk v = true) (hc : channelAt s v = .running j)
    (ho : j.outcome = some (code, res)) (hr : s.tcs.running = true) (horphan : j.orphan = false) :
    execCommandComplete v s = .next (answer v j.req code res (
      if j.byPrevious && (v != .ring || decide (j.kind = .fwActivate)) then
        postEvent 9 (fld j.req.cmd 15 0)
          [if v = .ring then Config.eventData 9 (viaNum v) 0 else w32 (viaNum v % 16), 0#32, 0#32] (dropJournal v (dozeFrom v s))
      else dropJournal v (dozeFrom v s))) := by
  have hc' : channelAt (dozeFrom v s) v = .running j := by rw [dozeFrom_frame]; exact hc
  have hr' : (dozeFrom v s).tcs.running = true := by rw [dozeFrom_frame]; exact hr
  rw [execCommandComplete, if_pos hv, lastWork_settled hc ho, commandComplete_running hc' ho hr' horphan]

/-- The number of a mailbox in its event's DATA. -/
theorem viaNum_mod_of_mailbox {m : Nat} (hv : viaOk v = true) (hm : v = .f0 m ∨ v = .f1 m) : v ≠ .ring ∧ viaNum v % 16 = m := by
  obtain rfl | rfl := hm <;> simp [viaOk, viaNum] at hv ⊢ <;> omega

/-- An answer in a mailbox fills its registers and payload and unlocks it (R366). -/
theorem boxAt_answerBox (n token code : Nat) (res : List Byte) (s : State) :
    boxAt (answerBox n token code res s) n = { boxAt s n with
      rseq := token, status := if code < 0x40 then 2 else 3, error := if code < 0x40 then 0 else code
      rlength := (resultBytes code res).length, payload := payloadOf (resultBytes code res), gen := (boxAt s n).gen + 1, locked := false } := by
  unfold answerBox
  dsimp only
  rw [raise_frame]
  exact boxAt_setBox (s := s) fun h => absurd (congrArg Mailbox.gen h) (Nat.succ_ne_zero _)

/-- Settles O19: the outcome is there, so only the event depends on the channel; a mailbox's answer is `answerBox`. -/
theorem commandAnswersReachTheirChannel : Obligations.CommandAnswersReachTheirChannel := by
  unfold Obligations.CommandAnswersReachTheirChannel
  intro v j code res s
  refine ⟨fun hv hc ho hr horphan => ⟨fun hown => ?own, fun hprev m hm => ?previous⟩, ?box⟩
  case own =>
    refine (execCommandComplete_running hv hc ho hr horphan).trans ?_
    rw [if_neg]
    obtain h | ⟨rfl, h⟩ := hown <;> simp [h]
  case previous =>
    obtain ⟨hring, hnum⟩ := viaNum_mod_of_mailbox hv hm
    refine (execCommandComplete_running hv hc ho hr horphan).trans ?_
    rw [if_pos (by simp [hprev, hring]), if_neg hring, hnum]
  case box =>
    rintro m rfl
    have filled := boxAt_answerBox m j.req.token code res (setChannel (.f0 m) .idle s)
    exact ⟨congrArg Mailbox.rseq filled, congrArg Mailbox.status filled, congrArg Mailbox.error filled, congrArg Mailbox.rlength filled,
      congrArg Mailbox.payload filled, congrArg Mailbox.locked filled⟩

end Sys2Proof.Proofs.SysCommands
end

section
/-! SUPPORT. The POWER commands, pad release and the peer's wake request (chapter 19). -/
namespace Sys2Proof.Proofs.PowerCommands
open Sys2Proof Sys2Proof.Machine Sys2Proof.Laws Sys2Proof.Proofs.PortSettings Sys2Proof.Proofs.PortLife Sys2Proof.Proofs.TidyAnswers
open Sys2Proof.Proofs.SysCommands (handed_ok)

variable {s : State} {a : List W32} {d : Nat}

/-! ### Domain masks -/

/-- The mask of one domain names that domain alone. -/
theorem domains_two_pow (hd : d < 38) : domains (2 ^ d) = [d] := by
  have named : ∀ e, bit (2 ^ d) e = decide (d = e) := fun e => (bit_eq_testBit _ _).trans Nat.testBit_two_pow
  have only : ∀ d < 38, (List.range 38).filter (fun e => decide (d = e)) = [d] := by decide
  simp only [domains, named]
  exact only d hd

/-- One domain is in the order of a power-down alone. -/
theorem downOrder_singleton (d : Nat) : downOrder [d] = [d] := by
  obtain h | h | h : d < 16 ∨ (16 ≤ d ∧ d < 32) ∨ 32 ≤ d := by omega
  all_goals simp [downOrder, h]
  all_goals omega

/-- A domain that is on belongs to no fused slice. -/
theorem fusedDomain_of_on (h : domainOn s d = true) : fusedDomain s d = false := by
  simp only [domainOn, fusedDomain, Bool.and_eq_true, Bool.or_eq_true, decide_eq_true_eq] at h ⊢
  obtain ⟨-, h | h⟩ := h
  · simp; omega
  · simp [h]

/-- Nor does one outside the slices. -/
theorem fusedDomain_of_ge (s : State) (h : 32 ≤ d) : fusedDomain s d = false := by
  simp [fusedDomain, h.not_gt]

/-- A mask of one domain of no fused slice is good. -/
theorem badDomains_two_pow (hd : d < 38) (hf : fusedDomain s d = false) : badDomains s (2 ^ d) = false := by
  have small : 2 ^ d < 2 ^ 38 := Nat.pow_lt_pow_right one_lt_two hd
  rw [badDomains, domains_two_pow hd, decide_eq_false small.not_ge]
  simp [hf]

/-! ### POWER.DOMAIN_SET (R441, R443) -/

/-- A source that is not enabled wakes nothing. -/
theorem wake_disabled {k : Nat} (h : bit s.pwr.srcEn k = false) : wake k s = s := by
  simp [wake, h]

/-- OFF of one domain that is on, and that may go off, begins a request with that domain, after a wake of the same instant. -/
theorem domainSetCmd_off (hd : d < 34) (hm : arg a 0 + arg a 1 * 2 ^ 32 = 2 ^ d) (h2 : arg a 2 = 0) (h3 : arg a 3 ≤ 1)
    (hb : requestBusy (wake 3 (wake 2 s)) = false) (hon : domainOn (wake 3 (wake 2 s)) d = true)
    (hr : offRefused (wake 3 (wake 2 s)) (2 ^ d) d = false) :
    domainSetCmd a s = .pending (.domains (2 ^ d) false)
      (modPwr (fun p => { p with req := some { on := false, todo := [d], mask := 2 ^ d, began := (wake 3 (wake 2 s)).cycles,
                                               since := (wake 3 (wake 2 s)).cycles } }) (wake 3 (wake 2 s))) := by
  generalize hu : wake 3 (wake 2 s) = u at *
  have notOwner : d ≠ ownerDomain u := by unfold ownerDomain; omega
  have good := badDomains_two_pow (by omega) (fusedDomain_of_on hon)
  unfold domainSetCmd
  simp only [h2, hm, hu, zero_ne_one, decide_false, Bool.false_eq_true, if_false]
  rw [checked_pass]
  · simp [domains_two_pow (show d < 38 by omega), hon, notOwner, downOrder_singleton, domBit]
  · simp [good, badBool, h3, hb, domains_two_pow (show d < 38 by omega), hon, hr]

/-- ON of one domain outside the slices that is off begins its wake. -/
theorem domainSetCmd_on (hlo : 32 ≤ d) (hd : d < 38) (hm : arg a 0 + arg a 1 * 2 ^ 32 = 2 ^ d) (h2 : arg a 2 = 1) (h3 : arg a 3 ≤ 1)
    (hb : requestBusy s = false) (hoff : domainOn s d = false) :
    domainSetCmd a s = .pending (.domains (2 ^ d) true)
      (modPwr (fun p => { p with req := some { on := true, todo := [d], mask := 2 ^ d, rel := if arg a 3 = 0 then 2 ^ d else 0, command := true,
                                               began := s.cycles, since := s.cycles } }) s) := by
  have unfused := fusedDomain_of_ge s hlo
  have good := badDomains_two_pow hd unfused
  have noStray : strayClusters s (2 ^ d) = [] := by simp [strayClusters, domains_two_pow hd, hlo.not_gt]
  unfold domainSetCmd
  simp only [h2, hm, decide_true, if_true]
  rw [checked_pass]
  · simp [wakeRequest, hb, beginWake, noStray, domains_two_pow hd, hoff, unfused, downOrder_singleton]
  · simp [good, badBool, h3]

/-- A request that waits for a domain makes the command PENDING. -/
theorem domainSetDone_begun {k : JobKind} {q : PwrReq} {t : State} (h : domainSetCmd a s = .pending k (modPwr (fun p => { p with req := some q }) t)) :
    domainSetDone a s = .pending k (modPwr (fun p => { p with req := some q }) t) := by
  rw [domainSetDone_of_pending h]
  rfl

/-! ### POWER.WAKE_SET (R447) -/

/-- POWER.WAKE_SET with arguments in range stores them, and takes the trigger's past fires as seen. -/
theorem wakeSetCmd_accepted (h0 : arg a 0 ≤ 63) (h1 : arg a 1 ≤ 15) (h2 : arg a 2 < 2 ^ 16) (hs : arg a 2 &&& s.dev.fuses.sliceEn = arg a 2)
    (hm : badDomains s (arg a 3 + arg a 4 * 2 ^ 32) = false) :
    wakeSetCmd a s = ok [] { s with pwr := { s.pwr with
      srcEn := arg a 0, wakeTrig := arg a 1, lsd := arg a 2, wakeDomains := arg a 3 + arg a 4 * 2 ^ 32, seen := (trigAt s (arg a 1)).fires } } := by
  unfold wakeSetCmd
  dsimp only
  rw [checked_pass]
  · rfl
  · rw [List.forall_mem_singleton, hm, hs]
    simpa [Nat.not_lt] using ⟨⟨h0, h1⟩, h2⟩

/-! ### POWER.STATUS (R445) -/

/-- POWER.STATUS returns 13 words and changes nothing. -/
theorem powerStatusCmd_ok (a : List W32) (s : State) : ∃ ws : List W32, ws.length = 13 ∧ powerStatusCmd a s = ok ws s := by
  refine ⟨_, ?_, rfl⟩
  rfl

/-! ### Pad release (R445) -/

/-- Clearing bits: what `without` leaves. -/
theorem testBit_without (x y i : Nat) : (without x y).testBit i = (x.testBit i && !y.testBit i) := by
  unfold without
  have hle : x &&& y ≤ x := Nat.and_le_left
  have hparity : (x &&& y) % 2 = 1 ↔ x % 2 = 1 ∧ y % 2 = 1 := Nat.and_mod_two_eq_one
  induction i generalizing x y with
  | zero =>
    rw [Bool.eq_iff_iff]
    simp only [Nat.testBit_zero, Bool.and_eq_true, Bool.not_eq_true', decide_eq_true_eq, decide_eq_false_iff_not]
    omega
  | succ i ih =>
    have hhalf : (x - (x &&& y)) / 2 = x / 2 - (x / 2 &&& y / 2) := by
      have := Nat.and_div_two (a := x) (b := y)
      omega
    rw [Nat.testBit_succ, hhalf, ih _ _ Nat.and_le_left Nat.and_mod_two_eq_one, Nat.testBit_succ, Nat.testBit_succ]

/-- The mask of the listed domains that have two properties, as a sum of digits. -/
theorem foldl_domBit (p q : Nat → Bool) (ds : List Nat) (n : Nat) :
    (ds.filter q).foldl (fun x d => if p d then x + domBit d else x) n = n + (ds.map fun d => b2n (q d && p d) * 2 ^ d).sum := by
  induction ds generalizing n with
  | nil => rfl
  | cons d ds ih =>
    have mask : domBit d = 2 ^ d := rfl
    have digit : b2n true = 1 ∧ b2n false = 0 := ⟨rfl, rfl⟩
    cases hq : q d <;> cases hp : p d <;> simp [hq, hp, ih, mask, digit, Nat.add_assoc]

/-- The pads that a release frees: those named of the domains that are on. -/
theorem testBit_held_releasePads (m : Nat) (s : State) (hd : d < 38) :
    (releasePads m s).pwr.held.testBit d = (s.pwr.held.testBit d && !(bit m d && domainOn s d)) := by
  have digit : ∀ i < 38, b2n (bit m i && domainOn s i) ≤ 1 := fun i _ => by unfold b2n; split <;> omega
  have mask := foldl_domBit (domainOn s) (bit m) (List.range 38) 0
  have read := bit_sum_digits _ 38 digit hd
  rw [bit_eq_testBit] at read
  refine (testBit_without _ _ d).trans ?_
  rw [domains, mask, Nat.zero_add, read]
  cases bit m d && domainOn s d <;> rfl

/-- Settles O20: one domain's mask names one domain, the two registers are their definitions, and a release clears a sum of distinct bits. -/
theorem powerCommandsSetDomainsAndSources : Obligations.PowerCommandsSetDomainsAndSources := by
  unfold Obligations.PowerCommandsSetDomainsAndSources
  intro v r s a d hi val u
  refine ⟨?off, ?disabled, ?on, ?wakeSet, ?status, ?pads, ?peer⟩
  case off => exact fun h hd hm h2 h3 hb hon hr => handed_pending h (domainSetDone_begun (domainSetCmd_off hd hm h2 h3 hb hon hr))
  case disabled =>
    intro h2 h3
    have first : wake 2 s = s := wake_disabled h2
    exact (congrArg (wake 3) first).trans (wake_disabled h3)
  case on => exact fun h hlo hd hm h2 h3 hb hoff => handed_pending h (domainSetDone_begun (domainSetCmd_on hlo hd hm h2 h3 hb hoff))
  case wakeSet => exact fun h h0 h1 h2 hs hm => handed_ok h (wakeSetCmd_accepted h0 h1 h2 hs hm)
  case status =>
    intro h
    obtain ⟨ws, hlen, hok⟩ := powerStatusCmd_ok [] s
    exact ⟨ws, hlen, handed_done h hok⟩
  case pads =>
    refine ⟨_, rfl, rfl, fun _ d hd => ?_⟩
    rw [bit_eq_testBit, bit_eq_testBit, testBit_held_releasePads _ _ hd, Bool.and_eq_true, Bool.not_eq_true', ← Bool.not_eq_true, Bool.and_eq_true]
  case peer =>
    show Host.Outcome.next _ = _
    cases bit val.toNat 10 <;> rfl

end Sys2Proof.Proofs.PowerCommands
end

section
/-! SUPPORT. The MEM commands (chapter 20). -/
namespace Sys2Proof.Proofs.MemoryCommands
open Sys2Proof Sys2Proof.Machine Sys2Proof.Laws Sys2Proof.Proofs.PortSettings Sys2Proof.Proofs.PortLife Sys2Proof.Proofs.ClassCommands
open Sys2Proof.Proofs.SysCommands (handed_ok)

variable {s : State} {a : List W32}

/-! ### MEM.REMAP_SET (R458, R459) -/

/-- MEM.REMAP_SET installs a new entry of a class with room. -/
theorem remapSetCmd_installs (ha : classAddr s (arg a 0) (arg a 1 + arg a 2 * 2 ^ 32) = true) (h3 : arg a 3 = 1)
    (hnew : s.mem.remaps.contains (arg a 0, arg a 1 + arg a 2 * 2 ^ 32) = false) (hroom : remapUsed s (arg a 0) < 16) :
    remapSetCmd a s = ok [] (installRemap (arg a 0) (arg a 1 + arg a 2 * 2 ^ 32) s) := by
  unfold remapSetCmd
  dsimp only
  rw [checked_pass]
  · rw [hnew, h3]
    rfl
  · rw [ha, h3, hnew, decide_eq_false hroom.not_ge]
    simp [badBool]

/-- The state after MEM.REMAP_SET has removed an entry. -/
def remapRemoved (c addr : Nat) (s : State) : State :=
  { s with
    mem := { s.mem with remaps := s.mem.remaps.erase (c, addr), full := s.mem.full &&& (511 - 2 ^ c) }
    flash := { s.flash with remaps := s.flash.remaps.erase (c, addr) } }

/-- MEM.REMAP_SET removes an entry that it names. -/
theorem remapSetCmd_removes (ha : classAddr s (arg a 0) (arg a 1 + arg a 2 * 2 ^ 32) = true) (h3 : arg a 3 = 0)
    (hold : s.mem.remaps.contains (arg a 0, arg a 1 + arg a 2 * 2 ^ 32) = true) :
    remapSetCmd a s = ok [] (remapRemoved (arg a 0) (arg a 1 + arg a 2 * 2 ^ 32) s) := by
  unfold remapSetCmd
  dsimp only
  rw [checked_pass]
  · rw [h3]
    rfl
  · rw [ha, h3, hold]
    simp [badBool]

/-! ### MEM.SCRUB_SET (R456, R457) -/

/-- What MEM.SCRUB_SET makes of a class's scrubber. -/
def scrubSetting (en : Bool) (warn : Nat) (_ : Nat) (x : Scrub) : Scrub :=
  { x with en := en, warn := warn, slow := x.slow && decide (warn ≠ 0) }

/-- The state after MEM.SCRUB_SET. -/
def scrubsSet (a : List W32) (s : State) : State :=
  { s with mem := { s.mem with
    scrubs := ((List.range 9).filter (bit (arg a 0))).foldl (tabUpdate {} id (scrubSetting (arg a 1 == 1) (arg a 2))) s.mem.scrubs
    thr := arg a 3 } }

/-- Setting the scrubbers of some classes one after the other changes the table of scrubbers alone. -/
theorem foldl_modScrub (g : Nat → Scrub → Scrub) (cs : List Nat) (s : State) :
    cs.foldl (fun s c => modScrub c (g c) s) s = { s with mem := { s.mem with scrubs := cs.foldl (tabUpdate {} id g) s.mem.scrubs } } := by
  induction cs generalizing s with
  | nil => rfl
  | cons c cs ih =>
    rw [List.foldl_cons, ih]
    rfl

/-- MEM.SCRUB_SET with arguments in range sets the named scrubbers and the threshold. -/
theorem scrubSetCmd_accepted (h0 : arg a 0 < 512) (h1 : arg a 1 ≤ 1) (h2 : arg a 2 < 2 ^ 24) (h3 : 2 ≤ arg a 3) (h3' : arg a 3 ≤ 15) :
    scrubSetCmd a s = ok [] (scrubsSet a s) := by
  unfold scrubSetCmd
  rw [checked_pass]
  · have fold := foldl_modScrub (scrubSetting (arg a 1 == 1) (arg a 2)) ((List.range 9).filter (bit (arg a 0))) s
    rw [List.foldl_filter] at fold
    exact congrArg (fun t : State => ok [] { t with mem := { t.mem with thr := arg a 3 } }) fold
  · simp [badBool]
    omega

/-- A named scrubber takes its setting. -/
theorem scrubAt_scrubsSet {k : Nat} (w : tabWf {} s.mem.scrubs = true) (hk : k < 9) (hb : bit (arg a 0) k = true) :
    scrubAt (scrubsSet a s) k = scrubSetting (arg a 1 == 1) (arg a 2) k (scrubAt s k) :=
  tabGet_foldl_tabUpdate (key := id) (by simpa using List.nodup_range.filter _) w (List.mem_filter.2 ⟨List.mem_range.2 hk, hb⟩)

/-- A scrubber that is not named stays. -/
theorem scrubAt_scrubsSet_ne {k : Nat} (hb : bit (arg a 0) k = false) : scrubAt (scrubsSet a s) k = scrubAt s k :=
  tabGet_foldl_tabUpdate_ne (key := id) (fun x hx e => by
    have named := (List.mem_filter.1 hx).2
    rw [← show k = x from e, hb] at named
    cases named) _

/-! ### MEM.FILL (R454, R461) -/

/-- MEM.FILL of classes that may be filled starts the fill while none is in progress. -/
theorem memFillCmd_pending (h0 : arg a 0 < 512) (h6 : bit (arg a 0) 6 = false) (h7 : bit (arg a 0) 7 = false) (hlow : arg a 0 &&& 0x3F = 0)
    (hl : s.led.arch = []) (ht : s.tal.period = 0) (hf : s.mem.filling = none) :
    memFillCmd a s = .pending (.fill (arg a 0)) { s with mem := { s.mem with filling := some (arg a 0) } } := by
  unfold memFillCmd
  dsimp only
  rw [checked_pass]
  simp [h6, h7, hlow, hl, ht, hf, h0]

/-! ### Queries -/

/-- MEM.STATUS returns 23 words, the third of them the last error, and changes nothing. -/
theorem memStatusCmd_ok (a : List W32) (s : State) :
    ∃ ws : List W32, ws.length = 23 ∧ ws.getD 2 0#32 = s.mem.lastErr ∧ memStatusCmd a s = ok ws s := by
  refine ⟨_, ?_, ?_, rfl⟩
  · rfl
  · rfl

/-- MEM.LOG of entries that there are returns them from the oldest. -/
theorem memLogCmd_ok (h1 : 1 ≤ arg a 1) (h1' : arg a 1 ≤ 64) (h0 : arg a 0 < s.mem.history.length) :
    memLogCmd a s = ok (((s.mem.history.reverse.drop (arg a 0)).take (arg a 1)).map logWords).flatten s := by
  unfold memLogCmd
  rw [checked_pass]
  simp
  omega

/-- Settles O22: none of the checks refuses; MEM.SCRUB_SET changes the table of scrubbers at the named classes, once each. -/
theorem memoryCommandsSetTheirMachinery : Obligations.MemoryCommandsSetTheirMachinery := by
  unfold Obligations.MemoryCommandsSetTheirMachinery
  intro v r s a c adr
  refine ⟨?install, ?remove, ?scrub, ?fill, ?status, ?log⟩
  case install => exact fun h ha h3 hnew hroom => handed_ok h (remapSetCmd_installs ha h3 hnew hroom)
  case remove => exact fun h ha h3 hold => ⟨_, handed_ok h (remapSetCmd_removes ha h3 hold), rfl⟩
  case scrub =>
    intro h h0 h1 h2 h3 h3' w
    refine ⟨_, handed_ok h (scrubSetCmd_accepted h0 h1 h2 h3 h3'), rfl, fun k hk hb => ?_, fun k hb => scrubAt_scrubsSet_ne hb⟩
    rw [scrubAt_scrubsSet w hk hb]
    exact ⟨rfl, rfl⟩
  case fill => exact fun h h0 h6 h7 hlow hl ht hf => handed_pending h (memFillCmd_pending h0 h6 h7 hlow hl ht hf)
  case status =>
    intro h
    obtain ⟨ws, hlen, herr, hok⟩ := memStatusCmd_ok [] s
    exact ⟨ws, hlen, herr, handed_done h hok⟩
  case log => exact fun h h1 h1' h0 => handed_done h (memLogCmd_ok h1 h1' h0)

end Sys2Proof.Proofs.MemoryCommands
end

section
/-! SUPPORT. The units of the rack console, each changed on its own, and the CONSOLE commands (chapter 13). -/
namespace Sys2Proof.Proofs.ConsoleCommands
open Sys2Proof Sys2Proof.Machine Sys2Proof.Laws Sys2Proof.Proofs.PortSettings
open Sys2Proof.Proofs.SysCommands (handed_ok)

variable {s : State} {a : List W32}

/-! ### Units visited one after the other -/

section Units
variable {β : Type} {get : State → Nat → β} {f : State → Nat → State} {W : State → Prop}

/-- A unit that is not visited stays as it is, under what every visit keeps. -/
theorem foldl_unit_ne {j : Nat} (hne : ∀ s i, W s → j ≠ i → get (f s i) j = get s j) (hW : ∀ s i, W s → W (f s i)) {xs : List Nat} (hj : j ∉ xs)
    (h : W s) : get (xs.foldl f s) j = get s j := by
  induction xs generalizing s with
  | nil => rfl
  | cons x xs ih =>
    obtain ⟨hx, hxs⟩ := List.ne_and_not_mem_of_not_mem_cons hj
    rw [List.foldl_cons, ih hxs (hW s x h), hne s x h hx]

/-- A unit that is visited once is changed by its own visit. -/
theorem foldl_unit {g : Nat → β → β} (hne : ∀ s i j, W s → j ≠ i → get (f s i) j = get s j) (hW : ∀ s i, W s → W (f s i))
    (heq : ∀ s i, W s → get (f s i) i = g i (get s i)) {xs : List Nat} (hxs : xs.Nodup) {j : Nat} (hj : j ∈ xs) (h : W s) :
    get (xs.foldl f s) j = g j (get s j) := by
  induction xs generalizing s with
  | nil => cases hj
  | cons x xs ih =>
    obtain ⟨hx, hxs⟩ := List.nodup_cons.1 hxs
    rw [List.foldl_cons]
    obtain rfl | hj := List.mem_cons.1 hj
    · rw [foldl_unit_ne (fun s i => hne s i j) hW hx (hW s j h), heq s j h]
    · have other : j ≠ x := fun e => hx (e ▸ hj)
      rw [ih hxs hj (hW s x h), hne s x j h other]

end Units

/-! ### Outputs and fans -/

/-- An output reads back. -/
theorem actAt_setAct (i : Nat) (x : Actuator) (w : tabWf {} s.con.acts = true) : actAt (setAct i x s) i = x :=
  (tabGet_tabSet _ _ _ _ w).trans (if_pos rfl)

/-- Another output stays. -/
theorem actAt_setAct_ne {i j : Nat} (x : Actuator) (h : j ≠ i) : actAt (setAct i x s) j = actAt s j := tabGet_tabSet_ne _ _ h

/-- Of the device only the outputs and fans differ. -/
def DrivesOutputs (s t : State) : Prop := ∃ x y, t = { s with con := { s.con with acts := x, fans := y } }

theorem DrivesOutputs.refl (s : State) : DrivesOutputs s s := ⟨_, _, rfl⟩

theorem DrivesOutputs.trans {t u : State} (h : DrivesOutputs s t) (h' : DrivesOutputs t u) : DrivesOutputs s u := by
  obtain ⟨x, y, rfl⟩ := h
  obtain ⟨x', y', rfl⟩ := h'
  exact ⟨x', y', rfl⟩

/-- A fold of steps that change outputs and fans alone does so. -/
theorem DrivesOutputs.foldl {f : State → Nat → State} (hf : ∀ s i, DrivesOutputs s (f s i)) (xs : List Nat) (s : State) :
    DrivesOutputs s (xs.foldl f s) :=
  List.foldlRecOn (motive := DrivesOutputs s) xs f (.refl s) fun t h i _ => h.trans (hf t i)

theorem drivesOutputs_setAct (i : Nat) (x : Actuator) (s : State) : DrivesOutputs s (setAct i x s) := ⟨_, _, rfl⟩

theorem drivesOutputs_setFan (f : Nat) (x : Fan) (s : State) : DrivesOutputs s (setFan f x s) := ⟨_, _, rfl⟩

/-! ### Clock groups and the frame trigger (R301, R304) -/

/-- A group with the arguments of CONSOLE.CLOCK_SET. -/
def clockSetting (a : List W32) (g : ConGroup) : ConGroup := { g with en := arg a 1 == 1, div := arg a 2, osr := arg a 3 }

/-- A group keeps its settings when each of the three is as it was. -/
theorem clockSetting_eq_iff (g : ConGroup) : clockSetting a g = g ↔ g.en = (arg a 1 == 1) ∧ g.div = arg a 2 ∧ g.osr = arg a 3 := by
  cases g
  simp only [clockSetting, ConGroup.mk.injEq, and_true]
  constructor
  · rintro ⟨hd, ho, he⟩
    exact ⟨he.symm, hd.symm, ho.symm⟩
  · rintro ⟨he, hd, ho⟩
    exact ⟨hd.symm, ho.symm, he.symm⟩

/-- CONSOLE.CLOCK_SET with arguments in range sets the group, and starts its decimators anew when a setting changes. -/
theorem clockSetCmd_accepted (hn : arg a 0 ≤ 3) (h1 : arg a 1 ≤ 1) (h2 : 40 ≤ arg a 2) (h2' : arg a 2 ≤ 100) (h3 : 64 ≤ arg a 3)
    (h3' : arg a 3 ≤ 1024) (hp : s.con.frameEn = true →
      framePeriod ((conGroups s).set (arg a 0) (clockSetting a (groupOf s (arg a 0)))) (trigAt s s.con.frameTrig).act.period = true) :
    clockSetCmd a s = ok [] (if clockSetting a (groupOf s (arg a 0)) = groupOf s (arg a 0)
      then setGroupOf (arg a 0) (clockSetting a (groupOf s (arg a 0))) s
      else armGroup (arg a 0) (setGroupOf (arg a 0) (clockSetting a (groupOf s (arg a 0))) s)) := by
  have fits : (s.con.frameEn && !framePeriod ((conGroups s).set (arg a 0) (clockSetting a (groupOf s (arg a 0))))
      (trigAt s s.con.frameTrig).act.period) = false := by
    cases hf : s.con.frameEn
    · rfl
    · simp [hp hf]
  have changed := clockSetting_eq_iff (a := a) (groupOf s (arg a 0))
  unfold clockSetCmd
  dsimp only
  rw [checked_pass]
  · by_cases hc : clockSetting a (groupOf s (arg a 0)) = groupOf s (arg a 0)
    · obtain ⟨he, hd, ho⟩ := changed.1 hc
      rw [if_pos hc, if_neg (by simp [he, hd, ho])]
      rfl
    · have differs := mt changed.2 hc
      rw [if_neg hc, if_pos]
      · rfl
      · simp only [Bool.or_eq_true, decide_eq_true_eq]
        tauto
  · refine List.forall_mem_singleton.2 (Eq.trans (congrArg (_ || ·) fits) ?_)
    simp [badBool, hn, h1, h2, h2', h3, h3']

/-- A fold of steps that each leave the state as it is. -/
theorem foldl_still {α : Type} {f : State → α → State} {xs : List α} (h : ∀ x ∈ xs, f s x = s) : xs.foldl f s = s :=
  List.foldlRecOn (motive := fun t => t = s) xs f rfl fun t e x hx => by rw [e, h x hx]

/-- CONSOLE.FRAME_SET with a frame trigger named before, and no group that waits, only names the trigger. -/
theorem frameSetCmd_accepted (hn : arg a 0 ≤ 15) (h1 : arg a 1 = 1) (hf : s.con.frameEn = true)
    (hp : framePeriod (conGroups s) (trigAt s (arg a 0)).act.period = true) (hw : ∀ k, k < 4 → (groupOf s k).armed = none) :
    frameSetCmd a s = ok [] { s with con := { s.con with
      frameTrig := arg a 0, frameEn := true, frameSeen := (trigAt s (arg a 0)).fires } } := by
  unfold frameSetCmd
  dsimp only
  rw [checked_pass]
  · rw [h1, hf, foldl_still]
    · rfl
    · intro k hk
      rw [if_neg]
      have none_waits := hw k (List.mem_range.1 hk)
      simp only [groupOf] at none_waits
      simp [groupOf, none_waits]
  · simp [h1, hp, badBool, hn]

/-! ### Inputs, outlets and cycles (R302, R306, R312) -/

theorem inputSetCmd_accepted (hn : arg a 0 ≤ 63) (h1 : arg a 1 ≤ 1) (h2 : arg a 2 ≤ 3) (h3 : arg a 3 ≤ 1) :
    inputSetCmd a s = ok []
      (conSettle (setInput (arg a 0) { inputAt s (arg a 0) with en := arg a 1 == 1, clk := arg a 2, invert := arg a 3 == 1 } s)) := by
  unfold inputSetCmd
  dsimp only
  rw [checked_pass]
  simp [badBool, hn, h1, h2, h3]

/-- A scale in range. -/
theorem badScale_false {n : Nat} (h1 : 1 ≤ n) (h2 : n ≤ 4000000) : badScale n = false := by
  simp [badScale]
  omega

theorem outletSetCmd_accepted (hn : arg a 0 ≤ 31) (h1 : arg a 1 ≤ 1) (h2 : arg a 2 ≤ 63) (h3 : arg a 3 ≤ 63) (h4 : badScale (arg a 4) = false)
    (h5 : badScale (arg a 5) = false) (h6 : arg a 6 < 2 ^ 16) (h7 : arg a 7 < 2 ^ 16)
    (hc : (inputAt s (arg a 2)).clk = (inputAt s (arg a 3)).clk) :
    outletSetCmd a s = ok [] (conSettle (setOutlet (arg a 0) { outletAt s (arg a 0) with
      cfg := ⟨arg a 1 == 1, arg a 2, arg a 3, arg a 4, arg a 5, sgn 16 (arg a 6), sgn 16 (arg a 7)⟩ } s)) := by
  unfold outletSetCmd
  dsimp only
  rw [checked_pass]
  rw [List.forall_mem_singleton, h4, h5, hc]
  simpa [badBool, hn, h1, h2, h3, Nat.not_le] using ⟨h6, h7⟩

theorem cycleSetCmd_accepted (hn : arg a 0 ≤ 15) (h1 : arg a 1 ≤ 1)
    (hp : arg a 1 = 1 → 50000 ≤ (trigAt s (arg a 0)).act.period ∧ (trigAt s (arg a 0)).act.period ≤ 100000000) :
    cycleSetCmd a s = ok [] (conSettle { s with con := { s.con with
      cycleTrig := arg a 0, cycleEn := arg a 1 == 1, cycleSeen := (trigAt s (arg a 0)).fires } }) := by
  unfold cycleSetCmd
  dsimp only
  rw [checked_pass]
  simpa [badBool, hn, h1] using hp

/-! ### CONSOLE.OUTPUT_SET (R311) -/

/-- The level that CONSOLE.OUTPUT_SET commands of an output. -/
def outputLevel (a : List W32) (s : State) (i : Nat) : Bool := if bit (arg a 0) i then bit (arg a 1) i else bit s.con.levels i

/-- The state with the commanded levels and duties. -/
def outputsCommanded (a : List W32) (s : State) : State :=
  { s with con := { s.con with
    levels := ((List.range 32).map fun i => if outputLevel a s i then 2 ^ i else 0).sum, duties := (List.range 8).map fun f => arg a (3 + f) } }

/-- Every output has then its DRIVE, and every fan its POL. -/
def outputsGiven (a : List W32) (s : State) : State :=
  (List.range 8).foldl (fun s f => setFan f { fanAt s f with pol := bit (arg a 11) f, given := true } s)
    ((List.range 32).foldl (fun s i => setAct i { actAt s i with
      drive := if bit (arg a 0) i then bit (arg a 2) i else (actAt s i).drive, given := (actAt s i).given || bit (arg a 0) i } s) s)

/-- That changes outputs and fans alone. -/
theorem drivesOutputs_outputsGiven (a : List W32) (s : State) : DrivesOutputs s (outputsGiven a s) :=
  (DrivesOutputs.foldl (fun _ _ => drivesOutputs_setAct ..) _ _).trans (.foldl (fun _ _ => drivesOutputs_setFan ..) _ _)

/-- CONSOLE.OUTPUT_SET with duties in range stores the commanded set, and shows it. -/
theorem outputSetCmd_accepted (hd : ∀ f, f < 8 → arg a (3 + f) ≤ 1000) (hp : arg a 11 < 256) (hc : noClaim s = false) :
    outputSetCmd a s = ok [] (conSettle (showCommanded (outputsGiven a (outputsCommanded a s)))) := by
  have inRange : (((List.range 8).map fun f => arg a (3 + f)).any (fun d => decide (d > 1000)) || decide (arg a 11 ≥ 256)) = false := by
    simpa using ⟨hd, hp⟩
  unfold outputSetCmd
  simp only [inRange, hc, Bool.false_eq_true, if_false]
  rfl

/-- Bit `i` of the commanded levels. -/
theorem bit_levels_outputsCommanded (a : List W32) (s : State) {i : Nat} (hi : i < 32) :
    bit (outputsCommanded a s).con.levels i = outputLevel a s i := by
  have digits := bit_sum_digits (fun i => b2n (outputLevel a s i)) 32 (fun j _ => by unfold b2n; split <;> omega) hi
  have terms : (fun j => b2n (outputLevel a s j) * 2 ^ j) = fun j => if outputLevel a s j = true then 2 ^ j else 0 := by
    funext j
    cases outputLevel a s j <;> simp [b2n]
  rw [terms] at digits
  refine digits.trans ?_
  cases outputLevel a s i <;> rfl

/-! ### Fans and trips (R313 to R315) -/

theorem fanSetCmd_accepted (hn : arg a 0 ≤ 7) (h1 : arg a 1 ≤ 1) (h2 : arg a 2 ≤ 1000) (h3 : arg a 3 < 256) (h4 : arg a 4 < 256) (h5 : 1 ≤ arg a 5)
    (h5' : arg a 5 ≤ 4) :
    fanSetCmd a s = ok [] (conSettle (setFan (arg a 0) { fanAt s (arg a 0) with
      cfg := ⟨arg a 1 == 1, arg a 2, sgn 8 (arg a 3), sgn 8 (arg a 4), arg a 5⟩ } s)) := by
  unfold fanSetCmd
  dsimp only
  rw [checked_pass]
  simp [hn, h1, h2, h3, h4, h5, h5']

/-- The SAFE levels of the outputs in a mask. -/
def setSafe (m lv : Nat) (s : State) : State :=
  (List.range 32).foldl (fun s i => if bit m i then setAct i { actAt s i with safe := bit lv i } s else s) s

/-- The outputs of the mask take their SAFE levels, the others stay. -/
theorem actAt_setSafe (m lv : Nat) (w : tabWf {} s.con.acts = true) {i : Nat} (hi : i < 32) :
    actAt (setSafe m lv s) i = if bit m i = true then { actAt s i with safe := bit lv i } else actAt s i := by
  refine foldl_unit (get := actAt) (W := fun s => tabWf {} s.con.acts = true)
    (g := fun i x => if bit m i = true then { x with safe := bit lv i } else x) ?ne ?wf ?eq List.nodup_range (List.mem_range.2 hi) w
  case ne =>
    intro s i j _ h
    split
    · exact actAt_setAct_ne _ h
    · rfl
  case wf =>
    intro s i w
    split
    · exact tabSet_wf _ _ _ w
    · exact w
  case eq =>
    intro s i w
    dsimp only
    split
    · exact actAt_setAct _ _ w
    · rfl

/-- They change outputs alone. -/
theorem setSafe_frame (m lv : Nat) (s : State) : setSafe m lv s = { s with con := { s.con with acts := (setSafe m lv s).con.acts } } := by
  refine List.foldlRecOn (motive := fun t : State => t = { s with con := { s.con with acts := t.con.acts } }) _ _ rfl fun t h i _ => ?_
  split
  · rw [h]
    rfl
  · exact h

/-- CONSOLE.TRIP_SET with arguments in range sets the outlet's trip and the SAFE levels of its outputs. -/
theorem tripSetCmd_accepted (hn : arg a 0 ≤ 31) (h1 : arg a 1 ≤ 1) (h2 : badScale (arg a 2) = false) (h3 : 1 ≤ arg a 3) (h3' : arg a 3 ≤ 16) :
    tripSetCmd a s = ok [] (conSettle (setOutlet (arg a 0) { outletAt s (arg a 0) with trip := ⟨arg a 1 == 1, arg a 2, arg a 3, arg a 4⟩ }
      (setSafe (arg a 4) (arg a 5) s))) := by
  have outlets : outletAt (setSafe (arg a 4) (arg a 5) s) (arg a 0) = outletAt s (arg a 0) := by rw [setSafe_frame]; rfl
  unfold tripSetCmd
  dsimp only
  rw [checked_pass]
  · rw [← outlets]
    rfl
  · simp [hn, h1, h2, h3, h3', badBool]

/-- Tripped outputs of a mask are named to be released. -/
def nameClears (m : Nat) (s : State) : State :=
  (List.range 32).foldl (fun s i => if bit m i && (actAt s i).tripped then setAct i { actAt s i with clearing := true } s else s) s

/-- Those outputs are marked, the others stay. -/
theorem actAt_nameClears (m : Nat) (w : tabWf {} s.con.acts = true) {i : Nat} (hi : i < 32) :
    actAt (nameClears m s) i = if bit m i = true ∧ (actAt s i).tripped = true then { actAt s i with clearing := true } else actAt s i := by
  refine foldl_unit (get := actAt) (W := fun s => tabWf {} s.con.acts = true)
    (g := fun i x => if bit m i = true ∧ x.tripped = true then { x with clearing := true } else x) ?ne ?wf ?eq List.nodup_range (List.mem_range.2 hi) w
  case ne =>
    intro s i j _ h
    split
    · exact actAt_setAct_ne _ h
    · rfl
  case wf =>
    intro s i w
    split
    · exact tabSet_wf _ _ _ w
    · exact w
  case eq =>
    intro s i w
    simp only [Bool.and_eq_true]
    split
    · exact actAt_setAct _ _ w
    · rfl

/-- CONSOLE.TRIP_CLEAR of outputs that no outlet still trips names them. -/
theorem tripClearCmd_accepted (hc : noClaim s = false) (ht : ∀ i, i < 32 → bit (arg a 0) i = true → tripHolds s i = false) :
    tripClearCmd a s = ok [] (nameClears (arg a 0) s) := by
  have clear : ((List.range 32).any fun i => bit (arg a 0) i && tripHolds s i) = false := by
    simpa using ht
  unfold tripClearCmd
  simp only [hc, clear, Bool.false_eq_true, if_false]
  rfl

/-! ### The output stage (R318, R321) -/

theorem consoleEnableCmd_accepted (ha : ∀ i, i < 32 → (actAt s i).given = true) (hf : ∀ f, f < 8 → (fanAt s f).given = true) (hm : s.pair.mode ≠ 2)
    (ho : s.con.outEn = false) :
    consoleEnableCmd a s = ok [] (applySetNow (s.con.levels, s.con.duties)
      { s with con := { s.con with everEn := true, outEn := true, disabling := false } }) := by
  have given : ((List.range 32).all (fun i => (actAt s i).given) && (List.range 8).all (fun f => (fanAt s f).given)) = true := by
    simpa using ⟨ha, hf⟩
  unfold consoleEnableCmd
  dsimp only
  rw [given, checked_pass]
  · rw [ho]
    rfl
  · simpa using hm

theorem consoleDisableCmd_accepted (hc : s.pair.confirmed = false) :
    consoleDisableCmd a s = ok [] { s with con := { s.con with disabling := s.con.outEn } } := by
  unfold consoleDisableCmd
  rw [checked_pass]
  exact List.forall_mem_singleton.2 hc

/-- CONSOLE.STATUS returns 22 words, the first of them CON_STATUS, and changes nothing. -/
theorem consoleStatusCmd_ok (a : List W32) (s : State) :
    ∃ ws : List W32, ws.length = 22 ∧ consoleStatusCmd a s = ok ws s ∧ ws.getD 0 0#32 = conStatus s := by
  refine ⟨_, ?_, rfl, ?_⟩
  · rfl
  · rfl

/-- Settles O46: none of the checks refuses; the folds over outputs change each output once. -/
theorem consoleCommandsSetTheConsole : Obligations.ConsoleCommandsSetTheConsole := by
  unfold Obligations.ConsoleCommandsSetTheConsole
  intro v r s a n on
  refine ⟨?clock, ?frame, ?input, ?outlet, ?outletGet, ?cycle, ?output, ?fan, ?trip, ?clear, ?enable, ?disable, ?status⟩
  case clock =>
    intro g hg h hn h1 h2 h2' h3 h3' hp
    obtain rfl : g = clockSetting a (groupOf s (arg a 0)) := hg
    have done := handed_ok h (clockSetCmd_accepted hn h1 h2 h2' h3 h3' hp)
    have answered {t u : State} (e : t = u) : (.next (answer v r Code.done [] t) : Out) = .next (answer v r Code.done [] u) := by rw [e]
    exact ⟨fun same => done.trans (answered (if_pos same)), fun differs => done.trans (answered (if_neg differs))⟩
  case frame => exact fun h hn h1 hf hp hw => handed_ok h (frameSetCmd_accepted hn h1 hf hp hw)
  case input => exact fun h hn h1 h2 h3 => handed_ok h (inputSetCmd_accepted hn h1 h2 h3)
  case outlet =>
    rintro _ rfl h hn h1 h2 h3 h4 h4' h5 h5' h6 h7 hc
    exact handed_ok h (outletSetCmd_accepted hn h1 h2 h3 (badScale_false h4 h4') (badScale_false h5 h5') h6 h7 hc)
  case outletGet => exact fun h hn => ⟨handed_done h (checked_pass (by simpa using hn) _ s), rfl⟩
  case cycle => exact fun h hn h1 hp => handed_ok h (cycleSetCmd_accepted hn h1 hp)
  case output =>
    intro h hd hp hc
    obtain ⟨x, y, given⟩ := drivesOutputs_outputsGiven a (outputsCommanded a s)
    refine ⟨_, handed_ok h (outputSetCmd_accepted hd hp hc), ?_, fun i hi => ?_⟩
    · rw [given]
      rfl
    · rw [given]
      exact bit_levels_outputsCommanded a s hi
  case fan =>
    rintro _ rfl h hn h1 h2 h3 h4 h5 h5'
    exact handed_ok h (fanSetCmd_accepted hn h1 h2 h3 h4 h5 h5')
  case trip =>
    intro h hn h1 h2 h2' h3 h3'
    exact ⟨_, handed_ok h (tripSetCmd_accepted hn h1 (badScale_false h2 h2') h3 h3'), setSafe_frame .., fun w i hi => actAt_setSafe _ _ w hi⟩
  case clear => exact fun h hc ht => ⟨_, handed_ok h (tripClearCmd_accepted hc ht), fun w i hi => actAt_nameClears _ w hi⟩
  case enable => exact fun h ha hf hm ho => handed_ok h (consoleEnableCmd_accepted ha hf hm ho)
  case disable => exact fun h hc => handed_ok h (consoleDisableCmd_accepted hc)
  case status =>
    intro h
    obtain ⟨ws, hlen, hok, hfirst⟩ := consoleStatusCmd_ok a s
    exact ⟨ws, hlen, handed_done h hok, hfirst⟩

end Sys2Proof.Proofs.ConsoleCommands
end

section
/-! SUPPORT. The console's events (chapter 13): decimators, faults, cycles, the control task, tachometers, and the delivery of energy. -/
namespace Sys2Proof.Proofs.ConsoleEvents
open Sys2Proof Sys2Proof.Machine Sys2Proof.Laws Sys2Proof.Proofs.ConsoleCommands Sys2Proof.Proofs.LedgerBanks

variable {z s : State}

/-! ### What sampling leaves alone -/

/-- Device time and the clock groups are those of `z`. -/
def Clocks (z s : State) : Prop := s.time = z.time ∧ s.con.groups = z.con.groups

/-- A state with the same two. -/
theorem clocks_of_eq {t : State} (h : Clocks z s) (h1 : t.time = s.time) (h2 : t.con.groups = s.con.groups) :
    Clocks z t := ⟨h1.trans h.1, h2.trans h.2⟩

/-- A fold of steps that keep them keeps them. -/
theorem clocks_foldl {α : Type} {f : State → α → State} (hf : ∀ s x, Clocks z s → Clocks z (f s x)) (xs : List α) (h : Clocks z s) :
    Clocks z (xs.foldl f s) :=
  List.foldlRecOn (motive := Clocks z) xs f h fun t h x _ => hf t x h

theorem clocks_setInput {c v} (h : Clocks z s) : Clocks z (setInput c v s) := clocks_of_eq h rfl rfl

theorem clocks_setOutlet {c v} (h : Clocks z s) : Clocks z (setOutlet c v s) := clocks_of_eq h rfl rfl

theorem clocks_setAct {c v} (h : Clocks z s) : Clocks z (setAct c v s) := clocks_of_eq h rfl rfl

theorem clocks_setFan {c v} (h : Clocks z s) : Clocks z (setFan c v s) := clocks_of_eq h rfl rfl

theorem clocks_setBank {c v} (h : Clocks z s) : Clocks z (setBank c v s) := clocks_of_eq h rfl rfl

theorem clocks_bump {c} (h : Clocks z s) : Clocks z (bump c s) := clocks_of_eq h rfl rfl

theorem clocks_bumpIf {b c} (h : Clocks z s) : Clocks z (bumpIf b c s) := by rw [bumpIf_frame]; exact clocks_of_eq h rfl rfl

theorem clocks_postOpen {b c} (h : Clocks z s) : Clocks z (postOpen b c s) := by rw [postOpen_frame]; exact clocks_of_eq h rfl rfl

theorem clocks_con (h : Clocks z s) {c : ConsoleState} (hc : c.groups = s.con.groups) : Clocks z { s with con := c } := clocks_of_eq h rfl hc

theorem clocks_conPair (h : Clocks z s) {c : ConsoleState} {p} (hc : c.groups = s.con.groups) :
    Clocks z { s with con := c, pair := p } := clocks_of_eq h rfl hc

theorem clocks_addEnergy {o n d a} (h : Clocks z s) : Clocks z (addEnergy o n d a s) := by
  grind only [addEnergy, clocks_setBank, clocks_setOutlet]

theorem clocks_addWindow {o n d} (h : Clocks z s) : Clocks z (addWindow o n d s) := by
  grind only [addWindow, clocks_setBank, clocks_setOutlet]

theorem clocks_tripOutput {o} (h : Clocks z s) : Clocks z (tripOutput o s) := by
  grind only [tripOutput, clocks_setAct]

theorem clocks_tripFire {o} (h : Clocks z s) : Clocks z (tripFire o s) := by
  grind only [tripFire, clocks_tripOutput, clocks_foldl, clocks_bump, clocks_postOpen, clocks_con]

theorem clocks_watchTrip {o i} (h : Clocks z s) : Clocks z (watchTrip o i s) := by
  grind only [watchTrip, clocks_tripFire, clocks_setOutlet]

theorem clocks_runtOutlet {o i j} (h : Clocks z s) : Clocks z (runtOutlet o i j s) := by
  grind only [runtOutlet, clocks_addEnergy, clocks_addWindow]

theorem clocks_fullOutlet {o i j} (h : Clocks z s) : Clocks z (fullOutlet o i j s) := by
  grind only [fullOutlet, clocks_addEnergy, clocks_addWindow, clocks_bumpIf, clocks_watchTrip, clocks_setOutlet]

theorem clocks_outletOutput {k g o} (h : Clocks z s) : Clocks z (outletOutput k g s o) := by
  grind only [outletOutput, clocks_runtOutlet, clocks_fullOutlet]

theorem clocks_takeBits {k g o} (h : Clocks z s) : Clocks z (takeBits k g o s) := by
  grind only [takeBits, clocks_setInput, clocks_foldl]

theorem clocks_unbar (h : Clocks z s) : Clocks z (unbar s) := by
  grind only [unbar, clocks_con]

theorem clocks_setDuty {f d} (h : Clocks z s) : Clocks z (setDuty f d s) := by
  grind only [setDuty, clocks_setFan]

theorem clocks_showCommanded (h : Clocks z s) : Clocks z (showCommanded s) := by
  grind only [showCommanded, clocks_foldl, clocks_setAct, clocks_setDuty]

theorem clocks_applySetNow {a} (h : Clocks z s) : Clocks z (applySetNow a s) := by
  grind only [applySetNow, clocks_foldl, clocks_setAct, clocks_setDuty, clocks_con]

theorem clocks_cycleOutputs (h : Clocks z s) : Clocks z (cycleOutputs s) := by
  grind only [cycleOutputs, stopOutputs, finishClears, mirrorSend, releaseClaim, clocks_foldl, clocks_setAct, clocks_showCommanded, clocks_applySetNow,
    clocks_con, clocks_conPair, clocks_of_eq]

theorem clocks_conApply (h : Clocks z s) : Clocks z (conApply s) := by
  grind only [conApply, clocks_foldl, clocks_setAct, clocks_setInput, clocks_setOutlet, clocks_setFan, markGaps, clocks_setBank]

theorem clocks_snapFan {f} (h : Clocks z s) : Clocks z (snapFan s f) := clocks_setFan h

theorem clocks_closeWindow {f} (h : Clocks z s) : Clocks z (closeWindow s f) := clocks_setOutlet h

/-- The same group set in both leaves them alike. -/
theorem Clocks.setGroupOf (h : Clocks z s) (k : Nat) (g : ConGroup) : Clocks (setGroupOf k g z) (setGroupOf k g s) :=
  ⟨h.1, congrArg (fun m => tabSet ({} : ConGroup) m k g) h.2⟩

/-! ### Decimators (R303, R304) -/

/-- A group reads back. -/
theorem groupOf_setGroupOf (k : Nat) (g : ConGroup) (w : tabWf {} s.con.groups = true) : groupOf (setGroupOf k g s) k = g :=
  (tabGet_tabSet _ _ _ _ w).trans (if_pos rfl)

/-- In every table when it runs. -/
theorem groupOf_setGroupOf_of_run {k : Nat} {g : ConGroup} (h : g.run = true) : groupOf (setGroupOf k g s) k = g :=
  tabGet_tabSet_self _ _ fun e => by simp [e] at h

/-- A group reads the same where the groups are the same. -/
theorem Clocks.groupOf_eq (h : Clocks z s) (k : Nat) : groupOf s k = groupOf z k := congrArg (fun m => tabGet ({} : ConGroup) m k) h.2

/-- Device time too. -/
theorem Clocks.timeTotal_eq (h : Clocks z s) : timeTotal s = timeTotal z := congrArg (fun x : TimeState => x.sec * 1000000000 + x.ns) h.1

/-- An armed, enabled group starts at an instant of the frame trigger. -/
theorem groupOf_decimatorStart {k m : Nat} (ha : (groupOf s k).armed = some m) (he : (groupOf s k).en = true) (hf : filterOn s = true)
    (hm : (trigAt s s.con.frameTrig).fires ≠ m) :
    groupOf (decimatorStart k s) k
      = { groupOf s k with armed := none, run := true, priming := 2, runts := 0, fresh := true, periodAt := timeTotal s } := by
  have starts : ((groupOf s k).en && filterOn s && (!s.con.frameEn || decide ((trigAt s s.con.frameTrig).fires ≠ m))) = true := by
    simp [he, hf, hm]
  unfold decimatorStart
  dsimp only
  rw [ha]
  dsimp only
  rw [if_pos starts]
  refine (Clocks.groupOf_eq (clocks_foldl (fun s c h => ?_) _ ⟨rfl, rfl⟩) k).trans (groupOf_setGroupOf_of_run rfl)
  grind only [clocks_setInput]

/-- The state in which a running group's output period has been sampled. -/
def periodSampled (k : Nat) (st : List (Nat × List Bool)) (g : ConGroup) (s : State) : State :=
  (List.range 64).foldl (fun s c =>
      if inputIn (inputAt s c) k && decide ((inputAt s c).priming > 0) then setInput c { inputAt s c with priming := (inputAt s c).priming - 1 } s
      else s)
    ((List.range 32).foldl (outletOutput k g) (unbar (setGroupOf k g (takeBits k g st s))))

/-- The group's output period ends with that. -/
theorem decimatorOutput_runs {k : Nat} {st : List (Nat × List Bool)} (hr : (groupOf s k).run = true) (hf : filterOn s = true) {g : ConGroup}
    (hg : g = { groupOf s k with fresh := (groupOf s k).fresh && decide ((groupOf s k).priming > 0) }) :
    decimatorOutput k st s = setGroupOf k { g with priming := g.priming - 1, runts := g.runts - 1, periodAt := timeTotal (periodSampled k st g s) }
      (periodSampled k st g s) := by
  subst hg
  unfold decimatorOutput
  dsimp only
  rw [if_pos (by simp [hr, hf])]
  rfl

/-- Sampling changes the group it samples and no clock beside. -/
theorem clocks_periodSampled (k : Nat) (st : List (Nat × List Bool)) (g : ConGroup) (s : State) :
    Clocks (setGroupOf k g s) (periodSampled k st g s) := by
  have taken : Clocks s (takeBits k g st s) := clocks_takeBits ⟨rfl, rfl⟩
  have set : Clocks (setGroupOf k g s) (setGroupOf k g (takeBits k g st s)) := taken.setGroupOf k g
  unfold periodSampled
  grind only [clocks_foldl, clocks_unbar, clocks_outletOutput, clocks_setInput]

/-- The group after an output period. -/
theorem groupOf_decimatorOutput {k : Nat} {st : List (Nat × List Bool)} (hr : (groupOf s k).run = true) (hf : filterOn s = true)
    (w : tabWf {} s.con.groups = true) :
    groupOf (decimatorOutput k st s) k = { groupOf s k with
      fresh := (groupOf s k).fresh && decide ((groupOf s k).priming > 0), priming := (groupOf s k).priming - 1
      runts := (groupOf s k).runts - 1, periodAt := timeTotal s } := by
  rw [decimatorOutput_runs hr hf rfl]
  generalize hg : ({ groupOf s k with fresh := _ } : ConGroup) = g
  have sampled := clocks_periodSampled k st g s
  have w' : tabWf {} (periodSampled k st g s).con.groups = true := by
    rw [sampled.2]
    exact tabSet_wf _ _ _ w
  have time : timeTotal (periodSampled k st g s) = timeTotal s := sampled.timeTotal_eq
  rw [groupOf_setGroupOf _ _ w', time, ← hg]

/-- An output period has OSR bits. -/
theorem length_periodBits (g : ConGroup) (i : ConInput) (raw : List Bool) : (periodBits g i raw).length = g.osr := by
  simp [periodBits]

/-- A stopped group has no output period for a frame instant to cut. -/
theorem frameGroup_stopped {t k : Nat} (h : (groupOf s k).run = false) : frameGroup t s k = s := by
  simp only [frameGroup, h, Bool.false_and, Bool.false_eq_true, if_false]

/-- While no group runs, a frame instant is only noted. -/
theorem frameCheck_idle (he : s.con.frameEn = true) (hn : (trigAt s s.con.frameTrig).fires ≠ s.con.frameSeen) (hf : filterOn s = true)
    (hr : ∀ k, k < 4 → (groupOf s k).run = false) :
    frameCheck s = { s with con := { s.con with frameSeen := (trigAt s s.con.frameTrig).fires } } := by
  unfold frameCheck
  dsimp only
  rw [if_pos (by simp [he, hf, hn.symm])]
  refine foldl_still fun k hk => ?_
  exact frameGroup_stopped (hr k (List.mem_range.1 hk))

/-! ### Cycle starts (R312) -/

/-- A cycle start leaves no committed set, dates itself, and releases the task with a set or not at all. -/
theorem con_cycleStart (s : State) : (cycleStart s).con.committed = none ∧ (cycleStart s).con.cycleAt = timeTotal s
    ∧ ((cycleStart s).con.taskRun = true ↔ (cycleStart s).con.task ≠ none) := by
  unfold cycleStart
  rw [bumpIf_frame]
  refine ⟨rfl, ?time, ?task⟩
  case time =>
    refine Clocks.timeTotal_eq ?_
    have start : Clocks s s := ⟨rfl, rfl⟩
    grind only [clocks_bump, clocks_bumpIf, clocks_cycleOutputs, clocks_foldl, clocks_closeWindow, clocks_conApply, clocks_snapFan]
  case task =>
    dsimp only
    split <;> simp [*]

/-! ### The control task (R311, R313, R406, R407) -/

/-- The task's view of the fans may change, and a counter. -/
def OverridesFans (s t : State) : Prop := ∃ x y, t = { s with con := { s.con with fans := x }, ctr := y }

/-- Overriding fans changes that alone. -/
theorem overridesFans_foldl (fs : List Nat) (s : State) : OverridesFans s (fs.foldl fanOverride s) := by
  refine List.foldlRecOn (motive := OverridesFans s) fs _ ⟨_, _, rfl⟩ ?_
  rintro _ ⟨x, y, rfl⟩ f -
  unfold fanOverride
  dsimp only
  split
  · exact ⟨_, _, rfl⟩
  · split
    · exact ⟨_, _, rfl⟩
    · exact ⟨_, _, rfl⟩

/-- The task commits its set with eight duties and feeds the owner watchdog, or, in MODE pair without a claim, is late. -/
theorem taskCommit_due {set : Nat × List Nat} (ht : s.con.task = some set) (hd : cycleDue s = false) :
    ∃ x y d, d.length = 8 ∧ taskCommit s = if s.pair.mode = 1 && !s.pair.confirmed
      then bump Ctr.conCycleLate { s with con := { s.con with fans := x, task := none }, ctr := y }
      else { s with
        con := { s.con with fans := x, task := none, committed := some (set.1, d) }, ctr := y, pair := { s.pair with ownerFed := s.cycles } } := by
  obtain ⟨x, y, e⟩ := overridesFans_foldl (List.range 8) s
  unfold taskCommit
  rw [if_neg (by simp [hd]), ht]
  dsimp only
  rw [e]
  exact ⟨x, y, _, by simp, rfl⟩

/-! ### Tachometers (R317) -/

/-- A fan after a falling edge. -/
def edgeTaken (f : Nat) (s : State) : Fan :=
  { fanAt s f with
    tachUs := match (fanAt s f).edges[(fanAt s f).act.ppr - 1]? with
      | some e => min ((s.cycles - e) / 1000) (2 ^ 20 - 1)
      | none => (fanAt s f).tachUs
    stall := false, edges := (s.cycles :: (fanAt s f).edges).take 4 }

theorem tachEdge_eq (f : Nat) (s : State) : tachEdge f s = setFan f (edgeTaken f s) s := by
  unfold tachEdge edgeTaken
  rfl

/-- The revolution is the time over PPR edges. -/
theorem tachUs_edgeTaken {f e : Nat} (he : (fanAt s f).edges[(fanAt s f).act.ppr - 1]? = some e) :
    (edgeTaken f s).tachUs = min ((s.cycles - e) / 1000) (2 ^ 20 - 1) := by
  unfold edgeTaken
  rw [he]

/-! ### Outputs (R314) -/

/-- A set applied leaves a tripped output as it is. -/
theorem actAt_applySetNow {i : Nat} (set : Nat × List Nat) (ht : (actAt s i).tripped = true) : actAt (applySetNow set s) i = actAt s i := by
  have levels : ∀ t : State, actAt t i = actAt s i → ∀ a,
      actAt (if (actAt t a).tripped then t else setAct a { actAt t a with level := bit set.1 a } t) i = actAt s i := by
    intro t h a
    split
    next => exact h
    next free =>
      have other : i ≠ a := by
        rintro rfl
        exact free (by rw [h, ht])
      exact (actAt_setAct_ne _ other).trans h
  have duties : ∀ (f d : Nat) (t : State), actAt (setDuty f d t) i = actAt t i := by
    intro f d t
    unfold setDuty
    split <;> rfl
  have noted (t : State) (x : Nat × List Nat) : actAt { t with con := { t.con with applied := x } } i = actAt t i := rfl
  unfold applySetNow
  refine (noted _ _).trans ?_
  refine List.foldlRecOn (motive := fun t : State => actAt t i = actAt s i) _ _ ?_ fun t h f _ => (duties f _ t).trans h
  exact List.foldlRecOn (motive := fun t : State => actAt t i = actAt s i) _ _ rfl fun t h a _ => levels t h a

/-- A trip latches its output at SAFE. -/
theorem actAt_tripOutput (n : Nat) (s : State) :
    actAt (tripOutput n s) n = { actAt s n with tripped := true, clearing := false, level := (actAt s n).safe } :=
  tabGet_tabSet_self _ _ fun e => absurd (congrArg Actuator.tripped e) (by simp)

/-! ### The delivery of energy (R307) -/

/-- An outlet reads back. -/
theorem outletAt_setOutlet (o : Nat) (x : Outlet) (w : tabWf {} s.con.outlets = true) : outletAt (setOutlet o x s) o = x :=
  (tabGet_tabSet _ _ _ _ w).trans (if_pos rfl)

/-- One outlet's energy goes into the bank. -/
def deliverOne (b : Nat) (s : State) (o : Nat) : State :=
  let k := bankAt s b
  setOutlet o { outletAt s o with acc := (outletAt s o).acc % 65536 }
    (setBank b { k with energy := tabSet 0 k.energy o ((tabGet 0 k.energy o + (outletAt s o).acc / 65536) % 2 ^ 64) } s)

theorem deliverEnergy_eq (b : Nat) (s : State) : deliverEnergy b s = (List.range 32).foldl (deliverOne b) s := rfl

/-- The OPEN bank then holds the whole units. -/
theorem bankAt_deliverOne {b : Nat} (hs : (bankAt s b).state = 1) (o : Nat) : bankAt (deliverOne b s o) b = { bankAt s b with
    energy := tabSet 0 (bankAt s b).energy o ((tabGet 0 (bankAt s b).energy o + (outletAt s o).acc / 65536) % 2 ^ 64) } :=
  bankAt_setBank_of_state (by simp [hs])

/-- The energy of a bank for an outlet, and the outlet's accumulator. -/
def energyOf (b : Nat) (s : State) (o : Nat) : Nat × Nat := (tabGet 0 (bankAt s b).energy o, (outletAt s o).acc)

/-- Tables that delivery needs in canonical form, and an OPEN bank. -/
def Deliverable (b : Nat) (s : State) : Prop :=
  (bankAt s b).state = 1 ∧ tabWf {} s.con.outlets = true ∧ tabWf 0 (bankAt s b).energy = true

/-- Delivery of one outlet leaves the others' energy. -/
theorem energyOf_deliverOne_ne {b i j : Nat} (hs : Deliverable b s) (h : j ≠ i) : energyOf b (deliverOne b s i) j = energyOf b s j := by
  unfold energyOf
  rw [bankAt_deliverOne hs.1]
  exact congrArg₂ Prod.mk (tabGet_tabSet_ne _ _ h) (congrArg Outlet.acc (tabGet_tabSet_ne _ _ h))

/-- Its own is split into whole units for the bank and a fraction that stays. -/
theorem energyOf_deliverOne {b i : Nat} (hs : Deliverable b s) :
    energyOf b (deliverOne b s i) i = (((energyOf b s i).1 + (energyOf b s i).2 / 65536) % 2 ^ 64, (energyOf b s i).2 % 65536) := by
  obtain ⟨ho, hw, he⟩ := hs
  unfold energyOf
  rw [bankAt_deliverOne ho]
  refine congrArg₂ Prod.mk ?bank (congrArg Outlet.acc (outletAt_setOutlet i _ hw))
  rw [tabGet_tabSet _ _ _ _ he, if_pos rfl]

theorem deliverable_deliverOne {b : Nat} (hs : Deliverable b s) (i : Nat) : Deliverable b (deliverOne b s i) := by
  obtain ⟨ho, hw, he⟩ := hs
  unfold Deliverable
  rw [bankAt_deliverOne ho]
  exact ⟨ho, tabSet_wf _ _ _ hw, tabSet_wf _ _ _ he⟩

/-- Delivery does so for every outlet. -/
theorem energyOf_deliverEnergy {b : Nat} (hs : Deliverable b s) {o : Nat} (ho : o < 32) :
    energyOf b (deliverEnergy b s) o = (((energyOf b s o).1 + (energyOf b s o).2 / 65536) % 2 ^ 64, (energyOf b s o).2 % 65536) := by
  rw [deliverEnergy_eq]
  exact foldl_unit (get := energyOf b) (W := Deliverable b) (g := fun _ x => ((x.1 + x.2 / 65536) % 2 ^ 64, x.2 % 65536))
    (fun _ _ _ hs h => energyOf_deliverOne_ne hs h) (fun _ i hs => deliverable_deliverOne hs i) (fun _ _ hs => energyOf_deliverOne hs)
    List.nodup_range (List.mem_range.2 ho) hs

/-- Settles O47: an event's conditions choose its branch; what a fold does to one unit is what that unit's own step does. -/
theorem consoleEventsSampleTripAndCycle : Obligations.ConsoleEventsSampleTripAndCycle := by
  unfold Obligations.ConsoleEventsSampleTripAndCycle
  intro s k c f n m st set
  refine ⟨?start, ?output, length_periodBits, ?frame, ?onset, ?ended, ?cycle, ?task, ?applied, ?trip, ?edge, ?stall, ?energy⟩
  case start => exact fun hk ha he hf hm => ⟨_, onUnit_next.2 ⟨decide_eq_true hk, rfl⟩, groupOf_decimatorStart ha he hf hm⟩
  case output =>
    exact fun hk hr hf => ⟨_, onUnit_next.2 ⟨decide_eq_true hk, rfl⟩, rfl, fun w => groupOf_decimatorOutput hr hf w⟩
  case frame => exact fun he hn hf hr => congrArg Host.Outcome.next (frameCheck_idle he hn hf hr)
  case onset => exact fun hc he hf => onUnit_next.2 ⟨decide_eq_true hc, if_pos (by simp [he, hf])⟩
  case ended => exact fun hc hf hg => onUnit_next.2 ⟨decide_eq_true hc, if_pos (by simp [hf, hg])⟩
  case cycle =>
    intro he hn
    have due : consoleCycle s = cycleStart { s with con := { s.con with cycleSeen := (trigAt s s.con.cycleTrig).fires } } :=
      if_pos (by simp [cycleDue, he, hn.symm])
    exact ⟨_, congrArg Host.Outcome.next due, rfl, con_cycleStart _⟩
  case task =>
    intro ht hd
    obtain ⟨x, y, d, hlen, e⟩ := taskCommit_due ht hd
    refine ⟨fun h => ?_, fun hm hc => ?_⟩
    · refine ⟨_, d, congrArg Host.Outcome.next (e.trans (if_neg ?_)), rfl, rfl, hlen, rfl⟩
      obtain h | h := h <;> simp [h]
    · exact ⟨_, congrArg Host.Outcome.next (e.trans (if_pos (by simp [hm, hc]))), rfl, rfl, rfl⟩
  case applied => exact fun i _ ht _ => actAt_applySetNow set ht
  case trip =>
    rw [actAt_tripOutput]
    exact ⟨rfl, rfl, rfl⟩
  case edge => exact fun hf => ⟨edgeTaken f s, onUnit_next.2 ⟨decide_eq_true hf, tachEdge_eq f s⟩, rfl, rfl, fun e he => tachUs_edgeTaken he⟩
  case stall => exact fun hf he => onUnit_next.2 ⟨decide_eq_true hf, if_pos he⟩
  case energy =>
    intro b hs hw he o ho
    have split := energyOf_deliverEnergy ⟨hs, hw, he⟩ ho
    simp only [energyOf, Prod.mk.injEq] at split
    exact split

end Sys2Proof.Proofs.ConsoleEvents
end

section
/-! SUPPORT. Tempo monitors, the core supply, Tuning passes, and the TUNE commands (chapter 14). -/
namespace Sys2Proof.Proofs.Tempo
open Sys2Proof Sys2Proof.Machine Sys2Proof.Laws Sys2Proof.Proofs.PortSettings Sys2Proof.Proofs.PortLife
open Sys2Proof.Proofs.SysCommands (handed_ok)

variable {s : State} {a : List W32}

/-! ### Monitors and the guard (R323, R325) -/

/-- A window of a monitor that is on sets its TEMPO and VALID. -/
theorem windowEnd_on {m count : Nat} (hm : monitorOn s m = true) (hc : 1 ≤ count) : windowEnd m count s
    = guardCheck (modTmp (fun t => { t with mons := tabSet {} t.mons m { tempo := min (262144000 / count) 4095, valid := true } }) s) := by
  unfold windowEnd
  dsimp only
  rw [if_pos hm, if_neg (Nat.one_le_iff_ne_zero.1 hc)]

/-- The guard raises the target by a step, once per window. -/
theorem guardCheck_raises (ho : overGuard s = true) (ht : s.tmp.target < 80) (hw : s.tmp.guardWin ≠ some (s.cycles / 65536)) :
    guardCheck s = bump Ctr.tmpGuardStep (modTmp (fun t => { t with
      target := t.target + 1, goal := max t.goal (t.target + 1), guardWin := some (s.cycles / 65536) }) s) := by
  unfold guardCheck
  dsimp only
  rw [if_pos ho, if_neg ht.not_ge, if_neg hw]

/-! ### The supply (R326 to R328) -/

/-- With the rail at the target and 20 µs gone, the next write is one step towards the goal, but no lowering one under a fault. -/
theorem nextWrite_settled (hr : s.tmp.rail = s.tmp.target) (hw : ∀ w ∈ s.tmp.avsAt, w + 20000 ≤ s.cycles) :
    (s.tmp.target < s.tmp.goal → nextWrite s = some (s.tmp.target + 1))
      ∧ (s.tmp.goal < s.tmp.target → nextWrite s = if s.tmp.avsFault then none else some (s.tmp.target - 1)) := by
  unfold nextWrite
  cases hat : s.tmp.avsAt with
  | none => grind
  | some c =>
    have waited := hw c hat
    grind

/-- A write that the regulator answers moves target and rail there; one that it does not is a fault. -/
theorem avsWrite_next {n : Nat} (h : nextWrite s = some n) (answered : Bool) :
    avsWrite answered s = finishPass (if answered
      then modTmp (fun t => { t with target := n, rail := n }) (modTmp (fun t => { t with avsAt := some s.cycles }) s)
      else avsFail (modTmp (fun t => { t with avsAt := some s.cycles }) s)) := by
  unfold avsWrite
  rw [h]

/-- What a read-back stores. -/
def Reads (mv cur target : Nat) (s : State) : Prop := s.tmp.measured = mv % 1024 ∧ s.tmp.current = cur % 2048 ∧ s.tmp.target = target

/-- Answering commands is not the supply's. -/
theorem tmp_settleJobs (p : JobKind → Bool) (code : Nat) (res : List Byte) (s : State) : (settleJobs p code res s).tmp = s.tmp := by
  refine List.foldlRecOn (motive := fun t : State => t.tmp = s.tmp) _ _ rfl fun t h x _ => ?_
  exact h

theorem tmp_settleRun (s : State) : (settleRun s).tmp = s.tmp := by
  unfold settleRun
  split <;> rfl

/-- Nor is the end of a pass. -/
theorem reads_finishPass {mv cur target : Nat} (h : Reads mv cur target s) : Reads mv cur target (finishPass s) := by
  grind only [finishPass, Reads, tmp_settleJobs, tmp_settleRun, bump, bumpBy, modTmp]

/-- A read-back stores voltage and current and leaves the target. -/
theorem reads_avsReadback (mv cur : Nat) (tj : List Int) (s : State) : Reads mv cur s.tmp.target (avsReadback mv cur true tj s) := by
  grind only [avsReadback, Reads, reads_finishPass, avsFail, bump, bumpBy, modTmp]

/-! ### Passes (R332 to R338) -/

/-- Titimus runs the first pass that is due. -/
theorem tuningPass_due {c : PassCause} (hr : s.tcs.running = true) (hs : s.tmp.stepping = false) (hc : s.tmp.passes.head? = some c) :
    tuningPass s = runPass c s := by
  obtain ⟨cs, hp⟩ := List.head?_eq_some_iff.1 hc
  unfold tuningPass
  rw [if_pos (by simp [hr, hs]), hp]

/-- A pass adopts the lowest voltage of its planning range that meets the setting. -/
theorem runPass_adopts {c : PassCause} {q w : Nat} (hq : treq (passSetting s c) = some q) (hw : w ≤ 80) (hlow : planLow (passSetting s c) ≤ w)
    (hm : meets (measure s) (ageIndex (measure s)) w q = true)
    (hfirst : ∀ x, x < w → planLow (passSetting s c) ≤ x → meets (measure s) (ageIndex (measure s)) x q = false) :
    runPass c s = adopt (passSetting s c) w (assess (passSetting s c) (measure s)) := by
  have lowest : (List.range 81).find? (fun v => decide (planLow (passSetting s c) ≤ v) && meets (measure s) (ageIndex (measure s)) v q) = some w := by
    rw [List.find?_range_eq_some]
    refine ⟨by simp [hlow, hm], List.mem_range.2 (by omega), fun x hx => ?_⟩
    by_cases hl : planLow (passSetting s c) ≤ x
    · simp [hfirst x hx hl]
    · simp [hl]
  unfold runPass
  dsimp only
  rw [hq]
  dsimp only
  rw [lowest]

/-- With no such voltage it demotes, or ends without a plan. -/
theorem runPass_fails {c : PassCause} {q : Nat} (hq : treq (passSetting s c) = some q)
    (hnone : ∀ x, x ≤ 80 → planLow (passSetting s c) ≤ x → meets (measure s) (ageIndex (measure s)) x q = false) :
    runPass c s = if passSetting s c = (measure s).tmp.capo then demote c (measure s) else noMargin c (measure s) := by
  have nothing : (List.range 81).find? (fun v => decide (planLow (passSetting s c) ≤ v) && meets (measure s) (ageIndex (measure s)) v q) = none := by
    rw [List.find?_eq_none]
    intro x hx
    by_cases hl : planLow (passSetting s c) ≤ x
    · simp [hnone x (Nat.lt_succ_iff.1 (List.mem_range.1 hx)) hl]
    · simp [hl]
  unfold runPass
  dsimp only
  rw [hq]
  dsimp only
  rw [nothing]

/-! ### The stress count (R335) -/

/-- A second of device time adds one growth. -/
theorem stressUpdate_due (h : s.time.sec ≠ s.tmp.lastSec) : stressUpdate s = { s with tmp := { s.tmp with
    stress := s.tmp.stress + stressStep (hottest s) s.tmp.target
    growth := (stressStep (hottest s) s.tmp.target :: s.tmp.growth).take 2592000, lastSec := s.time.sec } } := by
  unfold stressUpdate
  rw [if_neg h]
  rfl

/-! ### The commands (Table 14-5) -/

theorem tuneRunCmd_pending (hj : jobRunning (fun j => decide (j = .tuneCapo)) s = false) :
    tuneRunCmd a s = .pending .tuneRun { s with tmp := { s.tmp with passes := s.tmp.passes ++ [.run] } } :=
  checked_pass (List.forall_mem_singleton.2 hj) _ s

theorem capoSetCmd_pending (h0 : arg a 0 ≤ 3) (hj : jobRunning (fun j => decide (j = .tuneCapo)) s = false) :
    capoSetCmd a s = .pending .tuneCapo (modTmp (fun t => { t with passes := t.passes ++ [.capo (arg a 0)] }) (requestCapo (arg a 0) s)) := by
  unfold capoSetCmd
  dsimp only
  rw [if_neg h0.not_gt, if_neg (by simp [hj])]

theorem intervalSetCmd_accepted (h0 : 1 ≤ arg a 0) (h0' : arg a 0 ≤ 168) (h1 : arg a 1 ≤ 1) :
    intervalSetCmd a s = ok [] { s with tmp := { s.tmp with interval := arg a 0, alertEn := arg a 1 == 1 } } := by
  unfold intervalSetCmd
  rw [checked_pass]
  · rfl
  · simp [badBool, h0, h0', h1]

/-- TUNE.STATUS returns 22 words and changes nothing. -/
theorem tuneStatusCmd_ok (a : List W32) (s : State) : ∃ ws : List W32, ws.length = 22 ∧ tuneStatusCmd a s = ok ws s := by
  refine ⟨_, ?_, rfl⟩
  simp

theorem tuneHistoryCmd_ok (h1 : 1 ≤ arg a 1) (h1' : arg a 1 ≤ 64) (h0 : arg a 0 < s.tmp.history.length) :
    tuneHistoryCmd a s = ok (((s.tmp.history.drop (arg a 0)).take (arg a 1)).map passWords).flatten s := by
  unfold tuneHistoryCmd
  rw [checked_pass]
  simp [h1, h1', h0]

/-- Settles O48: the conditions choose each event's branch, and the search of a pass finds the lowest voltage or none. -/
theorem tempoMonitorsGuardAndStepTheSupply : Obligations.TempoMonitorsGuardAndStepTheSupply := by
  unfold Obligations.TempoMonitorsGuardAndStepTheSupply
  intro v r s a m count mv cur tj c q n
  refine ⟨?window, ?guard, nextWrite_settled, ?write, rfl, rfl, rfl, ?readback, ?stress, ?due, ?pass, ?run, ?capoSet, rfl, rfl, ?interval, ?status,
    ?history⟩
  case window => exact fun hm ho hc => onUnit_next.2 ⟨decide_eq_true hm, windowEnd_on ho hc⟩
  case guard =>
    intro ho ht hw
    rw [guardCheck_raises ho ht hw]
    exact ⟨rfl, Nat.le_max_right ..⟩
  case write => exact fun h => ⟨congrArg Host.Outcome.next (avsWrite_next h true), congrArg Host.Outcome.next (avsWrite_next h false)⟩
  case readback => exact ⟨_, rfl, reads_avsReadback mv cur tj s⟩
  case stress => exact fun h => congrArg Host.Outcome.next (stressUpdate_due h)
  case due => exact fun hr hs hc => congrArg Host.Outcome.next (tuningPass_due hr hs hc)
  case pass => exact fun hq => ⟨fun w hw hlow hm hfirst => runPass_adopts hq hw hlow hm hfirst, fun hnone => runPass_fails hq hnone⟩
  case run => exact fun h hj => handed_pending h (tuneRunCmd_pending hj)
  case capoSet => exact fun h h0 hj => handed_pending h (capoSetCmd_pending h0 hj)
  case interval => exact fun h h0 h0' h1 => handed_ok h (intervalSetCmd_accepted h0 h0' h1)
  case status =>
    intro h
    obtain ⟨ws, hlen, hok⟩ := tuneStatusCmd_ok a s
    exact ⟨ws, hlen, handed_done h hok⟩
  case history => exact fun h h1 h1' h0 => handed_done h (tuneHistoryCmd_ok h1 h1' h0)

end Sys2Proof.Proofs.Tempo
end

section
/-! SUPPORT. The control clusters: watchdog, switch-over, role swap, standby (chapter 17). -/
namespace Sys2Proof.Proofs.Clusters
open Sys2Proof Sys2Proof.Machine Sys2Proof.Laws

variable {s : State}

/-! ### What the shared steps leave alone -/

/-- Of two states, the parts that a cluster event speaks of, but the console's set, are the same. -/
def SameClusters (s t : State) : Prop :=
  t.pair = s.pair ∧ t.tcs.running = s.tcs.running ∧ t.tcs.standby = s.tcs.standby ∧ t.tcs.journal = s.tcs.journal ∧ t.con = s.con

theorem SameClusters.trans {t u : State} (h : SameClusters s t) (h' : SameClusters t u) : SameClusters s u := by
  obtain ⟨p, r, i, j, c⟩ := h
  obtain ⟨p', r', i', j', c'⟩ := h'
  exact ⟨p'.trans p, r'.trans r, i'.trans i, j'.trans j, c'.trans c⟩

/-- A fold of steps that leave them alone does so. -/
theorem sameClusters_foldl {α : Type} {f : State → α → State} (hf : ∀ s x, SameClusters s (f s x)) (xs : List α) (s : State) :
    SameClusters s (xs.foldl f s) :=
  List.foldlRecOn (motive := SameClusters s) xs f ⟨rfl, rfl, rfl, rfl, rfl⟩ fun t h x _ => h.trans (hf t x)

/-- A change of channels leaves them alone. -/
theorem sameClusters_setChannel (v : Via) (c : Channel) (s : State) : SameClusters s (setChannel v c s) := ⟨rfl, rfl, rfl, rfl, rfl⟩

theorem sameClusters_settleJobs (p : JobKind → Bool) (code : Nat) (res : List Byte) (s : State) : SameClusters s (settleJobs p code res s) :=
  sameClusters_foldl (fun _ _ => sameClusters_setChannel ..) _ s

theorem sameClusters_markPrevious (s : State) : SameClusters s (markPrevious s) := by
  refine sameClusters_foldl (fun s v => ?_) _ s
  split
  · exact sameClusters_setChannel ..
  · exact ⟨rfl, rfl, rfl, rfl, rfl⟩

theorem sameClusters_unmarkPrevious (s : State) : SameClusters s (unmarkPrevious s) := by
  refine sameClusters_foldl (fun s v => ?_) _ s
  split
  · split
    · exact sameClusters_setChannel ..
    · exact ⟨rfl, rfl, rfl, rfl, rfl⟩
  · exact ⟨rfl, rfl, rfl, rfl, rfl⟩

theorem sameClusters_holdStat (s : State) : SameClusters s (holdStat s) := by
  unfold holdStat
  split
  · exact ⟨rfl, rfl, rfl, rfl, rfl⟩
  · exact ⟨rfl, rfl, rfl, rfl, rfl⟩

theorem sameClusters_post7 (n : Nat) (s : State) : SameClusters s (post7 n s) := by
  unfold post7
  rw [postOpen_frame]
  exact ⟨rfl, rfl, rfl, rfl, rfl⟩

/-- An event leaves those that are held. -/
theorem evHeld_postOpenAt (i c u : Nat) (s : State) : (postOpenAt i c u s).up.evHeld = s.up.evHeld := by
  unfold postOpenAt postEventAt
  dsimp only
  split
  · rfl
  · split
    · rfl
    · rfl

theorem sameClusters_postOpenAt (i c u : Nat) (s : State) : SameClusters s (postOpenAt i c u s) := by
  unfold postOpenAt
  rw [postEventAt_frame]
  exact ⟨rfl, rfl, rfl, rfl, rfl⟩

/-- Titimus begins to run, with its transmitter. -/
theorem sameClusters_runTitimus (s : State) :
    SameClusters { s with tcs := { s.tcs with running := true }, pair := { s.pair with linkTx := true } } (runTitimus s) := by
  obtain ⟨p, r, i, j, c⟩ := sameClusters_foldl (fun s (e : Nat × Nat × Nat) => sameClusters_postOpenAt e.2.2 e.1 e.2.1 s) s.up.evHeld
    { s with tcs := { s.tcs with running := true }, pair := { s.pair with linkTx := true }, up := { s.up with evHeld := [] } }
  exact ⟨p, r, i, j, c⟩

theorem pair_runTitimus (s : State) : (runTitimus s).pair = { s.pair with linkTx := true } := (sameClusters_runTitimus s).1

theorem running_runTitimus (s : State) : (runTitimus s).tcs.running = true := (sameClusters_runTitimus s).2.1

/-- It posts the events that waited for it. -/
theorem evHeld_runTitimus (s : State) : (runTitimus s).up.evHeld = [] :=
  List.foldlRecOn (motive := fun t : State => t.up.evHeld = []) _ _ rfl fun _ h _ _ => (evHeld_postOpenAt ..).trans h

/-- Abandoning the commands empties the journal, and is not the pair's. -/
theorem abandonCommands_effect (s : State) : (abandonCommands s).pair = s.pair ∧ (abandonCommands s).tcs.journal = [] := by
  refine ⟨?_, rfl⟩
  unfold abandonCommands
  dsimp only
  refine List.foldlRecOn (motive := fun t : State => t.pair = s.pair) _ _ rfl fun t h v _ => ?_
  split
  all_goals exact h

/-! ### Faults (R400 to R402) -/

/-- A switch-over passes the cell, stops commands and drops the control task's set. -/
theorem switchOver_effect (s : State) : (switchOver s).pair.owner = 1 - s.pair.owner
    ∧ (switchOver s).pair.cclEpoch = (s.pair.cclEpoch + 1) % 2 ^ 32 ∧ (switchOver s).tcs.running = false ∧ (switchOver s).pair.ready = false
    ∧ (switchOver s).con.task = none ∧ (switchOver s).con.applied = s.con.applied := by
  grind only [switchOver, SameClusters, sameClusters_holdStat, sameClusters_markPrevious, passCell, modPair, dropTask, bump, bumpBy]

/-- A reload keeps the cell and empties the journal. -/
theorem clusterReload_effect (s : State) :
    (clusterReload s).pair.owner = s.pair.owner ∧ (clusterReload s).tcs.running = false ∧ (clusterReload s).tcs.journal = [] := by
  grind only [clusterReload, SameClusters, sameClusters_holdStat, abandonCommands_effect, modPair, dropTask]

/-- A watchdog not fed for 5 ms expires. -/
theorem watchdogExpire_lapsed (hr : s.tcs.running = true) (hf : s.pair.fedAt + 5000000 ≤ s.cycles) :
    watchdogExpire s = if standbyOk s then switchOver s else clusterReload s :=
  if_pos (by simp [hr, hf])

/-! ### Role swaps (R403) -/

/-- A swap that is asked for begins. -/
theorem roleSwap_begins (hs : s.pair.swapping = none) (hr : s.tcs.running = true) (hw : s.pair.switching = false) (hj : jobRunning swapJob s = true) :
    roleSwap s = { holdStat s with pair := { s.pair with swapping := some s.cycles, handed := false, switching := true, swapAt := s.time.sec } } := by
  have asked : roleSwap s = swapBegin s := by
    unfold roleSwap
    rw [hs]
    exact if_pos (by simp [hr, hw])
  have same := (sameClusters_holdStat s).1
  have device : (holdStat s).cycles = s.cycles ∧ (holdStat s).time = s.time := by
    unfold holdStat
    split
    · exact ⟨rfl, rfl⟩
    · exact ⟨rfl, rfl⟩
  rw [asked, swapBegin, if_pos hj]
  dsimp only [modPair]
  rw [same, device.1, device.2]

/-- One that has begun hands the cell over once every other command is done, and is abandoned after 500 ms. -/
theorem roleSwap_begun {at_ : Nat} (hs : s.pair.swapping = some at_) (hh : s.pair.handed = false) (hr : s.tcs.running = true) :
    roleSwap s = if commandsDone s then swapHand s else if s.cycles ≥ at_ + 500000000 then swapAbandon s else s := by
  unfold roleSwap
  rw [hs]
  exact if_neg (by simp [hh, hr])

/-- Handing over passes the cell and stops Titimus. -/
theorem swapHand_effect (s : State) :
    (swapHand s).pair.owner = 1 - s.pair.owner ∧ (swapHand s).pair.handed = true ∧ (swapHand s).tcs.running = false := by
  grind only [swapHand, SameClusters, sameClusters_markPrevious, checkpoint, passCell, modPair, dropTask, bump, bumpBy]

/-- The new owner has taken over within its 2 ms, and nothing is answered yet. -/
def takenOver (s : State) : State :=
  let back := jobRunning (fun k => decide (k = .swap)) s && s.tcs.trial
  modPair (fun p => { p with
      swapping := none, handed := false, switching := false, fedAt := s.cycles, ready := true, copy := s.tcs.journal, checkAt := s.cycles })
    (runTitimus { s with tcs := { s.tcs with trial := s.tcs.trial && !back, swapBlock := s.tcs.swapBlock && !back } })

/-- Then the event and the answers follow. -/
theorem roleSwapDone_inTime {at_ : Nat} (hh : s.pair.handed = true) (hs : s.pair.swapping = some at_) (ht : s.cycles ≤ at_ + 2000000) :
    SameClusters (takenOver s) (roleSwapDone s) := by
  have inTime : (s.pair.handed && !takeoverOver s) = true := by simp [hh, takeoverOver, hs, ht]
  unfold roleSwapDone
  rw [if_pos inTime]
  exact ((sameClusters_post7 ..).trans (sameClusters_settleJobs ..)).trans (sameClusters_settleJobs ..)

/-- The new owner is available, and the former one its ready standby. -/
theorem roleSwapDone_effect {at_ : Nat} (hh : s.pair.handed = true) (hs : s.pair.swapping = some at_) (ht : s.cycles ≤ at_ + 2000000) :
    (roleSwapDone s).tcs.running = true ∧ (roleSwapDone s).pair.ready = true ∧ (roleSwapDone s).pair.switching = false
      ∧ (roleSwapDone s).pair.swapping = none ∧ (roleSwapDone s).pair.owner = s.pair.owner := by
  obtain ⟨pair, running, -⟩ := roleSwapDone_inTime hh hs ht
  rw [pair, running]
  simp [takenOver, modPair, pair_runTitimus, running_runTitimus]

/-- The cell is back with the former owner, and nothing is answered yet. -/
def takenBack (s : State) : State :=
  let act := jobRunning (fun k => decide (k = .fwActivate)) s
  let s := unmarkPrevious (passCell s)
  let s := modPair (fun p => { p with swapping := none, handed := false, switching := false, fedAt := s.cycles, ready := false }) s
  runTitimus { s with tcs := { s.tcs with standby := none, trial := s.tcs.trial && !act, swapBlock := s.tcs.swapBlock && !act } }

/-- Then the count, the event and the answers follow. -/
theorem roleSwapFail_late {at_ : Nat} (hh : s.pair.handed = true) (hs : s.pair.swapping = some at_) (ht : at_ + 2000000 < s.cycles) :
    SameClusters (takenBack s) (roleSwapFail s) := by
  have late : (s.pair.handed && takeoverOver s) = true := by simp [hh, takeoverOver, hs, ht]
  have counted (t : State) : SameClusters t (bump Ctr.cclSwapFail t) := ⟨rfl, rfl, rfl, rfl, rfl⟩
  unfold roleSwapFail
  rw [if_pos late]
  exact ((counted _).trans (sameClusters_post7 ..)).trans (sameClusters_settleJobs ..)

/-- The former owner resumes, without a standby. -/
theorem roleSwapFail_effect {at_ : Nat} (hh : s.pair.handed = true) (hs : s.pair.swapping = some at_) (ht : at_ + 2000000 < s.cycles) :
    (roleSwapFail s).tcs.running = true ∧ (roleSwapFail s).pair.ready = false ∧ (roleSwapFail s).pair.owner = 1 - s.pair.owner
      ∧ (roleSwapFail s).pair.swapping = none := by
  obtain ⟨pair, running, -⟩ := roleSwapFail_late hh hs ht
  have unmarked := (sameClusters_unmarkPrevious (passCell s)).1
  rw [pair, running]
  have passed : (passCell s).pair.owner = 1 - s.pair.owner := rfl
  simp [takenBack, modPair, pair_runTitimus, running_runTitimus, unmarked, passed]

/-! ### The standby (R399) -/

/-- The standby with image `i` becomes ready, with a checkpoint. -/
def standbyUp (i : Image) (s : State) : State :=
  checkpoint (modPair (fun p => { p with ready := true }) { s with tcs := { s.tcs with standby := some i } })

theorem standbyUp_effect {i : Image} (hr : s.tcs.running = true) :
    (standbyUp i s).pair.ready = true ∧ (standbyUp i s).tcs.standby = some i ∧ (standbyUp i s).pair.copy = s.tcs.journal := by
  unfold standbyUp checkpoint
  rw [if_pos (by simp [modPair, hr])]
  exact ⟨rfl, rfl, rfl⟩

/-- A standby that is loaded, while no firmware load runs, becomes ready; a commit that waited for it is answered. -/
theorem standbyReady_loaded {i : Image} (hr : s.tcs.running = true) (hn : s.pair.ready = false) (hw : s.pair.switching = false)
    (hd : domainOn s (standbyDomain s) = true) (ha : s.dev.asserted = 0) (hl : loadingImage s = none) (hs : s.tcs.standby = some i) :
    SameClusters (standbyUp i s) (standbyReady s) := by
  have free : (s.tcs.running && !s.pair.ready && !s.pair.switching && domainOn s (standbyDomain s) && decide (s.dev.asserted = 0)) = true := by
    simp [hr, hn, hw, hd, ha]
  unfold standbyReady
  rw [if_pos free, hl, hs]
  dsimp only
  change SameClusters (standbyUp i s) (if jobRunning _ (standbyUp i s) = true then _ else standbyUp i s)
  split
  · exact SameClusters.trans (t := { standbyUp i s with tcs := { (standbyUp i s).tcs with swapBlock := false } })
      ⟨rfl, rfl, rfl, rfl, rfl⟩ (sameClusters_settleJobs ..)
  · exact ⟨rfl, rfl, rfl, rfl, rfl⟩

/-- Settles O49: the conditions choose each event's branch, and the frames of the shared steps give what is left. -/
theorem clustersSwitchAndSwap : Obligations.ClustersSwitchAndSwap := by
  unfold Obligations.ClustersSwitchAndSwap
  intro s at_
  refine ⟨?expire, ?switch, switchOver_effect s, clusterReload_effect s, ?done, ?feed, ?ownerFeed, ?check, ?begin, ?begun, swapHand_effect s, ?swapped,
    ?standby⟩
  case expire => exact fun hr hf => congrArg Host.Outcome.next (watchdogExpire_lapsed hr hf)
  case switch => exact fun hr ho => congrArg Host.Outcome.next (if_pos (by simp [hr, ho]))
  case done =>
    intro hw hs hr
    refine ⟨congrArg Host.Outcome.next (if_pos (by simp [hw, hs, hr])), ?_, ?_, evHeld_runTitimus s⟩
    · exact running_runTitimus s
    · rw [pair_runTitimus]
  case feed => exact fun hr => congrArg Host.Outcome.next (if_pos hr)
  case ownerFeed => exact fun hr hc => congrArg Host.Outcome.next (if_pos (by simp [hr, hc]))
  case check => exact fun hr hs => congrArg Host.Outcome.next (if_pos (by simp [hr, Option.isSome_iff_ne_none, hs]))
  case begin => exact fun hs hr hw hj => congrArg Host.Outcome.next (roleSwap_begins hs hr hw hj)
  case begun =>
    intro hs hh hr
    have begun := roleSwap_begun hs hh hr
    refine ⟨fun hd => congrArg Host.Outcome.next (begun.trans (if_pos hd)), fun hd ht => congrArg Host.Outcome.next (begun.trans ?_)⟩
    rw [if_neg (by simp [hd]), if_pos ht]
  case swapped =>
    exact fun hh hs => ⟨fun ht => ⟨_, rfl, roleSwapDone_effect hh hs ht⟩, fun ht => ⟨_, rfl, roleSwapFail_effect hh hs ht⟩⟩
  case standby =>
    intro i hr hn hw hd ha hl hs
    obtain ⟨pair, -, standby, -⟩ := standbyReady_loaded hr hn hw hd ha hl hs
    refine ⟨_, rfl, ?_⟩
    rw [pair, standby]
    exact standbyUp_effect hr

end Sys2Proof.Proofs.Clusters
end

section
/-! SUPPORT. The PAIR commands (chapter 17). -/
namespace Sys2Proof.Proofs.PairCommands
open Sys2Proof Sys2Proof.Machine Sys2Proof.Laws Sys2Proof.Proofs.PortSettings Sys2Proof.Proofs.ConsoleCommands
open Sys2Proof.Proofs.SysCommands (handed_ok)

variable {s : State} {a : List W32}

/-! ### PAIR.CONFIG (R415) -/

/-- What PAIR.CONFIG makes of a role: leaving group mode gives it up. -/
def roleConfigured (mode : Nat) (x : RoleState) : RoleState := if mode = 2 then x else { x with hold := false, holder := none, votes := [] }

theorem pairConfigCmd_accepted (h0 : arg a 0 ≤ 2) (h1 : 10 ≤ arg a 1) (h1' : arg a 1 ≤ 100000) (h2 : 1 ≤ arg a 2) (h2' : arg a 2 ≤ 168)
    (hm : arg a 0 = s.pair.mode ∨ s.con.outEn = false ∧ s.pair.claim = false) :
    pairConfigCmd a s = ok [] { s with pair := { s.pair with
      mode := arg a 0, claimWait := arg a 1, swapHours := arg a 2
      role0 := roleConfigured (arg a 0) s.pair.role0, role1 := roleConfigured (arg a 0) s.pair.role1 } } := by
  have allowed : (decide (arg a 0 ≠ s.pair.mode) && (s.con.outEn || s.pair.claim)) = false := by
    obtain h | ⟨ho, hc⟩ := hm
    · simp [h]
    · simp [ho, hc]
  unfold pairConfigCmd
  dsimp only
  rw [checked_pass]
  · rfl
  · refine List.forall_mem_cons.2 ⟨?_, List.forall_mem_singleton.2 allowed⟩
    simp [h0, h1, h1', h2, h2']

/-! ### PAIR.GROUP_SET (R412) -/

/-- The group port mask names a port. -/
def inGroup (a : List W32) (p : Nat) : Bool := bit (wordAt ((List.range 16).map fun i => a.getD (2 + i) 0#32) (p / 32)) (p % 32)

/-- Its bit is the argument's. -/
theorem inGroup_eq {p : Nat} (hp : p < 512) : inGroup a p = bit (arg a (2 + p / 32)) (p % 32) := by
  have word : p / 32 < 16 := by omega
  simp [inGroup, wordAt, arg, word]

/-- Entry 7 of each group port takes the station address. -/
def groupStations (a : List W32) (s : State) : State :=
  (List.range 512).foldl (fun s p =>
    if inGroup a p then
      modPort p (fun q => { q with cfg := { q.cfg with stations := tabSet none q.cfg.stations 7 (some (arg a 18 + arg a 19 * 2 ^ 32)) } }) s
    else s) s

theorem groupStations_frame (a : List W32) (s : State) : groupStations a s = { s with ports := (groupStations a s).ports } := by
  refine List.foldlRecOn (motive := fun t : State => t = { s with ports := t.ports }) _ _ rfl fun t h p _ => ?_
  split
  · rw [h]
    rfl
  · exact h

/-- Entry 7 of a port's station table. -/
def stationSeven (s : State) (p : Nat) : Option Nat := tabGet none (portAt s p).cfg.stations 7

/-- A port with an entry 7 reads back. -/
theorem stationSeven_modPort (p addr : Nat) (s : State) :
    stationSeven (modPort p (fun q => { q with cfg := { q.cfg with stations := tabSet none q.cfg.stations 7 (some addr) } }) s) p = some addr := by
  have entry : tabGet none (tabSet none (portAt s p).cfg.stations 7 (some addr)) 7 = some addr := tabGet_tabSet_self _ _ (by simp)
  have port : portAt (modPort p (fun q => { q with cfg := { q.cfg with stations := tabSet none q.cfg.stations 7 (some addr) } }) s) p
      = { portAt s p with cfg := { (portAt s p).cfg with stations := tabSet none (portAt s p).cfg.stations 7 (some addr) } } := by
    refine tabGet_tabSet_self _ _ fun e => ?_
    have empty := congrArg (fun q : PortState => q.cfg.stations) e
    dsimp only at empty
    rw [empty] at entry
    cases entry
  rw [stationSeven, port]
  exact entry

/-- Each port of the group takes the address. -/
theorem stationSeven_groupStations {p : Nat} (hp : p < 512) (hg : inGroup a p = true) (s : State) :
    stationSeven (groupStations a s) p = some (arg a 18 + arg a 19 * 2 ^ 32) := by
  have one := foldl_unit (get := stationSeven) (W := fun _ => True) (f := fun s p => if inGroup a p then
      modPort p (fun q => { q with cfg := { q.cfg with stations := tabSet none q.cfg.stations 7 (some (arg a 18 + arg a 19 * 2 ^ 32)) } }) s
    else s) (g := fun p x => if inGroup a p then some (arg a 18 + arg a 19 * 2 ^ 32) else x) ?ne (fun _ _ _ => trivial) ?eq List.nodup_range
    (List.mem_range.2 hp) (s := s) trivial
  · exact one.trans (if_pos hg)
  case ne =>
    intro s i j _ h
    split
    · exact congrArg (fun q : PortState => tabGet none q.cfg.stations 7) (portAt_modPort_ne s _ h)
    · rfl
  case eq =>
    intro s i _
    dsimp only
    split
    · exact stationSeven_modPort ..
    · rfl

theorem groupSetPairCmd_accepted (h0 : arg a 0 ≤ 7) (h1 : 3 ≤ arg a 1) (h1' : arg a 1 ≤ 8) (h19 : arg a 19 < 2 ^ 16) (hm : s.pair.mode = 2)
    (hp : ∀ p, p < 512 → inGroup a p = true → badFront s p = false) :
    groupSetPairCmd a s = ok [] (groupStations a { s with pair := { s.pair with
      groupId := arg a 0, members := arg a 1, station := arg a 18 + arg a 19 * 2 ^ 32
      ports := (List.range 16).map fun i => a.getD (2 + i) 0#32 } }) := by
  have fronts : (List.range 512).any (fun p => inGroup a p && badFront s p) = false := by
    simpa using hp
  unfold groupSetPairCmd
  dsimp only
  rw [checked_pass]
  · rfl
  · refine List.forall_mem_cons.2 ⟨?_, List.forall_mem_singleton.2 (by simp [hm])⟩
    refine Bool.or_eq_false_iff.2 ⟨?_, fronts⟩
    simpa [h0, h1, h1', Nat.not_le] using h19

/-! ### PAIR.RELEASE and PAIR.STATUS (R411) -/

/-- A confirmed owner with a good, fresh peer whose console is enabled may release. -/
theorem pairReleaseCmd_accepted {m : PairMsg} (hc : s.pair.confirmed = true) (hb : s.pair.hbOk = true) (hf : peerStale s = false)
    (hp : s.pair.peer = some m) (hm : m.console = true) :
    pairReleaseCmd a s = ok [] (if s.con.cycleEn then { s with pair := { s.pair with releasing := true } }
      else { s with pair := { s.pair with releasing := false, claim := false, confirmed := false, holdoff := true, holdAt := s.cycles } }) := by
  unfold pairReleaseCmd
  rw [hp]
  dsimp only
  rw [hm, checked_pass]
  · rfl
  · simp [hc, hb, hf]

theorem pairStatusCmd_ok (a : List W32) (s : State) :
    pairStatusCmd a s = ok ([pairStatusWord s, w32 s.pair.epoch, pairGrp s] ++ peerWords s) s := rfl

/-- PAIR.STATUS returns 14 words of the peer. -/
theorem length_peerWords (s : State) : (peerWords s).length = 14 := by
  unfold peerWords
  split
  · simp
  · simp

/-- Settles O51: none of the checks refuses; the fold over the group's ports changes each of them once. -/
theorem pairCommandsTakeEffect : Obligations.PairCommandsTakeEffect := by
  unfold Obligations.PairCommandsTakeEffect
  intro v r s a
  refine ⟨?config, ?group, ?release, ?status⟩
  case config =>
    intro h h0 h1 h1' h2 h2' hm
    refine ⟨_, _, handed_ok h (pairConfigCmd_accepted h0 h1 h1' h2 h2' hm), fun two => ⟨if_pos two, if_pos two⟩, fun other => ?_⟩
    rw [roleConfigured, roleConfigured, if_neg other, if_neg other]
    exact ⟨rfl, rfl, rfl, rfl, rfl⟩
  case group =>
    intro h h0 h1 h1' h19 hm hp
    refine ⟨_, handed_ok h (groupSetPairCmd_accepted h0 h1 h1' h19 hm fun p hlt hg => hp p hlt (inGroup_eq hlt ▸ hg)), ?_, ?_, fun p hlt hg => ?_⟩
    · rw [groupStations_frame]
    · rw [groupStations_frame]
    · have entry := stationSeven_groupStations hlt ((inGroup_eq hlt).trans hg)
      simp only [stationSeven] at entry
      exact entry _
  case release =>
    intro m h hc hb hf hp hm
    have released := handed_ok h (pairReleaseCmd_accepted hc hb hf hp hm)
    refine ⟨fun he => ?_, fun he => ?_⟩
    · rw [if_pos he] at released
      exact released
    · rw [if_neg (by simp [he])] at released
      exact released
  case status => exact fun h => ⟨handed_done h (pairStatusCmd_ok a s), length_peerWords s⟩

end Sys2Proof.Proofs.PairCommands
end

section
/-! SUPPORT. Mailbox doorbells (R365 to R369), and what Titimus refuses before any rule of a command (R380). -/
namespace Sys2Proof.Proofs.Doorbells
open Sys2Proof Sys2Proof.Machine Sys2Proof.Laws

variable {s : State} {v : Via} {x : W32} {be : BitVec 4}

/-! ### The doorbell's branches -/

/-- A doorbell of a mailbox that exists. -/
theorem execMailboxDoorbell_mailbox (hv : viaOk v = true) (hr : v ≠ .ring) : execMailboxDoorbell v x be s = .next (mailboxDoorbell v x be s) := by
  cases v with
  | ring => exact absurd rfl hr
  | f0 m => exact if_pos hv
  | f1 m => exact if_pos hv

/-- A locked mailbox refuses it. -/
theorem mailboxDoorbell_locked (h : (boxAt s (viaNum v)).locked = true) :
    mailboxDoorbell v x be s = refuseBoxWrite v .mailbox 0x3C x be (bump Ctr.hifMbReject s) := if_pos h

/-- Partial byte enables discard it, logged for F0. -/
theorem mailboxDoorbell_partial0 {m : Nat} (h : (boxAt s m).locked = false) (hb : be ≠ 15#4) :
    mailboxDoorbell (.f0 m) x be s = logAccess .byteEn true (0x1000 * m + 0x3C) x be s := by
  unfold mailboxDoorbell
  dsimp only [viaNum]
  rw [if_neg (by simp [h]), if_pos hb]
  rfl

/-- And counted for F1. -/
theorem mailboxDoorbell_partial1 {m : Nat} (h : (boxAt s (16 + m)).locked = false) (hb : be ≠ 15#4) :
    mailboxDoorbell (.f1 m) x be s = bump Ctr.hifF1WriteDrop s := by
  unfold mailboxDoorbell
  dsimp only [viaNum]
  rw [if_neg (by simp [h]), if_pos hb]

/-- Otherwise it rings. -/
theorem mailboxDoorbell_rings (h : (boxAt s (viaNum v)).locked = false) : mailboxDoorbell v x 15#4 s = hearBell (ringMailbox v x s) := by
  unfold mailboxDoorbell
  dsimp only
  rw [if_neg (by simp [h]), if_neg (by simp)]

/-! ### Ringing -/

/-- The mailbox is locked. -/
def lockBox (n : Nat) (s : State) : State := setBox n { boxAt s n with locked := true } s

/-- It reads back. -/
theorem boxAt_lockBox (n : Nat) (s : State) : boxAt (lockBox n s) n = { boxAt s n with locked := true } :=
  boxAt_setBox s fun h => absurd (congrArg Mailbox.locked h) (by simp)

/-- The request that a mailbox holds. -/
def boxRequest (v : Via) (s : State) : Request :=
  ⟨(boxAt s (viaNum v)).seq, (boxAt s (viaNum v)).command, (boxAt s (viaNum v)).length,
    (List.range (min (boxAt s (viaNum v)).length (viaCap v))).map (payloadByte (boxAt s (viaNum v)))⟩

theorem ringMailbox_eq (v : Via) (x : W32) (s : State) : ringMailbox v x s =
    if fld x 15 0 ≠ (boxAt s (viaNum v)).seq then answer v (boxRequest v s) Code.badSeq (details 0 0) (lockBox (viaNum v) s)
    else if ctrlAvail (lockBox (viaNum v) s) then handOn v (boxRequest v s) (viaCap v) (lockBox (viaNum v) s)
    else bump Ctr.hifMbBusy (raise (boxVector (viaNum v)) (setBox (viaNum v)
      { boxAt (lockBox (viaNum v) s) (viaNum v) with rseq := (boxAt s (viaNum v)).seq, status := 4, error := 0, locked := false }
      (lockBox (viaNum v) s))) := rfl

/-- Another value than SEQ is answered BAD_SEQ. -/
theorem ringMailbox_badSeq (h : fld x 15 0 ≠ (boxAt s (viaNum v)).seq) :
    ringMailbox v x s = answer v (boxRequest v s) Code.badSeq (details 0 0) (lockBox (viaNum v) s) := by
  rw [ringMailbox_eq, if_pos h]

/-- Without Titimus the mailbox reads BUSY, unlocked. -/
theorem ringMailbox_busy (hf : (boxAt s (viaNum v)).locked = false) (h : fld x 15 0 = (boxAt s (viaNum v)).seq) (hc : ctrlAvail s = false) :
    ringMailbox v x s = bump Ctr.hifMbBusy (raise (boxVector (viaNum v)) (setBox (viaNum v)
      { boxAt s (viaNum v) with rseq := (boxAt s (viaNum v)).seq, status := 4, error := 0 } (lockBox (viaNum v) s))) := by
  have absent : ctrlAvail (lockBox (viaNum v) s) = false := hc
  rw [ringMailbox_eq, if_neg (by simp [h]), absent, boxAt_lockBox]
  simp [hf]

/-- With it the request is handed on. -/
theorem ringMailbox_hands (h : fld x 15 0 = (boxAt s (viaNum v)).seq) (hc : ctrlAvail s = true) :
    ringMailbox v x s = handOn v (boxRequest v s) (viaCap v) (lockBox (viaNum v) s) := by
  have present : ctrlAvail (lockBox (viaNum v) s) = true := hc
  rw [ringMailbox_eq, if_neg (by simp [h]), if_pos present]

/-- A request that is not refused waits in its channel; the mailboxes stay. -/
theorem handOn_accepted {r : Request} {room : Nat} (h : requestRefusal v r room = none) (s : State) :
    channelAt (handOn v r room s) v = .handed r ∧ ∀ n, boxAt (handOn v r room s) n = boxAt s n := by
  have waits (t : State) : channelAt (setChannel v (.handed r) t) v = .handed r := channelAt_setChannel t (by simp)
  unfold handOn
  rw [h]
  dsimp only
  split
  · exact ⟨waits _, fun _ => rfl⟩
  · exact ⟨waits _, fun _ => rfl⟩

/-- One that is refused is answered. -/
theorem handOn_refused {r : Request} {room c : Nat} (h : requestRefusal v r room = some c) (s : State) :
    handOn v r room s = answer v r c (details 0 0) s := by
  unfold handOn
  rw [h]

/-- Only in Doze is a doorbell heard. -/
theorem hearBell_awake (h : domainOn s (ownerDomain s) = true) : hearBell s = s := by
  refine if_neg ?_
  simp only [domainOn, ownerDomain, Bool.and_eq_true, Bool.not_eq_true'] at h
  simp [h.1]

/-! ### Refusals before the command's own rules (R380) -/

section Refusals
variable {r : Request} {room : Nat}

theorem requestRefusal_unknown (h : cmdInfo (cmdCode r.cmd) = none) : requestRefusal v r room = some Code.unknown := by
  unfold requestRefusal
  rw [h]

theorem requestRefusal_level (h : (cmdInfo (cmdCode r.cmd)).isSome = true) (hl : cmdLevel r.cmd ≠ 1) :
    requestRefusal v r room = some Code.level := by
  obtain ⟨c, hc⟩ := Option.isSome_iff_exists.1 h
  unfold requestRefusal
  rw [hc]
  exact if_pos hl

theorem requestRefusal_denied {m : Nat} (h : (cmdInfo (cmdCode r.cmd)).isSome = true) (hl : cmdLevel r.cmd = 1) (hq : isQuery r.cmd = false) :
    requestRefusal (.f1 m) r room = some Code.denied := by
  obtain ⟨c, hc⟩ := Option.isSome_iff_exists.1 h
  unfold requestRefusal
  rw [hc]
  dsimp only
  rw [if_neg (by simp [hl]), if_pos (by simp [hq])]

theorem requestRefusal_badLen (h : (cmdInfo (cmdCode r.cmd)).isSome = true) (hl : cmdLevel r.cmd = 1) (hq : isQuery r.cmd = true)
    (hr : r.len > room) : requestRefusal v r room = some Code.badLen := by
  obtain ⟨c, hc⟩ := Option.isSome_iff_exists.1 h
  unfold requestRefusal
  rw [hc]
  cases v with
  | f1 m => simp [hl, hq, hr]
  | f0 m => simp [hl, hr]
  | ring => simp [hl, hr]

end Refusals

/-- Settles O52: the doorbell's branches in their order, and the order of R380. -/
theorem mailboxDoorbellsHandRequestsOn : Obligations.MailboxDoorbellsHandRequestsOn := by
  unfold Obligations.MailboxDoorbellsHandRequestsOn
  intro v m x be c s n b r held free
  refine ⟨?locked0, ?locked1, ?partial0, ?partial1, ?badSeq, ?busy, ?hands, ?accepted, ?refused, hearBell_awake, requestRefusal_unknown,
    requestRefusal_level, ?denied, requestRefusal_badLen⟩
  case locked0 =>
    rintro hl hm rfl
    exact (execMailboxDoorbell_mailbox (by simp [viaOk, hm]) (by simp)).trans (congrArg Host.Outcome.next (mailboxDoorbell_locked hl))
  case locked1 =>
    rintro hl hm rfl
    exact (execMailboxDoorbell_mailbox (by simp [viaOk, hm]) (by simp)).trans (congrArg Host.Outcome.next (mailboxDoorbell_locked hl))
  case partial0 =>
    rintro ⟨hl, hv, hr⟩ hb rfl
    exact (execMailboxDoorbell_mailbox hv hr).trans (congrArg Host.Outcome.next (mailboxDoorbell_partial0 hl hb))
  case partial1 =>
    rintro ⟨hl, hv, hr⟩ hb rfl
    exact (execMailboxDoorbell_mailbox hv hr).trans (congrArg Host.Outcome.next (mailboxDoorbell_partial1 hl hb))
  case badSeq =>
    rintro ⟨hl, hv, hr⟩ hs
    refine (execMailboxDoorbell_mailbox hv hr).trans ?_
    rw [mailboxDoorbell_rings hl, ringMailbox_badSeq hs]
    rfl
  case busy =>
    rintro ⟨hl, hv, hr⟩ hs hc
    refine (execMailboxDoorbell_mailbox hv hr).trans ?_
    rw [mailboxDoorbell_rings hl, ringMailbox_busy hl hs hc]
    rfl
  case hands =>
    rintro ⟨hl, hv, hr⟩ hs hc
    refine (execMailboxDoorbell_mailbox hv hr).trans ?_
    rw [mailboxDoorbell_rings hl, ringMailbox_hands hs hc]
    rfl
  case accepted =>
    intro h
    obtain ⟨waits, boxes⟩ := handOn_accepted h held
    exact ⟨waits, (boxes n).trans (boxAt_lockBox n s)⟩
  case refused => exact fun h => handOn_refused h held
  case denied =>
    rintro h hl hq rfl
    exact requestRefusal_denied h hl hq

end Sys2Proof.Proofs.Doorbells
end

section
/-! SUPPORT. The ring and arena registers (R352 to R354, R361). -/
namespace Sys2Proof.Proofs.RingRegisters
open Sys2Proof Sys2Proof.Machine Sys2Proof.Laws Sys2Proof.Proofs.PortSettings

variable {s : State} {x : W32}

/-! ### EN and the other fields of a configuration word -/

/-- Two words that differ in EN at most. -/
def SameConfig (x y : W32) : Prop := x.toNat / 2 = y.toNat / 2

/-- Setting EN changes EN alone. -/
theorem sameConfig_enable (x : W32) : SameConfig (x ||| 1#32) x := by
  simp [SameConfig, Nat.or_div_two]

/-- So does clearing it. -/
theorem sameConfig_disable (x : W32) : SameConfig (setFld x 0 0 0) x := by
  apply Nat.eq_of_testBit_eq
  intro i
  rw [Nat.testBit_div_two, Nat.testBit_div_two, BitVec.testBit_toNat, BitVec.testBit_toNat]
  by_cases hi : i + 1 < 32
  · simp [setFld, hi]
  · simp [BitVec.getLsbD_of_ge, Nat.not_lt.1 hi]

/-- Their other fields are the same. -/
theorem SameConfig.fld_eq {y : W32} (h : SameConfig x y) (hi lo : Nat) : fld x hi (lo + 1) = fld y hi (lo + 1) := by
  unfold SameConfig at h
  unfold fld bits
  rw [Nat.pow_succ', ← Nat.div_div_eq_div_mul, ← Nat.div_div_eq_div_mul, h]

theorem SameConfig.bit_eq {y : W32} (h : SameConfig x y) (i : Nat) : bit x.toNat (i + 1) = bit y.toNat (i + 1) := by
  rw [bit_eq_testBit, bit_eq_testBit, Nat.testBit_succ, Nat.testBit_succ, h]

/-- EN when set, and when cleared. -/
theorem bit_enable (x : W32) : bit (x ||| 1#32).toNat 0 = true := by
  simp [bit_eq_testBit]

theorem bit_disable (x : W32) : bit (setFld x 0 0 0).toNat 0 = false := by
  simp [bit_eq_testBit, setFld]

/-! ### The access log -/

/-- The word that four fields give. -/
theorem packW_four (i j k l v w x y : Nat) :
    packW [(i, v), (j, w), (k, x), (l, y)] = w32 (v * 2 ^ i + w * 2 ^ j + x * 2 ^ k + y * 2 ^ l) := by
  simp only [packW, List.foldl_cons, List.foldl_nil, Nat.zero_add]

/-- The log's cause field. -/
theorem fld_accErr_logAccess (c : AccCause) (b : Bool) (off : Nat) (val : W32) (be : BitVec 4) (s : State) :
    fld (logAccess c b off val be s).up.accErr 3 0 = c.code := by
  have small : c.code < 16 := by cases c <;> decide
  have word : (logAccess c b off val be s).up.accErr
      = packW [(0, c.code), (4, b2n b), (5, be.toNat), (16, (fld s.up.accErr 31 16 + 1) % 2 ^ 16)] := rfl
  rw [word, packW_four, fld, bits, BitVec.toNat_ofNat]
  generalize b2n b = x
  generalize be.toNat = y
  generalize (fld s.up.accErr 31 16 + 1) % 2 ^ 16 = z
  omega

/-! ### Configuration writes (R352) -/

theorem writeDsCfg_starts {w : W32} (hw : bit w.toNat 0 = true) (he : s.hif.dsEn = false) (hi : s.hif.inject = none) (h6 : 6 ≤ fld w 5 1)
    (h16 : fld w 5 1 ≤ 16) : writeDsCfg w s = { s with hif := { s.hif with
      dsEn := true, dsLog2 := fld w 5 1, dsNotify := fld w 22 6, dsDb := 0, dsCons := 0, dsSkip := false, chainHeld := 0 } } := by
  simp [writeDsCfg, logLocked, lockedField, hw, he, hi, h6, h16]

theorem writeUsCfg_starts {w : W32} (hw : bit w.toNat 0 = true) (he : s.hif.usEn = false) (h6 : 6 ≤ fld w 5 1) (h16 : fld w 5 1 ≤ 16) :
    writeUsCfg w s = { s with hif := { s.hif with
      usEn := true, usLog2 := fld w 5 1, usWbEn := bit w.toNat 6, usProd := 0, usCons := 0 } } := by
  simp [writeUsCfg, logLocked, lockedField, hw, he, h6, h16]

theorem writeRxaCfg_starts {w : W32} (hw : bit w.toNat 0 = true) (he : s.up.rxaEn = false) (h20 : 20 ≤ fld w 5 1) (h30 : fld w 5 1 ≤ 30) :
    writeRxaCfg w s = { s with up := { s.up with rxaEn := true, rxaLog2 := fld w 5 1, rxaW := 0, rxaRel := 0 } } := by
  simp [writeRxaCfg, logLocked, lockedField, hw, he, h20, h30]

theorem writeDsCfg_stops {w : W32} (hw : bit w.toNat 0 = false) (he : s.hif.dsEn = true) (hl : fld w 5 1 = s.hif.dsLog2) :
    writeDsCfg w s = { s with hif := { s.hif with dsEn := false, dsNotify := fld w 22 6, dsHalt := false } } := by
  simp [writeDsCfg, logLocked, lockedField, hw, he, hl]

theorem writeUsCfg_stops {w : W32} (hw : bit w.toNat 0 = false) (he : s.hif.usEn = true) (hl : fld w 5 1 = s.hif.usLog2) :
    writeUsCfg w s = { s with hif := { s.hif with usEn := false, usWbEn := bit w.toNat 6 } } := by
  simp [writeUsCfg, logLocked, lockedField, hw, he, hl]

theorem writeRxaCfg_stops {w : W32} (hw : bit w.toNat 0 = false) (he : s.up.rxaEn = true) (hl : fld w 5 1 = s.up.rxaLog2) :
    writeRxaCfg w s = { s with up := { s.up with rxaEn := false } } := by
  simp [writeRxaCfg, logLocked, lockedField, hw, he, hl]

/-- A write to an enabled ring or arena that names another size is logged RING_CFG. -/
theorem logLocked_enabled {old new off : Nat} (h : old ≠ new) (legal : Bool) (val : W32) (s : State) :
    logLocked true old new legal off val s = logAccess .ringCfg false off val 15#4 s := by
  simp [logLocked, h]

theorem writeDsCfg_otherSize {w : W32} (hw : bit w.toNat 0 = false) (he : s.hif.dsEn = true) (hl : fld w 5 1 ≠ s.hif.dsLog2) :
    (writeDsCfg w s).hif.dsEn = false ∧ (writeDsCfg w s).hif.dsLog2 = s.hif.dsLog2
      ∧ fld (writeDsCfg w s).up.accErr 3 0 = AccCause.ringCfg.code := by
  unfold writeDsCfg
  dsimp only
  rw [he, hw, logLocked_enabled hl.symm]
  exact ⟨rfl, rfl, fld_accErr_logAccess ..⟩

theorem writeUsCfg_otherSize {w : W32} (hw : bit w.toNat 0 = false) (he : s.hif.usEn = true) (hl : fld w 5 1 ≠ s.hif.usLog2) :
    (writeUsCfg w s).hif.usEn = false ∧ (writeUsCfg w s).hif.usLog2 = s.hif.usLog2
      ∧ fld (writeUsCfg w s).up.accErr 3 0 = AccCause.ringCfg.code := by
  unfold writeUsCfg
  dsimp only
  rw [he, hw, logLocked_enabled hl.symm]
  exact ⟨rfl, rfl, fld_accErr_logAccess ..⟩

theorem writeRxaCfg_otherSize {w : W32} (hw : bit w.toNat 0 = false) (he : s.up.rxaEn = true) (hl : fld w 5 1 ≠ s.up.rxaLog2) :
    (writeRxaCfg w s).up.rxaEn = false ∧ (writeRxaCfg w s).up.rxaLog2 = s.up.rxaLog2
      ∧ fld (writeRxaCfg w s).up.accErr 3 0 = AccCause.ringCfg.code := by
  unfold writeRxaCfg
  dsimp only
  rw [he, hw, logLocked_enabled hl.symm]
  exact ⟨rfl, rfl, fld_accErr_logAccess ..⟩

/-- Settles O53: an index register's rule decides its branch; EN of a configuration word leaves its other fields. -/
theorem ringRegistersMoveTheRings : Obligations.RingRegistersMoveTheRings := by
  unfold Obligations.RingRegistersMoveTheRings
  intro s x be h u d lg dsOk usOk rxOk
  have enSize : fld (x ||| 1#32) 5 1 = lg := (sameConfig_enable x).fld_eq 5 0
  have disSize : fld (setFld x 0 0 0) 5 1 = lg := (sameConfig_disable x).fld_eq 5 0
  have enNotify : fld (x ||| 1#32) 22 6 = fld x 22 6 := (sameConfig_enable x).fld_eq 22 5
  have disNotify : fld (setFld x 0 0 0) 22 6 = fld x 22 6 := (sameConfig_disable x).fld_eq 22 5
  have enWb : bit (x ||| 1#32).toNat 6 = bit x.toNat 6 := (sameConfig_enable x).bit_eq 5
  have disWb : bit (setFld x 0 0 0).toNat 6 = bit x.toNat 6 := (sameConfig_disable x).bit_eq 5
  refine ⟨?ds, ?dsNot, ?us, ?usNot, ?rx, ?rxNot, ?part, ?dsStart, ?usStart, ?rxStart, ?dsStop, ?usStop, ?rxStop, ?dsOther, ?usOther, ?rxOther⟩
  case ds => exact fun ok => congrArg (fun t => Host.Outcome.next (hearBell t)) (if_pos ok)
  case dsNot => exact fun bad => congrArg (fun t => Host.Outcome.next (hearBell t)) (if_neg bad)
  case us => exact fun ok => congrArg Host.Outcome.next (if_pos ok)
  case usNot => exact fun bad => congrArg Host.Outcome.next (if_neg bad)
  case rx => exact fun ok => congrArg Host.Outcome.next (if_pos ok)
  case rxNot => exact fun bad => congrArg Host.Outcome.next (if_neg bad)
  case part => exact fun hb => ⟨congrArg Host.Outcome.next (if_neg hb), congrArg Host.Outcome.next (if_neg hb), congrArg Host.Outcome.next (if_neg hb)⟩
  case dsStart =>
    intro he hi h6 h16
    rw [← enSize, ← enNotify]
    exact congrArg Host.Outcome.next (writeDsCfg_starts (bit_enable x) he hi (enSize ▸ h6) (enSize ▸ h16))
  case usStart =>
    intro he h6 h16
    rw [← enSize, ← enWb]
    exact congrArg Host.Outcome.next (writeUsCfg_starts (bit_enable x) he (enSize ▸ h6) (enSize ▸ h16))
  case rxStart =>
    intro he h20 h30
    rw [← enSize]
    exact congrArg Host.Outcome.next (writeRxaCfg_starts (bit_enable x) he (enSize ▸ h20) (enSize ▸ h30))
  case dsStop =>
    intro he hl
    rw [← disNotify]
    exact congrArg Host.Outcome.next (writeDsCfg_stops (bit_disable x) he (disSize.trans hl))
  case usStop =>
    intro he hl
    rw [← disWb]
    exact congrArg Host.Outcome.next (writeUsCfg_stops (bit_disable x) he (disSize.trans hl))
  case rxStop => exact fun he hl => congrArg Host.Outcome.next (writeRxaCfg_stops (bit_disable x) he (disSize.trans hl))
  case dsOther => exact fun he hl => ⟨_, rfl, writeDsCfg_otherSize (bit_disable x) he (disSize ▸ hl)⟩
  case usOther => exact fun he hl => ⟨_, rfl, writeUsCfg_otherSize (bit_disable x) he (disSize ▸ hl)⟩
  case rxOther => exact fun he hl => ⟨_, rfl, writeRxaCfg_otherSize (bit_disable x) he (disSize ▸ hl)⟩

end Sys2Proof.Proofs.RingRegisters
end

section
/-! SUPPORT. The rings: downstream chains, fences, failed transfers, and the writing of upstream jobs (R346, R351, R355 to R363). -/
namespace Sys2Proof.Proofs.Rings
open Sys2Proof Sys2Proof.Machine Sys2Proof.Laws

variable {s : State} {es : List (List W32)}

/-! ### Downstream chains (R355, R356) -/

/-- The device does not fetch while it may not, nor what is not there. -/
theorem dsFetch_waits (h : dsMayFetch s = false ∨ dsHead s = .empty ∨ dsHead s = .partialChain) : dsFetch s = s := by
  unfold dsFetch
  obtain h | h | h := h
  · rw [if_neg (by simp [h])]
  · rw [h]
    split
    · rfl
    · rfl
  · rw [h]
    split
    · rfl
    · rfl

theorem dsFetch_malformed {n : Nat} (hm : dsMayFetch s = true) (h : dsHead s = .malformed n) : dsFetch s = discardChain n s := by
  unfold dsFetch
  rw [if_pos hm, h]

/-- A chain of a KIND that may be executed is. -/
theorem dsFetch_executes {k : Nat} (hm : dsMayFetch s = true) (h : dsHead s = .chain es) (hk : entryKind (es.headD []) = k)
    (he : dsMayExecute k s = true) : dsFetch s = executeChain es s := by
  unfold dsFetch
  rw [if_pos hm, h]
  dsimp only
  rw [hk, if_pos he]

/-- A command may while Titimus is available and runs no other; an inject chain once slice 0 is in full service (R387, R431). -/
theorem dsMayExecute_command (hc : ctrlAvail s = true) (hr : channelAt s .ring = .idle) : dsMayExecute 2 s = true := by
  simp [dsMayExecute, hc, hr]

theorem dsMayExecute_inject (hp : bit s.dev.plain 0 = false) : dsMayExecute 1 s = true := by
  simp [dsMayExecute, hp]

/-- No-ops with FENCE queue their TAGs. -/
theorem executeChain_noop (hk : entryKind (es.headD []) = 0) : executeChain es s = advanceDs es.length { s with hif := { s.hif with
    dsSkip := false, fences := s.hif.fences
      ++ (es.filter fun e => bit (e.getD 0 0#32).toNat 10).map fun e => fld (e.getD 0 0#32) 31 16 } } :=
  if_pos hk

/-- A command is handed to Titimus, consumed first unless it names a host buffer. -/
theorem executeChain_command (hk : entryKind (es.headD []) = 2) : executeChain es s = handOn .ring (ringRequest es) (ringCap es.length)
    (if namesBuffer (ringRequest es).cmd then { s with hif := { s.hif with dsSkip := false, chainHeld := es.length } }
      else advanceDs es.length { s with hif := { s.hif with dsSkip := false } }) := by
  unfold executeChain
  dsimp only
  rw [if_neg (by omega), if_neg (by omega)]

/-- An inject chain enters execution. -/
theorem executeChain_inject (hk : entryKind (es.headD []) = 1) : ∃ j : Inject, j.entries = es.length
    ∧ executeChain es s = { s with hif := { s.hif with dsSkip := false, inject := some j } } := by
  refine ⟨_, ?_, (if_neg (by omega)).trans (if_pos hk)⟩
  rfl

/-! ### Failed transfers (R346, R357) -/

/-- A failed read halts the downstream ring. -/
theorem dmaFail_read (he : s.hif.dsEn = true) (hh : s.hif.dsHalt = false) :
    dmaFail false s = raise 18 { bump Ctr.hifDmaErr s with hif := { s.hif with dsHalt := true, inject := none } } := by
  unfold dmaFail
  dsimp only
  rw [if_neg (by simp), if_pos (by simp [he, hh])]
  rfl

/-- A failed write of the one job that is ready, a completion, makes it wait first. -/
theorem dmaFail_completion {e : List Byte} (hr : s.up.ready = [.completion e]) (hw : s.up.waiting = []) :
    dmaFail true s = bump Ctr.hifCmplWait { bump Ctr.hifDmaErr s with
      up := { s.up with ready := [], waiting := [e], fetchPaused := true } } := by
  have first : takeJob 0 (bump Ctr.hifDmaErr s) = some (.completion e, { bump Ctr.hifDmaErr s with up := { s.up with ready := [] } }) := by
    simp [takeJob, hr, jobRank]
  have abandoned : (List.range 5).findSome? (fun r => takeJob r (bump Ctr.hifDmaErr s))
      = some (.completion e, { bump Ctr.hifDmaErr s with up := { s.up with ready := [] } }) := by
    rw [List.range_succ_eq_map, List.findSome?_cons, first]
  unfold dmaFail
  dsimp only
  rw [if_pos rfl, abandonJob, abandoned]
  simp [jobRank, loseJob, hw, bumpIf]

/-! ### Writing upstream jobs (R360) -/

/-- Memory outside what is written stays. -/
theorem tabGet_tabWrite_outside {β : Type} [DecidableEq β] {d : β} (vs : List β) (m : Tab β) {a i : Nat} (h : i < a ∨ a + vs.length ≤ i) :
    tabGet d (tabWrite d m a vs) i = tabGet d m i := by
  induction vs generalizing m a with
  | nil => rfl
  | cons v vs ih =>
    rw [List.length_cons] at h
    rw [tabWrite, ih _ (by omega)]
    exact tabGet_tabSet_ne _ _ (by omega)

/-- The ring's memory with the entries of a job. -/
def putEntries (kind : Nat) (bodies : List (List Byte)) (s : State) : State :=
  ((List.range bodies.length).zip bodies).foldl (fun t ib =>
    let idx := (s.hif.usProd + ib.1) % (2 * 2 ^ s.hif.usLog2)
    let hdr := packW [(0, kind), (8, b2n (decide (ib.1 = 0))), (9, b2n (decide (ib.1 + 1 = bodies.length))), (10, idx / 2 ^ s.hif.usLog2),
      (16, tabGet 0 s.up.seqs kind)]
    hostWrite (addr64 s.hif.usBaseLo s.hif.usBaseHi + 32 * (idx % 2 ^ s.hif.usLog2)) (leBytes 4 hdr.toNat ++ ib.2) t) s

/-- Host memory alone has changed, and only inside the ring. -/
theorem putEntries_inside {bodies : List (List Byte)} (hb : ∀ b ∈ bodies, b.length = 28) (kind : Nat) (s : State) {a : Nat}
    (ha : a < addr64 s.hif.usBaseLo s.hif.usBaseHi ∨ addr64 s.hif.usBaseLo s.hif.usBaseHi + 32 * 2 ^ s.hif.usLog2 ≤ a) :
    tabGet 0#8 (putEntries kind bodies s).hostMem a = tabGet 0#8 s.hostMem a := by
  refine List.foldlRecOn (motive := fun t : State => tabGet 0#8 t.hostMem a = tabGet 0#8 s.hostMem a) _ _ rfl fun t h ib hib => ?_
  refine (tabGet_tabWrite_outside _ _ ?_).trans h
  have body : ib.2.length = 28 := hb _ (List.of_mem_zip hib).2
  have slot : (s.hif.usProd + ib.1) % (2 * 2 ^ s.hif.usLog2) % 2 ^ s.hif.usLog2 < 2 ^ s.hif.usLog2 := Nat.mod_lt _ (by positivity)
  have header : ∀ n, (leBytes 4 n).length = 4 := fun n => rfl
  rw [List.length_append, header, body]
  omega

/-- Nothing else has. -/
theorem putEntries_frame (kind : Nat) (bodies : List (List Byte)) (s : State) :
    putEntries kind bodies s = { s with hostMem := (putEntries kind bodies s).hostMem } := by
  refine List.foldlRecOn (motive := fun t : State => t = { s with hostMem := t.hostMem }) _ _ rfl fun t h ib _ => ?_
  rw [h]
  rfl

/-- With its entries in `t` a job is written: the producer and the SEQ of its KIND, the write-back, and the count. -/
def jobWritten (kind n : Nat) (s t : State) : State :=
  let prod := (s.hif.usProd + n) % (2 * 2 ^ s.hif.usLog2)
  let u := { t with
    hif := { s.hif with usProd := prod, sinceIrq := s.hif.sinceIrq + n, irqAt := if s.hif.sinceIrq = 0 then t.cycles else s.hif.irqAt }
    up := { t.up with seqs := tabSet 0 t.up.seqs kind ((tabGet 0 s.up.seqs kind + 1) % 2 ^ 16) } }
  bumpBy Ctr.hifUsEntries n (if s.hif.usWbEn then hostWrite (addr64 s.hif.usWbLo s.hif.usWbHi) (leBytes 4 prod) u else u)

/-- Then an interrupt may follow. -/
theorem writeEntries_eq (kind : Nat) (bodies : List (List Byte)) (s : State) :
    writeEntries kind bodies s = (let u := jobWritten kind bodies.length s (putEntries kind bodies s)
      if s.hif.irqTime = 0 || decide (s.hif.sinceIrq + bodies.length ≥ s.hif.irqCount) then raise 0 { u with hif := { u.hif with sinceIrq := 0 } }
      else u) := rfl

/-- What the interrupt of a written job leaves alone. -/
def SameButIrq (t u : State) : Prop := u.hif.usProd = t.hif.usProd ∧ u.up.seqs = t.up.seqs ∧ u.hostMem = t.hostMem

/-- A raised vector leaves it alone. -/
theorem sameButIrq_raise (v : Nat) (s : State) : SameButIrq s (raise v s) := by
  have tables := raise_up v s
  have frame := raise_frame v s
  generalize raise v s = t at *
  exact ⟨by rw [frame], by rw [tables], by rw [frame]⟩

theorem writeEntries_written (kind : Nat) (bodies : List (List Byte)) (s : State) :
    SameButIrq (jobWritten kind bodies.length s (putEntries kind bodies s)) (writeEntries kind bodies s) := by
  rw [writeEntries_eq]
  generalize jobWritten kind bodies.length s (putEntries kind bodies s) = u
  dsimp only
  split
  · exact sameButIrq_raise 0 { u with hif := { u.hif with sinceIrq := 0 } }
  · exact ⟨rfl, rfl, rfl⟩

/-- The producer and the sequence numbers of a written job. -/
theorem jobWritten_indices (kind n : Nat) (s t : State) : (jobWritten kind n s t).hif.usProd = (s.hif.usProd + n) % (2 * 2 ^ s.hif.usLog2)
    ∧ (jobWritten kind n s t).up.seqs = tabSet 0 t.up.seqs kind ((tabGet 0 s.up.seqs kind + 1) % 2 ^ 16) := by
  unfold jobWritten
  dsimp only [bumpBy]
  split
  · exact ⟨rfl, rfl⟩
  · exact ⟨rfl, rfl⟩

/-- Host memory outside the write-back address stays. -/
theorem hostMem_jobWritten (kind n : Nat) (s t : State) {a : Nat}
    (ha : s.hif.usWbEn = true → a < addr64 s.hif.usWbLo s.hif.usWbHi ∨ addr64 s.hif.usWbLo s.hif.usWbHi + 4 ≤ a) :
    tabGet 0#8 (jobWritten kind n s t).hostMem a = tabGet 0#8 t.hostMem a := by
  unfold jobWritten
  dsimp only [bumpBy]
  split
  next wb => exact tabGet_tabWrite_outside _ _ (ha wb)
  next => rfl

/-- Settles O54: what stands at the head decides the fetch, and a job's writes stay inside the ring. -/
theorem ringsFetchPostAndHalt : Obligations.RingsFetchPostAndHalt := by
  unfold Obligations.RingsFetchPostAndHalt
  intro s es k n tag tags bodies e h run kind
  refine ⟨?waits, ?malformed, ?noop, ?command, ?inject, ?fence, ?noFence, ?timer, ?read, ?write, ?posts, ?noPost, ?written⟩
  case waits => exact fun hw => congrArg Host.Outcome.next (dsFetch_waits hw)
  case malformed => exact fun hm hh => congrArg Host.Outcome.next (dsFetch_malformed hm hh)
  case noop => exact fun hm hh hk => congrArg Host.Outcome.next ((dsFetch_executes hm hh hk rfl).trans (executeChain_noop hk))
  case command =>
    intro hm hh hk hc hr
    exact congrArg Host.Outcome.next ((dsFetch_executes hm hh hk (dsMayExecute_command hc hr)).trans (executeChain_command hk))
  case inject =>
    intro hm hh hk hp
    obtain ⟨j, hj, executed⟩ := executeChain_inject (s := s) hk
    exact ⟨j, congrArg Host.Outcome.next ((dsFetch_executes hm hh hk (dsMayExecute_inject hp)).trans executed), hj⟩
  case fence =>
    intro hf
    refine congrArg Host.Outcome.next ?_
    rw [Machine.fence, hf]
  case noFence =>
    intro hf
    refine congrArg Host.Outcome.next ?_
    rw [Machine.fence, hf]
  case timer => exact fun hi ht => congrArg Host.Outcome.next (if_pos ⟨hi, ht⟩)
  case read => exact fun hc he hh => congrArg Host.Outcome.next ((if_pos hc).trans (dmaFail_read he hh))
  case write => exact fun hc hr hw => congrArg Host.Outcome.next ((if_pos hc).trans (dmaFail_completion hr hw))
  case posts => exact fun he hc => congrArg Host.Outcome.next (if_pos (by simp [usMayWrite, hc, show s.hif.usEn = true from he]))
  case noPost =>
    intro hn
    refine congrArg Host.Outcome.next (if_neg ?_)
    obtain he | hc := hn
    · simp [usMayWrite, show s.hif.usEn = false from he]
    · simp [usMayWrite, hc]
  case written =>
    intro t
    obtain ⟨prod, seqs, mem⟩ := writeEntries_written k bodies s
    obtain ⟨prod', seqs'⟩ := jobWritten_indices k bodies.length s (putEntries k bodies s)
    have ups : (putEntries k bodies s).up = s.up := by rw [putEntries_frame]
    refine ⟨prod.trans prod', fun w => ?_, fun a hb ha hw => ?_⟩
    · rw [seqs, seqs', ups, tabGet_tabSet _ _ _ _ w, if_pos rfl]
    · rw [mem, hostMem_jobWritten _ _ _ _ hw, putEntries_inside hb k s ha]

end Sys2Proof.Proofs.Rings
end

section
/-! SUPPORT. HOST_LINK_RESET and F1_FLR (R345, R347): what the drop of the punted frames leaves alone, and which registers the resets reach. -/
namespace Sys2Proof.Proofs.LinkResets
open Sys2Proof Sys2Proof.Machine Sys2Proof.Laws

variable {s z : State}

/-- The two states agree in everything a dropped frame leaves alone: memory, flash, table entries, device time, CAPO, the mailboxes, F1's
configuration space and the device registers. -/
structure SameBesideCells (z s : State) : Prop where
  hostMem : s.hostMem = z.hostMem
  flash : s.flash = z.flash
  tbl : s.tbl = z.tbl
  time : s.time = z.time
  tmp : s.tmp = z.tmp
  boxes : s.boxes = z.boxes
  cfg1 : s.up.cfg1 = z.up.cfg1
  dev : s.dev = z.dev

/-- A write of none of these keeps them. -/
theorem beside_mk (h : SameBesideCells z s) (pending cycles freeCtr rsp hif tcs ports rxs laneWords ras lanes prbs harps chits gens chitSeq
    classes lkps meters profiles tenants mint txs groups mirrors tele led recirc mem tal pwr con pair tap ctr latch) :
    SameBesideCells z ⟨pending, cycles, freeCtr, rsp, s.dev, hif, s.up, tcs, s.flash, s.boxes, s.time, ports, rxs, laneWords, ras, lanes, prbs, harps,
      chits, gens, chitSeq, classes, lkps, s.tbl, meters, profiles, tenants, mint, txs, groups, mirrors, tele, led, recirc, mem, tal, pwr, con,
      s.tmp, pair, tap, ctr, latch, s.hostMem⟩ := ⟨h.1, h.2, h.3, h.4, h.5, h.6, h.7, h.8⟩

theorem beside_foldl {α : Type} {f : State → α → State} (hf : ∀ s x, SameBesideCells z s → SameBesideCells z (f s x)) (l : List α)
    (h : SameBesideCells z s) : SameBesideCells z (l.foldl f s) := by
  induction l generalizing s with
  | nil => exact h
  | cons x l ih => exact ih (hf s x h)

/-! ### Cells and their pools (chapter 09) -/

theorem beside_bumpBy {a n} (h : SameBesideCells z s) : SameBesideCells z (bumpBy a n s) := by
  grind only [bumpBy, beside_mk]

theorem beside_bump {a} (h : SameBesideCells z s) : SameBesideCells z (bump a s) := beside_bumpBy h

theorem beside_sendPause {p prio time} (h : SameBesideCells z s) : SameBesideCells z (sendPause p prio time s) := by
  grind only [sendPause, bumpMac, beside_bumpBy, modPort, loopBack, modRx, beside_mk]

theorem beside_macSignal {p before after} (h : SameBesideCells z s) : SameBesideCells z (macSignal p before after s) := by
  grind only [macSignal, beside_sendPause, beside_foldl]

theorem beside_changePool {p f} (h : SameBesideCells z s) : SameBesideCells z (changePool p f s) := by
  grind only [changePool, setPool, beside_macSignal, beside_foldl, beside_mk]

theorem beside_freeCell {n} (h : SameBesideCells z s) : SameBesideCells z (freeCell n s) := by
  grind only [freeCell, dropUse, beside_changePool, beside_bump, beside_mk]

theorem beside_linkPoison (h : SameBesideCells z s) : SameBesideCells z (linkPoison s) := by
  grind only [linkPoison, countPoison, bumpIf, beside_bump, beside_mk]

theorem beside_freeChain {chain} (h : SameBesideCells z s) : SameBesideCells z (freeChain chain s) := by
  grind only [freeChain, beside_freeCell, beside_linkPoison, beside_foldl]

theorem beside_dropRef {n} (h : SameBesideCells z s) : SameBesideCells z (dropRef n s) := by
  grind only [dropRef, releaseIf, modChit, setChit, beside_freeChain, beside_mk]

/-! ### The bill of a dropped frame (chapter 11) -/

theorem beside_addRow {b t d} (h : SameBesideCells z s) : SameBesideCells z (addRow b t d s) := by
  grind only [addRow, setBank, bumpIf, beside_bump, beside_bumpBy, beside_mk]

theorem beside_bill {k b t j len late} (h : SameBesideCells z s) : SameBesideCells z (bill k b t j len late s) := by
  grind only [bill, beside_addRow, beside_bump, setCache, beside_mk]

theorem beside_swapBanks {at_ cycle} (h : SameBesideCells z s) : SameBesideCells z (swapBanks at_ cycle s) := by
  grind only [swapBanks, deliverEnergy, setBank, markGaps, beside_foldl, beside_mk]

theorem beside_epochBoundary {merge x} (h : SameBesideCells z s) : SameBesideCells z (epochBoundary merge x s) := by
  grind only [epochBoundary, takeBuffered, mergeEpochs, setBank, beside_bumpBy, beside_swapBanks, beside_mk]

theorem beside_ledgerBoundary (h : SameBesideCells z s) : SameBesideCells z (ledgerBoundary s) := by
  grind only [ledgerBoundary, actDue, beside_epochBoundary, beside_foldl, beside_mk]

theorem beside_dropAdmitted {k p n} (h : SameBesideCells z s) : SameBesideCells z (dropAdmitted k p n s) := by
  grind only [dropAdmitted, billCopy, beside_ledgerBoundary, plainCount, beside_bill, beside_mk]

/-- The punted frames a reset drops leave them alone. -/
theorem beside_dropPunts (s : State) : SameBesideCells s (dropPunts s) := by
  refine beside_foldl (fun t j h => ?_) s.up.ready ⟨rfl, rfl, rfl, rfl, rfl, rfl, rfl, rfl⟩
  cases j with
  | punt p => exact beside_dropRef (beside_dropAdmitted h)
  | _ => exact h

/-! ### Channels and mailboxes -/

/-- The reset of a channel writes Titimus's record of it and nothing else. -/
theorem resetChannel_eq (s : State) (v : Via) : resetChannel s v = { s with tcs := (resetChannel s v).tcs } := by
  unfold resetChannel; split <;> rfl

theorem resetChannels_eq (vs : List Via) (s : State) : vs.foldl resetChannel s = { s with tcs := (vs.foldl resetChannel s).tcs } := by
  induction vs generalizing s with
  | nil => rfl
  | cons v vs ih => rw [List.foldl_cons, ih, resetChannel_eq s v]

/-- The reset of mailboxes writes the mailboxes and nothing else. -/
theorem freshBoxes_eq (ns : List Nat) (s : State) :
    ns.foldl (fun s n => freshBox n s) s = { s with boxes := (ns.foldl (fun s n => freshBox n s) s).boxes } := by
  induction ns generalizing s with
  | nil => rfl
  | cons n ns ih => rw [List.foldl_cons, ih]; rfl

theorem boxAt_freshBox_ne (s : State) {m n : Nat} (h : m ≠ n) : boxAt (freshBox n s) m = boxAt s m := tabGet_tabSet_ne _ _ h

theorem boxAt_freshBox (s : State) (n : Nat) : boxAt (freshBox n s) n = { gen := (boxAt s n).gen + 1 } :=
  tabGet_tabSet_self _ _ (by simp)

theorem boxAt_freshBoxes_ne (ns : List Nat) (s : State) {m : Nat} (h : m ∉ ns) : boxAt (ns.foldl (fun s n => freshBox n s) s) m = boxAt s m := by
  induction ns generalizing s with
  | nil => rfl
  | cons n ns ih =>
    rw [List.mem_cons, not_or] at h
    rw [List.foldl_cons, ih _ h.2, boxAt_freshBox_ne s h.1]

/-- Each mailbox named once is reset: idle, one use later (R8). -/
theorem boxAt_freshBoxes {ns : List Nat} (hns : ns.Nodup) (s : State) {m : Nat} (h : m ∈ ns) :
    boxAt (ns.foldl (fun s n => freshBox n s) s) m = { gen := (boxAt s m).gen + 1 } := by
  induction ns generalizing s with
  | nil => cases h
  | cons n ns ih =>
    obtain ⟨hn, hns⟩ := List.nodup_cons.mp hns
    rw [List.foldl_cons]
    obtain rfl | hne := eq_or_ne m n
    · rw [boxAt_freshBoxes_ne ns _ hn, boxAt_freshBox]
    · rw [ih hns _ ((List.mem_cons.mp h).resolve_left hne), boxAt_freshBox_ne s hne]

/-! ### Filtered tables -/

/-- A key that the filter keeps reads as before. -/
theorem tabGet_filter_kept {β : Type} (d : β) (m : Tab β) (p : Nat → Bool) {i : Nat} (h : p i = true) :
    tabGet d (m.filter fun e => p e.1) i = tabGet d m i := by
  induction m with
  | nil => rfl
  | cons e m ih =>
    obtain ⟨k, w⟩ := e
    by_cases hk : p k = true
    · simp [hk, tabGet, ih]
    · have : i ≠ k := by rintro rfl; exact hk h
      simp [hk, tabGet, ih, this]

/-- A key that the filter drops reads as the default. -/
theorem tabGet_filter_dropped {β : Type} (d : β) (m : Tab β) (p : Nat → Bool) {i : Nat} (h : p i = false) :
    tabGet d (m.filter fun e => p e.1) i = d := by
  induction m with
  | nil => rfl
  | cons e m ih =>
    obtain ⟨k, w⟩ := e
    by_cases hk : p k = true
    · have : i ≠ k := by rintro rfl; simp [h] at hk
      simp [hk, tabGet, ih, this]
    · simp [hk, ih]

theorem ctrAt_clearCtrs {lo hi a : Nat} (s : State) (h1 : lo ≤ a) (h2 : a < hi) : ctrAt (clearCtrs lo hi s) a = 0#64 :=
  tabGet_filter_dropped 0#64 s.ctr (fun k => !(decide (lo ≤ k) && decide (k < hi))) (by simp [h1, h2])

/-! ### The two resets -/

/-- The state in which HOST_LINK_RESET resets the mailboxes: the punted frames dropped, the archive rewound, the channels reset. -/
def unlinked (s : State) : State := allVias.foldl resetChannel (rewindArchive (dropPunts s))

theorem unlinked_eq (s : State) : unlinked s = { rewindArchive (dropPunts s) with tcs := (unlinked s).tcs } := resetChannels_eq ..

/-- The same with every mailbox reset. -/
def unboxed (s : State) : State := (List.range 18).foldl (fun s n => freshBox n s) (unlinked s)

theorem unboxed_eq (s : State) : unboxed s = { unlinked s with boxes := (unboxed s).boxes } := freshBoxes_eq ..

/-- Only the mailboxes of the kept tables are touched. -/
theorem unboxed_kept (s : State) : (unboxed s).time = s.time ∧ (unboxed s).tmp = s.tmp ∧ (unboxed s).tbl = s.tbl ∧ (unboxed s).flash = s.flash
    ∧ (unboxed s).hostMem = s.hostMem ∧ (unboxed s).up.cfg1 = s.up.cfg1 ∧ (unboxed s).dev = s.dev := by
  obtain ⟨hmem, hflash, htbl, htime, htmp, -, hcfg, hdev⟩ := beside_dropPunts s
  rw [unboxed_eq, unlinked_eq]
  exact ⟨htime, htmp, htbl, hflash, hmem, hcfg, hdev⟩

theorem unlinked_boxes (s : State) : (unlinked s).boxes = s.boxes := by
  rw [unlinked_eq]
  exact (beside_dropPunts s).boxes

theorem boxAt_unboxed (s : State) {n : Nat} (hn : n < 18) : boxAt (unboxed s) n = { gen := (boxAt s n).gen + 1 } := by
  rw [unboxed, boxAt_freshBoxes List.nodup_range _ (List.mem_range.mpr hn), boxAt, unlinked_boxes, ← boxAt]

/-- The registers of the host interface reset, its counters those from `lo` to `hi`: what HOST_LINK_RESET writes after the mailboxes. -/
def hostRegisters (lo hi : Nat) (t : State) : State :=
  let t := clearCtrs lo hi t
  { t with
    latch := []
    hif := {}
    up := { hold := t.up.hold, msgs := t.up.msgs, cfg1 := t.up.cfg1, evHeld := t.up.evHeld }
    tal := { t.tal with streams := t.tal.streams.map fun e => (e.1, { e.2 with prod := 0, cons := 0 }) } }

theorem ctrAt_hostRegisters {lo hi a : Nat} (t : State) (h1 : lo ≤ a) (h2 : a < hi) : ctrAt (hostRegisters lo hi t) a = 0#64 :=
  ctrAt_clearCtrs t h1 h2

theorem hostRegisters_reset (lo hi : Nat) (t : State) : (hostRegisters lo hi t).hif = {} ∧ (hostRegisters lo hi t).up.cfg0 = {}
    ∧ (hostRegisters lo hi t).up.accErr = 0#32 ∧ (hostRegisters lo hi t).latch = [] := ⟨rfl, rfl, rfl, rfl⟩

theorem hostRegisters_kept (lo hi : Nat) (t : State) : (hostRegisters lo hi t).time = t.time ∧ (hostRegisters lo hi t).tmp = t.tmp
    ∧ (hostRegisters lo hi t).tbl = t.tbl ∧ (hostRegisters lo hi t).flash = t.flash ∧ (hostRegisters lo hi t).hostMem = t.hostMem
    ∧ (hostRegisters lo hi t).up.cfg1 = t.up.cfg1 ∧ (hostRegisters lo hi t).dev = t.dev := ⟨rfl, rfl, rfl, rfl, rfl, rfl, rfl⟩

theorem boxAt_hostRegisters (lo hi n : Nat) (t : State) : boxAt (hostRegisters lo hi t) n = boxAt t n := rfl

theorem hostInterfaceReset_eq (s : State) : hostInterfaceReset s = hostRegisters Region.hif (Region.hif + 0x1000) (unboxed s) := by
  rw [hostInterfaceReset, hostRegisters, unboxed, unlinked]

/-- The mailboxes and channels of F1 reset; the rest of F1_FLR writes the tables of F1 alone. -/
def f1Boxes (s : State) : State := freshBox 17 (freshBox 16 (resetChannel (resetChannel s (.f1 0)) (.f1 1)))

theorem f1Boxes_eq (s : State) : f1Boxes s = { s with tcs := (f1Boxes s).tcs, boxes := (f1Boxes s).boxes } := by
  unfold f1Boxes freshBox setBox
  rw [resetChannel_eq (resetChannel s (.f1 0)), resetChannel_eq s]

theorem boxAt_f1Channels (s : State) (n : Nat) : boxAt (resetChannel (resetChannel s (.f1 0)) (.f1 1)) n = boxAt s n := by
  rw [resetChannel_eq (resetChannel s (.f1 0)), resetChannel_eq s]; rfl

end Sys2Proof.Proofs.LinkResets
end

section
/-! LEMMA. The obligation on the host link reset and the reset of F1. -/
namespace Sys2Proof.Proofs.LinkResets
open Sys2Proof Sys2Proof.Machine Sys2Proof.Laws

/-- HOST_LINK_RESET as the obligation states it. -/
theorem hostInterfaceReset_effect (s : State) :
    ∃ t, exec .hostLinkReset s = .next t ∧ t.hif = ({} : HifState) ∧ t.up.cfg0 = ({} : CfgSpace) ∧ t.up.accErr = 0#32 ∧ t.latch = []
      ∧ (∀ a, Region.hif ≤ a → a < Region.hif + 0x1000 → ctrAt t a = 0#64)
      ∧ (∀ n, n < 18 → boxAt t n = { gen := (boxAt s n).gen + 1 })
      ∧ t.time = s.time ∧ t.tmp = s.tmp ∧ t.tbl = s.tbl ∧ t.flash = s.flash ∧ t.hostMem = s.hostMem ∧ t.up.cfg1 = s.up.cfg1 := by
  obtain ⟨htime, htmp, htbl, hflash, hmem, hcfg, -⟩ := unboxed_kept s
  refine ⟨hostInterfaceReset s, rfl, ?_⟩
  rw [hostInterfaceReset_eq]
  generalize Region.hif + 0x1000 = hi
  generalize Region.hif = lo
  obtain ⟨hhif, hcfg0, herr, hlatch⟩ := hostRegisters_reset lo hi (unboxed s)
  obtain ⟨ktime, ktmp, ktbl, kflash, kmem, kcfg, -⟩ := hostRegisters_kept lo hi (unboxed s)
  exact ⟨hhif, hcfg0, herr, hlatch, fun a h1 h2 => ctrAt_hostRegisters _ h1 h2, fun n hn => (boxAt_hostRegisters ..).trans (boxAt_unboxed s hn),
    ktime.trans htime, ktmp.trans htmp, ktbl.trans htbl, kflash.trans hflash, kmem.trans hmem, kcfg.trans hcfg⟩

/-- F1_FLR as the obligation states it. -/
theorem f1Reset_effect (s : State) :
    ∃ t, exec .f1Flr s = .next t ∧ t.up.cfg1 = ({} : CfgSpace) ∧ boxAt t 16 = { gen := (boxAt s 16).gen + 1 }
      ∧ boxAt t 17 = { gen := (boxAt s 17).gen + 1 } ∧ (∀ n, n < 16 → boxAt t n = boxAt s n) ∧ (∀ a, 2 ^ 32 ≤ a → tabGet 0#32 t.latch a = 0#32)
      ∧ (∀ a, a < 2 ^ 32 → tabGet 0#32 t.latch a = tabGet 0#32 s.latch a) ∧ t.ctr = s.ctr ∧ t.hif = s.hif ∧ t.up.cfg0 = s.up.cfg0
      ∧ (∀ v, v < 64 → msixAt t v = msixAt s v) ∧ t.time = { s.time with now1 := {} } ∧ t.tbl = s.tbl ∧ t.hostMem = s.hostMem := by
  have hbox (n : Nat) : boxAt (f1Reset s) n = boxAt (f1Boxes s) n := rfl
  have hf : f1Reset s = { f1Boxes s with
      latch := (f1Boxes s).latch.filter fun e => decide (e.1 < 2 ^ 32)
      time := { (f1Boxes s).time with now1 := {} }
      up := { (f1Boxes s).up with cfg1 := {}, msix := (f1Boxes s).up.msix.filter fun e => decide (e.1 < 64) } } := rfl
  refine ⟨f1Reset s, rfl, rfl, ?_, ?_, fun n hn => ?_, fun a ha => ?_, fun a ha => ?_, ?_, ?_, ?_, fun v hv => ?_, ?_, ?_, ?_⟩
  · rw [hbox, f1Boxes, boxAt_freshBox_ne _ (by decide), boxAt_freshBox, boxAt_f1Channels]
  · rw [hbox, f1Boxes, boxAt_freshBox, boxAt_freshBox_ne _ (by decide), boxAt_f1Channels]
  · rw [hbox, f1Boxes, boxAt_freshBox_ne _ (by omega), boxAt_freshBox_ne _ (by omega), boxAt_f1Channels]
  · rw [hf]; exact tabGet_filter_dropped 0#32 _ (fun k => decide (k < 2 ^ 32)) (by simpa using ha)
  · rw [hf, f1Boxes_eq]; exact tabGet_filter_kept 0#32 _ (fun k => decide (k < 2 ^ 32)) (by simpa using ha)
  · rw [hf, f1Boxes_eq]
  · rw [hf, f1Boxes_eq]
  · rw [hf, f1Boxes_eq]
  · rw [hf, f1Boxes_eq]; exact tabGet_filter_kept ({} : MsixEntry) _ (fun k => decide (k < 64)) (by simpa using hv)
  · rw [hf, f1Boxes_eq]
  · rw [hf, f1Boxes_eq]
  · rw [hf, f1Boxes_eq]

/-- Settles O55: the drop of the punted frames touches none of the kept state, and each reset is a write of the registers it lists. -/
theorem linkAndFunctionResetsReachTheirRegisters : Obligations.LinkAndFunctionResetsReachTheirRegisters := by
  unfold Obligations.LinkAndFunctionResetsReachTheirRegisters
  exact fun s => ⟨hostInterfaceReset_effect s, f1Reset_effect s⟩

end Sys2Proof.Proofs.LinkResets
end

section
/-! SUPPORT. What a warm reset keeps (R417, R425), and what a cold one writes. -/
namespace Sys2Proof.Proofs.ResetSources
open Sys2Proof Sys2Proof.Machine Sys2Proof.Laws Sys2Proof.Proofs.LinkResets

variable {s z : State}

/-! ### The parts of a warm assertion -/

/-- The two states agree in what every part of a warm assertion leaves alone. -/
structure WarmKept (z s : State) : Prop where
  hostMem : s.hostMem = z.hostMem
  flash : s.flash = z.flash
  slots : s.tbl.slots = z.tbl.slots
  cfgs : s.tbl.cfgs = z.tbl.cfgs
  time : s.time = z.time
  capo : s.tmp.capo = z.tmp.capo
  reqCapo : s.tmp.reqCapo = z.tmp.reqCapo
  alertMask : s.dev.alertMask = z.dev.alertMask
  fuses : s.dev.fuses = z.dev.fuses
  step : s.dev.step = z.dev.step
  hif : s.hif = z.hif

/-- A write elsewhere keeps them. -/
theorem warm_mk (h : WarmKept z s) (pending cycles freeCtr rsp up tcs boxes ports rxs laneWords ras lanes prbs harps chits gens chitSeq
    classes lkps meters profiles tenants mint txs groups mirrors tele led recirc mem tal pwr con pair tap ctr latch) :
    WarmKept z ⟨pending, cycles, freeCtr, rsp, s.dev, s.hif, up, tcs, s.flash, boxes, s.time, ports, rxs, laneWords, ras, lanes, prbs, harps,
      chits, gens, chitSeq, classes, lkps, s.tbl, meters, profiles, tenants, mint, txs, groups, mirrors, tele, led, recirc, mem, tal, pwr, con,
      s.tmp, pair, tap, ctr, latch, s.hostMem⟩ := ⟨h.1, h.2, h.3, h.4, h.5, h.6, h.7, h.8, h.9, h.10, h.11⟩

theorem warm_foldl {α : Type} {f : State → α → State} (hf : ∀ s x, WarmKept z s → WarmKept z (f s x)) (l : List α) (h : WarmKept z s) :
    WarmKept z (l.foldl f s) := by
  induction l generalizing s with
  | nil => exact h
  | cons x l ih => exact ih (hf s x h)

theorem warm_bumpIf {c a} (h : WarmKept z s) : WarmKept z (bumpIf c a s) := by
  grind only [bumpIf, bump, bumpBy, warm_mk]

theorem warm_countCutLinks (h : WarmKept z s) : WarmKept z (countCutLinks s) := by
  unfold countCutLinks
  refine warm_foldl (fun t e ht => warm_bumpIf ht) _ (warm_foldl (fun t e ht => ?_) _ h)
  cases e.2.tx with
  | none => exact ht
  | some x => exact warm_bumpIf ht

theorem warm_cutWord (h : WarmKept z s) : WarmKept z (cutWord s) := by
  unfold cutWord
  dsimp only [freeChoice]
  split <;> exact warm_mk h ..

theorem warm_cutWork (h : WarmKept z s) : WarmKept z (cutWork s) := by
  unfold cutWork
  split
  · exact h
  · exact ⟨h.1, h.2, h.3, h.4, h.5, h.6, h.7, h.8, h.9, h.10, h.11⟩

theorem warm_holdStat (h : WarmKept z s) : WarmKept z (holdStat s) := by
  unfold holdStat
  split
  · exact ⟨h.1, h.2, h.3, h.4, h.5, h.6, h.7, h.8, h.9, h.10, h.11⟩
  · exact h

theorem warm_abandonCommands (h : WarmKept z s) : WarmKept z (abandonCommands s) := by
  grind only [abandonCommands, setBox, setChannel, warm_foldl, warm_mk]

theorem warm_stopClusters (h : WarmKept z s) : WarmKept z (stopClusters s) := by
  have stopped : WarmKept z (dropTask (abandonCommands (holdStat s))) := warm_mk (warm_abandonCommands (warm_holdStat h)) ..
  unfold stopClusters
  generalize dropTask (abandonCommands (holdStat s)) = t at stopped ⊢
  exact ⟨stopped.1, stopped.2, stopped.3, stopped.4, stopped.5, stopped.6, stopped.7, stopped.8, stopped.9, stopped.10, stopped.11⟩

theorem warm_parkPrbs (h : WarmKept z s) : WarmKept z (parkPrbs s) := by
  grind only [parkPrbs, prbsLockLoss, setPrbs, warm_foldl, warm_mk]

theorem warm_stopDecimators (h : WarmKept z s) : WarmKept z (stopDecimators s) := by
  grind only [stopDecimators, markGaps, setBank, setGroupOf, warm_foldl, warm_mk]

/-! ### The whole of it -/

theorem beside_countPunts (s : State) : SameBesideCells s (countPunts s) := by
  refine beside_foldl (fun t j h => ?_) s.up.ready ⟨rfl, rfl, rfl, rfl, rfl, rfl, rfl, rfl⟩
  cases j with
  | punt p => exact beside_bump h
  | _ => exact h

/-- The reset of the host interface resets its registers and keeps the rest. -/
theorem warm_hostInterfaceReset (s : State) : WarmKept { s with hif := {} } (hostInterfaceReset (countPunts s)) := by
  obtain ⟨hmem, hflash, htbl, htime, htmp, -, -, hdev⟩ := beside_countPunts s
  obtain ⟨utime, utmp, utbl, uflash, umem, -, udev⟩ := unboxed_kept (countPunts s)
  rw [hostInterfaceReset_eq]
  generalize Region.hif + 0x1000 = hi
  generalize Region.hif = lo
  obtain ⟨rhif, -⟩ := hostRegisters_reset lo hi (unboxed (countPunts s))
  obtain ⟨rtime, rtmp, rtbl, rflash, rmem, -, rdev⟩ := hostRegisters_kept lo hi (unboxed (countPunts s))
  have ktbl := (rtbl.trans utbl).trans htbl
  have ktmp := (rtmp.trans utmp).trans htmp
  have kdev := (rdev.trans udev).trans hdev
  exact {
    hostMem := (rmem.trans umem).trans hmem, flash := (rflash.trans uflash).trans hflash
    slots := congrArg TblState.slots ktbl, cfgs := congrArg TblState.cfgs ktbl, time := (rtime.trans utime).trans htime
    capo := congrArg TempoState.capo ktmp, reqCapo := congrArg TempoState.reqCapo ktmp
    alertMask := congrArg DevState.alertMask kdev, fuses := congrArg DevState.fuses kdev, step := congrArg DevState.step kdev
    hif := rhif }

/-- The state of a warm assertion before it writes the registers that chapter 18 names. -/
def warmStopped (s : State) : State :=
  stopDecimators (parkPrbs (stopClusters (cutWork (cutWord (countCutLinks (hostInterfaceReset (countPunts s)))))))

theorem warm_warmStopped (s : State) : WarmKept { s with hif := {} } (warmStopped s) :=
  warm_stopDecimators (warm_parkPrbs (warm_stopClusters (warm_cutWork (warm_cutWord (warm_countCutLinks (warm_hostInterfaceReset s))))))

theorem stopClusters_running (s : State) : (stopClusters s).tcs.running = false := rfl

theorem parkPrbs_tcs (s : State) : (parkPrbs s).tcs = s.tcs := by
  refine List.foldlRecOn (motive := fun t : State => t.tcs = s.tcs) _ _ rfl fun t ht p _ => ?_
  refine List.foldlRecOn (motive := fun t : State => t.tcs = s.tcs) _ _ ht fun u hu l _ => ?_
  unfold prbsLockLoss
  split
  · exact hu
  · exact hu

theorem stopDecimators_tcs (s : State) : (stopDecimators s).tcs = s.tcs := by
  refine List.foldlRecOn (motive := fun t : State => t.tcs = s.tcs) _ _ rfl fun t ht k _ => ?_
  dsimp only
  split
  · exact ht
  · exact ht

theorem warmStopped_running (s : State) : (warmStopped s).tcs.running = false := by
  rw [warmStopped, stopDecimators_tcs, parkPrbs_tcs, stopClusters_running]

/-- The registers that a warm assertion writes last. -/
theorem warmReach_registers (s : State) : (warmReach s).dev = { (warmStopped s).dev with
      blockRst := 0#32, plain := (warmStopped s).dev.fuses.sliceEn, moving := none, mapPorts := 0, skipped := false,
      step := min (warmStopped s).dev.step 2 }
    ∧ (warmReach s).time = { (warmStopped s).time with tsqs := (warmStopped s).time.tsqs.map fun e => (e.1, { e.2 with entries := [] }) }
    ∧ (warmReach s).tbl = { (warmStopped s).tbl with walks := [] } ∧ (warmReach s).tcs = (warmStopped s).tcs
    ∧ (warmReach s).tmp = (warmStopped s).tmp ∧ (warmReach s).hif = (warmStopped s).hif ∧ (warmReach s).hostMem = (warmStopped s).hostMem
    ∧ (warmReach s).flash = (warmStopped s).flash := by
  unfold warmReach warmStopped
  dsimp only
  generalize stopDecimators _ = t
  exact ⟨rfl, rfl, rfl, rfl, rfl, rfl, rfl, rfl⟩

/-! ### A cold source -/

theorem setBoxes_eq (f : Nat → Mailbox) (ns : List Nat) (t : State) :
    ns.foldl (fun t n => setBox n (f n) t) t = { t with boxes := (ns.foldl (fun t n => setBox n (f n) t) t).boxes } := by
  induction ns generalizing t with
  | nil => rfl
  | cons n ns ih => rw [List.foldl_cons, ih]; rfl

/-- The reset state with what a cold source does not reach, its mailboxes not yet one use later. -/
def coldState (k : Nat) (s : State) : State :=
  { State.reset with
    pending := s.pending, cycles := s.cycles, freeCtr := s.freeCtr, hostMem := s.hostMem, flash := s.flash
    dev := { fuses := s.dev.fuses, asserted := s.dev.asserted ||| 2 ^ k, since := s.dev.since ||| 2 ^ k
             straps := { lockPin := s.dev.straps.lockPin, bootPin := s.dev.straps.bootPin, pairPin := s.dev.straps.pairPin } }
    up := { msgs := s.up.msgs }
    tap := if k = 0 then { trstLow := s.tap.trstLow } else s.tap
    pair := { peerClaim := s.pair.peerClaim, quietAt := s.pair.quietAt } }

theorem coldAssert_eq (k : Nat) (s : State) : coldAssert k s = { coldState k s with boxes := (coldAssert k s).boxes } :=
  setBoxes_eq (fun n => { gen := (boxAt s n).gen + 1 }) (List.range 18) (coldState k s)

end Sys2Proof.Proofs.ResetSources
end

section
/-! LEMMA. The obligation on the reset sources. -/
namespace Sys2Proof.Proofs.ResetSources
open Sys2Proof Sys2Proof.Machine Sys2Proof.Laws Sys2Proof.Proofs.PortSettings

/-- What a cold source resets and keeps. -/
theorem coldAssert_effect (k : Nat) (s : State) :
    (coldAssert k s).dev.asserted = s.dev.asserted ||| 2 ^ k ∧ (coldAssert k s).dev.since = s.dev.since ||| 2 ^ k ∧ (coldAssert k s).ctr = []
      ∧ (coldAssert k s).chits = [] ∧ (coldAssert k s).latch = [] ∧ (coldAssert k s).tbl = State.reset.tbl ∧ (coldAssert k s).hif = State.reset.hif
      ∧ (coldAssert k s).tcs = State.reset.tcs ∧ (coldAssert k s).time = State.reset.time ∧ (coldAssert k s).led = State.reset.led
      ∧ (coldAssert k s).con = State.reset.con ∧ (coldAssert k s).dev.step = 0 ∧ (coldAssert k s).dev.fuses = s.dev.fuses
      ∧ (coldAssert k s).flash = s.flash ∧ (coldAssert k s).hostMem = s.hostMem ∧ (coldAssert k s).pending = s.pending := by
  rw [coldAssert_eq]
  exact ⟨rfl, rfl, rfl, rfl, rfl, rfl, rfl, rfl, rfl, rfl, rfl, rfl, rfl, rfl, rfl, rfl⟩

/-- What a warm source keeps, and where it leaves Titimus, the host interface and the slices. -/
theorem warmReach_effect (s : State) :
    (warmReach s).hostMem = s.hostMem ∧ (warmReach s).flash = s.flash ∧ (warmReach s).tbl.slots = s.tbl.slots
      ∧ (warmReach s).tbl.cfgs = s.tbl.cfgs ∧ (warmReach s).time.sec = s.time.sec ∧ (warmReach s).time.ns = s.time.ns
      ∧ (warmReach s).time.frac = s.time.frac ∧ (warmReach s).time.incr = s.time.incr ∧ (warmReach s).tmp.capo = s.tmp.capo
      ∧ (warmReach s).tmp.reqCapo = s.tmp.reqCapo ∧ (warmReach s).dev.alertMask = s.dev.alertMask ∧ (warmReach s).tcs.running = false
      ∧ (warmReach s).hif = ({} : HifState) ∧ (warmReach s).dev.blockRst = 0#32 ∧ (warmReach s).dev.plain = s.dev.fuses.sliceEn
      ∧ (warmReach s).dev.step = min s.dev.step 2 := by
  obtain ⟨wdev, wtime, wtbl, wtcs, wtmp, whif, wmem, wflash⟩ := warmReach_registers s
  have kept := warm_warmStopped s
  rw [wdev, wtime, wtbl, wtcs, wtmp, whif, wmem, wflash]
  dsimp only
  rw [kept.time, kept.fuses, kept.step]
  exact ⟨kept.hostMem, kept.flash, kept.slots, kept.cfgs, rfl, rfl, rfl, rfl, kept.capo, kept.reqCapo, kept.alertMask, warmStopped_running s,
    kept.hif, rfl, rfl, rfl⟩

/-- A peer's request where no cold source is asserted. -/
theorem peerResetRequest_warm (h0 : bit s.dev.asserted 0 = false) (h1 : bit s.dev.asserted 1 = false) :
    (s.dev.peerRstEn = true → s.pair.confirmed = false → peerResetRequest s = warmAssert 5 s)
    ∧ (s.dev.peerRstEn = false ∨ s.pair.confirmed = true → peerResetRequest s = bump Ctr.devPeerRstIgnored s) := by
  refine ⟨fun hen hc => ?_, fun h => ?_⟩
  · simp [peerResetRequest, coldHeld, h0, h1, hen, hc]
  · have : (s.dev.peerRstEn && !s.pair.confirmed) = false := by rcases h with h | h <;> simp [h]
    simp [peerResetRequest, coldHeld, h0, h1, this]

/-- A source that releases while another is asserted only takes itself away. -/
theorem sourceRelease_other {k : Nat} (hk : bit s.dev.asserted k = true) (h : s.dev.asserted ≠ 2 ^ k) :
    sourceRelease k s = { s with dev := { s.dev with asserted := s.dev.asserted - 2 ^ k } } := by
  have some : 2 ^ k ≤ s.dev.asserted := Nat.ge_two_pow_of_testBit ((bit_eq_testBit ..).symm.trans hk)
  have rest : s.dev.asserted - 2 ^ k ≠ 0 := by omega
  simp only [sourceRelease, hk, if_true, rest, if_false]

/-- The last source that releases writes the causes. -/
theorem sourceRelease_last {k : Nat} (h : s.dev.asserted = 2 ^ k) :
    sourceRelease k s = releaseBegin { s with dev := { s.dev with asserted := 0 } } := by
  have hk : bit (2 ^ k) k = true := by rw [bit_eq_testBit, Nat.testBit_two_pow_self]
  simp only [sourceRelease, h, hk, if_true, Nat.sub_self]

/-- Settles O56: no part of a warm assertion touches what it keeps, and a cold one is the reset state with what it does not reach. -/
theorem resetSourcesReachWhatTheyReset : Obligations.ResetSourcesReachWhatTheyReset := by
  unfold Obligations.ResetSourcesReachWhatTheyReset
  intro s x k cold warm
  have hwarm (n : Nat) : warmAssert n s = warm n := rfl
  refine ⟨⟨_, rfl, coldAssert_effect 0 s⟩, ⟨_, rfl, coldAssert_effect 1 s⟩, rfl, fun w hw hle => ?_, rfl, fun h0 h1 => ?_, rfl,
    warmReach_effect s, fun hk hbit hne => ?_, fun hk h => ?_, rfl⟩
  · have due : sysResetAssert s = warmAssert 3 s := by rw [sysResetAssert, hw]; exact if_pos hle
    exact congrArg Host.Outcome.next due
  · obtain ⟨takes, ignored⟩ := peerResetRequest_warm h0 h1
    exact ⟨fun hen hc => congrArg Host.Outcome.next (takes hen hc), fun h => congrArg Host.Outcome.next (ignored h)⟩
  · have released : exec (.resetSourceRelease k) s = .next (sourceRelease k s) := by
      show onUnit (decide (k < 6)) _ = _
      rw [decide_eq_true hk]; rfl
    rw [released, sourceRelease_other hbit hne]
  · have released : exec (.resetSourceRelease k) s = .next (sourceRelease k s) := by
      show onUnit (decide (k < 6)) _ = _
      rw [decide_eq_true hk]; rfl
    rw [released, sourceRelease_last h]
    rfl

end Sys2Proof.Proofs.ResetSources
end

section
/-! SUPPORT. Blocks that are held and released, slices that move: none of what this does to frames, chits and ports touches the registers of the
device (R184, R420, R435). -/
namespace Sys2Proof.Proofs.DeviceKept
open Sys2Proof Sys2Proof.Machine Sys2Proof.Laws Sys2Proof.Proofs.LinkResets

variable {s z : State}

/-- The two states have the same device registers. -/
def SameDev (z s : State) : Prop := s.dev = z.dev

/-- A write elsewhere keeps them. -/
theorem dev_mk (h : SameDev z s) (pending cycles freeCtr rsp hif up tcs flash boxes time ports rxs laneWords ras lanes prbs harps chits gens chitSeq
    classes lkps tbl meters profiles tenants mint txs groups mirrors tele led recirc mem tal pwr con tmp pair tap ctr latch hostMem) :
    SameDev z ⟨pending, cycles, freeCtr, rsp, s.dev, hif, up, tcs, flash, boxes, time, ports, rxs, laneWords, ras, lanes, prbs, harps, chits, gens,
      chitSeq, classes, lkps, tbl, meters, profiles, tenants, mint, txs, groups, mirrors, tele, led, recirc, mem, tal, pwr, con, tmp, pair, tap,
      ctr, latch, hostMem⟩ := h

theorem dev_foldl {α : Type} {f : State → α → State} (hf : ∀ s x, SameDev z s → SameDev z (f s x)) (l : List α) (h : SameDev z s) :
    SameDev z (l.foldl f s) := by
  induction l generalizing s with
  | nil => exact h
  | cons x l ih => exact ih (hf s x h)

/-! ### Counters, events and cells -/

theorem dev_of_beside {t : State} (ht : SameBesideCells s t) (h : SameDev z s) : SameDev z t := ht.dev.trans h

theorem beside_refl (s : State) : SameBesideCells s s := ⟨rfl, rfl, rfl, rfl, rfl, rfl, rfl, rfl⟩

theorem dev_bumpBy {a n} (h : SameDev z s) : SameDev z (bumpBy a n s) := h

theorem dev_bump {a} (h : SameDev z s) : SameDev z (bump a s) := h

theorem dev_bumpIf {c a} (h : SameDev z s) : SameDev z (bumpIf c a s) := by
  grind only [bumpIf, dev_bump]

theorem dev_bumpMac {f p n} (h : SameDev z s) : SameDev z (bumpMac f p n s) := by
  grind only [bumpMac, dev_bumpBy]

theorem dev_postEventAt {at_ c source data} (h : SameDev z s) : SameDev z (postEventAt at_ c source data s) := by
  grind only [postEventAt, pushReady, dev_bump, dev_mk]

theorem dev_postEvent {c source data} (h : SameDev z s) : SameDev z (postEvent c source data s) := dev_postEventAt h

theorem dev_hostWrite {a bs} (h : SameDev z s) : SameDev z (hostWrite a bs s) := h

theorem dev_modChit {n f} (h : SameDev z s) : SameDev z (modChit n f s) := by
  grind only [modChit, setChit, dev_mk]

theorem dev_freeChain {chain} (h : SameDev z s) : SameDev z (freeChain chain s) := dev_of_beside (beside_freeChain (beside_refl s)) h

theorem dev_dropRef {n} (h : SameDev z s) : SameDev z (dropRef n s) := dev_of_beside (beside_dropRef (beside_refl s)) h

theorem dev_dropAdmitted {k p n} (h : SameDev z s) : SameDev z (dropAdmitted k p n s) := dev_of_beside (beside_dropAdmitted (beside_refl s)) h

theorem dev_countDefaults {cls n} (h : SameDev z s) : SameDev z (countDefaults cls n s) := by
  grind only [countDefaults, dev_postEvent, dev_bumpBy]

theorem dev_releaseIf {n} (h : SameDev z s) : SameDev z (releaseIf n s) := by
  grind only [releaseIf, setChit, dev_freeChain, dev_mk]

theorem dev_addRef {n} {t : State} (h : SameDev z s) (e : addRef n s = some t) : SameDev z t := by
  grind only [addRef, dev_modChit]

theorem dev_dropHold {n} (h : SameDev z s) : SameDev z (dropHold n s) := by
  grind only [dropHold, dev_releaseIf, dev_modChit]

theorem dev_tallyEvent {n ev amt qual chit} (h : SameDev z s) : SameDev z (tallyEvent n ev amt qual chit s) := by
  grind only [tallyEvent, dev_modChit, addTally, dev_foldl, dev_mk]

/-! ### The Teller's ports (chapter 10) -/

theorem dev_suspend {p t cut} (h : SameDev z s) : SameDev z (suspend p t cut s) := by
  grind only [suspend, dev_bumpMac, modTx, dev_mk]

theorem dev_gateHold {p} (h : SameDev z s) : SameDev z (gateHold p s) := by
  grind only [gateHold, dev_bump, dev_suspend]

theorem dev_gateCycle {p} (h : SameDev z s) : SameDev z (gateCycle p s) := by
  grind only [gateCycle, modTx, dev_mk]

theorem dev_gateEntry {p} (h : SameDev z s) : SameDev z (gateEntry p s) := by
  grind only [gateEntry, modTx, dev_mk]

theorem dev_entriesDue {p n} (h : SameDev z s) : SameDev z (entriesDue p n s) := by
  induction n generalizing s with
  | zero => exact h
  | succ n ih => exact ih (dev_gateEntry h)

theorem dev_catchUp {p} (h : SameDev z s) : SameDev z (catchUp p s) := by
  grind only [catchUp, dev_gateHold, dev_entriesDue, dev_gateCycle]

theorem dev_startRestore {p} (h : SameDev z s) : SameDev z (startRestore p s) := by
  grind only [startRestore, modPort, dev_mk]

theorem dev_pushCopy {p c} (h : SameDev z s) : SameDev z (pushCopy p c s) := by
  grind only [pushCopy, modTx, noteHeld, modPort, dev_bump, dev_tallyEvent, wakePort, dev_startRestore, dev_mk]

theorem dev_enqueueCopy {p c lost} (hlost : ∀ t, SameDev z t → SameDev z (lost t)) (h : SameDev z s) : SameDev z (enqueueCopy p c lost s) := by
  have caught : SameDev z (catchUp p s) := dev_catchUp h
  unfold enqueueCopy
  dsimp only
  split
  · exact hlost _ (dev_bump caught)
  · split
    · exact hlost _ caught
    · split
      · exact dev_pushCopy (dev_addRef caught ‹_›)
      · exact hlost _ (dev_bump caught)

/-! ### Copies and the void of a chit (chapter 07) -/

theorem dev_makeForward {n} (h : SameDev z s) : SameDev z (makeForward n s) := by
  unfold makeForward
  dsimp only
  repeat' split
  · exact dev_enqueueCopy (fun _ => dev_dropAdmitted) (dev_countDefaults h)
  · exact dev_dropAdmitted (dev_bump (dev_countDefaults h))
  · exact h
  · exact h

theorem dev_refundPurse {k t amt} (h : SameDev z s) : SameDev z (refundPurse k t amt s).1 := by
  grind only [refundPurse, setTenant, dev_mk]

theorem dev_countEscrow {k bad} (h : SameDev z s) : SameDev z (countEscrow k bad s) := by
  grind only [countEscrow, dev_bumpIf, dev_bumpBy]

theorem dev_refundMeters {k n i : Nat} {ds : List DebitEscrow} {a : State × Bool} (h : SameDev z a.1) : SameDev z (refundMeters k n i ds a).1 := by
  induction ds generalizing i a with
  | nil => exact h
  | cons d ds ih => exact ih (by split <;> exact h)

theorem dev_stompAt {p t n} (h : SameDev z s) : SameDev z (stompAt p t n s) := by
  grind only [stompAt, dev_bumpMac, modTx, dev_mk]

theorem dev_stompTx {p t most} (h : SameDev z s) : SameDev z (stompTx p t most s) := by
  grind only [stompTx, stompPoint, freeChoice, dev_stompAt, dev_mk]

theorem dev_stompSpec {n why atFcs} (h : SameDev z s) : SameDev z (stompSpec n why atFcs s) := by
  unfold stompSpec
  dsimp only
  repeat' split
  all_goals grind only [dev_stompAt, dev_stompTx, dev_modChit, dev_bump]

theorem dev_endParse {n} (h : SameDev z s) : SameDev z (endParse n s) := by
  grind only [endParse, modHarp, dev_modChit, dev_mk]

theorem dev_refundAll {k n c} (h : SameDev z s) : SameDev z (refundAll k n c s) := by
  have meters : SameDev z (refundMeters k n 0 c.debits (s, false)).1 := dev_refundMeters h
  unfold refundAll
  dsimp only
  refine dev_bumpIf (dev_bumpIf ?_)
  split
  · split
    · exact meters
    · exact dev_refundPurse meters
  · exact meters

theorem dev_voidChit {n cause} (h : SameDev z s) : SameDev z (voidChit n cause s) := by
  have stomped : SameDev z (stompSpec n .void false s) := dev_stompSpec h
  unfold voidChit
  split
  · split
    · refine dev_dropHold (dev_tallyEvent (dev_bump (dev_bump (dev_modChit (dev_endParse (dev_refundAll ?_))))))
      split
      · exact stomped
      · exact dev_countEscrow stomped
    · exact h
  · exact h

theorem dev_loseCopy {p c} (h : SameDev z s) : SameDev z (loseCopy p c s) := by
  grind only [loseCopy, dev_bump, dev_dropAdmitted]

theorem dev_discardCopy {p c} (h : SameDev z s) : SameDev z (discardCopy p c s) := by
  grind only [discardCopy, dev_dropRef, dev_loseCopy]

theorem dev_discardCopies {p} (cs : List Copy) (h : SameDev z s) : SameDev z (cs.foldl (fun s c => discardCopy p c s) s) :=
  dev_foldl (fun _ _ hs => dev_discardCopy hs) cs h

theorem dev_modTx {p f} (h : SameDev z s) : SameDev z (modTx p f s) := h

theorem dev_dispatchCopy {n} (h : SameDev z s) : SameDev z (dispatchCopy n s) := by
  grind only [dispatchCopy, dev_makeForward, dev_bumpIf]

theorem dev_redispatch {n} (h : SameDev z s) : SameDev z (redispatch n s) := by
  grind only [redispatch, dev_dispatchCopy]

theorem dev_failSpec {p t} (h : SameDev z s) : SameDev z (failSpec p t s) := by
  grind only [failSpec, dev_modChit, dev_bumpIf, dev_stompTx]

theorem dev_flushPort {p} (h : SameDev z s) : SameDev z (flushPort p s) := by
  have queues {t : State} (ht : SameDev z t) : SameDev z ((List.range 16).foldl (fun s q =>
      (queueAt (txAt s p) q).foldl (fun s c => discardCopy p c s) (modTx p (setQueue q []) s)) t) :=
    dev_foldl (fun _ _ hs => dev_discardCopies _ (dev_modTx hs)) _ ht
  unfold flushPort
  dsimp only
  cases (txAt s p).tx.filter fun t => t.fcs.isNone with
  | none =>
    refine queues ?_
    split
    · exact dev_discardCopy h
    · exact h
  | some t =>
    dsimp only
    split
    · have lost : SameDev z (stompTx p t t.copy.len (loseCopy p t.copy s)) := dev_stompTx (dev_loseCopy h)
      refine queues ?_
      split
      · exact dev_discardCopy lost
      · exact lost
    · have failed : SameDev z (failSpec p t s) := dev_failSpec h
      refine dev_redispatch (queues ?_)
      split
      · exact dev_discardCopy failed
      · exact failed

theorem dev_voidReceiving {p} (h : SameDev z s) : SameDev z (voidReceiving p s) := by
  grind only [voidReceiving, dev_voidChit, dev_foldl]

theorem dev_linkDown {p} (h : SameDev z s) : SameDev z (linkDown p s) := by
  grind only [linkDown, dev_bumpIf, modRx, modPort, dev_flushPort, dev_voidReceiving, dev_mk]

theorem dev_modFull {p f} (h : SameDev z s) : SameDev z (modFull p f s) := by
  grind only [modFull, modPort, dev_mk]

theorem dev_startLink {p} (h : SameDev z s) : SameDev z (startLink p s) := by
  grind only [startLink, modPort, dev_mk]

theorem dev_disablePort {p} (h : SameDev z s) : SameDev z (disablePort p s) := by
  grind only [disablePort, dev_modFull, dev_linkDown, setPrbs, dev_foldl, dev_mk]

/-! ### The table engine's writes (chapter 06) -/

theorem dev_writeSlot {loc e wide} (h : SameDev z s) : SameDev z (writeSlot loc e wide s) := by
  grind only [writeSlot, cleanse, dev_foldl, dev_mk]

theorem dev_copyEntry {a b} (h : SameDev z s) : SameDev z (copyEntry a b s) := by
  grind only [copyEntry, dev_writeSlot]

theorem dev_dropMoved {a b} (h : SameDev z s) : SameDev z (dropMoved a b s) := by
  grind only [dropMoved, dev_writeSlot, dev_bump, dev_mk]

theorem dev_placeNew {e loc code} (h : SameDev z s) : SameDev z (placeNew e loc code s) := by
  grind only [placeNew, dev_bumpIf, dev_bump, dev_writeSlot]

theorem dev_removeEntry {loc e} (h : SameDev z s) : SameDev z (removeEntry loc e s) := by
  grind only [removeEntry, dev_writeSlot, dev_bump, dev_mk]

theorem dev_doWrite {x} (h : SameDev z s) : SameDev z (doWrite x s).2 := by
  cases x with
  | remove loc => unfold doWrite; grind only [dev_removeEntry]
  | _ => grind only [doWrite, dev_copyEntry, dev_dropMoved, dev_placeNew, dev_hostWrite]

theorem dev_doWrites {ws} (h : SameDev z s) : SameDev z (doWrites ws s) := by
  grind only [doWrites, dev_doWrite, dev_foldl]

/-! ### The examination of chits and the move of a port (R184, R435) -/

theorem dev_dropOnPort {mine p} (h : SameDev z s) : SameDev z (dropOnPort mine p s) := by
  grind only [dropOnPort, dev_bumpMac, modTx, dropExamined, dev_bump, dev_dropRef, dev_loseCopy, dev_foldl, dev_mk]

theorem dev_examine {mine} (h : SameDev z s) : SameDev z (examine mine s) := by
  grind only [examine, dev_voidChit, dev_dropOnPort, freeHeld, dev_releaseIf, dev_modChit, dev_foldl]

theorem dev_enterFull {p} (h : SameDev z s) : SameDev z (enterFull s p) := by
  grind only [enterFull, dev_linkDown, modPort, dev_startLink, dev_mk]

end Sys2Proof.Proofs.DeviceKept
end

section
/-! SUPPORT. Release steps, the boot of Titimus, block resets and the moves of a slice (R401, R420, R423, R433 to R436). -/
namespace Sys2Proof.Proofs.ReleaseSteps
open Sys2Proof Sys2Proof.Machine Sys2Proof.Laws Sys2Proof.Proofs.DeviceKept Sys2Proof.Proofs.PortSettings

variable {s z : State}

/-! ### Release steps -/

theorem releaseStep_done (h : s.dev.asserted = 0) (hn : s.dev.step + 1 ≤ 12) (h8 : s.dev.step + 1 = 8 → s.tcs.running = true) :
    releaseStep s = { stepEvent (s.dev.step + 1) s with dev := { (stepEvent (s.dev.step + 1) s).dev with step := s.dev.step + 1 } } := by
  have may : (decide (s.dev.asserted = 0) && decide (s.dev.step + 1 ≤ 12) && (decide (s.dev.step + 1 ≠ 8) || s.tcs.running)) = true := by
    simp only [Bool.and_eq_true, Bool.or_eq_true, decide_eq_true_eq]
    refine ⟨⟨h, hn⟩, ?_⟩
    by_cases e : s.dev.step + 1 = 8
    · exact .inr (h8 e)
    · exact .inl e
  exact if_pos may

theorem releaseStep_waits (h : s.dev.asserted ≠ 0 ∨ 12 ≤ s.dev.step ∨ (s.dev.step + 1 = 8 ∧ s.tcs.running = false)) : releaseStep s = s := by
  have not : ¬ (decide (s.dev.asserted = 0) && decide (s.dev.step + 1 ≤ 12) && (decide (s.dev.step + 1 ≠ 8) || s.tcs.running)) = true := by
    simp only [Bool.and_eq_true, Bool.or_eq_true, decide_eq_true_eq]
    rintro ⟨⟨ha, hs⟩, hr⟩
    rcases h with h | h | ⟨h8, hoff⟩
    · exact h ha
    · omega
    · exact hr.elim (fun hne => hne h8) (fun hon => by rw [hoff] at hon; cases hon)
  exact if_neg not

/-! ### The boot of Titimus -/

/-- The two states agree in Titimus's cluster, the device registers and the fill in progress. -/
structure SameBoot (z s : State) : Prop where
  tcs : s.tcs = z.tcs
  dev : s.dev = z.dev
  filling : s.mem.filling = z.mem.filling

theorem SameBoot.foldl {α : Type} {f : State → α → State} (hf : ∀ s x, SameBoot z s → SameBoot z (f s x)) (l : List α) (h : SameBoot z s) :
    SameBoot z (l.foldl f s) := by
  induction l generalizing s with
  | nil => exact h
  | cons x l ih => exact ih (hf s x h)

theorem SameBoot.postEventAt {at_ c source data} (h : SameBoot z s) : SameBoot z (postEventAt at_ c source data s) := by
  unfold Machine.postEventAt
  split
  · exact ⟨h.1, h.2, h.3⟩
  · dsimp only
    split <;> exact ⟨h.1, h.2, h.3⟩

/-- Titimus runs; nothing else of its cluster changes. -/
theorem sameBoot_runTitimus (s : State) : SameBoot { s with tcs := { s.tcs with running := true } } (runTitimus s) :=
  SameBoot.foldl (fun _ _ h => h.postEventAt) _ ⟨rfl, rfl, rfl⟩

theorem sameBoot_drainLog (h : SameBoot z s) : SameBoot z (drainLog s) := by
  unfold drainLog
  split
  · refine SameBoot.foldl (fun t e ht => ?_) _ ⟨h.1, h.2, h.3⟩
    unfold takeLog
    dsimp only
    split
    · exact SameBoot.postEventAt ⟨ht.1, ht.2, ht.3⟩
    · exact ⟨ht.1, ht.2, ht.3⟩
  · exact h

/-- The first boot marks itself and starts the fill. -/
theorem firstBoot_effect (s : State) : (firstBoot s).tcs = s.tcs ∧ (firstBoot s).dev = { s.dev with booted := true }
    ∧ (firstBoot s).mem.filling = some bootFill := by
  unfold firstBoot
  dsimp only
  cases (storedFlash s).tune <;> cases (storedFlash s).record <;> exact ⟨rfl, rfl, rfl⟩

/-- The image of slot `j` is loaded. -/
def withImage (j : Nat) (s : State) : State :=
  { s with
    dev := { s.dev with slot := j, fallback := decide (j ≠ firstSlot s), noImage := false }
    tcs := { s.tcs with image := slotImage s j } }

/-- Titimus runs it, before it looks whether it has booted before. -/
def loaded (j : Nat) (s : State) : State :=
  let t := runTitimus (withImage j s)
  modPair (fun p => { p with fedAt := t.cycles }) t

theorem loaded_effect (j : Nat) (s : State) : (loaded j s).tcs = { (withImage j s).tcs with running := true }
    ∧ (loaded j s).dev = (withImage j s).dev := by
  obtain ⟨htcs, hdev, -⟩ := sameBoot_runTitimus (withImage j s)
  exact ⟨htcs, hdev⟩

theorem withImage_tcs (j : Nat) (s : State) : (withImage j s).tcs = { s.tcs with image := slotImage s j } := rfl

theorem withImage_dev (j : Nat) (s : State) :
    (withImage j s).dev = { s.dev with slot := j, fallback := decide (j ≠ firstSlot s), noImage := false } := rfl

/-- What a boot does once Titimus is loaded. -/
def bootWork (t : State) : State :=
  if t.dev.booted then (if t.dev.fillsOk then t else { t with mem := { t.mem with filling := some bootFill } }) else firstBoot t

theorem bootWork_effect (t : State) : (bootWork t).tcs = t.tcs ∧ (bootWork t).dev = { t.dev with booted := true }
    ∧ (t.dev.booted = false → (bootWork t).mem.filling = some bootFill) := by
  cases hb : t.dev.booted with
  | false =>
    obtain ⟨htcs, hdev, hfill⟩ := firstBoot_effect t
    have work : bootWork t = firstBoot t := by simp [bootWork, hb]
    exact work ▸ ⟨htcs, hdev, fun _ => hfill⟩
  | true =>
    have same : t.dev = { t.dev with booted := true } := by rw [← hb]
    have work : bootWork t = if t.dev.fillsOk then t else { t with mem := { t.mem with filling := some bootFill } } := by simp [bootWork, hb]
    rw [work]
    split
    · exact ⟨rfl, same, fun h => nomatch h⟩
    · exact ⟨rfl, same, fun h => nomatch h⟩

section
variable (hr : s.tcs.running = false) (hsw : s.pair.switching = false) (ha : s.dev.asserted = 0) (h4 : 4 ≤ s.dev.step) (hd : inDoze s = false)
include hr hsw ha h4 hd

theorem bootComplete_may : (!s.tcs.running && !s.pair.switching && decide (s.dev.asserted = 0) && decide (s.dev.step ≥ 4) && !inDoze s) = true := by
  simp [hr, hsw, ha, h4, hd]

theorem bootComplete_boots {j : Nat} (hj : bootSlot s = some j) : bootComplete s = drainLog (bootWork (loaded j s)) := by
  unfold bootComplete
  rw [if_pos (bootComplete_may hr hsw ha h4 hd), hj]
  rfl

theorem bootComplete_noImage (hj : bootSlot s = none) : bootComplete s = { s with dev := { s.dev with noImage := true, fallback := false } } := by
  unfold bootComplete
  rw [if_pos (bootComplete_may hr hsw ha h4 hd), hj]

end

/-! ### Block resets -/

/-- What a write of DEV_BLOCK_RST does to one slice. -/
def sliceBlock (new old : Nat) (s : State) (k : Nat) : State :=
  if !sliceEnabled s k then s
  else if bit new k && !bit old k then holdSlice k s
  else if !bit new k && bit old k then releaseSlice k s
  else s

/-- And to the console's inputs. -/
def consoleBlock (new old : Nat) (s : State) : State :=
  if bit new 17 && !bit old 17 then stopDecimators s
  else if !bit new 17 && bit old 17 then (List.range 4).foldl (fun s k => if (groupOf s k).en then armGroup k s else s) s
  else s

theorem writeBlockRst_refused {x : W32} (h : (bit x.toNat 17 && anyTrip s) = true) :
    writeBlockRst x s = consoleBlock (x.toNat % 2 ^ 17) s.dev.blockRst.toNat ((List.range 16).foldl (sliceBlock (x.toNat % 2 ^ 17) s.dev.blockRst.toNat)
      { logAccess .refused false 0x14 x 15#4 s with dev := { s.dev with blockRst := w32 (x.toNat % 2 ^ 17) } }) := by
  unfold writeBlockRst
  rw [h]
  rfl

theorem writeBlockRst_taken {x : W32} (h : (bit x.toNat 17 && anyTrip s) = false) :
    writeBlockRst x s = consoleBlock (x.toNat % 2 ^ 18) s.dev.blockRst.toNat ((List.range 16).foldl (sliceBlock (x.toNat % 2 ^ 18) s.dev.blockRst.toNat)
      { s with dev := { s.dev with blockRst := w32 (x.toNat % 2 ^ 18) } }) := by
  unfold writeBlockRst
  rw [h]
  rfl

theorem sliceBlock_same {new old k : Nat} (h : bit new k = bit old k) (s : State) : sliceBlock new old s k = s := by
  unfold sliceBlock
  rw [h]
  cases bit old k <;> simp

theorem sliceBlocks_same {new old : Nat} (ks : List Nat) (h : ∀ k ∈ ks, bit new k = bit old k) (s : State) : ks.foldl (sliceBlock new old) s = s := by
  induction ks generalizing s with
  | nil => rfl
  | cons k ks ih => rw [List.foldl_cons, sliceBlock_same (h k (.head _)), ih fun j hj => h j (.tail _ hj)]

theorem consoleBlock_same {new old : Nat} (h : bit new 17 = bit old 17) (s : State) : consoleBlock new old s = s := by
  unfold consoleBlock
  rw [h]
  cases bit old 17 <;> rfl

/-- A bit below the modulus is the number's. -/
theorem bit_mod {v n i : Nat} (h : i < n) : bit (v % 2 ^ n) i = bit v i := by
  rw [bit_eq_testBit, bit_eq_testBit, Nat.testBit_mod_two_pow, decide_eq_true h, Bool.true_and]

/-- The bit at the modulus is clear. -/
theorem bit_mod_ge {v n : Nat} : bit (v % 2 ^ n) n = false := by
  rw [bit_eq_testBit, Nat.testBit_mod_two_pow, decide_eq_false (Nat.lt_irrefl n), Bool.false_and]

theorem bit_of_mod_eq {v w n i : Nat} (h : i < n) (e : v % 2 ^ n = w % 2 ^ n) : bit v i = bit w i := by
  rw [← bit_mod h, e, bit_mod h]

theorem dev_setScanned {v k} (h : SameDev z s) : SameDev z (setScanned v k s) := h

theorem dev_modHarp {k f} (h : SameDev z s) : SameDev z (modHarp k f s) := h

theorem dev_modRx {p f} (h : SameDev z s) : SameDev z (modRx p f s) := h

theorem dev_modPort {p f} (h : SameDev z s) : SameDev z (modPort p f s) := h

theorem dev_holdSlice {k} (h : SameDev z s) : SameDev z (holdSlice k s) := by
  unfold holdSlice
  dsimp only
  refine dev_setScanned (dev_modHarp (dev_mk ?_ ..))
  refine dev_foldl (fun _ _ ht => dev_modRx ht) _ (dev_flushPort ?_)
  exact dev_foldl (fun _ _ ht => dev_flushPort (dev_modPort (dev_bumpIf ht))) _ h

theorem dev_releaseSlice {k} (h : SameDev z s) : SameDev z (releaseSlice k s) := by
  grind only [releaseSlice, dev_examine, modPort, setScanned, modLkp, dev_foldl, dev_mk]

theorem dev_sliceBlock {new old k} (h : SameDev z s) : SameDev z (sliceBlock new old s k) := by
  grind only [sliceBlock, dev_holdSlice, dev_releaseSlice]

theorem dev_consoleBlock {new old} (h : SameDev z s) : SameDev z (consoleBlock new old s) := by
  grind only [consoleBlock, stopDecimators, markGaps, setBank, armGroup, setGroupOf, dev_foldl, dev_mk]

/-! ### Moves between Plain and full service -/

theorem dev_fixTables (h : SameDev z s) : SameDev z (fixTables s) := by
  grind only [fixTables, modTbl, dev_doWrites, dev_mk]

theorem dev_mergePlain (h : SameDev z s) : SameDev z (mergePlain s) := by
  grind only [mergePlain, setBank, dev_mk]

theorem dev_nameDefault (h : SameDev z s) : SameDev z (nameDefault s) := by
  unfold nameDefault nameTrigger
  dsimp only
  split
  · exact h
  · split <;> exact h

theorem dev_enterPlain {m p} (h : SameDev z s) : SameDev z (enterPlain m s p) := by
  grind only [enterPlain, modPort, makePlain, dev_disablePort, dev_mk]

/-- Slice `k` no longer in Plain service, its ports in their full-service configuration. -/
def fullPorts (k : Nat) (s : State) : State :=
  ((List.range 32).map fun i => 32 * k + i).foldl enterFull (fixTables { s with dev := { s.dev with plain := s.dev.plain - 2 ^ k, moving := none } })

theorem dev_fullPorts (k : Nat) (s : State) : (fullPorts k s).dev = { s.dev with plain := s.dev.plain - 2 ^ k, moving := none } :=
  dev_foldl (fun _ _ ht => dev_enterFull ht) _ (dev_fixTables (z := { s with dev := { s.dev with plain := s.dev.plain - 2 ^ k, moving := none } }) rfl)

/-- A slice that may enter full service and holds nothing does. -/
theorem sliceTransition_eq {k : Nat} (h : mayGoFull s k = true) (he : sliceEmpty s k = true) :
    sliceTransition k s = if allFull (fullPorts k s) then nameDefault (mergePlain (fullPorts k s)) else fullPorts k s := by
  unfold sliceTransition
  rw [h, he]
  rfl

theorem sliceTransition_moves {k : Nat} (h : mayGoFull s k = true) (he : sliceEmpty s k = true) :
    (sliceTransition k s).dev.plain = s.dev.plain - 2 ^ k := by
  have kept : SameDev (fullPorts k s) (sliceTransition k s) := by
    rw [sliceTransition_eq h he]
    split
    · exact dev_nameDefault (dev_mergePlain rfl)
    · rfl
  rw [kept, dev_fullPorts]

theorem callOff_eq (k : Nat) (s : State) : callOff k s = { s with dev := { s.dev with moving := (callOff k s).dev.moving } } := by
  unfold callOff
  split <;> rfl

theorem sliceTransition_waits {k : Nat} (h : mayGoFull s k = false) :
    sliceTransition k s = { s with dev := { s.dev with moving := (sliceTransition k s).dev.moving } } := by
  have : sliceTransition k s = if plainSlice s k then callOff k s else s := by simp [sliceTransition, h]
  rw [this]
  split
  · exact callOff_eq k s
  · rfl

theorem sliceTransition_underWay {k : Nat} (h : mayGoFull s k = true) (he : sliceEmpty s k = false) :
    sliceTransition k s = { s with dev := { s.dev with moving := some k } } := by
  simp [sliceTransition, h, he]

/-- The ports of slice `k` as plain ones. -/
def plainPorts (k : Nat) (s : State) : State := ((List.range 32).map fun i => 32 * k + i).foldl (enterPlain (validEntries s (plainMap s)).1) s

/-- A slice that may return to Plain service and holds nothing does. -/
theorem sliceToPlain_moves {k : Nat} (h : mayGoPlain s k = true) (he : sliceEmpty s k = true) :
    sliceToPlain k s = { plainPorts k s with
      dev := { (plainPorts k s).dev with plain := (plainPorts k s).dev.plain + 2 ^ k, moving := none }
      led := { (plainPorts k s).led with plain := (plainPorts k s).led.plain.filter fun e => decide (portSlice e.1 ≠ k) } } := by
  unfold sliceToPlain
  rw [h, he]
  rfl

theorem dev_plainPorts (k : Nat) (s : State) : (plainPorts k s).dev = s.dev := dev_foldl (fun _ _ => dev_enterPlain) _ rfl

theorem sliceToPlain_waits {k : Nat} (h : mayGoPlain s k = false) :
    sliceToPlain k s = { s with dev := { s.dev with moving := (sliceToPlain k s).dev.moving } } := by
  have : sliceToPlain k s = if plainSlice s k then s else callOff k s := by simp [sliceToPlain, h]
  rw [this]
  split
  · rfl
  · exact callOff_eq k s

theorem sliceToPlain_underWay {k : Nat} (h : mayGoPlain s k = true) (he : sliceEmpty s k = false) :
    sliceToPlain k s = { s with dev := { s.dev with moving := some k } } := by
  simp [sliceToPlain, h, he]

theorem mayGoFull_of {k : Nat} (hr : s.tcs.running = true) (hf : s.dev.fillsOk = true) (hp : s.dev.firstPass = true) (hc : s.tmp.capo < 3)
    (ha : s.dev.asserted = 0) (h7 : 7 ≤ s.dev.step) (hk : plainSlice s k = true) (hb : below s k (fun j => !plainSlice s j) = true)
    (hn : bit s.dev.blockRst.toNat k = false) : mayGoFull s k = true := by
  simp [mayGoFull, hr, hf, hp, hc, ha, h7, hk, hb, hn]

theorem mayGoFull_not {k : Nat}
    (h : s.tcs.running = false ∨ s.dev.fillsOk = false ∨ s.dev.firstPass = false ∨ s.tmp.capo = 3 ∨ plainSlice s k = false) :
    mayGoFull s k = false := by
  rcases h with h | h | h | h | h <;> simp [mayGoFull, h]

theorem mayGoPlain_of {k : Nat} (hr : s.tcs.running = true) (hc : s.tmp.capo = 3) (ha : s.dev.asserted = 0) (hk : plainSlice s k = false)
    (hb : below s k (plainSlice s) = true) : mayGoPlain s k = true := by
  simp [mayGoPlain, hr, hc, ha, hk, hb]

theorem mayGoPlain_not {k : Nat} (h : s.tcs.running = false ∨ s.tmp.capo ≠ 3 ∨ plainSlice s k = true) : mayGoPlain s k = false := by
  rcases h with h | h | h <;> simp [mayGoPlain, h]

end Sys2Proof.Proofs.ReleaseSteps
end

section
/-! LEMMA. The obligation on release steps, block resets and the moves of a slice. -/
namespace Sys2Proof.Proofs.ReleaseSteps
open Sys2Proof Sys2Proof.Machine Sys2Proof.Laws Sys2Proof.Proofs.DeviceKept

variable {s : State}

/-- A boot from slot `j` as the obligation states it. -/
theorem bootComplete_effect (hr : s.tcs.running = false) (hsw : s.pair.switching = false) (ha : s.dev.asserted = 0) (h4 : 4 ≤ s.dev.step)
    (hd : inDoze s = false) {j : Nat} (hj : bootSlot s = some j) :
    (bootComplete s).tcs.running = true ∧ (bootComplete s).tcs.image = slotImage s j ∧ (bootComplete s).dev.slot = j
      ∧ (bootComplete s).dev.fallback = decide (j ≠ firstSlot s) ∧ (bootComplete s).dev.booted = true
      ∧ (s.dev.booted = false → (bootComplete s).mem.filling = some bootFill) := by
  obtain ⟨ltcs, ldev⟩ := loaded_effect j s
  rw [withImage_tcs] at ltcs
  rw [withImage_dev] at ldev
  obtain ⟨wtcs, wdev, wfill⟩ := bootWork_effect (loaded j s)
  obtain ⟨dtcs, ddev, dfill⟩ := sameBoot_drainLog (z := bootWork (loaded j s)) (s := bootWork (loaded j s)) ⟨rfl, rfl, rfl⟩
  rw [bootComplete_boots hr hsw ha h4 hd hj, dtcs, ddev, dfill, wtcs, wdev, ltcs, ldev]
  refine ⟨rfl, rfl, rfl, rfl, rfl, fun hb => wfill ?_⟩
  rw [ldev]
  exact hb

/-- A write of DEV_BLOCK_RST that CONIN_RST refuses and that moves no slice. -/
theorem writeBlockRst_log {x : W32} (ht : anyTrip s = true) (hx : bit x.toNat 17 = true)
    (hk : s.dev.blockRst.toNat % 2 ^ 16 = x.toNat % 2 ^ 16) (h17 : bit s.dev.blockRst.toNat 17 = false) :
    writeBlockRst x s = { logAccess .refused false 0x14 x 15#4 s with dev := { s.dev with blockRst := w32 (x.toNat % 2 ^ 17) } } := by
  rw [writeBlockRst_refused (by rw [ht, hx]; rfl), sliceBlocks_same, consoleBlock_same]
  · rw [bit_mod_ge, h17]
  · intro k hr
    have hk16 := List.mem_range.mp hr
    rw [bit_mod (by omega)]
    exact (bit_of_mod_eq hk16 hk).symm

/-- A write of DEV_BLOCK_RST that is not refused leaves its 18 bits there. -/
theorem writeBlockRst_bits {x : W32} (h : bit x.toNat 17 = false ∨ anyTrip s = false) :
    (writeBlockRst x s).dev.blockRst = w32 (x.toNat % 2 ^ 18) := by
  have taken : (bit x.toNat 17 && anyTrip s) = false := by rcases h with h | h <;> simp [h]
  rw [writeBlockRst_taken taken]
  exact congrArg DevState.blockRst (dev_consoleBlock (dev_foldl (fun _ _ => dev_sliceBlock) _ rfl))

/-- Settles O57: what the steps, resets and moves do to frames and ports keeps the device registers, which each of them writes last. -/
theorem releaseStepsAndBlockResets : Obligations.ReleaseStepsAndBlockResets := by
  unfold Obligations.ReleaseStepsAndBlockResets
  intro s k x fast n
  refine ⟨?step, ?waits, ?boot, ?tunnel, ?refused, ?taken, fun hk => ?moves⟩
  case step => exact fun h hn h8 => ⟨_, congrArg Host.Outcome.next (releaseStep_done h hn h8), rfl, rfl⟩
  case waits => exact fun h => congrArg Host.Outcome.next (releaseStep_waits h)
  case boot =>
    intro hr hsw ha h4 hd
    exact ⟨fun j hj => ⟨_, rfl, bootComplete_effect hr hsw ha h4 hd hj⟩,
      fun hj => congrArg Host.Outcome.next (bootComplete_noImage hr hsw ha h4 hd hj)⟩
  case tunnel => exact fun hd ha h3 => congrArg Host.Outcome.next (if_pos (by simp [hd, ha, h3]))
  case refused => exact fun ht hx hk h17 => congrArg Host.Outcome.next (writeBlockRst_log ht hx hk h17)
  case taken => exact fun h => ⟨⟨_, rfl, writeBlockRst_bits h⟩, _, rfl, writeBlockRst_bits h⟩
  case moves =>
    have full : exec (.sliceTransition k) s = .next (sliceTransition k s) := if_pos hk
    have plain : exec (.sliceToPlain k) s = .next (sliceToPlain k s) := if_pos hk
    rw [full, plain]
    refine ⟨fun hr hf hp hc ha h7 hpl hb he hn => ?_, fun h => ?_, fun h he => ?_, fun hr hc ha hpl hb he => ?_, fun h => ?_, fun h he => ?_⟩
    · exact ⟨_, rfl, sliceTransition_moves (mayGoFull_of hr hf hp hc ha h7 hpl hb hn) he⟩
    · exact ⟨_, rfl, sliceTransition_waits (mayGoFull_not h)⟩
    · rw [sliceTransition_underWay h he]
    · refine ⟨_, rfl, ?_⟩
      rw [sliceToPlain_moves (mayGoPlain_of hr hc ha hpl hb) he]
      refine ⟨congrArg (DevState.plain · + 2 ^ k) (dev_plainPorts k s), fun e hm => ?_⟩
      exact of_decide_eq_true (List.mem_filter.mp hm).2
    · exact ⟨_, rfl, sliceToPlain_waits (mayGoPlain_not h)⟩
    · rw [sliceToPlain_underWay h he]

end Sys2Proof.Proofs.ReleaseSteps
end

section
/-! SUPPORT. The Tally engine (chapter 22): its selections, its sweeps, its streams and the records it sends. -/
namespace Sys2Proof.Proofs.TallyEngine
open Sys2Proof Sys2Proof.Machine Sys2Proof.Laws Sys2Proof.Proofs.PortSettings Sys2Proof.Proofs.PortLife
open Sys2Proof.Proofs.Rings (tabGet_tabWrite_outside)

variable {s : State} {a : List W32}

/-! ### Streams -/

/-- An enabled stream that is written reads back. -/
theorem streamAt_setStream {v : Stream} (hv : v.en = true) (k : Nat) (s : State) : streamAt (setStream k v s) k = v :=
  tabGet_tabSet_self _ _ fun h => by simp [h] at hv

theorem streamAt_setStream_ne {i k : Nat} (h : i ≠ k) (v : Stream) (s : State) : streamAt (setStream k v s) i = streamAt s i :=
  tabGet_tabSet_ne _ _ h

/-- Enabling a stream that was off starts it anew (R488). -/
theorem configStream_new {k : Nat} (h : (streamAt s k).en = false) (mib base ulog2 wb : Nat) :
    configStream k true mib base ulog2 wb s = setStream k { en := true, mib := mib, base := base, ulog2 := ulog2, wb := wb } s := by
  simp [configStream, h]

/-- The refusals of R491 pass a stream that was off and whose store fits. -/
theorem streamChecks_pass {k mib base ulog2 : Nat} {bad : Bool} (hbad : bad = false) (h10 : 10 ≤ ulog2) (h24 : ulog2 ≤ 24)
    (hfit : otherStores s k + mib * 2 ^ 20 ≤ storeSpace s) (hoff : (streamAt s k).en = false) :
    ∀ c ∈ streamChecks k true mib base ulog2 bad s, c.1 = false := by
  have size : (decide (ulog2 < 10) || decide (ulog2 > 24)) = false := by simp [h10, h24]
  have fits : decide (otherStores s k + mib * 2 ^ 20 > storeSpace s) = false := decide_eq_false hfit.not_gt
  intro c hc
  rw [streamChecks, List.mem_cons, List.mem_singleton] at hc
  rcases hc with rfl | rfl
  · rw [fits, hbad, Bool.false_or, size]
    rfl
  · rw [hoff]
    rfl

/-! ### The TALLY commands -/

/-- The state after TALLY.SELECT: the selection set, its counter zero. -/
def selected (a : List W32) (s : State) : State :=
  { s with tal := { s.tal with
    sel := tabSet 0#32 s.tal.sel (8 * arg a 0 + arg a 1) (packW [(0, arg a 2), (8, arg a 3), (24, arg a 4)])
    cnt := tabSet (0, false) s.tal.cnt (8 * arg a 0 + arg a 1) (0, false) } }

theorem tallySelectCmd_ok (hi : isInstance (arg a 0) = true) (hf : fusedInstance s (arg a 0) = false) (h7 : arg a 1 ≤ 7)
    (he : eventOk (arg a 0) (arg a 2) (arg a 3) = true) (h1 : arg a 4 ≤ 1) (hraw : arg a 2 = 8 ∨ arg a 2 = 9 → arg a 4 = 0) :
    tallySelectCmd a s = ok [] (selected a s) := by
  have raw : ((decide (arg a 2 = 8) || decide (arg a 2 = 9)) && decide (arg a 4 = 1)) = false := by
    by_cases h : arg a 2 = 8 ∨ arg a 2 = 9
    · simp [hraw h]
    · simp [not_or.mp h]
  have word : badBool (arg a 4) = false := decide_eq_false h1.not_gt
  unfold tallySelectCmd
  dsimp only
  rw [hi, hf, decide_eq_false h7.not_gt, he, word, raw]
  rfl

/-- The state after TALLY.SWEEP_SET of a stream that was off. -/
def sweepSet (a : List W32) (s : State) : State :=
  let s := setStream 16 { en := true, mib := arg a 1, base := arg64 a 2, ulog2 := arg a 4, wb := arg64 a 5 } s
  if arg a 0 = s.tal.period then s
  else { s with tal := { s.tal with period := arg a 0, due := if arg a 0 = 0 then 0 else timeTotal s / (1000 * arg a 0) } }

theorem tallySweepSetCmd_ok (hlo : 10 ≤ arg a 0) (hhi : arg a 0 ≤ 10000000) (h10 : 10 ≤ arg a 4) (h24 : arg a 4 ≤ 24)
    (hfit : otherStores s 16 + arg a 1 * 2 ^ 20 ≤ storeSpace s) (hoff : (streamAt s 16).en = false) :
    tallySweepSetCmd a s = ok [] (sweepSet a s) := by
  have on : decide (arg a 0 ≠ 0) = true := decide_eq_true (by omega)
  have span : (decide (arg a 0 < 10) || decide (arg a 0 > 10000000)) = false := by
    rw [decide_eq_false hlo.not_gt, decide_eq_false hhi.not_gt]; rfl
  unfold tallySweepSetCmd
  dsimp only
  rw [on, span, Bool.and_false, checked_pass (streamChecks_pass rfl h10 h24 hfit hoff), configStream_new hoff]
  rfl

theorem sweepSet_period (a : List W32) (s : State) : (sweepSet a s).tal.period = arg a 0 := by
  unfold sweepSet
  dsimp only
  split
  · next h => exact h.symm
  · rfl

theorem streamAt_sweepSet (a : List W32) (s : State) (i : Nat) : streamAt (sweepSet a s) i
    = streamAt (setStream 16 { en := true, mib := arg a 1, base := arg64 a 2, ulog2 := arg a 4, wb := arg64 a 5 } s) i := by
  unfold sweepSet
  dsimp only
  split <;> rfl

theorem tallyUnprivCmd_ok (h : ((List.range 9).map fun i => arg a i * 2 ^ (32 * i)).sum < 2 ^ 272) :
    tallyUnprivCmd a s = ok [] { s with tal := { s.tal with unpriv := ((List.range 9).map fun i => arg a i * 2 ^ (32 * i)).sum } } := by
  unfold tallyUnprivCmd
  generalize ((List.range 9).map fun i => arg a i * 2 ^ (32 * i)).sum = m at h ⊢
  refine checked_pass (fun c hc => ?_) _ s
  rw [List.mem_singleton] at hc
  subst hc
  exact decide_eq_false h.not_ge

theorem tallyCaptureCmd_ok (h17 : arg a 0 ≤ 17) (h16 : arg a 0 ≠ 16) (h1 : arg a 1 = 1) (h10 : 10 ≤ arg a 5) (h24 : arg a 5 ≤ 24)
    (hfit : otherStores s (arg a 0) + arg a 2 * 2 ^ 20 ≤ storeSpace s) (hoff : (streamAt s (arg a 0)).en = false) :
    tallyCaptureCmd a s
      = ok [] (setStream (arg a 0) { en := true, mib := arg a 2, base := arg64 a 3, ulog2 := arg a 5, wb := arg64 a 6 } s) := by
  have good : (decide (arg a 0 > 17) || decide (arg a 0 = 16) || badBool (arg a 1)) = false := by
    simp [h17, h16, h1, badBool]
  unfold tallyCaptureCmd
  dsimp only
  rw [good, h1, beq_self_eq_true, checked_pass (streamChecks_pass rfl h10 h24 hfit hoff), configStream_new hoff]

/-! ### Sweeps -/

/-- The photograph that a sweep takes. -/
def photo (s : State) : Photo := { ctr := s.ctr, cnt := s.tal.cnt, off := instances.filter (instanceOff s), at_ := timeTotal s }

/-- The two states agree in the Tally engine's last sweep. -/
structure SameSweep (z s : State) : Prop where
  mirror : s.tal.mirror = z.tal.mirror
  sweep : s.tal.sweep = z.tal.sweep
  due : s.tal.due = z.tal.due

theorem sameSweep_raise (v : Nat) (s : State) : SameSweep s (raise v s) := by
  unfold raise
  dsimp only
  split <;> split <;> exact ⟨rfl, rfl, rfl⟩

/-- An offer of records writes streams only. -/
theorem sameSweep_offerRecords (k : Nat) (rs : List (List Byte)) (s : State) : SameSweep s (offerRecords k rs s).1 := by
  have cleansed (hs : List Config.Held) : SameSweep s (hs.foldl (fun s h => cleanse h s) s) :=
    List.foldlRecOn (motive := SameSweep s) hs _ ⟨rfl, rfl, rfl⟩ fun _ hu _ _ => ⟨hu.1, hu.2, hu.3⟩
  unfold offerRecords
  dsimp only
  split
  · split
    · exact ⟨rfl, rfl, rfl⟩
    · obtain ⟨hm, hs, hd⟩ := cleansed ((List.range rs.length).flatMap fun i =>
        (List.range ((rs.getD i []).length / 8)).map fun w => Config.Held.stored k (((streamAt s k).seq + i) % 2 ^ 32) w)
      exact ⟨hm, hs, hd⟩
  · cases (streamAt s k).en <;> exact ⟨rfl, rfl, rfl⟩

/-- The state in which a sweep offers its pages. -/
def counted (s : State) : State :=
  raise 66 (bump Ctr.talSweeps { s with tal := { s.tal with mirror := some (photo s), sweep := (s.tal.sweep + 1) % 2 ^ 32 } })

theorem sameSweep_counted (s : State) :
    SameSweep { s with tal := { s.tal with mirror := some (photo s), sweep := (s.tal.sweep + 1) % 2 ^ 32 } } (counted s) := by
  obtain ⟨hm, hs, hd⟩ :=
    sameSweep_raise 66 (bump Ctr.talSweeps { s with tal := { s.tal with mirror := some (photo s), sweep := (s.tal.sweep + 1) % 2 ^ 32 } })
  exact ⟨hm, hs, hd⟩

/-- A sweep photographs, counts itself and renumbers. -/
theorem sweep_effect (s : State) : (sweep s).tal.mirror = some (photo s) ∧ (sweep s).tal.sweep = (s.tal.sweep + 1) % 2 ^ 32
    ∧ (sweep s).tal.due = s.tal.due := by
  obtain ⟨cm, cs, cd⟩ := sameSweep_counted s
  have offered : SameSweep (counted s) (sweep s) := by
    unfold sweep
    dsimp only
    split
    · exact sameSweep_offerRecords ..
    · exact ⟨rfl, rfl, rfl⟩
  exact ⟨offered.mirror.trans cm, offered.sweep.trans cs, offered.due.trans cd⟩

theorem tallySweep_due (hp : s.tal.period ≠ 0) (hd : sweepIndex s ≠ s.tal.due) (hr : tallyRuns s = true) :
    tallySweep s = sweep { s with tal := { s.tal with due := sweepIndex s } } := by
  have due : (decide (s.tal.period ≠ 0) && decide (sweepIndex s ≠ s.tal.due)) = true := by rw [decide_eq_true hp, decide_eq_true hd]; rfl
  unfold tallySweep
  rw [if_pos due]
  exact if_pos hr

theorem tallySweep_waits (h : s.tal.period = 0 ∨ sweepIndex s = s.tal.due) : tallySweep s = s := by
  have not : ¬ (decide (s.tal.period ≠ 0) && decide (sweepIndex s ≠ s.tal.due)) = true := by
    simp only [Bool.and_eq_true, decide_eq_true_eq]
    rintro ⟨hp, hd⟩
    exact h.elim hp hd
  exact if_neg not

/-! ### Export -/

/-- A run of values written into a table reads back. -/
theorem tabRead_tabWrite {β : Type} [DecidableEq β] {d : β} (vs : List β) (m : Tab β) (i : Nat) (w : tabWf d m = true) :
    tabRead d (tabWrite d m i vs) i vs.length = vs := by
  induction vs generalizing m i with
  | nil => rfl
  | cons v vs ih =>
    rw [tabWrite, List.length_cons, tabRead, ih _ _ (tabSet_wf m i v w), tabGet_tabWrite_outside _ _ (.inl (Nat.lt_succ_self i)),
      tabGet_tabSet m i i v w, if_pos rfl]

theorem tallyExport_waits {k : Nat} (h : (streamAt s k).en = false ∨ canDma s = false ∨ canStore s = false ∨ tallyRuns s = false) :
    tallyExport k s = s := by
  have not : ((streamAt s k).en && canDma s && canStore s && tallyRuns s) = false := by
    rcases h with h | h | h | h <;> simp [h]
  rw [tallyExport, not]
  rfl

/-- The oldest record goes to the ring where it fits, and the producer advances past it. -/
theorem exportOne_record {k : Nat} {b : List Byte} {rest : List (List Byte)} (hs : (streamAt s k).store = b :: rest) (hp : s.mem.poison = [])
    (hend : (streamAt s k).prod % 2 ^ (streamAt s k).ulog2 + b.length / 64 ≤ 2 ^ (streamAt s k).ulog2)
    (hroom : b.length / 64 ≤ 2 ^ (streamAt s k).ulog2 - ringUsed (streamAt s k).ulog2 (streamAt s k).prod (streamAt s k).cons) :
    exportOne k s = some (putUnits k b (bumpBy (Ctr.memPoisonRead 8) 0 (setStream k { streamAt s k with store := rest } s))) := by
  unfold exportOne
  dsimp only
  rw [hs]
  dsimp only
  rw [if_neg hend.not_gt, if_pos hroom, hp]
  rfl

/-- Units put into the ring of an enabled stream without a write-back address stand there. -/
theorem putUnits_effect {k : Nat} (v : Stream) (hk : streamAt s k = v) (hen : v.en = true) (hwb : v.wb = 0) (hw : tabWf 0#8 s.hostMem = true)
    (bs : List Byte) :
    hostRead (putUnits k bs s) (v.base + 64 * (v.prod % 2 ^ v.ulog2)) bs.length = bs
      ∧ streamAt (putUnits k bs s) k = { v with prod := (v.prod + bs.length / 64) % (2 * 2 ^ v.ulog2) } := by
  have put : putUnits k bs s = setStream k { v with prod := (v.prod + bs.length / 64) % (2 * 2 ^ v.ulog2) }
      (hostWrite (v.base + 64 * (v.prod % 2 ^ v.ulog2)) bs s) := by
    unfold putUnits
    dsimp only
    rw [hk]
    exact if_neg (fun h => h hwb)
  rw [put]
  exact ⟨tabRead_tabWrite bs s.hostMem _ hw, streamAt_setStream (v := { v with prod := (v.prod + bs.length / 64) % (2 * 2 ^ v.ulog2) }) hen k _⟩

/-- Every consumer register lies in the Tally engine's region (Table 21-4). -/
theorem reach_expCons {k : Nat} (hk : k < 18) : ∃ e, reach (Region.tally + 0x204 + 0x10 * k) = some e ∧ e.addr / 0x100000 = 0x080 := by
  have place : ∀ k < 18, ((reach (Region.tally + 0x204 + 0x10 * k)).map fun e => e.addr / 0x100000) = some 0x080 := by decide
  exact Option.map_eq_some_iff.mp (place k hk)

theorem exportConsWrite_taken {k : Nat} (hk : k < 18) (hd : domainOn s 36 = true) (hb : bit s.dev.blockRst.toNat 16 = false) (x : W32) :
    exec (.exportConsWrite k x) s = .next (writeExpCons k x s) := by
  obtain ⟨e, hr, he⟩ := reach_expCons hk
  have on : blockOff s e = false := by
    unfold blockOff
    dsimp only
    rw [he, hd, hb]
    rfl
  have reached : unlessOff (Region.tally + 0x204 + 0x10 * k) x (writeExpCons k x) s = writeExpCons k x s := by
    rw [unlessOff, hr]
    exact if_neg (by rw [on]; exact Bool.false_ne_true)
  show onUnit (decide (k < 18)) _ = _
  rw [decide_eq_true hk, reached]
  rfl

end Sys2Proof.Proofs.TallyEngine
end

section
/-! LEMMA. The obligation on the Tally engine. -/
namespace Sys2Proof.Proofs.TallyEngine
open Sys2Proof Sys2Proof.Machine Sys2Proof.Laws Sys2Proof.Proofs.PortSettings
open Sys2Proof.Proofs.SysCommands (handed_ok)

/-- The words of TALLY.STATUS. -/
def statusWords (s : State) : List W32 :=
  [talStatus s, w32 s.tal.sweep] ++ (List.range 9).map (fun w => w32 (s.tal.unpriv / 2 ^ (32 * w)))
    ++ ((List.range 18).map fun k => [w32 (streamAt s k).prod, w32 (streamAt s k).cons]).flatten

/-- The words of a stream stand in TALLY.STATUS from word 11, two for each. -/
theorem statusWords_stream (s : State) {i : Nat} (hi : i < 18) : (statusWords s).getD (11 + 2 * i) 0#32 = w32 (streamAt s i).prod
    ∧ (statusWords s).getD (12 + 2 * i) 0#32 = w32 (streamAt s i).cons := by
  interval_cases i <;> exact ⟨rfl, rfl⟩

/-- Settles O58: the checks of each command pass what it accepts; a sweep and the sending of a record write what they name and leave the rest. -/
theorem tallySelectsSweepsAndExports : Obligations.TallySelectsSweepsAndExports := by
  unfold Obligations.TallySelectsSweepsAndExports
  intro v r s a k x st
  refine ⟨?select, ?sweepSet, ?unpriv, ?capture, ?status, ?sweeps, ?sweepsNot, ?exports, ?exportsNot, ?record, ?cons⟩
  case select => exact fun h hi hf h7 he h1 hraw => handed_ok h (tallySelectCmd_ok hi hf h7 he h1 hraw)
  case sweepSet =>
    intro h hlo hhi h10 h24 hfit hoff
    refine ⟨sweepSet a s, handed_ok h (tallySweepSetCmd_ok hlo hhi h10 h24 hfit hoff), sweepSet_period a s, ?_, fun i hi => ?_⟩
    · rw [streamAt_sweepSet, streamAt_setStream rfl]
    · rw [streamAt_sweepSet, streamAt_setStream_ne hi]
  case unpriv => exact fun h hm => handed_ok h (tallyUnprivCmd_ok hm)
  case capture =>
    rintro h rfl h17 h16 h1 h10 h24 hfit hoff
    exact handed_ok h (tallyCaptureCmd_ok h17 h16 h1 h10 h24 hfit hoff)
  case status => exact fun h => ⟨statusWords s, rfl, handed_done (body := tallyStatusCmd) (ws := statusWords s) h rfl, rfl, rfl,
    fun i hi => statusWords_stream s hi⟩
  case sweeps =>
    intro hp hd hr
    obtain ⟨hm, hs, hdue⟩ := sweep_effect { s with tal := { s.tal with due := sweepIndex s } }
    exact ⟨_, _, congrArg Host.Outcome.next (tallySweep_due hp hd hr), hs, hm, rfl, rfl, rfl, hdue⟩
  case sweepsNot => exact fun h => congrArg Host.Outcome.next (tallySweep_waits h)
  case exports =>
    intro hk hen hd hst hr
    have may : (st.en && canDma s && canStore s && tallyRuns s) = true := by rw [hen, hd, hst, hr]; rfl
    have exported : tallyExport k s = exportAll (2 * st.store.length) k s := if_pos may
    show onUnit (decide (k < 18)) _ = _
    rw [decide_eq_true hk, exported]
    rfl
  case exportsNot =>
    intro hk h
    show onUnit (decide (k < 18)) _ = _
    rw [decide_eq_true hk, tallyExport_waits h]
    rfl
  case record =>
    intro b rest hen hs hwb hp hw hend hroom _
    have kept : streamAt (bumpBy (Ctr.memPoisonRead 8) 0 (setStream k { st with store := rest } s)) k = { st with store := rest } :=
      streamAt_setStream (v := { st with store := rest }) hen k s
    obtain ⟨hread, hstream⟩ := putUnits_effect { st with store := rest } kept hen hwb hw b
    exact ⟨_, exportOne_record hs hp hend hroom, hread, congrArg Stream.store hstream, congrArg Stream.prod hstream⟩
  case cons =>
    intro hk hd hb
    rw [exportConsWrite_taken hk hd hb]
    exact ⟨fun h => congrArg Host.Outcome.next (if_pos h), fun h => congrArg Host.Outcome.next (if_neg h)⟩

end Sys2Proof.Proofs.TallyEngine
end

section
/-! SUPPORT. Host accesses to registers (R467 to R475): what a write reaches, what it changes in a mailbox's payload, and what a read returns. -/
namespace Sys2Proof.Proofs.RegisterAccesses
open Sys2Proof Sys2Proof.Machine Sys2Proof.Laws

variable {s : State} {a : Nat} {x : W32} {be : BitVec 4} {e : Reached}

/-! ### Writes to F0 BAR0 -/

theorem word_aligned (h : a % 4 = 0) : a / 4 * 4 = a := by omega

/-- A write to an aligned address of F0 BAR0 is `bar0Write` there. -/
theorem exec_bar0Write (ha : a < 2 ^ 28) (h4 : a % 4 = 0) (x : W32) (be : BitVec 4) (s : State) :
    exec (.registerWrite .bar0 a x be) s = .next (bar0Write a x be s) := by
  have taken : exec (.registerWrite .bar0 a x be) s = .next (bar0Write (a / 4 * 4) x be s) := if_pos (decide_eq_true ha)
  rw [taken, word_aligned h4]

theorem bar0Write_partial (h : be ≠ 15#4) : bar0Write a x be s = logAccess .byteEn false a x be s := if_pos h

theorem bar0Write_hole (h : reach a = none) : bar0Write a x 15#4 s = logAccess .hole false a x 15#4 s := by
  rw [bar0Write, if_neg (fun h => h rfl), h]

theorem bar0Write_off (h : reach a = some e) (ho : blockOff s e = true) : bar0Write a x 15#4 s = logAccess .domain false a x 15#4 s := by
  rw [bar0Write, if_neg (fun h => h rfl), h]
  exact if_pos ho

theorem bar0Write_reaches (h : reach a = some e) (ho : blockOff s e = false) : bar0Write a x 15#4 s = loggedAt a s (writeReg e x s) := by
  rw [bar0Write, if_neg (fun h => h rfl), h]
  exact if_neg (by rw [ho]; exact Bool.false_ne_true)

/-- A write that logs nothing is not logged anywhere. -/
theorem loggedAt_quiet {t : State} (h : t.up = s.up) : loggedAt a s t = t := if_pos (by rw [h])

/-- A device-global register lies in a block that is never off. -/
theorem blockOff_global (o : Nat) (p : Bool) (s : State) (h : o < 0x100000) : blockOff s ⟨o, o, p⟩ = false := by
  have region : o / 0x100000 = 0 := Nat.div_eq_of_lt h
  unfold blockOff
  dsimp only
  rw [region]
  rfl

theorem reach_scratch : reach 0x2C = some ⟨0x2C, 0x2C, false⟩ := rfl

theorem reach_alertMask : reach 0x24 = some ⟨0x24, 0x24, false⟩ := rfl

/-! ### A mailbox's payload -/

/-- The payload with the enabled bytes of the first `n` of a word written from byte `o` on. -/
def putWord (o : Nat) (x : W32) (be : BitVec 4) (p : Tab (Option Byte)) (i : Nat) : Tab (Option Byte) :=
  if be.getLsbD i then tabSet none p (o + i) (some (byte (fld x (8 * i + 7) (8 * i)))) else p

theorem putWords_wf (o : Nat) (x : W32) (be : BitVec 4) {p : Tab (Option Byte)} (hp : tabWf none p = true) (n : Nat) :
    tabWf none ((List.range n).foldl (putWord o x be) p) = true := by
  refine List.foldlRecOn (motive := fun q => tabWf none q = true) _ _ hp fun q hq i _ => ?_
  unfold putWord
  split
  · exact tabSet_wf _ _ _ hq
  · exact hq

/-- Exactly the enabled bytes of a payload word change. -/
theorem tabGet_putWords (o : Nat) (x : W32) (be : BitVec 4) {p : Tab (Option Byte)} (hp : tabWf none p = true) (n i : Nat) :
    tabGet none ((List.range n).foldl (putWord o x be) p) i
      = if o ≤ i ∧ i < o + n ∧ be.getLsbD (i - o) = true then some (byte (fld x (8 * (i - o) + 7) (8 * (i - o)))) else tabGet none p i := by
  induction n with
  | zero => exact (if_neg (by omega)).symm
  | succ n ih =>
    rw [List.range_succ, List.foldl_append, List.foldl_cons, List.foldl_nil]
    have wf := putWords_wf o x be hp n
    by_cases hi : i = o + n
    · have last : i - o = n := by omega
      have before : ¬ (o ≤ i ∧ i < o + n ∧ be.getLsbD n = true) := by omega
      rw [last, if_neg before] at ih
      rw [last, putWord]
      cases hb : be.getLsbD n with
      | false => simpa using ih
      | true =>
        rw [if_pos rfl, tabGet_tabSet _ _ _ _ wf, if_pos hi, if_pos ⟨by omega, by omega, rfl⟩]
    · have same : tabGet none (putWord o x be ((List.range n).foldl (putWord o x be) p) n) i
          = tabGet none ((List.range n).foldl (putWord o x be) p) i := by
        unfold putWord
        split
        · exact tabGet_tabSet_ne _ _ hi
        · rfl
      rw [same, ih]
      have reach : o ≤ i ∧ i < o + n ↔ o ≤ i ∧ i < o + (n + 1) := by omega
      exact if_congr (by rw [← and_assoc, ← and_assoc, reach]) rfl rfl

/-- A word of a mailbox's payload is written byte by byte. -/
theorem writeBoxWord_payload (b : Mailbox) (h : 0x40 ≤ a) (x : W32) (be : BitVec 4) :
    writeBoxWord b a x be = { b with payload := (List.range 4).foldl (putWord (a - 0x40) x be) b.payload } := by
  unfold writeBoxWord
  rw [if_neg (by omega), if_neg (by omega), if_neg (by omega), if_pos h]
  rfl

/-- A write of a payload word of an unlocked F0 mailbox. -/
theorem exec_payloadWrite {m : Nat} (hm : m < 16) (hl : (boxAt s m).locked = false) (h40 : 0x40 ≤ a) (hlt : a < 0x1000) (h4 : a % 4 = 0) (x : W32)
    (be : BitVec 4) : exec (.registerWrite .bar2 (0x1000 * m + a) x be) s
      = .next (setBox m { boxAt s m with payload := (List.range 4).foldl (putWord (a - 0x40) x be) (boxAt s m).payload } s) := by
  have size : 0x1000 * m + a < 0x10000 := by omega
  have number : (0x1000 * m + a) / 0x1000 = m := by omega
  have place : (0x1000 * m + a) % 0x1000 / 4 * 4 = a := by omega
  have taken : exec (.registerWrite .bar2 (0x1000 * m + a) x be) s
      = .next (mailboxWrite (.f0 ((0x1000 * m + a) / 0x1000)) ((0x1000 * m + a) % 0x1000 / 4 * 4) x be s) := if_pos (decide_eq_true size)
  rw [taken, number, place]
  have written : mailboxWrite (.f0 m) a x be s = setBox m (writeBoxWord (boxAt s m) a x be) s := by
    unfold mailboxWrite
    dsimp only [viaNum]
    rw [if_neg (by omega), hl, if_neg Bool.false_ne_true, if_neg (by omega)]
  rw [written, writeBoxWord_payload _ h40]

theorem payloadByte_putWords (b : Mailbox) (hp : tabWf none b.payload = true) (o : Nat) (x : W32) (be : BitVec 4) (i : Nat) :
    payloadByte { b with payload := (List.range 4).foldl (putWord o x be) b.payload } i
      = if o ≤ i ∧ i < o + 4 ∧ be.getLsbD (i - o) = true then byte (fld x (8 * (i - o) + 7) (8 * (i - o))) else payloadByte b i := by
  unfold payloadByte
  dsimp only
  rw [tabGet_putWords o x be hp 4 i]
  by_cases h : o ≤ i ∧ i < o + 4 ∧ be.getLsbD (i - o) = true
  · rw [if_pos h, if_pos h]
  · rw [if_neg h, if_neg h]

/-- The mailboxes alone change, and of the payload exactly the enabled bytes. -/
theorem payloadWrite_effect {m : Nat} (hm : m < 16) (hl : (boxAt s m).locked = false) (h40 : 0x40 ≤ a) (hlt : a < 0x1000) (h4 : a % 4 = 0) (x : W32)
    (be : BitVec 4) : ∃ t, exec (.registerWrite .bar2 (0x1000 * m + a) x be) s = .next t ∧ t = { s with boxes := t.boxes }
      ∧ (tabWf {} s.boxes = true → tabWf none (boxAt s m).payload = true → ∀ i, payloadByte (boxAt t m) i =
          if a - 0x40 ≤ i ∧ i < a - 0x40 + 4 ∧ be.getLsbD (i - (a - 0x40)) = true
          then byte (fld x (8 * (i - (a - 0x40)) + 7) (8 * (i - (a - 0x40)))) else payloadByte (boxAt s m) i) := by
  refine ⟨_, exec_payloadWrite hm hl h40 hlt h4 x be, rfl, fun hw hp i => ?_⟩
  have read (b : Mailbox) : boxAt (setBox m b s) m = b := (tabGet_tabSet _ _ _ _ hw).trans (if_pos rfl)
  rw [read, payloadByte_putWords _ hp]

/-- A write to the F1 view outside the mailboxes and the MSI-X table is counted and discarded. -/
theorem exec_f1Write (ha : a < 2 ^ 20) (h4 : a % 4 = 0) (ho : a < 0x2000 ∨ 0x3080 ≤ a) (x : W32) (be : BitVec 4) (s : State) :
    exec (.registerWrite .f1 a x be) s = .next (bump Ctr.hifF1WriteDrop s) := by
  have taken : exec (.registerWrite .f1 a x be) s = .next (f1Write (a / 4 * 4) x be s) := if_pos (decide_eq_true ha)
  rw [taken, word_aligned h4, f1Write, if_neg (by omega), if_neg (by omega)]

/-! ### Reads -/

theorem exec_f0Read (ha : a < 2 ^ 28) (h4 : a % 4 = 0) (s : State) : exec (.counterLowRead .f0 a) s = .next (f0Read a s) :=
  if_pos (by rw [decide_eq_true ha, decide_eq_true h4]; rfl)

theorem f0Read_low (h : reach a = some e) (hp : e.pair = true) (h8 : e.addr % 8 = 0) :
    f0Read a s = { s with rsp := w32 (counterNow s e), latch := tabSet 0#32 s.latch e.addr (w32 (counterNow s e / 2 ^ 32)) } := by
  rw [f0Read, h]
  exact if_pos (by rw [lowWord, hp, decide_eq_true h8]; rfl)

theorem f0Read_high (h : reach a = some e) (hp : e.pair = true) (h8 : e.addr % 8 ≠ 0) :
    f0Read a s = { s with rsp := tabGet 0#32 s.latch (e.addr - 4) } := by
  rw [f0Read, h]
  exact (if_neg (by rw [lowWord, hp, decide_eq_false h8]; exact Bool.false_ne_true)).trans (if_pos hp)

theorem f0Read_word (h : reach a = some e) (hp : e.pair = false) (ht : e.addr / 0x100000 ≠ 0x040) : f0Read a s = { s with rsp := regWord s e } := by
  rw [f0Read, h]
  dsimp only
  rw [lowWord, hp, Bool.false_and, if_neg Bool.false_ne_true, if_neg Bool.false_ne_true, if_neg ht]

theorem f0Read_hole (h : reach a = none) : f0Read a s = { s with rsp := 0#32 } := by
  rw [f0Read, h]

/-- In a block that is on, of no wider port's inner lane, a counter below the Tally engine's reads as it stands. -/
theorem counterNow_eq (ho : blockOff s e = false) (hlt : e.addr < Region.tally + 0x4000) (hl : ∀ l, laneInner s l = false) :
    counterNow s e = (ctrAt s e.addr).toNat := by
  have inner (k o : Nat) : innerBlock s k o = false := by simp [innerBlock, hl]
  have below : ¬ (Region.tally + 0x4000 ≤ e.addr ∧ e.addr < Region.tally + 0xA000) := fun h => absurd hlt (Nat.not_lt_of_le h.1)
  have value : counterValue s e = (ctrAt s e.addr).toNat := by
    unfold counterValue
    simp only [below, inner, Bool.false_eq_true, and_false, if_false]
  rw [counterNow, ho, Bool.false_and, if_neg Bool.false_ne_true, value]

theorem exec_f1Read (ha : a < 2 ^ 20) (h4 : a % 4 = 0) (s : State) : exec (.counterLowRead .f1 a) s = .next (f1Read a s) :=
  if_pos (by rw [decide_eq_true ha, decide_eq_true h4]; rfl)

section
variable {n o : Nat} (h : 0x10000 ≤ a) (hp : mirrorPlace a = some (n, o))
include h hp

theorem f1Read_header (ho : o < 64) : f1Read a s = { s with rsp := mirrorWord s a } := by
  rw [f1Read, if_pos h, hp]
  exact if_pos (decide_eq_true ho)

theorem f1Read_low (ho : 64 ≤ o) (h8 : a % 8 = 0) :
    f1Read a s = { s with rsp := mirrorWord s a, latch := tabSet 0#32 s.latch (2 ^ 32 + a) (mirrorWord s (a + 4)) } := by
  rw [f1Read, if_pos h, hp]
  exact (if_neg (by simpa using ho)).trans (if_pos h8)

theorem f1Read_high (ho : 64 ≤ o) (h8 : a % 8 ≠ 0) : f1Read a s = { s with rsp := tabGet 0#32 s.latch (2 ^ 32 + a - 4) } := by
  rw [f1Read, if_pos h, hp]
  exact (if_neg (by simpa using ho)).trans (if_neg h8)

end

/-! ### LKP_SPEC_CFG (R15) -/

/-- LKP_SPEC_CFG lies in its slice's core. -/
theorem reach_specCfg {k : Nat} (hk : k < 16) :
    ∃ e, reach (Region.slice k + 0x2010) = some e ∧ (e.addr / 0x100000, decide (e.off < 0x8000)) = (0x010 + k, true) := by
  have place : ∀ k < 16, ((reach (Region.slice k + 0x2010)).map fun e => (e.addr / 0x100000, decide (e.off < 0x8000))) = some (0x010 + k, true) := by
    decide
  exact Option.map_eq_some_iff.mp (place k hk)

theorem exec_hwmClr {k : Nat} (hk : k < 16) (hb : bit s.dev.blockRst.toNat k = false) (hd : domainOn s k = true) (x : W32) :
    exec (.hwmClr k x) s = .next (writeSpecCfg k x s) := by
  obtain ⟨e, hr, he⟩ := reach_specCfg hk
  obtain ⟨hreg, hoff⟩ := Prod.mk.inj he
  have unit : 0x010 + k - 0x010 = k := by omega
  have on : blockOff s e = false := by
    unfold blockOff
    dsimp only
    rw [hreg, if_pos (by omega), if_pos (of_decide_eq_true hoff), unit, hb, hd]
    rfl
  have reached : unlessOff (Region.slice k + 0x2010) x (writeSpecCfg k x) s = writeSpecCfg k x s := by
    rw [unlessOff, hr]
    exact if_neg (by rw [on]; exact Bool.false_ne_true)
  show onUnit (decide (k < 16)) _ = _
  rw [decide_eq_true hk, reached]
  rfl

end Sys2Proof.Proofs.RegisterAccesses
end

section
/-! LEMMA. The obligation on register accesses. -/
namespace Sys2Proof.Proofs.RegisterAccesses
open Sys2Proof Sys2Proof.Machine Sys2Proof.Laws

/-- Settles O59: each access is one branch of its space's rule, which the address and the byte enables choose. -/
theorem registerAccessesTakeEffectOrAreLogged : Obligations.RegisterAccessesTakeEffectOrAreLogged := by
  unfold Obligations.RegisterAccessesTakeEffectOrAreLogged
  intro s a m k x be e b
  refine ⟨?part, ?hole, ?off, ?scratch, ?mask, ?payload, ?f1, ?pair, ?value, ?word, ?readHole, ?mirror, rfl, rfl, ?hwm⟩
  case part =>
    intro ha h4 hbe
    rw [exec_bar0Write ha h4, bar0Write_partial hbe]
  case hole =>
    intro ha h4 hr
    rw [exec_bar0Write ha h4, bar0Write_hole hr]
  case off =>
    intro ha h4 hr ho
    rw [exec_bar0Write ha h4, bar0Write_off hr ho]
  case scratch =>
    rw [exec_bar0Write (by decide) (by decide), bar0Write_reaches reach_scratch (blockOff_global _ _ s (by decide))]
    exact congrArg Host.Outcome.next (loggedAt_quiet rfl)
  case mask =>
    rw [exec_bar0Write (by decide) (by decide), bar0Write_reaches reach_alertMask (blockOff_global _ _ s (by decide))]
    exact congrArg Host.Outcome.next (loggedAt_quiet rfl)
  case payload => exact fun hm hl h40 hlt h4 => payloadWrite_effect hm hl h40 hlt h4 x be
  case f1 => exact fun ha h4 ho => exec_f1Write ha h4 ho x be s
  case pair =>
    intro ha h4 hr hp v
    refine ⟨fun h8 => ?_, fun h8 => ?_⟩
    · rw [exec_f0Read ha h4, f0Read_low hr hp h8]
    · rw [exec_f0Read ha h4, f0Read_high hr hp h8]
  case value => exact counterNow_eq
  case word =>
    intro ha h4 hr hp ht
    rw [exec_f0Read ha h4, f0Read_word hr hp ht]
  case readHole =>
    intro ha h4 hr
    rw [exec_f0Read ha h4, f0Read_hole hr]
  case mirror =>
    intro n o hlo hhi h4 hp
    rw [exec_f1Read hhi h4]
    refine ⟨fun ho => ?_, fun ho h8 => ?_, fun ho h8 => ?_⟩
    · rw [f1Read_header hlo hp ho]
    · rw [f1Read_low hlo hp ho h8]
    · rw [f1Read_high hlo hp ho h8]
  case hwm =>
    intro hk hb hd hw
    have read (u : LkpState) : lkpAt (modLkp k (fun _ => u) s) k = u := (tabGet_tabSet _ _ _ _ hw).trans (if_pos rfl)
    refine ⟨writeSpecCfg k x s, exec_hwmClr hk hb hd x, rfl, ?_, ?_, fun j hj => tabGet_tabSet_ne _ _ hj⟩
    · exact congrArg LkpState.spec (read _)
    · exact congrArg LkpState.hwm (read _)

end Sys2Proof.Proofs.RegisterAccesses
end
